-- ==== Sys2Proof/Word.lean ====
section
/-!
DEFINITION. Word.lean: the word types of the model, a byte of a stored or carried structure and a 32-bit status
or error code (R12), and the reports in which the world outside the block tells it what it observed. Counts, indices and
addresses are plain natural numbers.
-/
namespace Sys2Proof

/-- One byte of a stored or carried structure. -/
abbrev Byte := BitVec 8

/-- A byte string, first byte first (R9). -/
abbrev Bytes := List Byte

/-- A status or error code: [31:24] class, [23:16] subsystem, [15:0] detail (R12). -/
abbrev Code := BitVec 32

/-- A Sync heard: its domain and transport and the four timestamps in ns of IEEE 1588: t1 its origin, from the Sync itself or
from its Follow_Up, t2 its arrival, t3 and t4 departure and arrival of the Delay_Req that the module sends for it (R67). -/
structure PtpSync where
  domain : Nat
  transport : Nat
  t1 : Nat
  t2 : Nat
  t3 : Nat
  t4 : Nat
  deriving DecidableEq, Repr

/-- An Announce heard in a domain and over a transport of the port of reference `ref` (R67). -/
structure PtpAnnounce where
  ref : Nat
  domain : Nat
  transport : Nat
  deriving DecidableEq, Repr

/-- What qualifies a reference; for reference 1 the spacings in ns of the last PPS_IN edges and REF_IN in mHz (R68). -/
structure RefReport where
  ref : Nat
  spacings : List Nat
  milliHz : Nat
  deriving DecidableEq, Repr

/-- What loses a reference; for reference 1 how late its PPS_IN edge is, in ns, and REF_IN in mHz (R68). -/
structure RefLoss where
  ref : Nat
  lateNs : Nat
  milliHz : Nat
  deriving DecidableEq, Repr

/-- The phase in ps measured at an instant: beat boundary minus reference instant (R72). -/
structure LockReport where
  phasePs : Int
  now : Nat
  deriving DecidableEq, Repr

/-- Whether the Halyard PLL has locked by an instant (R65). -/
structure ClockReport where
  pll : Bool
  now : Nat
  deriving DecidableEq, Repr

/-- A copy at its end: `data`, what host memory held, and how many bytes it had moved if it was stopped (R315). -/
structure CopyEnd where
  data : Bytes
  stopped : Nat
  deriving DecidableEq, Repr

/-- What a failed access to host memory concerned: a work queue, and for a copy its bytes so far (R315, R316). -/
structure HostFailure where
  queue : Option Nat
  data : Bytes
  stopped : Nat
  deriving DecidableEq, Repr

end Sys2Proof
end

