-- ==== Sys2Proof/Syntax.lean ====
section
/-!
DEFINITION. Syntax.lean: the commands of the block, one constructor per row of the opcode table, in the table's order.
Operands carry what the world outside the block decides: the time `now` of a timed event in microseconds of operating
time, frames and messages as bytes, observed pins and sensor values.
-/
namespace Sys2Proof


inductive Instr where
  -- Halyard (R65 to R84)
  | beatBoundary
  | slotIssue (cluster : Nat)
  | windowBoundary
  /-- `ptpSecond`: the second the PTP reference in use gives this edge; `phasePs`: phase measured at it. -/
  | ppsEdge (ptpSecond : Nat) (phasePs : Int)
  /-- A Sync on the port of reference `ref`, 2 or 3. -/
  | ptpSyncRx (ref : Nat) (sync : PtpSync) (now : Nat)
  | referenceQualified (seen : RefReport) (now : Nat)
  | referenceLost (seen : RefLoss) (now : Nat)
  | halyardLocked (seen : LockReport)
  | holdover60sExpiry (now : Nat)
  | freeRunTimeout (now : Nat)
  | allowFreeRunWrite (session : Nat) (value : Bytes)
  | refPriorityWrite (session : Nat) (value : Bytes)
  /-- `sub`: 2 REF_IN_FREQ to 6 PTP_LOG_SYNC of index 0x1200. -/
  | halyardSettingWrite (session sub : Nat) (value : Bytes)
  | align (session : Nat) (value : Bytes)
  | levelRequest (session : Nat) (value : Bytes)
  | railRampStart (now : Nat)
  | railReadyCheck (inRegulation : Bool) (now : Nat)
  /-- `cause`: what Burgee measured: 0 die, 1 inlet, 2 flow; sensor readings of the instant. -/
  | thermalEmergency (dieTemp : List Int) (inlet : Int) (flow : Nat) (now : Nat)
  | electricalEmergency (inputPower : Nat) (now : Nat)
  | emergencyLevelEffect
  | emergencyClear (dieTemp : List Int) (inlet : Int) (flow inputPower : Nat) (now : Nat)
  | coolantWarning (inlet : Int) (flow : Nat) (now : Nat)
  | thermalTrip (dieTemp : List Int) (now : Nat)
  | tripRestart (now : Nat)
  -- Clusters (R85 to R112, R130 to R256)
  | prefetchFill (cluster : Nat)
  | idle (cluster : Nat)
  | cont (cluster : Nat)
  | accum (cluster : Nat)
  | commit (cluster : Nat)
  | commitDrain (cluster ctx cohort : Nat)
  | drainBoundExceeded (cluster : Nat)
  | selfmask (cluster : Nat)
  | paircorr (cluster : Nat)
  | shamir (cluster : Nat)
  | secretin (cluster : Nat)
  | seedacc (cluster : Nat)
  | lwrmask (cluster : Nat)
  | fold (cluster ctx cohort : Nat)
  | pairwiseRecompute (ctx cohort dropped survivor : Nat) (engineFault : Bool)
  | ctadd (cluster : Nat)
  | ptmul (cluster : Nat)
  | ntt (cluster : Nat)
  | intt (cluster : Nat)
  | tensor (cluster : Nat)
  | keysw (cluster : Nat)
  | rotate (cluster : Nat)
  | relin (cluster : Nat)
  | modred (cluster : Nat)
  | c1out (cluster : Nat)
  | ringStageInOut (cluster ctx cohort : Nat)
  | dscomb (cluster : Nat)
  | finish (cluster : Nat)
  | finishFillWriteback (cluster ctx cohort : Nat)
  | peerfwd (cluster : Nat)
  | drbgReseed (cluster core : Nat)
  | drbgError (cluster core : Nat)
  -- Intake and rounds (R36 to R64, R113 to R189)
  /-- The message with this ID on the connection completed: its landing buffer holds one frame. -/
  | frameArrival (conn : Nat) (message : Nat)
  | sessionEstablish (ctx cohort role slot : Nat)
  | binCopy (ctx cohort : Nat) (index : Nat)
  | noticeBatchSend (conn : Nat)
  | roundOpen (vf : Nat)
  | roundOpenEffect (ctx cohort : Nat)
  | roundClose (vf : Nat)
  | roundCloseEffect (ctx cohort : Nat)
  | roundDurationLimit (ctx cohort : Nat)
  | freeze (ctx cohort : Nat)
  | secretPeriodEnd (ctx cohort : Nat)
  | unmaskingEntry (ctx cohort : Nat)
  | removalListBuild (ctx cohort : Nat)
  | finishPhaseBegin (ctx cohort : Nat)
  | roundFinished (ctx cohort : Nat)
  | roundAbandon (vf : Nat)
  | release (vf : Nat)
  | deliveryComplete (ctx cohort : Nat)
  | roundQuery (vf : Nat)
  | requestList (vf : Nat)
  | attest (vf : Nat)
  /-- `report`: the bytes the driver named; `chain`: the certificates that follow. -/
  | peerReport (vf : Nat) (report chain : Bytes)
  | planSubmit (vf : Nat)
  | planCheckComplete (ctx : Nat) (image : Bytes)
  | planStart (ctx : Nat)
  | planUnload (vf : Nat)
  | planUnloadEffect (ctx : Nat)
  -- Grixo (R257 to R302)
  | connCreate (vf : Nat)
  | connOpen (vf : Nat)
  | connClose (vf : Nat)
  | connDestroy (vf : Nat)
  | connSetGrant (vf : Nat)
  | queueCreate (vf : Nat)
  | queueDestroy (vf : Nat)
  | queueDestroyComplete (ctx queue : Nat)
  | windowKeyReplace (vf : Nat)
  | windowKeyRevoke (vf : Nat)
  | keyDrainLimit (ctx : Nat)
  | hostCopyToContext (vf : Nat)
  | hostCopyToHost (vf : Nat)
  -- Host registers (R303 to R320)
  /-- `entries`: the 64-byte entries that the fetch read, oldest first; `none`: the fetch failed. -/
  | cmdDoorbell (vf tail : Nat) (entries : List Bytes)
  | wqDoorbell (vf queue tail : Nat) (entries : List Bytes)
  | cmdRingEnable (vf : Nat)
  | cmdRingDisable (vf : Nat)
  | awakeClaimSet (vf : Nat)
  | awakeClaimClear (vf : Nat)
  | errorStatusClear (vf : Nat) (value : Nat)
  /-- `queue`: none for CPL_HEAD of the command ring. -/
  | completionHeadWrite (vf : Nat) (queue : Option Nat) (value : Nat)
  | vfRegisterWrite (vf offset width value : Nat)
  | completionPost (vf : Nat) (queue : Option Nat)
  /-- `kind`: 0 command fetch, 1 queue fetch, 2 completion write, 3 command transfer, 4 queue completion write. -/
  | hostAccessFailure (vf kind : Nat) (what : HostFailure)
  | flr (vf : Nat)
  | perstAssert (endpoint : Nat) (now : Nat)
  | perstDeassert (endpoint : Nat) (now : Nat)
  | pcieLinkDown (endpoint : Nat)
  | dmaSlotMapWrite (session endpoint : Nat) (value : Bytes)
  -- Work queues and packets
  | wqeNop (ctx queue : Nat)
  | wqeSend (ctx queue : Nat)
  | wqeRecv (ctx queue : Nat)
  | wqeWrite (ctx queue : Nat)
  | wqeRead (ctx queue : Nat)
  | wqeWaitSatisfied (ctx queue : Nat)
  | wqeComplete (ctx queue entry : Nat)
  /-- An Ethernet frame received on sub-port `lane`, 4n + k: the destination address, the source address and the rest up to
  the FCS, as they follow one another on the wire (R258, R269). -/
  | rxSendPacket (lane : Nat) (destination source rest : Bytes) (now : Nat)
  | rxWritePacket (lane : Nat) (destination source rest : Bytes) (now : Nat)
  | rxReadReq (lane : Nat) (destination source rest : Bytes) (now : Nat)
  | rxReadResp (lane : Nat) (destination source rest : Bytes) (now : Nat)
  | rxAck (lane : Nat) (destination source rest : Bytes) (now : Nat)
  | ackDelayExpiry (conn : Nat) (now : Nat)
  | rxCredit (lane : Nat) (destination source rest : Bytes) (now : Nat)
  | rxConnReq (lane : Nat) (destination source rest : Bytes) (now : Nat)
  | rxConnAccept (lane : Nat) (destination source rest : Bytes) (now : Nat)
  | rxConnRefuse (lane : Nat) (destination source rest : Bytes) (now : Nat)
  | rxConnClose (lane : Nat) (destination source rest : Bytes) (now : Nat)
  | rxProbe (lane : Nat) (destination source rest : Bytes) (now : Nat)
  | rxProbeReply (lane : Nat) (destination source rest : Bytes) (now : Nat)
  | retxTimerExpiry (conn message packet : Nat) (now : Nat)
  | pathHoldExpiry (conn path : Nat) (now : Nat)
  | probeTimeout (conn path : Nat) (now : Nat)
  | connReqResend (conn : Nat) (now : Nat)
  | connCloseResend (conn : Nat) (now : Nat)
  | moduleSendDequeue (conn : Nat)
  | recordFetch (conn : Nat) (crcOk : Bool) (now : Nat)
  /-- `hop6`, `hop4`: MAC addresses of the gateways that have answered, by family. -/
  | subportUp (lane : Nat) (hop6 hop4 : Option Bytes) (now : Nat)
  | subportDown (lane : Nat) (now : Nat)
  | subportFecTakedown (lane : Nat) (codewords : Nat) (now : Nat)
  | subportRetrain (lane : Nat) (now : Nat)
  | nextHopRefresh (lane : Nat) (answer6 answer4 : Option Bytes) (now : Nat)
  /-- A frame as above, the source address being the first of `rest`. -/
  | addressResolutionRx (lane : Nat) (destination rest : Bytes)
  | portEnableWrite (session : Nat) (value : Bytes)
  | portModeWrite (session : Nat) (value : Bytes)
  -- Contexts, keys and attestation (R321 to R385)
  | ctxCreate (session ctx : Nat) (value : Bytes)
  | ctxTeardown (session ctx : Nat) (value : Bytes)
  | contextLost (ctx : Nat) (now : Nat)
  | teardownAbandonStep (ctx : Nat)
  | teardownUnloadStep (ctx : Nat)
  /-- `retired`: the cluster of an SRAM line whose read-back failed twice. -/
  | teardownSramZeroed (ctx : Nat) (retired : Option Nat)
  /-- `retired`: pages of C0 to C3 whose read-back failed twice. -/
  | scrubComplete (ctx : Nat) (retired : List Nat) (now : Nat)
  | keyImport (session : Nat) (value : Bytes)
  | keyDestroy (session : Nat) (value : Bytes)
  | memRotate (session : Nat) (value : Bytes)
  | memSweepComplete (ctx : Nat) (canton : Nat)
  | zeroise (session : Nat) (value : Bytes)
  | tamperAssert (cause : Nat) (now : Nat)
  | keyMaskRefresh (now : Nat)
  | fwWrite (session : Nat) (value : Bytes)
  | fwCommit (session : Nat) (value : Bytes)
  | lifecycleRequest (session : Nat) (value : Bytes)
  -- Start-up, reset and furl (R386 to R427)
  | powerOn (now : Nat)
  | domainEnable (now : Nat)
  | domainRegulationMiss (domain : Nat) (now : Nat)
  /-- Facts of the world at the end of stage A: which NV slots and settings slots verify. -/
  | stageAComplete (nvA nvB setA setB : Bool) (clock : ClockReport)
  | stageBComplete (clock : ClockReport)
  | stageCComplete (now : Nat)
  | stageDeadlineMiss (now : Nat)
  | pllLockTimeout (now : Nat)
  | moduleReset (session : Nat) (value : Bytes)
  | cpWatchdogExpiry (now : Nat)
  | hoistReset (hoist : Nat) (now : Nat)
  | cantonReset (canton : Nat) (now : Nat)
  | padRelease (session : Nat) (value : Bytes)
  | wakeNTimeout (endpoint : Nat) (now : Nat)
  | idleTimerExpiry (now : Nat)
  | furlEnterCommand (session : Nat) (value : Bytes)
  | furlWakeRequest (session : Nat) (value : Bytes)
  | blockReady (now : Nat)
  | blockRefuse (code : Nat) (now : Nat)
  | furlRetryTimer (now : Nat)
  | furlEntryComplete (now : Nat)
  | wakeReqPin (now : Nat)
  | wakeAtExpiry (now : Nat)
  | wakeF1Complete (cantonsOk : Bool) (now : Nat)
  -- Leadership and recovery (R428 to R450)
  | jackRequest (cp : Nat) (now : Nat)
  | jackRenewalTimer (cp : Nat) (now : Nat)
  | jackRenewal (cp epoch : Nat) (now : Nat)
  | jackExpiry (now : Nat)
  | selfDemotion (cp : Nat) (now : Nat)
  | noHolderRx (cp : Nat) (now : Nat)
  | cpStatus (cp : Nat) (now : Nat)
  | burgeeHoldDetect (now : Nat)
  | beacon (now : Nat)
  | staleInstruction (unit epoch : Nat) (now : Nat)
  | holdEntry (now : Nat)
  | takeoverComplete (now : Nat)
  | holdEnd
  | holdLimitExpiry (now : Nat)
  | handover (session : Nat) (value : Bytes)
  | journalMirror (now : Nat)
  | clusterFault (cluster kind : Nat)
  | spareTakeover (canton : Nat)
  | spareBecomesService (canton : Nat)
  | dataFault (ctx cohort kind index : Nat)
  /-- `retrained`: one of the three retrainings that follow at once succeeded. -/
  | dieLinkDown (link : Nat) (retrained : Bool) (now : Nat)
  | dieLinkRetrainFail (link : Nat) (now : Nat)
  -- Management (R451 to R483)
  /-- A DTLS client hello: its verified certificate and whether the handshake's proofs hold. -/
  | dtlsClientHello (cert : Bytes) (proofOk : Bool) (now : Nat)
  | sessionIdleExpiry (session : Nat) (now : Nat)
  | yunovRead (session : Nat) (message : Bytes) (now : Nat)
  | yunovWrite (session : Nat) (message : Bytes) (now : Nat)
  | dictionaryWrite (session index sub : Nat) (value : Bytes)
  | yunovApprove (session : Nat) (message : Bytes) (now : Nat)
  | approvalExpiry (id : Nat) (now : Nat)
  | yunovSubscribe (session : Nat) (message : Bytes) (now : Nat)
  | yunovUnsubscribe (session : Nat) (message : Bytes) (now : Nat)
  | subscriptionEval (session : Nat) (now : Nat)
  | notifyFlush (session : Nat) (now : Nat)
  | clearRead (datagram : Bytes) (now : Nat)
  | challenge (datagram : Bytes) (now : Nat)
  | signedWake (datagram : Bytes) (now : Nat)
  /-- The bytes after the address: command code, count, four bytes and the PEC. -/
  | smbusProcessCall (bytes : Bytes)
  | mgmtAddressEffect (now : Nat)
  | credStage (session : Nat) (value : Bytes)
  | credEnrol (session : Nat) (value : Bytes)
  | credRemove (session : Nat) (value : Bytes)
  | policyStage (session : Nat) (value : Bytes)
  | policyCommit (session : Nat) (value : Bytes)
  | alertAck (session : Nat) (value : Bytes)
  | sessionCursorWrite (session : Nat) (value : Bytes)
  | recordsRead (session : Nat)
  -- Event recorder (R484 to R502)
  | recordWrite (source code : Nat) (ctx : Option Nat) (payload : Bytes) (now : Nat)
  | tokenRefill (now : Nat)
  | summaryTick (now : Nat)
  | flushStart (hoist : Nat) (now : Nat)
  | flushComplete (hoist : Nat) (ok : Bool) (now : Nat)
  | flashRetry (hoist : Nat) (now : Nat)
  -- Reserve pack (R513 to R524)
  | packInsert (now : Nat)
  | packRemove (now : Nat)
  /-- The voltage drop of the 2.0 A pulse in µV, whether 15.0 V was reached in time, and the 1,024 bytes read from the
  EEPROM; none after a NACK. -/
  | packMeasurement (dropUv : Nat) (reached : Bool) (eeprom : Bytes) (now : Nat)
  | serviceHoursTick (now : Nat)
  | powerFailWarning (packMv : Nat) (now : Nat)
  /-- `back`: 12 V has returned during the hold-up. -/
  | holdupComplete (back : Bool) (now : Nat)
  -- Completions of resets and the remaining rows
  | hoistResetComplete (hoist : Nat) (mr0 mr1 : Bytes) (now : Nat)
  | cantonResetComplete (canton : Nat) (failedClusters : Nat) (now : Nat)
  /-- `microcode`: the digest of the sequencer microcode as loaded differs from MR4. -/
  | cantonTestFailed (canton : Nat) (microcode : Bool) (now : Nat)
  | hostCopyComplete (vf : Nat) (copy : CopyEnd)
  | burgeeFirmwareRestart (now : Nat)
  | ptpAnnounceRx (announce : PtpAnnounce) (now : Nat)
  | smbusAlertResponse
  /-- What the two Hoists present over the H0–H1 lines: the digests of their roots, and their registers. -/
  | secureBootComplete (hoist : Nat) (roots0 roots1 mr0 mr1 : Bytes) (now : Nat)
  deriving DecidableEq, Repr

end Sys2Proof
end

