-- ==== Sys2Proof/Machine/Bytes.lean ====
section
/-!
DEFINITION. Machine/Bytes.lean: byte-order conversions (R8, R9), slices of byte strings, bit masks, the CRC-32 of
R13, and integer roots used by the digests' constants and the exact tables of admission.
-/
namespace Sys2Proof.Machine

/-- The low `n` bytes of `v`, least significant first (in-memory order, R8). -/
def leBytes : Nat → Nat → Bytes
  | 0, _ => []
  | n + 1, v => BitVec.ofNat 8 v :: leBytes n (v / 256)

/-- The low `n` bytes of `v`, most significant first (wire order, R8). -/
def beBytes (n v : Nat) : Bytes := (leBytes n v).reverse

/-- The value of a little-endian byte string. -/
def leNat : Bytes → Nat
  | [] => 0
  | b :: bs => b.toNat + 256 * leNat bs

/-- The value of a big-endian byte string. -/
def beNat (bs : Bytes) : Nat := leNat bs.reverse

/-- `len` bytes from offset `off` (R9). -/
def slice (bs : Bytes) (off len : Nat) : Bytes := (bs.drop off).take len

/-- Little-endian field of `len` bytes at `off`. -/
def leAt (bs : Bytes) (off len : Nat) : Nat := leNat (slice bs off len)

/-- Big-endian field of `len` bytes at `off`. -/
def beAt (bs : Bytes) (off len : Nat) : Nat := beNat (slice bs off len)

/-- Every byte of the range is zero (R11). -/
def zeroAt (bs : Bytes) (off len : Nat) : Bool := (slice bs off len).all (· == 0)

/-- `n` zero bytes. -/
def zeros (n : Nat) : Bytes := List.replicate n 0

/-- Pads with zero bytes up to `n`, and cuts what lies beyond. -/
def padTo (n : Nat) (bs : Bytes) : Bytes := (bs ++ zeros (n - bs.length)).take n

/-- Bits `[hi:lo]` of a number (R8). -/
def bits (v hi lo : Nat) : Nat := (v / 2 ^ lo) % 2 ^ (hi + 1 - lo)

/-- The two's complement reading of the low `n` bits. -/
def signedOf (n v : Nat) : Int :=
  let m := v % 2 ^ n
  if m < 2 ^ (n - 1) then (m : Int) else (m : Int) - (2 ^ n : Nat)

/-- The low `n` bits of a signed value, as an unsigned number. -/
def unsignedOf (n : Nat) (v : Int) : Nat := (v % ((2 ^ n : Nat) : Int)).toNat

/-- ASCII bytes of a string. -/
def ascii (s : String) : Bytes := s.toList.map fun c => BitVec.ofNat 8 c.toNat

/-- Byte-wise exclusive or, to the shorter length. -/
def xorBytes : Bytes → Bytes → Bytes := List.zipWith (· ^^^ ·)

/-- Ceiling division. -/
def ceilDiv (a b : Nat) : Nat := (a + b - 1) / b

/-- Rounds up to a multiple of `b`. -/
def roundUp (a b : Nat) : Nat := ceilDiv a b * b

/-- A counter that stops at its width's greatest value. -/
def satAdd (width a b : Nat) : Nat := min (a + b) (2 ^ width - 1)

/-- One step of the reflected CRC register (R13). -/
def crcBit (c : BitVec 32) : BitVec 32 :=
  if c.getLsbD 0 then (c >>> 1) ^^^ 0xEDB88320#32 else c >>> 1

/-- One byte into the CRC register. -/
def crcByte (c : BitVec 32) (b : Byte) : BitVec 32 :=
  Nat.repeat crcBit 8 (c ^^^ b.setWidth 32)

/-- CRC-32 of R13: polynomial 0x04C1_1DB7 reflected, initial value and final complement all ones. -/
def crc32 (bs : Bytes) : BitVec 32 := ~~~ (bs.foldl crcByte 0xFFFFFFFF#32)

/-- The structure's CRC field: little-endian CRC-32 of the bytes before it. -/
def withCrc (bs : Bytes) : Bytes := bs ++ leBytes 4 (crc32 bs).toNat

/-- Greatest `x` with `x ^ k ≤ n`, built bit by bit from bit `b` down. -/
def rootFrom (k n : Nat) : Nat → Nat → Nat
  | 0, x => x
  | b + 1, x => let y := x + 2 ^ b
    rootFrom k n b (if y ^ k ≤ n then y else x)

/-- Integer `k`-th root of a number below `2 ^ (k * w)`. -/
def iroot (k w n : Nat) : Nat := rootFrom k n w 0

/-- `b ^ e mod m`, by the `n` low bits of `e`. -/
def powModBits (m : Nat) : Nat → Nat → Nat → Nat → Nat
  | 0, _, _, acc => acc
  | n + 1, b, e, acc =>
    powModBits m n (b * b % m) (e / 2) (if e % 2 = 1 then acc * b % m else acc)

/-- `b ^ e mod m`. -/
def powMod (b e m : Nat) : Nat := powModBits m (Nat.log2 e + 1) (b % m) e (1 % m)

/-- Inverse modulo a prime (R173, R197). -/
def invMod (a p : Nat) : Nat := powMod a (p - 2) p

end Sys2Proof.Machine
end

