-- ==== Sys2Proof/Machine/Digest.lean ====
section
/-!
DEFINITION. Machine/Digest.lean: SHA-256 and SHA-384 (FIPS 180-4), the Keccak functions SHAKE128, SHAKE256
(FIPS 202) and KMAC256 (SP 800-185), HMAC and HKDF with SHA-256. The spec names the standards (R14, R15); their
bodies are the published ones (PRESUMED, log entry 4).
-/
namespace Sys2Proof.Machine

/-- Trial division by the candidates below. -/
def primeBelow (n : Nat) : Nat → Bool
  | 0 => true
  | 1 => true
  | d + 1 => if n % (d + 1) = 0 then false else primeBelow n d

/-- The first `k` primes from `n` on, looking at most `fuel` numbers ahead. -/
def primesFrom : Nat → Nat → Nat → List Nat
  | 0, _, _ => []
  | _, 0, _ => []
  | fuel + 1, k + 1, n =>
    if primeBelow n (n - 1) then n :: primesFrom fuel k (n + 1) else primesFrom fuel (k + 1) (n + 1)

/-- First 64 fraction bits of the cube root of `p`. -/
def cbrtFrac (p : Nat) : BitVec 64 := BitVec.ofNat 64 (iroot 3 68 (p * 2 ^ 192))

/-- First 64 fraction bits of the square root of `p`. -/
def sqrtFrac (p : Nat) : BitVec 64 := BitVec.ofNat 64 (iroot 2 70 (p * 2 ^ 128))

/-- The 80 round constants of SHA-384; SHA-256 uses the upper halves of the first 64. -/
def sha512K : List (BitVec 64) := (primesFrom 420 80 2).map cbrtFrac

/-- Initial value of SHA-384: the ninth to sixteenth primes. -/
def sha384Init : List (BitVec 64) := ((primesFrom 60 16 2).drop 8).map sqrtFrac

/-- Initial value of SHA-256. -/
def sha256Init : List (BitVec 32) := (primesFrom 24 8 2).map fun p => (sqrtFrac p >>> 32).setWidth 32

/-- Constants that differ between the two word widths of FIPS 180-4. -/
structure ShaParams (w : Nat) where
  /-- Rotations of Σ0, Σ1 and rotations and shift of σ0, σ1. -/
  b0 : Nat × Nat × Nat
  b1 : Nat × Nat × Nat
  s0 : Nat × Nat × Nat
  s1 : Nat × Nat × Nat

def sha512P : ShaParams 64 := ⟨(28, 34, 39), (14, 18, 41), (1, 8, 7), (19, 61, 6)⟩
def sha256P : ShaParams 32 := ⟨(2, 13, 22), (6, 11, 25), (7, 18, 3), (17, 19, 10)⟩

def shaBig {w : Nat} (r : Nat × Nat × Nat) (x : BitVec w) : BitVec w :=
  x.rotateRight r.1 ^^^ x.rotateRight r.2.1 ^^^ x.rotateRight r.2.2

def shaSmall {w : Nat} (r : Nat × Nat × Nat) (x : BitVec w) : BitVec w :=
  x.rotateRight r.1 ^^^ x.rotateRight r.2.1 ^^^ (x >>> r.2.2)

/-- Extends the message schedule, held newest first, by `n` words. -/
def shaExpand {w : Nat} (p : ShaParams w) : Nat → List (BitVec w) → List (BitVec w)
  | 0, ws => ws
  | n + 1, ws =>
    let g := fun i => ws.getD i 0
    shaExpand p n ((shaSmall p.s1 (g 1) + g 6 + shaSmall p.s0 (g 14) + g 15) :: ws)

/-- One round over the eight working variables. -/
def shaRound {w : Nat} (p : ShaParams w) (v : List (BitVec w)) (kw : BitVec w × BitVec w) : List (BitVec w) :=
  match v with
  | [a, b, c, d, e, f, g, h] =>
    let t1 := h + shaBig p.b1 e + ((e &&& f) ^^^ (~~~ e &&& g)) + kw.1 + kw.2
    let t2 := shaBig p.b0 a + ((a &&& b) ^^^ (a &&& c) ^^^ (b &&& c))
    [t1 + t2, a, b, c, d + t1, e, f, g]
  | v => v

/-- One block of the compression function. -/
def shaBlock {w : Nat} (p : ShaParams w) (ks : List (BitVec w)) (h : List (BitVec w)) (block : List (BitVec w)) :
    List (BitVec w) :=
  let ws := (shaExpand p (ks.length - 16) block.reverse).reverse
  List.zipWith (· + ·) h ((ks.zip ws).foldl (shaRound p) h)

/-- Splits a list into pieces of `n` elements, at most `fuel` of them. -/
def chunks {α : Type} (n : Nat) : Nat → List α → List (List α)
  | 0, _ => []
  | fuel + 1, l => if l.isEmpty then [] else l.take n :: chunks n fuel (l.drop n)

/-- Padding of FIPS 180-4 for blocks of `blk` bytes with a length field of `lf` bytes. -/
def shaPad (blk lf : Nat) (m : Bytes) : Bytes :=
  let used := m.length + 1 + lf
  m ++ [0x80] ++ zeros (roundUp used blk - used) ++ beBytes lf (8 * m.length)

/-- SHA-384 of a byte string (R14). -/
def sha384 (m : Bytes) : Bytes :=
  let p := shaPad 128 16 m
  let blocks := (chunks 128 p.length p).map fun b => (chunks 8 16 b).map fun x => BitVec.ofNat 64 (beNat x)
  ((blocks.foldl (shaBlock sha512P sha512K) sha384Init).flatMap fun x => beBytes 8 x.toNat).take 48

/-- SHA-256 of a byte string. -/
def sha256 (m : Bytes) : Bytes :=
  let p := shaPad 64 8 m
  let ks : List (BitVec 32) := (sha512K.take 64).map fun (k : BitVec 64) => (k >>> 32).setWidth 32
  let blocks := (chunks 64 p.length p).map fun b => (chunks 4 16 b).map fun x => BitVec.ofNat 32 (beNat x)
  (blocks.foldl (shaBlock sha256P ks) sha256Init).flatMap fun x => beBytes 4 x.toNat

/-- HMAC with SHA-256. -/
def hmac256 (key m : Bytes) : Bytes :=
  let k := padTo 64 (if key.length > 64 then sha256 key else key)
  sha256 (k.map (· ^^^ 0x5C) ++ sha256 (k.map (· ^^^ 0x36) ++ m))

/-- HKDF-Extract (RFC 5869, used by RFC 9180). -/
def hkdfExtract (salt ikm : Bytes) : Bytes := hmac256 (if salt.isEmpty then zeros 32 else salt) ikm

/-- The blocks T(i) of HKDF-Expand. -/
def hkdfBlocks (prk info : Bytes) : Nat → Nat → Bytes → Bytes
  | 0, _, _ => []
  | n + 1, i, prev =>
    let t := hmac256 prk (prev ++ info ++ [BitVec.ofNat 8 i])
    t ++ hkdfBlocks prk info n (i + 1) t

/-- HKDF-Expand to `len` bytes. -/
def hkdfExpand (prk info : Bytes) (len : Nat) : Bytes := (hkdfBlocks prk info (ceilDiv len 32) 1 []).take len

/-- One step of the round-constant register of Keccak. -/
def keccakLfsr (r : Nat) : Nat := if r < 128 then 2 * r else (2 * r) ^^^ 0x171

/-- Round constant of round `i`: bit 2^j − 1 from the register, seven bits a round. -/
def keccakRC (i : Nat) : BitVec 64 :=
  (List.range 7).foldl (fun acc j =>
    if (Nat.repeat keccakLfsr (j + 7 * i) 1) % 2 = 1 then acc ||| (1#64 <<< (2 ^ j - 1)) else acc) 0

/-- Rotation offsets, lane (x, y) at index x + 5y. -/
def keccakRot : List Nat :=
  [0, 1, 62, 28, 27, 36, 44, 6, 55, 20, 3, 10, 43, 25, 39, 41, 45, 15, 21, 8, 18, 2, 61, 56, 14]

/-- One round of Keccak-f[1600] over 25 lanes. -/
def keccakRound (a : List (BitVec 64)) (rc : BitVec 64) : List (BitVec 64) :=
  let g := fun (l : List (BitVec 64)) i => l.getD i 0
  let c := (List.range 5).map fun x => g a x ^^^ g a (x + 5) ^^^ g a (x + 10) ^^^ g a (x + 15) ^^^ g a (x + 20)
  let d := (List.range 5).map fun x => g c ((x + 4) % 5) ^^^ (g c ((x + 1) % 5)).rotateLeft 1
  let t := (List.range 25).map fun i => (g a i ^^^ g d (i % 5)).rotateLeft (keccakRot.getD i 0)
  -- π moves lane (x, y) to (y, 2x + 3y)
  let b := (List.range 25).map fun i =>
    let x' := i % 5; let y' := i / 5
    -- the source (x, y) with y = x' and 2x + 3y ≡ y'
    let x := (x' + 3 * y') % 5
    g t (x + 5 * x')
  let e := (List.range 25).map fun i =>
    let x := i % 5; let y := i / 5
    g b i ^^^ (~~~ (g b ((x + 1) % 5 + 5 * y)) &&& g b ((x + 2) % 5 + 5 * y))
  match e with
  | l :: ls => (l ^^^ rc) :: ls
  | [] => []

def keccakF (a : List (BitVec 64)) : List (BitVec 64) :=
  ((List.range 24).map keccakRC).foldl keccakRound a

/-- Absorbs one block of `rate` bytes. -/
def keccakAbsorb (a : List (BitVec 64)) (block : Bytes) : List (BitVec 64) :=
  let ws := (chunks 8 25 block).map fun b => BitVec.ofNat 64 (leNat b)
  keccakF (List.zipWith (· ^^^ ·) a (ws ++ List.replicate (25 - ws.length) 0))

/-- Squeezes `n` blocks of `rate` bytes. -/
def keccakSqueeze (rate : Nat) : Nat → List (BitVec 64) → Bytes
  | 0, _ => []
  | n + 1, a => (a.flatMap fun w => leBytes 8 w.toNat).take rate ++ keccakSqueeze rate n (keccakF a)

/-- Sponge with domain bits and first padding bit in `suffix`. -/
def keccak (rate : Nat) (suffix : Byte) (m : Bytes) (len : Nat) : Bytes :=
  let n := m.length + 1
  let p := m ++ [suffix] ++ zeros (roundUp n rate - n)
  let p := p.take (p.length - 1) ++ (p.drop (p.length - 1)).map (· ||| 0x80)
  let st := (chunks rate p.length p).foldl keccakAbsorb (List.replicate 25 0)
  (keccakSqueeze rate (ceilDiv len rate) st).take len

def shake128 (m : Bytes) (len : Nat) : Bytes := keccak 168 0x1F m len
def shake256 (m : Bytes) (len : Nat) : Bytes := keccak 136 0x1F m len

/-- Bytes that a length needs. -/
def byteCount (v : Nat) : Nat := max 1 (Nat.log2 v / 8 + 1)

def leftEncode (v : Nat) : Bytes := [BitVec.ofNat 8 (byteCount v)] ++ beBytes (byteCount v) v
def rightEncode (v : Nat) : Bytes := beBytes (byteCount v) v ++ [BitVec.ofNat 8 (byteCount v)]
def encodeString (b : Bytes) : Bytes := leftEncode (8 * b.length) ++ b
def bytepad (b : Bytes) (w : Nat) : Bytes := padTo (roundUp ((leftEncode w ++ b).length) w) (leftEncode w ++ b)

/-- KMAC256(K, X, 8·len bits, S) of SP 800-185. -/
def kmac256 (key x : Bytes) (len : Nat) (cust : Bytes) : Bytes :=
  keccak 136 0x04
    (bytepad (encodeString (ascii "KMAC") ++ encodeString cust) 136 ++ bytepad (encodeString key) 136 ++ x
      ++ rightEncode (8 * len)) len

/-- The KDF of R342: SP 800-108 in its KMAC form. -/
def derive (key : Bytes) (label : String) (ctx : Bytes) (len : Nat) : Bytes := kmac256 key ctx len (ascii label)

end Sys2Proof.Machine
end

