-- ==== Sys2Proof/Config.lean ====
section
/-!
DEFINITION. Config.lean: what one module's silicon or factory fixes, and the free values (log entries 2, 3, 5, 6, 27,
52, 65, 83, 86 and 90). None of these has a body: no proof can see a value.
-/
namespace Sys2Proof.Config
open Sys2Proof

/-- Free value: `n` random bytes of the `k`-th draw from the entropy sources and DRBGs (log entry 2). -/
opaque randomBytes (k n : Nat) : Bytes
/-- Free value: contents of byte `addr` of a context's memory after the `epoch`-th loss of HBM contents (R422). -/
opaque lostByte (epoch ctx addr : Nat) : Byte
/-- Fixed at manufacture: MODULE_SERIAL (R340, R379). -/
opaque serial : Nat
/-- Fixed at manufacture: MAC_BASE, 6 bytes (R258). -/
opaque macBase : Bytes
/-- Fixed at manufacture: the root fuses (R340): 0 test root, 1 development root, 2 production root, 3 return root, 4 NV
root. -/
opaque rootSecret (root : Nat) : Bytes
/-- Fixed at manufacture: MANUFACTURE_DATE and BOARD_REVISION (R477). -/
opaque manufactureDate : Nat
opaque boardRevision : Nat
/-- Constants of the masks: SHA-384 of the Burgee ROM and of the CP ROM contents (R370). -/
opaque romDigest : Bytes
opaque cpRomDigest : Bytes
/-- Constant of the Burgee ROM: SHA-384 of the signer public keys, test, development and production (R368). -/
opaque bootKeys : List Bytes
/-- The image of a kind (1 Burgee, 2 CP bundle) that manufacture left in slot A of the flash (log entry 27). -/
opaque factoryImage (kind : Nat) : Bytes
/-- Free value: what a flash byte reads that was erased and not written since (R383). -/
opaque erasedByte : Byte
/-- Free value: programming the non-volatile key record with a SEQ at an operating time fails its read-back twice (R363). -/
opaque nvWriteFails (aon seq : Nat) : Bool
/-- Free value: a byte of a stage area that no segment has written (R456, R466). -/
opaque unstagedByte : Byte
/-- Version that the firmware makers give the microcode with a digest (R477). -/
opaque microcodeVersion (digest : Bytes) : Nat
/-- Free value: pack voltage in mV and energy used in mJ at the end of the hold-up that began at an operating time in ms
(R518). -/
opaque holdupEnd (ms : Nat) : Nat × Nat
/-- Free value: rate code, width and FLIT mode to which the host trains the link of an endpoint, by draw (R303, R320). -/
opaque linkTraining (k endpoint : Nat) : Nat × Nat × Bool
/-- The DER encoding of X.509 certificates: `certValid c` is TRUE if `c` parses and meets the profile the spec names
(R455, R456); `certKey c` is its ECDSA P-384 public key (96 bytes X then Y). -/
opaque certValid (cert : Bytes) : Bool
opaque certKey (cert : Bytes) : Bytes
opaque certRole (cert : Bytes) : Nat
/-- The ID key (96 bytes) of the ID certificate for a LIFECYCLE in a chain of certificates, if the chain verifies up to
the Bidraen root CA of that lifecycle's family and the certificate's serialNumber is the serial given (R373, R378). -/
opaque idKeyOf (chain : Bytes) (lifecycle serial : Nat) : Option Bytes
/-- Free value: a working copy after an operation whose key failed its digest, by beat and input limbs (R218, log entry
86). -/
opaque spoiledCopy (beat : Nat) (limbs : List (List (List Nat))) : List (List (List Nat))
/-- Free value: the leaf ranges (SLOT_BASE, SLOT_COUNT) of a root's cohort, by plan digest and template (log entry 6). -/
opaque leafRanges (planDigest : Bytes) (template : Nat) : List (Nat × Nat)
/-- Free value: the 64-byte key of AES-256-XTS that a store key of 32 bytes stands for (R161, log entry 90). -/
opaque xtsKey (storeKey : Bytes) : Bytes
/-- Free value: Canton and physical page that hold a page of a context (R329, R357, log entry 90). -/
opaque pagePlace (ctx page : Nat) : Nat × Nat
/-- Free value: first 64-byte unit of the context store of a Hoist in its Canton's HBM (R286, log entry 90). -/
opaque storeUnit (hoist : Nat) : Nat
/-- Free value: first 64-byte unit of the journal's ring in the HBM of a Canton that holds a copy (R438, log entry 90). -/
opaque journalUnit : Nat
end Sys2Proof.Config
end

