-- ==== Sys2Proof/Machine/State/Contexts.lean ====
section
/-!
DEFINITION. Machine/State/Contexts.lean: contexts, their resources, teardown and counters (R321 to R339).
-/
namespace Sys2Proof.Machine

/-- A value per Hoist. -/
structure PerHoist where
  h0 : Nat
  h1 : Nat
  deriving DecidableEq, Repr

/-- 0x30cc.01 CTX_STATE (R321). -/
inductive CtxState where
  | free | active | teardown | scrubbing
  deriving DecidableEq, Repr

/-- The persistent entries of one context (R339). -/
structure CtxEntries where
  state : CtxState
  endpoint : Nat
  /-- Bit b: the context owns beat b of each window (R89). -/
  mask : BitVec 256
  portShare : PerHoist
  /-- HBM_QUOTA_C0 to C3, pages. -/
  quota : List Nat
  keySlots : PerHoist
  resident : PerHoist
  connLimit : PerHoist
  pkEngines : PerHoist
  /-- 0x30cc.13 LAST_RECEIPT, 32 bytes. -/
  receipt : Bytes
  deriving DecidableEq, Repr

def PerHoist.zero : PerHoist := ⟨0, 0⟩

def CtxEntries.default : CtxEntries :=
  { state := .free, endpoint := 0, mask := 0, portShare := .zero, quota := [0, 0, 0, 0], keySlots := .zero,
    resident := .zero, connLimit := .zero, pkEngines := .zero, receipt := List.replicate 32 0 }

/-- How far a teardown has come (R335). -/
inductive TeardownStep where
  /-- Accepted; step 1 waits for its window boundary. -/
  | accepted
  /-- Step 1 done; the plan is unloaded at the loop boundary. -/
  | abandoned
  /-- Steps 2 and 3: SRAM zeroing runs in owned beats. -/
  | zeroing
  /-- Step 5: the HBM pass runs. -/
  | scrubbing
  deriving DecidableEq, Repr

/-- A teardown in progress and what its receipt counts (R336). -/
structure Teardown where
  step : TeardownStep
  /-- 1 operator request, 2 context lost. -/
  cause : Nat
  seq : Nat
  keySlots : Nat
  memGeneration : Nat
  sramKib : Nat
  connections : Nat
  acceptedMs : Nat
  resumed : Bool
  retired : Bool
  /-- The window boundary at which step 1 was taken. -/
  stepBeat : Nat
  deriving DecidableEq, Repr

/-- Memory-key generations of a context (R358): the current one, how many live, and the Cantons whose sweep is not
done. -/
structure MemGen where
  generation : Nat
  live : Nat
  sweeping : List Nat
  /-- The highest generation in use, discarded last. -/
  key : Bytes
  oldKey : Bytes
  deriving DecidableEq, Repr

def MemGen.none : MemGen := ⟨0, 0, [], [], []⟩

/-- The counts of the COUNTERS block (R331), in its order from INTAKE_REJECT entry 0. -/
structure Counters where
  intakeReject : List Nat
  framesAccepted : Nat
  framesTagFailed : Nat
  framesCloseDiscarded : Nat
  chunksCommitted : Nat
  commits : Nat
  rollbacks : Nat
  sessions : Nat
  noticesSent : Nat
  noticesDropped : Nat
  pktsRx : Nat
  pktsTx : Nat
  bytesRx : Nat
  bytesTx : Nat
  retx : Nat
  duplicatesRx : Nat
  dropCredit : Nat
  dropNoRecv : Nat
  dropMiss : Nat
  dropTag : Nat
  connFailed : Nat
  creditsGranted : Nat
  creditsLapsed : Nat
  recordFetches : Nat
  dmaToHost : Nat
  dmaFromHost : Nat
  beatsReal : Nat
  beatsDummy : Nat
  finishRepeats : Nat
  releases : Nat
  dropInvalid : Nat
  deriving DecidableEq, Repr

def Counters.zero : Counters :=
  { intakeReject := List.replicate 16 0, framesAccepted := 0, framesTagFailed := 0, framesCloseDiscarded := 0,
    chunksCommitted := 0, commits := 0, rollbacks := 0, sessions := 0, noticesSent := 0, noticesDropped := 0,
    pktsRx := 0, pktsTx := 0, bytesRx := 0, bytesTx := 0, retx := 0, duplicatesRx := 0, dropCredit := 0,
    dropNoRecv := 0, dropMiss := 0, dropTag := 0, connFailed := 0, creditsGranted := 0, creditsLapsed := 0,
    recordFetches := 0, dmaToHost := 0, dmaFromHost := 0, beatsReal := 0, beatsDummy := 0, finishRepeats := 0,
    releases := 0, dropInvalid := 0 }

/-- A counter block: the running counts, and the snapshot that reads return with its SEQ and WINDOW (R331). -/
structure CounterBlock where
  live : Counters
  shown : Counters
  seq : Nat
  window : Nat
  deriving DecidableEq, Repr

def CounterBlock.reset : CounterBlock := ⟨.zero, .zero, 0, 0⟩

/-- What a context holds while the module runs, beside its persistent entries. -/
structure Ctx where
  teardown : Option Teardown
  mem : MemGen
  /-- salt_c and PARENT_EPOCH (R345, R350). -/
  salt : Bytes
  epoch : Nat
  /-- The claim bit of VF_CONTROL on its bound VF is VF state; the module sets a claim during teardown (R334). -/
  counters : CounterBlock
  /-- Transmit allowance left in this window on each Hoist, bytes (R328). -/
  egress : PerHoist
  /-- Physical pages are assigned while the context is not FREE (R322). -/
  pagesAssigned : Bool
  /-- Undefined page contents since the last WAKE-F1 (R422): the poison epoch, 0 none. -/
  poison : Nat
  /-- Memory of the context by 48-bit address (R295), canonical: addresses strictly rising, no zero byte. -/
  memory : List (Nat × Byte)
  deriving DecidableEq, Repr

def Ctx.reset : Ctx :=
  { teardown := none, mem := .none, salt := [], epoch := 0, counters := .reset, egress := .zero,
    pagesAssigned := false, poison := 0, memory := [] }

end Sys2Proof.Machine
end

