-- ==== Sys2Proof/Machine/State/Grixo.lean ====
section
/-!
DEFINITION. Machine/State/Grixo.lean: ports, connections, message trackers, credits, window keys and work queues (R257
to R302).
-/
namespace Sys2Proof.Machine

/-- CONN state (R282). -/
inductive ConnState where
  | closed | listen | requesting | open | failed
  deriving DecidableEq, Repr

/-- One packet of a message being sent (R274). -/
structure TxPacket where
  sent : Bool
  acked : Bool
  path : Nat
  /-- When the timer of the last transmission expires, ticks (R274, R278). -/
  due : Nat
  retries : Nat
  /-- Sub-port of the last transmission: 4n + k. -/
  port : Nat
  /-- Transmission order on the connection. -/
  order : Nat
  /-- Declared lost and waiting to be resent. -/
  lost : Bool
  deriving DecidableEq, Repr

def TxPacket.new : TxPacket := ⟨false, false, 0, 0, 0, 0, 0, false⟩

/-- A message being sent. -/
structure TxMsg where
  id : Nat
  /-- TYPE: 1 SEND, 2 WRITE, 3 READ_REQ, 4 READ_RESP. -/
  type : Nat
  /-- The message's bytes; of a READ_RESP those of packets that have been sent (R302). -/
  data : Bytes
  sendSeq : Nat
  key : Nat
  addr : Nat
  packets : List TxPacket
  /-- Work-queue entry: queue and entry number; none for a module message. -/
  entry : Option (Nat × Nat)
  deriving DecidableEq, Repr

/-- A message being received: bits of accepted packets and the packets' bytes. -/
structure RxMsg where
  id : Nat
  type : Nat
  last : Nat
  bits : List Nat
  sendSeq : Nat
  key : Nat
  /-- Started under a key that is draining (R296). -/
  old : Bool
  overrun : Bool
  parts : List (Nat × Bytes)
  /-- Bytes of the LANDING region that are carved for the message (R294). -/
  carve : Nat
  complete : Bool
  deriving DecidableEq, Repr

/-- A READ this end made (R270): MSG_ID, length, destination, queue entry, received parts. -/
structure OutRead where
  id : Nat
  length : Nat
  dest : Nat
  queue : Nat
  entry : Nat
  bits : List Nat
  done : Bool
  deriving DecidableEq, Repr

/-- State of one path of a sender (R268). -/
structure PathState where
  /-- Last 64 packets sent on the path: their order numbers and whether declared lost. -/
  history : List (Nat × Bool)
  suspended : Bool
  /-- End of the present hold, ticks, and whether a PROBE is outstanding. -/
  holdUntil : Nat
  probing : Bool
  deriving DecidableEq, Repr

def PathState.new : PathState := ⟨[], false, 0, false⟩

/-- A notice waiting for its connection (R122): 32 bytes. -/
abbrev Notice := Bytes

/-- The connection record of R285 and the trackers beside it. -/
structure Conn where
  index : Nat
  gen : Nat
  state : ConnState
  /-- 1 ROUND, 2 QUEUE. -/
  kind : Nat
  ctx : Nat
  enc : Bool
  passive : Bool
  ipv4 : Bool
  dir : Bool
  remoteAddr : Bytes
  remoteConn : Nat
  remoteGen : Nat
  remoteSport : Nat
  paths : Nat
  remotePaths : Nat
  txNext : Nat
  txOldest : Nat
  rxCum : Nat
  txSendSeq : Nat
  rxSendSeq : Nat
  txCtrl : Nat
  rxCtrl : Nat
  keySlot : Nat
  landing : Nat
  grant : Nat
  expiry : Nat
  queue : Nat
  outBase : Nat
  outBucket : List Nat
  inBase : Nat
  inBucket : List Nat
  lastUse : Nat
  /-- The record is resident, being fetched or in the store (R286, R288). -/
  resident : Bool
  /-- FIRST_MSG_ID of this end and of the peer (R264, R354); the CONN_REQ payload accepted, for R283. -/
  first : Nat
  remoteFirst : Nat
  accepted : Bytes
  /-- The record in the context store is whole (R286, R288). -/
  intact : Bool
  /-- Control packets that wait for an up sub-port or for transmit allowance: TYPE, payload, and the path of one that does
  not follow the rotation (R267, R268, R328). -/
  ctrlQueue : List (Nat × Bytes × Option Nat)
  /-- Message trackers. -/
  tx : List TxMsg
  rx : List RxMsg
  reads : List OutRead
  /-- Responses that wait for a free tracker (R285). -/
  waiting : List TxMsg
  /-- PKT_LAST of the messages received whole whose tracker is freed: RESP and MSG_ID (R265, R270). -/
  past : List ((Bool × Nat) × Nat)
  txOrder : Nat
  lastPath : Nat
  pathStates : List PathState
  /-- Messages changed, and duplicated, since the last ACK: (resp, id). -/
  ackDue : List (Bool × Nat)
  /-- Data packets accepted since the previous ACK, and when ACK_DELAY after the first of them ends, ticks. -/
  ackCount : Nat
  ackDueAt : Option Nat
  /-- CONN_REQ sendings made, and when the next is due, ticks. -/
  reqSent : Nat
  reqDue : Nat
  /-- Module messages waiting for credit (R293). -/
  sendArea : List Bytes
  notices : List Notice
  /-- Packets waiting in the miss buffer (R288): sub-port lane, source address, source port, packet. -/
  missQueue : List (Nat × Bytes × Nat × Bytes)
  deriving DecidableEq, Repr

/-- Sendings of a CONN_CLOSE that are still due: the connection as it was closed, how many, when the next, ticks, and
REASON (R284). They outlive the connection. -/
structure Closing where
  conn : Conn
  left : Nat
  due : Nat
  reason : Code
  deriving DecidableEq, Repr

/-- Work-queue state (R315). -/
inductive QueueState where
  | none | active | destroying
  deriving DecidableEq, Repr

/-- A started entry of a work queue (R300). -/
structure StartedEntry where
  entry : Nat
  bytes : Bytes
  done : Bool
  status : Code
  moved : Nat
  /-- SEND_SEQ paired with a RECV (R294), and the MSG_ID of a sent message. -/
  seq : Nat
  deriving DecidableEq, Repr

/-- One work queue of a context (R297 to R301). -/
structure WorkQueue where
  state : QueueState
  conn : Option Nat
  ringBase : Nat
  ringLog : Nat
  cplBase : Nat
  cplLog : Nat
  vector : Nat
  head : Nat
  tail : Nat
  cplHead : Nat
  cplTail : Nat
  /-- Entries fetched and not started, with their entry number. -/
  fetched : List (Nat × Bytes)
  started : List StartedEntry
  /-- Entries started so far, RECV entries started, and the queue count. -/
  startedCount : Nat
  recvCount : Nat
  count : Nat
  /-- Completion entries formed and not yet written. -/
  held : List Bytes
  cplFailed : Bool
  fetchErr : Bool
  /-- The bound connection failed or closed: later entries complete with 0x0120_0021 (R300). -/
  dead : Bool
  /-- CMD_ID of the QUEUE_DESTROY in progress. -/
  destroyCmd : Option Nat
  deriving DecidableEq, Repr

def WorkQueue.reset : WorkQueue :=
  { state := .none, conn := none, ringBase := 0, ringLog := 0, cplBase := 0, cplLog := 0, vector := 0, head := 0,
    tail := 0, cplHead := 0, cplTail := 0, fetched := [], started := [], startedCount := 0, recvCount := 0, count := 0,
    held := [], cplFailed := false, fetchErr := false, dead := false, destroyCmd := none }

/-- The window key of a context (R295, R296). -/
structure WindowKey where
  current : Option Nat
  /-- Draining key and window boundaries left before its limit. -/
  draining : Option (Nat × Nat)
  previous : List Nat
  deriving DecidableEq, Repr

def WindowKey.none : WindowKey := ⟨.none, .none, []⟩

/-- One sub-port (R257, R260, R261). -/
structure SubPort where
  up : Bool
  /-- Training has been started and not stopped. -/
  training : Bool
  /-- PCS lock on all lanes. -/
  locked : Bool
  /-- MAC address of the gateway of each family, where it is resolved. -/
  hop6 : Option Bytes
  hop4 : Option Bytes
  /-- Time of an FEC takedown that retrains 1 s later, ticks. -/
  retrainAt : Option Nat
  /-- Time of the last resolution, ticks. -/
  resolvedAt : Nat
  drops : Nat
  deriving DecidableEq, Repr

def SubPort.reset : SubPort := ⟨false, false, false, none, none, none, 0, 0⟩

structure Grixo where
  conns : List Conn
  /-- Generation of every index that was ever used (R281). -/
  gens : List (Nat × Nat)
  /-- 64 queues per context, by 64c + q. -/
  queues : List WorkQueue
  windowKeys : List WindowKey
  /-- Sub-port 4n + k. -/
  ports : List SubPort
  /-- Release counts by context and template (R298). -/
  releases : List ((Nat × Nat) × Nat)
  /-- 0x2000.03 MAC_BASE, 6 bytes (R258). -/
  macBase : Bytes
  /-- Since when the retransmission timers of a Hoist and family (IPv4 or not) stand still, ticks (R267). -/
  stopped : List ((Nat × Bool) × Nat)
  /-- CONN_CLOSE packets still to be sent (R284). -/
  closing : List Closing
  /-- Frames received whole that intake has not judged yet, in the order of completion: connection and MSG_ID (R271). -/
  arrived : List (Nat × Nat)
  deriving DecidableEq, Repr

def Grixo.reset : Grixo :=
  { conns := [], gens := [], queues := List.replicate 1024 .reset, windowKeys := List.replicate 16 .none,
    ports := List.replicate 64 .reset, releases := [], macBase := (Config.macBase ++ List.replicate 6 0).take 6, stopped := [], closing := [],
    arrived := [] }

end Sys2Proof.Machine
end

