-- ==== Sys2Proof/Machine/State/Halyard.lean ====
section
/-!
DEFINITION. Machine/State/Halyard.lean: the time base (R65 to R84, R537).
-/
namespace Sys2Proof.Machine

/-- 0x1200.08 HALYARD_STATE. -/
inductive HalState where
  | start | acquiring | locked | holdover | freeRun
  deriving DecidableEq, Repr

/-- A level change pending for the PPS edge of a second (R76, R77). -/
structure LevelChange where
  target : Nat
  edge : Nat
  deriving DecidableEq, Repr

/-- An ALIGN pending for the PPS edge of second `second`: BEAT_COUNT becomes `count` (R75). -/
structure AlignReq where
  second : Nat
  count : Nat
  deriving DecidableEq, Repr

/-- The fleet shadow count of R81: its value, the part of a beat already run in ticks, and the level whose rate it
follows. -/
structure Shadow where
  count : Nat
  ticks : Nat
  level : Nat
  deriving DecidableEq, Repr

/-- The settings of 0x1200.01 to 0x1200.06 that the Halyard uses now; a write reaches them at the next PPS edge
(R70, R84). -/
structure HalSettings where
  refPriority : BitVec 32
  refInFreq : Nat
  ppsInDelay : Int
  ptpDomain : Nat
  ptpTransport : Nat
  ptpLogSync : Int
  deriving DecidableEq, Repr

def HalSettings.default : HalSettings := ⟨0x0321, 10, 0, 0, 1, -4⟩

structure Halyard where
  state : HalState
  /-- The state from which the present ACQUIRING was entered (R73). -/
  acqFrom : HalState
  /-- Settings in force. -/
  use : HalSettings
  /-- 0x1200.09 REF_ACTIVE: 0 none, 1 to 3. -/
  refActive : Nat
  /-- Reference codes that qualify now (R68). -/
  qualified : List Nat
  /-- Consecutive Sync intervals within 40 ns, for references 2 and 3 (R68). -/
  syncGood : Nat × Nat
  /-- Time of the last Sync and the last Announce of references 2 and 3, in ticks. -/
  lastSync : Nat × Nat
  lastAnnounce : Nat × Nat
  holdoverFlag : Bool
  /-- Start of the present holdover, in ticks of operating time (R73). -/
  holdoverSince : Option Nat
  /-- 0x1200.0C PHASE_OFFSET in ps. -/
  phaseOffset : Int
  /-- 0x1200.0D BEAT_COUNT. -/
  beatCount : Nat
  /-- The window whose boundary actions were last taken (R5). -/
  windowDone : Option Nat
  /-- 0x1200.11 SECONDS. -/
  seconds : Nat
  /-- Operating time of the last PPS edge, in ticks, and ticks of beats run since it. -/
  lastEdge : Nat
  sinceEdge : Nat
  /-- The Halyard has been LOCKED since the last POWER-ON start (R537). -/
  everLocked : Bool
  /-- The level in force, 0 to 3; it has effect while a Canton is powered. -/
  level : Nat
  pendingLevel : Option LevelChange
  pendingAlign : Option AlignReq
  shadow : Option Shadow
  /-- PL0 of an emergency awaits its beat boundary: the beat count of the decision (R80). -/
  emergencyDue : Option Nat
  /-- Beats are stopped from a furl commit until the first PPS edge after the wake (R420). -/
  frozen : Bool
  /-- The wake has completed and beats resume at the next PPS edge. -/
  resumeAtEdge : Bool
  deriving DecidableEq, Repr

def Halyard.reset : Halyard :=
  { state := .start, acqFrom := .start, use := .default, refActive := 0, qualified := [], syncGood := (0, 0),
    lastSync := (0, 0), lastAnnounce := (0, 0), holdoverFlag := false, holdoverSince := none,
    phaseOffset := 0, beatCount := 0, windowDone := none, seconds := 0, lastEdge := 0, sinceEdge := 0,
    everLocked := false, level := 0, pendingLevel := none, pendingAlign := none, shadow := none,
    emergencyDue := none, frozen := false, resumeAtEdge := false }

end Sys2Proof.Machine
end

