-- ==== Sys2Proof/Machine/State/Host.lean ====
section
/-!
DEFINITION. Machine/State/Host.lean: virtual functions, command rings and endpoints (R303 to R320).
-/
namespace Sys2Proof.Machine

/-- A command completion waiting to be written (R313). -/
structure Completion where
  cmdId : Nat
  opcode : Nat
  status : Code
  result0 : Nat
  result1 : Nat
  beat : Nat
  deriving DecidableEq, Repr

/-- One MSI-X table entry (R309). -/
structure MsixEntry where
  addr : Nat
  data : Nat
  masked : Bool
  deriving DecidableEq, Repr

/-- The register block and command ring of one virtual function (R309, R310). -/
structure Vf where
  /-- VF_CONTROL.CMD_ENABLE and AWAKE_CLAIM. -/
  enable : Bool
  awake : Bool
  /-- ERROR_STATUS.ERR and OVERFLOW, ERROR_CODE, ERROR_COUNT. -/
  err : Bool
  overflow : Bool
  errCode : Code
  errCount : Nat
  ringBase : Nat
  ringLog : Nat
  cplBase : Nat
  cplLog : Nat
  /-- CMD_HEAD and the tail last accepted. -/
  head : Nat
  tail : Nat
  cplHead : Nat
  cplTail : Nat
  /-- A ring fetch failed; it is repeated at the next doorbell (R316). -/
  fetchErr : Bool
  /-- Command entries of 64 bytes fetched and not started, in ring order. -/
  fetched : List Bytes
  /-- The command in progress (R314), and the bytes a copy has moved. -/
  running : Option Bytes
  moved : Nat
  /-- Completions formed and not yet written, oldest first (R312). -/
  held : List Completion
  /-- A completion write failed and waits for the head register to be written (R316). -/
  cplFailed : Bool
  msix : List MsixEntry
  /-- Pending bits of vectors 0 to 65. -/
  pba : List Bool
  deriving DecidableEq, Repr

/-- Reset values of R309: an FLR, a PERST_N assertion or a link-down. -/
def Vf.reset : Vf :=
  { enable := false, awake := false, err := false, overflow := false, errCode := 0, errCount := 0, ringBase := 0,
    ringLog := 0, cplBase := 0, cplLog := 0, head := 0, tail := 0, cplHead := 0, cplTail := 0, fetchErr := false,
    fetched := [], running := none, moved := 0, held := [], cplFailed := false,
    msix := List.replicate 66 ⟨0, 0, true⟩, pba := List.replicate 66 false }

/-- One PCIe endpoint: 0x2200 LINK_STATE fields (R320) and the power state of its link (R415). -/
structure Endpoint where
  rate : Nat
  width : Nat
  flit : Bool
  up : Bool
  /-- The link is in L2/L3 Ready. -/
  l23 : Bool
  deriving DecidableEq, Repr

def Endpoint.reset : Endpoint := ⟨0, 0, false, false, false⟩

structure HostIf where
  ep0 : Endpoint
  ep1 : Endpoint
  /-- VFs of endpoint 0 then of endpoint 1, by context number. -/
  vfs : List Vf
  deriving DecidableEq, Repr

def HostIf.reset : HostIf := ⟨.reset, .reset, List.replicate 32 .reset⟩

/-- What the block sends out or drives at its interfaces, in the order of the acts (the model's own record of
outputs; the spec's outputs are the packets, host writes and messages themselves). -/
inductive Output where
  /-- A posted write into host memory under a context's VF: endpoint, context, address, bytes. -/
  | hostWrite (endpoint ctx addr : Nat) (bytes : Bytes)
  /-- An MSI-X message: endpoint, context, vector. -/
  | msix (endpoint ctx vector : Nat)
  /-- A Yunov message in a DTLS session (R458). -/
  | yunov (session : Nat) (bytes : Bytes)
  /-- The Yunov response owed to a single write of a dictionary entry: session, index, subindex, STATUS (R458, R459). -/
  | entryReply (session index sub status : Nat)
  /-- The value served to a single read of a dictionary entry: session, index, subindex, bytes (R473). -/
  | entryRead (session index sub : Nat) (value : Bytes)
  /-- A handshake refused with alert access_denied (R453). -/
  | handshakeRefused
  /-- A clear-service datagram (R452). -/
  | clear (bytes : Bytes)
  /-- The reply of an SMBus transaction; none is a NACK (R467). -/
  | smbus (bytes : Option Bytes)
  /-- An Ethernet frame on sub-port 4n + k, from the destination address to the FCS: a Grixo packet in its encapsulation
  (R262), or an address-resolution request or reply (R261). -/
  | frame (lane : Nat) (bytes : Bytes)
  /-- A PTP Delay_Req on the port of reference 2 or 3 (R67). -/
  | delayReq (ref : Nat)
  /-- PPS_OUT pulse (R530). -/
  | ppsOut
  /-- A message on the dedicated lines between Burgee and a CP (R428): CP, kind, epoch. -/
  | leaseMessage (cp kind epoch : Nat)
  /-- A beacon with its epoch (R431). -/
  | beacon (epoch : Nat)
  deriving DecidableEq, Repr

end Sys2Proof.Machine
end

