-- ==== Sys2Proof/Machine/State/Keys.lean ====
section
/-!
DEFINITION. Machine/State/Keys.lean: key stores, the non-volatile key record, firmware images, measurements and the
alias statement (R340 to R385).
-/
namespace Sys2Proof.Machine

/-- A filled key-store slot: its attribute word (R347) and value. -/
structure KeySlot where
  hoist : Nat
  slot : Nat
  attr : BitVec 32
  value : Bytes
  deriving DecidableEq, Repr

/-- 0x4000.01 LIFECYCLE (R305, R382). -/
inductive Lifecycle where
  | blank | test | develop | production | return | scrapped
  deriving DecidableEq, Repr

/-- An enrolled operator credential (R454). -/
structure Credential where
  /-- 1 OBSERVER, 2 OPERATOR, 3 KEYHOLDER, 4 SERVICE. -/
  role : Nat
  cert : Bytes
  enrolledMs : Nat
  deriving DecidableEq, Repr

/-- One slot of the non-volatile key record (R362). -/
structure NvRecord where
  seq : Nat
  lifecycle : Nat
  /-- 0xFF none. -/
  pending : Nat
  tamperCount : Nat
  tamperCause : Nat
  /-- Eight entries. -/
  creds : List (Option Credential)
  idChain : Bytes
  deriving DecidableEq, Repr

/-- Header and body of one firmware slot (R367), as staged bytes. -/
structure FwSlot where
  bytes : Bytes
  deriving DecidableEq, Repr

/-- A Grixo key in use: the slot that holds K_G for a context on a Hoist (R353, R355). -/
structure GrixoKey where
  ctx : Nat
  hoist : Nat
  slot : Nat
  /-- The key that connections set up now take. -/
  current : Bool
  deriving DecidableEq, Repr

/-- A wrapped blob held in the control journal (R350, R352, R353). -/
structure Blob where
  ctx : Nat
  /-- 0 store key, 1 export key of a round, 2 imported Grixo key. -/
  use : Nat
  cohort : Nat
  round : Nat
  hoist : Nat
  bytes : Bytes
  deriving DecidableEq, Repr

structure Keys where
  slots : List KeySlot
  /-- Module memory salt salt_d and the DEVICE epoch (R345, R350). -/
  saltD : Bytes
  epochD : Nat
  grixo : List GrixoKey
  blobs : List Blob
  /-- Mask refreshes so far (R349); the mask never changes a value. -/
  maskEpoch : Nat
  /-- The lifecycle fuse counter (R379, R381). -/
  fuses : Lifecycle
  nvA : Option NvRecord
  nvB : Option NvRecord
  /-- 0x4000.03 NV_SLOT: false A, true B. -/
  nvSlotB : Bool
  /-- TAMPER_COUNT and TAMPER_CAUSE in AON memory (R361). -/
  tamperCount : Nat
  tamperCause : Nat
  /-- Module-wide count of teardowns (R336). -/
  teardownSeq : Nat
  /-- HBM pages of C0 to C3 retired from later assignment (R335). -/
  retiredPages : List Nat
  deriving DecidableEq, Repr

/-- The record of a new module: LIFECYCLE TEST, no pending transition, no credential (log entry 12). -/
def NvRecord.new : NvRecord := ⟨1, 1, 0xFF, 0, 0, List.replicate 8 none, []⟩

def Keys.reset : Keys :=
  { slots := [], saltD := [], epochD := 0, grixo := [], blobs := [], maskEpoch := 0, fuses := .test,
    nvA := some .new, nvB := none, nvSlotB := false, tamperCount := 0, tamperCause := 0, teardownSeq := 0,
    retiredPages := [0, 0, 0, 0] }

/-- Secure boot and attestation (R367 to R385). -/
structure Attest where
  /-- MR0 to MR5 of each Hoist; empty before they are written (R370). -/
  mr0 : List Bytes
  mr1 : List Bytes
  /-- Slots A and B of kinds 1 and 2 (R367). -/
  burgeeA : FwSlot
  burgeeB : FwSlot
  cpA : FwSlot
  cpB : FwSlot
  /-- 0x4100.03 BOOT_SLOTS. -/
  bootSlots : BitVec 8
  /-- Next OFFSET that a segment of each kind must reach, once its first segment has erased the slot (R383). -/
  stageNext : Option Nat × Option Nat
  /-- Measurement digest M, ALIAS_STATEMENT and the version fields of the running images. -/
  m : Bytes
  aliasStatement : Bytes
  burgeeSvn : Nat
  cpSvn : Nat
  burgeeBuild : Nat
  cpBuild : Nat
  deriving DecidableEq, Repr

/-- Slots A hold the images installed at manufacture (log entry 27). -/
def Attest.reset : Attest :=
  { mr0 := [], mr1 := [], burgeeA := ⟨Config.factoryImage 1⟩, burgeeB := ⟨[]⟩, cpA := ⟨Config.factoryImage 2⟩, cpB := ⟨[]⟩, bootSlots := 0,
    stageNext := (none, none), m := [], aliasStatement := [], burgeeSvn := 0, cpSvn := 0, burgeeBuild := 0,
    cpBuild := 0 }

end Sys2Proof.Machine
end

