-- ==== Sys2Proof/Machine/State/Lead.lean ====
section
/-!
DEFINITION. Machine/State/Lead.lean: the Jack, HOLD, the control journal, faults and die links (R428 to R450).
-/
namespace Sys2Proof.Machine

/-- What one control processor holds of the lease (R428, R429). -/
structure Cp where
  /-- The CP acts as leader. -/
  leads : Bool
  /-- The epoch it holds or last held. -/
  epoch : Nat
  /-- Its own expiry: instant of the last acknowledged renewal plus 990 ms, in ticks. -/
  expiry : Nat
  /-- Instant of the last renewal sent and not yet acknowledged. -/
  renewalSent : Option Nat
  /-- Last time its CP_LIVE line toggled, and last message that reached Burgee, in ticks. -/
  liveAt : Nat
  messageAt : Nat
  /-- It has requested the Jack since the last grant or loss. -/
  requested : Option Nat
  deriving DecidableEq, Repr

def Cp.reset : Cp := ⟨false, 0, 0, none, 0, 0, none⟩

/-- The kinds of a journal record with their bodies as bytes (R439). -/
structure JournalRecord where
  seq : Nat
  epoch : Nat
  /-- 1 to 15. -/
  kind : Nat
  context : Option Nat
  beat : Nat
  timeMs : Nat
  body : Bytes
  deriving DecidableEq, Repr

/-- The control journal (R438 to R441). -/
structure Journal where
  records : List JournalRecord
  /-- 0x5000.0A JOURNAL_SEQ. -/
  seq : Nat
  /-- 0x5000.09 JOURNAL_STATE: copies on C0 and C2 current. -/
  copyC0 : Bool
  copyC2 : Bool
  /-- SEQ that the follower has applied (R441). -/
  applied : Nat
  deriving DecidableEq, Repr

/-- A takeover in progress (R442). -/
structure Takeover where
  cp : Nat
  epoch : Nat
  /-- The grant is the first of its start. -/
  first : Bool
  deriving DecidableEq, Repr

/-- A die link: ends as die numbers of R34. -/
structure DieLink where
  a : Nat
  b : Nat
  down : Bool
  /-- Training failures since it went down. -/
  fails : Nat
  /-- IV session number drawn at the last training (R354). -/
  session : Nat
  replays : Nat
  deriving DecidableEq, Repr

structure Lead where
  /-- Lease registers in AON (R428): HOLDER, EPOCH, EXPIRY in ticks. -/
  holder : Option Nat
  epoch : Nat
  expiry : Nat
  cp0 : Cp
  cp1 : Cp
  /-- A NO_HOLDER has been sent since the last grant: later grants count as leader changes (R442). -/
  grantedThisStart : Bool
  takeover : Option Takeover
  /-- A handover has been accepted and waits for the window boundary at this beat (R432). -/
  handover : Option Nat
  /-- Epochs of R431: 4 sequencers, 6 maintenance controllers, 2 journal controllers, 2 SEC blocks, 2 forwarders. -/
  unitEpochs : List Nat
  /-- Time of the last beacon, in ticks. -/
  lastBeacon : Nat
  /-- HOLD: entry time in ticks. -/
  hold : Option Nat
  /-- In HOLD the first window boundary from which no lead is issued; afterwards the boundary at which it ended (R435,
  R437). -/
  holdBeat : Nat
  /-- HOLD was condemned to end at the next window boundary (R437). -/
  holdEnding : Bool
  /-- Burgee's HOLD condition of R429. -/
  burgeeHold : Bool
  /-- 0x5000.0C SPARE_STATE, one nibble per Canton. -/
  spareState : List Nat
  /-- Beat of the last tier 1 fault of each cluster, 64 entries (R444). -/
  lastFault : List (Option Nat)
  links : List DieLink
  deriving DecidableEq, Repr

/-- The thirteen die links in the order of LINK_REPLAYS (R482); Hoists are dies 4 and 5. -/
def Lead.linkPairs : List (Nat × Nat) :=
  [(0, 4), (1, 4), (2, 4), (3, 4), (0, 5), (1, 5), (2, 5), (3, 5), (0, 1), (1, 3), (2, 3), (0, 2), (4, 5)]

def Lead.reset : Lead :=
  { holder := none, epoch := 0, expiry := 0, cp0 := .reset, cp1 := .reset, grantedThisStart := false, takeover := none, handover := none,
    unitEpochs := List.replicate 16 0, lastBeacon := 0, hold := none, holdBeat := 0, holdEnding := false, burgeeHold := false,
    spareState := [15, 15, 15, 15], lastFault := List.replicate 64 none,
    links := linkPairs.map fun p => ⟨p.1, p.2, false, 0, 0, 0⟩ }

def Journal.reset : Journal := ⟨[], 0, true, true, 0⟩

end Sys2Proof.Machine
end

