-- ==== Sys2Proof/Machine/State/Recorder.lean ====
section
/-!
DEFINITION. Machine/State/Recorder.lean: the event recorder's state (R484 to R502).
-/
namespace Sys2Proof.Machine

/-- Severity of a record (R484, R486). -/
inductive Severity where
  | trace | event | notice | alarm
  deriving DecidableEq, Repr

/-- The holders of records (R486): the two Hoist buffers and the AON store. -/
inductive Writer where
  | h0 | h1 | aon
  deriving DecidableEq, Repr

/-- A 64-byte event record (R484); CRC and reserved bytes follow from the fields. -/
structure Record where
  /-- Sequence number; 0 until one is assigned, and in a LOST record. -/
  seq : Nat
  /-- STAMP[39:0], operating time in ms. -/
  stampMs : Nat
  /-- STAMP[63:40], POWER_CYCLES when formed. -/
  cycles : Nat
  code : Code
  /-- The reporting part under R34. -/
  source : BitVec 16
  severity : Severity
  summary : Bool
  aonHeld : Bool
  lane : Bool
  lost : Bool
  /-- 0 to 15, or none for a module record (0xFF). -/
  context : Option Nat
  payload : Bytes
  deriving DecidableEq, Repr

/-- Records lost for lack of a position, by severity, with the times of the first and last loss (R496). -/
structure LossCount where
  alarms : Nat
  events : Nat
  traces : Nat
  firstMs : Nat
  lastMs : Nat
  deriving DecidableEq, Repr

def LossCount.none : LossCount := ⟨0, 0, 0, 0, 0⟩

/-- One Hoist buffer of 4,096 positions (R491, R492, R496). -/
structure RecBuffer where
  /-- Stored records in ascending SEQ; a position stays occupied until its record is in flash. -/
  held : List Record
  /-- The numbers that the running flush programs. -/
  flushing : List Nat
  running : Bool
  /-- A condition of R492 has called for a flush that has not started. -/
  due : Bool
  /-- Buffer-only mode of R496. -/
  bufferOnly : Bool
  /-- Blocks in succession on which the running flush failed (R496). -/
  badBlocks : Nat
  loss : LossCount
  deriving DecidableEq, Repr

def RecBuffer.empty : RecBuffer := ⟨[], [], false, false, false, 0, LossCount.none⟩

/-- A token bucket below its full 64 tokens (R497); an absent bucket is full. -/
structure Bucket where
  writer : Writer
  code : Code
  tokens : Nat
  deriving DecidableEq, Repr

/-- The suppression account of one code at one writer (R497, R498). -/
structure Suppressed where
  writer : Writer
  code : Code
  severity : Severity
  /-- Records suppressed in the current second. -/
  count : Nat
  /-- Contexts that a suppressed record of the second named. -/
  contexts : BitVec 16
  moduleRecord : Bool
  firstMs : Nat
  lastMs : Nat
  firstSource : BitVec 16
  /-- Records of the code suppressed since the start, saturating. -/
  total : Nat
  deriving DecidableEq, Repr

/-- The event recorder. -/
structure Recorder where
  /-- The sequence counter in AON: the last number assigned (R487). -/
  counter : Nat
  /-- 0x1600.01 LAST_SEQ. -/
  lastSeq : Nat
  h0 : RecBuffer
  h1 : RecBuffer
  /-- The AON store of 64 records (R489). -/
  aon : List Record
  aonLoss : LossCount
  /-- The power-fail area of H0 (R493). -/
  powerFail : List Record
  /-- The fixed area: records 1 to 16,384 (R494). -/
  fixed : List Record
  /-- The circulating area (R495). -/
  circ : List Record
  /-- Blocks in the ring and its spares, and the fixed area's spares (R494 to R496). -/
  ringBlocks : Nat
  ringSpares : Nat
  fixedSpares : Nat
  buckets : List Bucket
  suppressed : List Suppressed
  /-- 0x1600.0D LAST_FLUSH, ms. -/
  lastFlushMs : Nat
  /-- The value acknowledged through ALERT_ACK, in AON memory (R480). -/
  acked : Nat
  /-- Highest number of an ALARM record assigned so far. -/
  lastAlarm : Nat
  /-- A LOST ALARM awaits its loss record (R500). -/
  lostPending : Bool
  /-- The flag that becomes RESET_CAUSE.FLUSHED (R493). -/
  flushed : Bool
  deriving DecidableEq, Repr

/-- After POWER-ON nothing is stored; flash contents are those of a new module. -/
def Recorder.reset : Recorder :=
  { counter := 0, lastSeq := 0, h0 := .empty, h1 := .empty, aon := [], aonLoss := .none, powerFail := [],
    fixed := [], circ := [], ringBlocks := 513, ringSpares := 8, fixedSpares := 2, buckets := [], suppressed := [],
    lastFlushMs := 0, acked := 0, lastAlarm := 0, lostPending := false, flushed := false }

end Sys2Proof.Machine
end

