-- ==== Sys2Proof/Machine/State/Mgmt.lean ====
section
/-!
DEFINITION. Machine/State/Mgmt.lean: the management protocol's sessions, approvals, credential and policy staging
(R451 to R469), and the persistent settings record (R462).
-/
namespace Sys2Proof.Machine

/-- A subscription to an entry with the value last evaluated (R464). -/
structure EntrySub where
  index : Nat
  sub : Nat
  value : Bytes
  deriving DecidableEq, Repr

/-- A DTLS session (R453, R457, R459, R464, R479). -/
structure Session where
  /-- Credential slot; none for a CLAIM session. -/
  slot : Option Nat
  /-- 0 CLAIM, 1 OBSERVER, 2 OPERATOR, 3 KEYHOLDER, 4 SERVICE. -/
  role : Nat
  /-- The client certificate. -/
  cert : Bytes
  /-- Time of the last message, ticks. -/
  lastMsg : Nat
  /-- Record subscription: 0 none, 4 ALARM only, 5 ALARM and EVENT. -/
  recordSub : Nat
  subs : List EntrySub
  /-- Session cursor of R479. -/
  cursor : Nat
  /-- Responses kept for 10 s: REQ_ID, time in ticks, response bytes (R459). -/
  kept : List (Nat × Nat × Bytes)
  notifySeq : Nat
  /-- Queue of 256 records and the time of the oldest (R500). -/
  queue : List Record
  queuedSince : Nat
  refused : Nat
  deriving DecidableEq, Repr

/-- A dual-controlled request awaiting its second approval (R463). -/
structure Approval where
  id : Nat
  /-- Credential slot of the initiator. -/
  initiator : Nat
  /-- Credential slots that have approved. -/
  approvedBy : List Nat
  /-- Deadline in ticks. -/
  deadline : Nat
  digest : Bytes
  index : Nat
  sub : Nat
  value : Bytes
  deriving DecidableEq, Repr

/-- A policy in force for a context (R465, R466). -/
structure Policy where
  object : Bytes
  digest : Bytes
  /-- After the substitution for 0. -/
  kmin : Nat
  deriving DecidableEq, Repr

def zeros16 : Bytes := List.replicate 16 0

/-- Management address entries and SESSION_IDLE (R469). -/
structure MgmtSettings where
  addr6 : Bytes
  addr4 : Nat
  gw6 : Bytes
  gw4 : Nat
  prefix6 : Nat
  prefix4 : Nat
  sessionIdle : Nat
  deriving DecidableEq, Repr

def MgmtSettings.default : MgmtSettings := ⟨zeros16, 0, zeros16, 0, 64, 24, 300⟩

structure Mgmt where
  /-- Eight session places. -/
  sessions : List (Option Session)
  approvals : List Approval
  nextApproval : Nat
  /-- Staged certificate bytes (R456). -/
  credStage : Bytes
  /-- Staged policy bytes per context (R466). -/
  policyStage : List Bytes
  /-- Outstanding nonce of the clear service: value and expiry in ticks (R462). -/
  nonce : Option (Bytes × Nat)
  /-- The DTLS service runs (R452). -/
  dtls : Bool
  /-- Addresses that the port uses, and writes that take effect at a time in ticks, oldest first (R451). -/
  inUse : MgmtSettings
  addrEffects : List (Nat × MgmtSettings)
  deriving DecidableEq, Repr

def Mgmt.reset : Mgmt :=
  { sessions := List.replicate 8 none, approvals := [], nextApproval := 1, credStage := [],
    policyStage := List.replicate 16 [], nonce := none, dtls := false, inUse := .default, addrEffects := [] }

end Sys2Proof.Machine
end

