-- ==== Sys2Proof/Machine/State/Plan.lean ====
section
/-!
DEFINITION. Machine/State/Plan.lean: the parts of a plan image (R85 to R108) and what the module holds of each
context's plan (R91, R111, R481).
-/
namespace Sys2Proof.Machine

/-- A stage-map entry (R87, R88). -/
structure StageEntry where
  enable : BitVec 8
  auMode : Nat
  upMode : Nat
  ksMode : Nat
  ksUnits : Nat
  rgMode : Nat
  tfMode : Nat
  acMode : Nat
  fnMode : Nat
  deriving DecidableEq, Repr

/-- A slot descriptor of 32 bytes (R93, R94). -/
structure Descriptor where
  opcode : Nat
  context : Nat
  span : Nat
  stageMap : Nat
  cohort : Nat
  format : Nat
  phase : Nat
  cursor : Nat
  srcRoute : Nat
  dstRoute : Nat
  keyGroup : Nat
  evalKey : Nat
  param0 : Nat
  sramOffset : Nat
  param1 : Nat
  deriving DecidableEq, Repr

/-- A cursor entry (R94). -/
structure CursorDef where
  kind : Nat
  cohort : Nat
  first : Nat
  count : Nat
  deriving DecidableEq, Repr

/-- One cluster's slot-table block: its cursors and its non-IDLE entries by entry number. -/
structure Block where
  cluster : Nat
  cursors : List CursorDef
  entries : List (Nat × Descriptor)
  deriving DecidableEq, Repr

/-- A route entry (R101, R102). -/
structure Route where
  src : Nat
  dst : Nat
  kind : Nat
  hops : Nat
  via : Nat
  rate : Nat
  deriving DecidableEq, Repr

/-- A memory-map region (R105). -/
structure Region where
  kind : Nat
  die : Nat
  cluster : Nat
  cohort : Nat
  base : Nat
  length : Nat
  deriving DecidableEq, Repr

/-- A cohort template of 128 bytes (R106). -/
structure Template where
  cohortId : Nat
  mode : Nat
  format : Nat
  prg : Nat
  role : Nat
  clientSlots : Nat
  tiles : Nat
  slotBase : Nat
  slotCount : Nat
  degree : Nat
  threshold : Nat
  headroom : Nat
  logN : Nat
  limbs : Nat
  special : Nat
  dnum : Nat
  committee : Nat
  decThreshold : Nat
  chain : Nat
  wS : Nat
  lwrLambda : Nat
  wR : Nat
  lwrR : Nat
  plaintextMod : Nat
  publicSeed : Bytes
  graphSeed : Bytes
  rootSerial : Nat
  deriving DecidableEq, Repr

/-- A modulus chain: data primes, then special primes (R107). -/
structure Chain where
  data : List Nat
  special : List Nat
  deriving DecidableEq, Repr

/-- A noise-table entry (R108). -/
structure NoiseEntry where
  opcode : Nat
  logN : Nat
  level : Nat
  rule : Nat
  growth : Nat
  deriving DecidableEq, Repr

/-- The policy-binding section. -/
structure PolicyBinding where
  policyDigest : Bytes
  aggKeyDigest : Bytes
  kmin : Nat
  noiseRequired : Bool
  rootPlanDigest : Bytes
  deriving DecidableEq, Repr

/-- The cost section (R108). -/
structure PlanCost where
  level : Nat
  powerClass : Nat
  windowsPerRound : Nat
  hbmBytes : Nat
  deriving DecidableEq, Repr

/-- A plan image, section by section. -/
structure PlanImage where
  planId : Nat
  compilerBuild : Nat
  stages : List StageEntry
  blocks : List Block
  routes : List Route
  regions : List Region
  templates : List Template
  chains : List Chain
  binding : PolicyBinding
  noiseMargin : Nat
  noise : List NoiseEntry
  /-- ELIGIBLE masks of C0 to C3. -/
  eligible : List Nat
  cost : PlanCost
  deriving DecidableEq, Repr

/-- PLAN_STATE of a context (R111). -/
inductive PlanState where
  | none | checking | loaded | running | unloading
  deriving DecidableEq, Repr

/-- What the module holds of one context's plan. -/
structure PlanSlot where
  state : PlanState
  image : Option PlanImage
  /-- Plan digest (R103). -/
  digest : Bytes
  /-- BEAT_COUNT at which its entries were loaded; the start is the first loop boundary a window later (R91). -/
  loadedBeat : Nat
  /-- A takeover or HOLD ended here and delays the start (R110). -/
  startAfter : Nat
  /-- 0x3200.02 PLAN_START. -/
  startBeat : Nat
  /-- LENGTH of the submission being checked. -/
  submitLength : Nat
  /-- An accepted unload waits for its loop boundary. -/
  unloadAccepted : Option Nat
  /-- 0x3200.06 LAST_REJECT: code and byte offset. -/
  lastReject : Code × Nat
  /-- Last round number of each cohort of the plan (R37), by template index. -/
  lastRound : List (Nat × Nat)
  deriving DecidableEq, Repr

def PlanSlot.reset : PlanSlot :=
  { state := .none, image := none, digest := List.replicate 48 0, loadedBeat := 0, startAfter := 0, startBeat := 0,
    submitLength := 0, unloadAccepted := none, lastReject := (0, 0), lastRound := [] }

/-- Owner bit of a cluster (R26). -/
inductive Owner where
  | service | maintenance
  deriving DecidableEq, Repr

/-- A span being run by a cluster: context, block position, lead entry, beats issued and its descriptor (R93). -/
structure RunningSpan where
  ctx : Nat
  lead : Nat
  beats : Nat
  desc : Descriptor
  /-- The slot runs on dummy operands (R94). -/
  dummy : Bool
  /-- The opcode's work has been done. -/
  done : Bool
  /-- The key header that the sequencer read with the descriptor (R216); empty where the opcode takes no key. -/
  key : Bytes
  deriving DecidableEq, Repr

/-- What a fill placed in one staging buffer (R130, R131): the record or queue entry, and whether its tag held. -/
structure Staged where
  /-- Identity of the record within its bin, or of the frame within the secret queue. -/
  record : Nat
  ok : Bool
  /-- Plaintext, when the tag held. -/
  plain : Bytes
  header : Bytes
  deriving DecidableEq, Repr

/-- A filled staging bank for the entry of the next beat. -/
structure Bank where
  ctx : Nat
  cohort : Nat
  entry : Nat
  secret : Bool
  cursor : Nat
  tileSet : Nat
  buffers : List (Option Staged)
  deriving DecidableEq, Repr

/-- One cluster (R18, R26 to R28, R92, R154). -/
structure Cluster where
  owner : Owner
  /-- A requested owner-bit change and the BEAT_COUNT of its acceptance (R27). -/
  request : Option (Owner × Nat)
  selfTestPassed : Bool
  tableLoaded : Bool
  failed : Bool
  /-- The spare is marked unavailable (R395, R444). -/
  unavailable : Bool
  /-- Block position (0 to 59) that the cluster serves; none for a spare that stands by. -/
  position : Option Nat
  /-- The entry read during the running beat for the next one: its beat, and context and descriptor unless it is IDLE
  (R92). -/
  ahead : Option (Nat × Option (Nat × Descriptor))
  /-- The evaluation-key header read with that entry (R216). -/
  aheadKey : Bytes
  span : Option RunningSpan
  /-- The two staging banks, the one being drawn from first. -/
  banks : List Bank
  /-- A takeover waits: the fault's window (R154). -/
  takeoverWindow : Option Nat
  deriving DecidableEq, Repr

/-- After power-up and every Canton reset: MAINTENANCE (R28). -/
def Cluster.reset (canton k : Nat) : Cluster :=
  { owner := .maintenance, request := none, selfTestPassed := false, tableLoaded := false, failed := false,
    unavailable := false, position := if k < 15 then some (15 * canton + k) else none, ahead := none,
    aheadKey := [], span := none, banks := [], takeoverWindow := none }

def clustersReset : List Cluster :=
  (List.range 64).map fun i => Cluster.reset (i / 16) (i % 16)

end Sys2Proof.Machine
end

