-- ==== Sys2Proof/Machine/State/Power.lean ====
section
/-!
DEFINITION. Machine/State/Power.lean: start-up, reset, power domains, furl, emergencies, sensors and the reserve pack
(R386 to R427, R513 to R536, R540).
-/
namespace Sys2Proof.Machine

/-- Start-up and reset (R386 to R404). -/
structure Startup where
  /-- Instant t0 of the running start, in ticks; none before a cold start qualifies. -/
  t0 : Option Nat
  /-- 0x1400.10 START_STAGE: last stage completed, 0 A to 3 D; none 0xFF. -/
  stage : Option Nat
  /-- Completion of the previous stage, in ticks: the start of the running one. -/
  stageStart : Nat
  /-- 0x1400.12 STAGE_TIMES, ms. -/
  stageTimes : List Nat
  /-- Instant at which stage C of this start completed, in ticks (R71). -/
  stageCAt : Nat
  /-- 0x1400.11 RESET_CAUSE. -/
  resetCause : BitVec 32
  /-- Kind and cause of the start in progress, held until stage A writes RESET_CAUSE. -/
  kind : Nat
  cause : Nat
  wakeSource : Nat
  retry : Bool
  /-- Consecutive missed deadlines, in AON memory (R388). -/
  misses : Nat
  /-- Start-up is stopped under a rule (R388): the stage at which. -/
  stopped : Option Nat
  /-- Next domain of the bring-up order to enable (R389). -/
  nextDomain : Nat
  /-- 0x1400.16 DIE_STATE: C0 to C3, H0, H1; 0 OFF, 1 STARTING, 2 READY, 3 FAILED. -/
  dieState : List Nat
  /-- 0x1400.17 START_SUBSTITUTED, one nibble per Canton. -/
  substituted : List Nat
  /-- Cantons whose stage C steps are complete since they were last powered (R406). -/
  cantonReady : List Bool
  /-- CP firmware runs on each Hoist (R452, R489). -/
  cpRuns : Bool × Bool
  /-- The Halyard-derived clocks are switched in; the Halyard PLL, in AON, has locked to the TCXO (R65, R393). -/
  clocksSwitched : Bool
  pllLocked : Bool
  /-- Endpoints that still answer with Request Retry Status (R306). -/
  retryStatus : Bool × Bool
  /-- PERST_N inputs asserted, WAKE_N outputs asserted with the time of assertion (R401, R402). -/
  perst : Bool × Bool
  wakeN : Option Nat × Option Nat
  /-- HOIST and CANTON resets in progress. -/
  hoistReset : Bool × Bool
  cantonReset : List Bool
  deriving DecidableEq, Repr

/-- Right after POWER-ON is applied, before t0: nothing has started, both PERST_N pins read asserted (R531). -/
def Startup.reset : Startup :=
  { t0 := none, stage := none, stageStart := 0, stageTimes := [0, 0, 0, 0], stageCAt := 0, resetCause := 0, kind := 1, cause := 1,
    wakeSource := 0, retry := false, misses := 0, stopped := none, nextDomain := 0, dieState := [0, 0, 0, 0, 0, 0],
    substituted := [15, 15, 15, 15], cantonReady := [false, false, false, false], cpRuns := (false, false),
    clocksSwitched := false, pllLocked := false, retryStatus := (true, true), perst := (true, true),
    wakeN := (none, none), hoistReset := (false, false), cantonReset := [false, false, false, false] }

/-- A furl entry in quiescence (R415). -/
structure FurlEntry where
  target : Nat
  /-- Domain bits still to answer, in the order asked. -/
  remaining : List Nat
  /-- Domain bits that have answered READY, last first. -/
  ready : List Nat
  deriving DecidableEq, Repr

/-- Power domains, levels, emergencies, trips and furl (R405 to R427). -/
structure Power where
  /-- 0x1300.0D DOMAIN_STATE: powered and in regulation, by the bit numbers of R405. -/
  powered : BitVec 24
  regulated : BitVec 24
  /-- 0x1300.0E PAD_LATCHED. -/
  latched : BitVec 24
  /-- 0x1300.09 FURL_INHIBIT. -/
  inhibit : Bool
  /-- 0x1300.0C WAKE_AT in ms; 0 none. -/
  wakeAt : Nat
  /-- Start of the idle interval in ticks; none while a claim or hold is in force (R413). -/
  idleSince : Option Nat
  /-- The furl level the module is in: 0 F0 to 3 F3. -/
  furl : Nat
  entry : Option FurlEntry
  /-- The furl record in AON: the entry is past its commit point (R416). -/
  committed : Option Nat
  /-- Time of the last refusal, and its target: the retry of R417. -/
  retryAt : Option (Nat × Nat)
  /-- Wake sources latched after a commit (R418). -/
  latchedWakes : List Nat
  /-- A wake is in progress, with its source. -/
  waking : Option Nat
  /-- t0 of a WAKE-F1, in ticks (R386). -/
  wakeT0 : Nat
  /-- 0x1400.04 EMERGENCY. -/
  emergencyThermal : Bool
  emergencyElectrical : Bool
  /-- Since when the clearing conditions of R409 hold. -/
  tripped : Bool
  /-- Operating times of the trips, ms, newest first (R411). -/
  trips : List Nat
  /-- A rail ramp has started for the pending upward change (R407). -/
  ramping : Bool
  /-- The core rail stands at the target of this level. -/
  railLevel : Nat
  deriving DecidableEq, Repr

def Power.reset : Power :=
  { powered := 0, regulated := 0, latched := 0xFFFFFF, inhibit := false, wakeAt := 0, idleSince := none, furl := 0,
    entry := none, committed := none, retryAt := none, latchedWakes := [], waking := none, wakeT0 := 0,
    emergencyThermal := false, emergencyElectrical := false, tripped := false, trips := [], ramping := false,
    railLevel := 0 }

/-- The values that Burgee's sensors publish (R332, R427, R482). -/
structure Sensors where
  /-- 0x1400.01 DIE_TEMP: C0 to C3, H0, H1; −128 unpowered. -/
  dieTemp : List Int
  inlet : Int
  /-- 0.01 L/min. -/
  flow : Nat
  /-- 0x1300.10 INPUT_POWER, W. -/
  inputPower : Nat
  /-- 0x6000.12 and 0x6000.13, oldest first. -/
  powerLog : List Nat
  tempLog : List Int
  deriving DecidableEq, Repr

def Sensors.reset : Sensors :=
  { dieTemp := List.replicate 6 (-128), inlet := 0, flow := 0, inputPower := 0, powerLog := List.replicate 60 0,
    tempLog := List.replicate 60 (-128) }

/-- The header of the pack EEPROM (R514). -/
structure PackHeader where
  serial : Bytes
  date : Nat
  ratedCap : Nat
  discharges : Nat
  serviceHours : Nat
  logNext : Nat
  deriving DecidableEq, Repr

/-- The reserve pack as Burgee sees it (R478, R513 to R520). -/
structure Pack where
  present : Bool
  /-- The EEPROM header, when a valid copy could be read. -/
  header : Option PackHeader
  /-- Capacitance log: SERVICE_HOURS and MEASURED_CAP, 32 entries. -/
  capLog : List (Nat × Nat)
  /-- 0x1500.01: 0 ABSENT, 1 HEALTHY, 2 END_OF_LIFE, 3 FAULT. -/
  packState : Nat
  measuredCap : Nat
  holdupMj : Nat
  eolCause : BitVec 8
  lastMeasuredMs : Nat
  /-- Insertion time awaiting its measurement, in ticks. -/
  measureAt : Option Nat
  /-- A hold-up sequence runs since this time, ms (R518), with the pack voltage at the warning, mV. -/
  holdup : Option (Nat × Nat)
  /-- The previous power-down ended with record 0x0570_0006. -/
  powerFailRecord : Bool
  deriving DecidableEq, Repr

def Pack.reset : Pack :=
  { present := false, header := none, capLog := List.replicate 32 (0, 0), packState := 0, measuredCap := 0,
    holdupMj := 0, eolCause := 0, lastMeasuredMs := 0, measureAt := none, holdup := none, powerFailRecord := false }

end Sys2Proof.Machine
end

