-- ==== Sys2Proof/Machine/State/Round.lean ====
section
/-!
DEFINITION. Machine/State/Round.lean: what the module holds of one round: intake, accumulation, mask removal, ring
tiles, finish and release (R36 to R64, R113 to R256).
-/
namespace Sys2Proof.Machine

/-- States of a round; `opening` is an accepted ROUND_OPEN before its boundary. -/
inductive RoundState where
  | opening | open | closed | unmasking | finished | released | abandoned
  deriving DecidableEq, Repr

/-- A session-table entry, with its validity (R119); `stored = false` while the SESSION frame is being processed. -/
structure RoundSession where
  role : Nat
  slot : Nat
  key : Bytes
  enc : Bytes
  stored : Bool
  conn : Nat
  frame : Bytes
  deriving DecidableEq, Repr

/-- A frame that passed R120 (or waits for its session) and still lies in the landing buffer (R120, R125). -/
structure WaitFrame where
  conn : Nat
  arrival : Nat
  bytes : Bytes
  /-- Passed check 10 only because its session is being processed. -/
  held : Bool
  deriving DecidableEq, Repr

/-- A tile-bin record with its descriptor (R127); the payload is what the record holds. -/
structure BinRecord where
  header : Bytes
  tag : Bytes
  conn : Nat
  arrival : Nat
  first : Bool
  last : Bool
  peer : Bool
  skip : Bool
  cont : Bool
  records : Nat
  payload : Bytes
  deriving DecidableEq, Repr

/-- A commit record (R146). -/
structure CommitRec where
  seq : Nat
  tile : Nat
  cluster : Nat
  /-- 0 FREE, 1 PREPARED, 2 APPLIED. -/
  state : Nat
  newSel : Nat
  markFrom : Nat
  cut : Nat
  added : Nat
  nextGroup : Nat
  /-- The record is that of a fold (R182). -/
  fold : Bool
  /-- The beat and the slot-table entry of its COMMIT. -/
  beat : Nat
  entry : Nat
  deriving DecidableEq, Repr

def CommitRec.free : CommitRec := ⟨0, 0, 0, 0, 0, 0, 0, 0, 0, false, 0, 0⟩

/-- A tile set at one owner (R139 to R146). Heads count records from 0; `headWord` of Flags gives their register form.
A tile's elements are one list; `[]` is a buffer of zeros. `cursor` is the owner's first range cursor that covers the
set. -/
structure OwnerSet where
  /-- Block position of the owner. -/
  position : Nat
  cursor : Nat
  set : Nat
  active : List (List Nat)
  activeCount : Nat
  taint : Bool
  shadow : List (List Nat)
  /-- The set has one buffer only, which is the drain's source (R139, R142). -/
  single : Bool
  /-- The ledger-merge buffer: ledger sections of the PEER records taken since MARK, by record number (R132). -/
  sections : List (Nat × Bytes)
  /-- Records from RELEASE on. -/
  bin : List BinRecord
  capacity : Nat
  write : Nat
  read : Nat
  mark : Nat
  release : Nat
  commit : CommitRec
  deriving DecidableEq, Repr

/-- The tile record and committed copies of a tile set (R145), and its unmask record (R181). -/
structure TileSet where
  sel : Nat
  lock : Bool
  count : Nat
  commits : Nat
  lastSeq : Nat
  copyA : List (List Nat)
  copyB : List (List Nat)
  /-- 0 MASKED, 1 FOLDED, 2 VOID. -/
  unmask : Nat
  cause : Nat
  foldSeq : Nat
  /-- A data fault beyond replay reached an accumulator tile of the set (R213). -/
  dataFault : Bool
  /-- Committed copies that an uncorrectable error was met in since they were written: bit 0 copy A, bit 1 copy B (R151,
  R445). -/
  copyErrors : Nat
  deriving DecidableEq, Repr

def TileSet.zero : TileSet := ⟨0, false, 0, 0, 0, [], [], 0, 0, 0, false, 0⟩

/-- Position of one cursor at one cluster: residency group and position for range cursors, items consumed for work
lists, items built (R140, R141, R178, R200, R249). -/
structure CursorPos where
  position : Nat
  cursor : Nat
  group : Nat
  pos : Nat
  deriving DecidableEq, Repr

/-- A secret record (R163). States: 0 NONE, 1 COLLECTING, 2 READY, 3 HELD, 4 FAILED. -/
structure SecretRec where
  stateSelf : Nat
  stateKey : Nat
  request : Nat
  sharesSelf : Nat
  sharesKey : Nat
  selfSeed : Bytes
  privateKey : Bytes
  publicKey : Bytes
  /-- The reconstruction is queued on the SHAMIR list. -/
  queuedSelf : Bool
  queuedKey : Bool
  deriving DecidableEq, Repr

def SecretRec.new : SecretRec := ⟨0, 0, 0, 0, 0, [], [], [], false, false⟩

/-- A share entry (R163): sub 1 self seed, 2 private key. -/
structure Share where
  owner : Nat
  holder : Nat
  sub : Nat
  value : Bytes
  deriving DecidableEq, Repr

/-- A pairwise seed record (R177): dropped slot, survivor, seed. -/
structure PairRec where
  dropped : Nat
  survivor : Nat
  seed : Bytes
  deriving DecidableEq, Repr

/-- A work-list item of 16 bytes (R178, R231). -/
structure Item where
  tile : Nat
  kind : Nat
  slot : Nat
  peer : Nat
  /-- SIGN for PAIR, private key for SHAMIR. -/
  flag : Bool
  /-- MEMBERS of DECRYPT. -/
  members : Nat
  block : Nat
  deriving DecidableEq, Repr

/-- The kinds of removal list of a cluster. -/
inductive ListKind where
  | shamir | self | pair | seedAcc | lwr | dsComb
  deriving DecidableEq, Repr

/-- One work list of a cluster: the items the builder has appended, how many its cursor consumed and whether the
builder has ended (R178, R179, R182, R187, R231). -/
structure WorkList where
  position : Nat
  kind : ListKind
  items : List Item
  consumed : Nat
  built : Bool
  deriving DecidableEq, Repr

/-- A ciphertext header (R212), field by field. -/
structure CtHeader where
  logN : Nat
  chain : Nat
  level : Nat
  /-- Bit 0 coefficient form, bit 1 three components. -/
  form : Nat
  /-- 0 VALID, 1 SPENT, 2 VOID. -/
  status : Nat
  cause : Nat
  causeOpcode : Nat
  exported : Bool
  decoded : Bool
  keyId : Nat
  noise : Nat
  cohortId : Nat
  tile : Nat
  plaintextMod : Nat
  deriving DecidableEq, Repr

/-- One ring tile: AGG, OUT once it is written, and CT_STORE contents limb-major as R192 lays them out. -/
structure RingTile where
  agg : CtHeader
  out : Option CtHeader
  /-- Limbs, each a list of components, each N residues. -/
  store : List (List (List Nat))
  /-- Replays of this item after a data fault (R210). -/
  faults : Nat
  /-- Descriptor entries whose VOID or SPENT code was written (R219). -/
  reported : List Nat
  deriving DecidableEq, Repr

/-- The working copy of a ring sequence at one cluster (R201, R211). -/
structure WorkingCopy where
  position : Nat
  cursor : Nat
  /-- Ring tile staged in. -/
  tile : Nat
  header : CtHeader
  limbs : List (List (List Nat))
  /-- Descriptors of the repetition done so far. -/
  step : Nat
  /-- C1OUT sealed in this repetition. -/
  sealed : Bool
  /-- The stage-in ended before the repetition's lead (R201): the repetition runs on real operands. -/
  real : Bool
  deriving DecidableEq, Repr

/-- A DSHARE entry: member, export tile index, block, 512 residues (R230). -/
structure DShare where
  member : Nat
  tile : Nat
  block : Nat
  residues : List Nat
  deriving DecidableEq, Repr

/-- A Lagrange block: the member set and, per limb, the constants in member order and Montgomery form (R231). -/
structure LagrangeBlock where
  members : Nat
  constants : List (List Nat)
  deriving DecidableEq, Repr

/-- A finish record (R250). STATE 0 NONE, 1 DONE, 2 VOID-RANGE, 3 VOID, 4 SPENT. -/
structure FinishRec where
  state : Nat
  scale : Int
  attempt : Nat
  noise : Bool
  /-- Output bytes in the finish area. -/
  output : Bytes
  faults : Nat
  deriving DecidableEq, Repr

def FinishRec.none : FinishRec := ⟨0, 0, 0, false, [], 0⟩

/-- A finish item whose term records are filled, or whose output waits for its write-back (R249, R250). -/
structure FinishItem where
  position : Nat
  cursor : Nat
  core : Nat
  tile : Nat
  /-- Stored elements of each term's input tile. -/
  terms : List (List Nat)
  /-- Noise record of the item. -/
  noise : List Int
  /-- Heads of the core's term FIFO, counted in records from the item's first one (R248). -/
  mark : Nat
  read : Nat
  /-- An entropy failure struck the running item: the first attempt that adds no noise (R256). -/
  cut : Option Nat
  result : Option FinishRec
  deriving DecidableEq, Repr

/-- A PEER frame to send or send again (R156). -/
structure PeerSend where
  position : Nat
  cursor : Nat
  tile : Nat
  deriving DecidableEq, Repr

/-- The mask-removal side of a round. -/
structure RoundMask where
  secrets : List SecretRec
  shares : List Share
  pairs : List PairRec
  /-- Sum-seed seed vectors by slot. -/
  seeds : List (Nat × List Nat)
  /-- Base sums by block position; partial sums by tile (R187). -/
  baseSums : List (Nat × List Nat)
  partSums : List (Nat × List Nat)
  /-- Recomputations owed: dropped slot, survivor (R177). -/
  recompute : List (Nat × Nat)
  lists : List WorkList
  selfStarted : Bool
  pairStarted : Bool
  seedStarted : Bool
  lwrStarted : Bool
  requestPublished : Bool
  /-- Predecessor of the next item of each list (R180), by position and kind. -/
  lastItem : List (Nat × ListKind × Item)
  deriving DecidableEq, Repr

def RoundMask.empty : RoundMask :=
  { secrets := [], shares := [], pairs := [], seeds := [], baseSums := [], partSums := [], recompute := [],
    lists := [], selfStarted := false, pairStarted := false, seedStarted := false, lwrStarted := false,
    requestPublished := false, lastItem := [] }

/-- The ring side of a round. -/
structure RoundRing where
  tiles : List RingTile
  working : List WorkingCopy
  /-- Export messages by export tile index: header, payload and tag (R227, R228). -/
  exports : List (Nat × Bytes)
  exportBlock : Bool
  shares : List DShare
  blocks : List LagrangeBlock
  deriving DecidableEq, Repr

def RoundRing.empty : RoundRing := ⟨[], [], [], false, [], []⟩

/-- Intake of a round (R113 to R134). -/
structure RoundIntake where
  sessions : List RoundSession
  waiting : List WaitFrame
  /-- SEED, SHARE and DSHARE frames in arrival order, until a SECRETIN has stored them. -/
  secretQueue : List WaitFrame
  /-- Pending bits and ledger bits, (slot, tile). -/
  pending : List (Nat × Nat)
  ledger : List (Nat × Nat)
  /-- Peer bits, (leaf SLOT_BASE, tile set) (R157). -/
  peerBits : List (Nat × Nat)
  deriving DecidableEq, Repr

def RoundIntake.empty : RoundIntake := ⟨[], [], [], [], [], []⟩

/-- A round of a cohort (R36). -/
structure Round where
  ctx : Nat
  template : Nat
  cohortId : Nat
  number : Nat
  state : RoundState
  /-- BEAT_COUNT of the accepted open, of the opening boundary and of the close boundary. -/
  acceptedBeat : Nat
  openBeat : Nat
  closeBeat : Nat
  closeAccepted : Bool
  /-- Windows counted toward W_r and W_s, HOLD windows excluded (R435). -/
  openWindows : Nat
  closedWindows : Nat
  /-- K_min, NOISE_REQUIRED and the digests attested at the opening (R62, R63). -/
  kmin : Nat
  noiseRequired : Bool
  planDigest : Bytes
  policyDigest : Bytes
  policyObject : Bytes
  inputKeyId : Nat
  saltR : Bytes
  /-- Round private key of the open round (R117, R345); its store and export keys lie in key slots (R162, R226). -/
  roundKey : Bytes
  /-- Key-store slots of the round on both Hoists, reserved ones included: Hoist and slot (R330). -/
  slots : List (Nat × Nat)
  frozen : Bool
  /-- BEAT_COUNT at the freeze. -/
  frozenBeat : Nat
  /-- Root accepted under R378: its public key; `none` before. -/
  root : Option Bytes
  /-- Frame key of the leaf's ROLE 2 session with the root and its enc (R378). -/
  rootKey : Bytes
  rootConn : Nat
  rootEnc : Bytes
  /-- Next SEQ of the cohort's commits (R146). -/
  nextSeq : Nat
  /-- Chunks committed, and as of the last window boundary (R315). -/
  chunks : Nat
  chunksShown : Nat
  intake : RoundIntake
  sets : List TileSet
  owners : List OwnerSet
  cursors : List CursorPos
  mask : RoundMask
  ring : RoundRing
  /-- PEER frames asked for again (R156). -/
  peerAgain : List PeerSend
  finishPhase : Bool
  finishRecs : List FinishRec
  finishItems : List FinishItem
  /-- BEAT_COUNT at the release point; the delivery runs until it ends. -/
  releaseBeat : Nat
  delivering : Bool
  delivered : Bool
  /-- CMD_ID, VF of the ROUND_RELEASE command whose completion waits for delivery. -/
  releaseCmd : Option Nat
  deriving DecidableEq, Repr

/-- One CTR_DRBG instance of a core's FN (R241). -/
structure Drbg where
  key : Bytes
  v : Bytes
  /-- Generate requests since the last seed. -/
  requests : Nat
  instantiated : Bool
  error : Bool
  deriving DecidableEq, Repr

def Drbg.reset : Drbg := ⟨[], [], 0, false, false⟩

end Sys2Proof.Machine
end

