-- ==== Sys2Proof/Machine/State/Settings.lean ====
section
/-!
DEFINITION. Machine/State/Settings.lean: the settings record, which holds every dictionary entry marked P (R462),
with the defaults of the chapters' entry tables (R474).
-/
namespace Sys2Proof.Machine

/-- Address and port entries of 0x2000 and the reliability entries of 0x2100 (R277, R278). -/
structure PortSettings where
  /-- 0x2000.01 PORT_ENABLE. -/
  enable : BitVec 16
  /-- 0x2000.02 PORT_MODE. -/
  mode : BitVec 32
  udpPort : Nat
  addr6 : Bytes × Bytes
  addr4 : Nat × Nat
  gw6 : Bytes × Bytes
  gw4 : Nat × Nat
  dscpData : Nat
  dscpCtrl : Nat
  rtoUs : Nat
  retxLimit : Nat
  ackDelayNs : Nat
  ackPackets : Nat
  pathLossLimit : Nat
  pathHoldUs : Nat
  deriving DecidableEq, Repr

def PortSettings.default : PortSettings :=
  { enable := 0xFFFF, mode := 0, udpPort := 47400, addr6 := (zeros16, zeros16), addr4 := (0, 0),
    gw6 := (zeros16, zeros16), gw4 := (0, 0), dscpData := 0, dscpCtrl := 0, rtoUs := 40, retxLimit := 8,
    ackDelayNs := 4000, ackPackets := 64, pathLossLimit := 8, pathHoldUs := 1000 }

/-- Every P entry. -/
structure Settings where
  hal : HalSettings
  allowFreeRun : Bool
  halyardOut : Bool
  mgmt : MgmtSettings
  /-- T_F1 to T_F3 in s (R413). -/
  tF1 : Nat
  tF2 : Nat
  tF3 : Nat
  powerClassLimit : Nat
  /-- 0x1300.12 FURL_COUNTS. -/
  furlCounts : List Nat
  emergencyCount : Nat
  tripCount : Nat
  powerCycles : Nat
  moduleResets : Nat
  suppressedTotal : Nat
  traceDropped : Nat
  traceEnable : Bool
  flushes : Nat
  ports : PortSettings
  /-- 0x2200.03 and .04 DMA_SLOT_MAP. -/
  dmaMap : BitVec 64 × BitVec 64
  /-- 0x3000 to 0x300F. -/
  ctx : List CtxEntries
  /-- Policies in force per context (0x3100.03 and .04). -/
  policies : List (Option Policy)
  holdCount : Nat
  leaderChanges : Nat
  leaderPreference : Nat
  holdLimit : Nat
  /-- 0x5000.0E FAULT_COUNTS, tiers 1 to 4. -/
  faultCounts : List Nat
  deriving DecidableEq, Repr

def Settings.default : Settings :=
  { hal := .default, allowFreeRun := false, halyardOut := true, mgmt := .default, tF1 := 30, tF2 := 600, tF3 := 0,
    powerClassLimit := 3, furlCounts := [0, 0, 0], emergencyCount := 0, tripCount := 0, powerCycles := 0,
    moduleResets := 0, suppressedTotal := 0, traceDropped := 0, traceEnable := false, flushes := 0, ports := .default,
    dmaMap := (0xFEDCBA9876543210, 0xFEDCBA9876543210), ctx := List.replicate 16 .default,
    policies := List.replicate 16 none, holdCount := 0, leaderChanges := 0, leaderPreference := 0, holdLimit := 0,
    faultCounts := [0, 0, 0, 0] }

/-- One slot of the settings record in flash. -/
structure SettingsSlot where
  seq : Nat
  valid : Bool
  values : Settings
  deriving DecidableEq, Repr

end Sys2Proof.Machine
end

