-- ==== Sys2Proof/Machine/State/Stats.lean ====
section
/-!
DEFINITION. Machine/State/Stats.lean: the module-wide counts behind 0x6000.11 MODULE_COUNTERS (R482) that no other part
of the state holds, and the snapshot that reads of it return.
-/
namespace Sys2Proof.Machine

/-- The counts of MODULE_COUNTERS at one instant. -/
structure ModuleCounts where
  /-- 64 sub-ports, at 4n + k. -/
  drops : List Nat
  /-- 16 ports. -/
  fec : List Nat
  /-- Four Cantons. -/
  hbmEcc : List Nat
  sramEcc : List Nat
  /-- Thirteen die links. -/
  replays : List Nat
  intakeRejects : Nat
  deriving DecidableEq, Repr

def ModuleCounts.zero : ModuleCounts :=
  { drops := List.replicate 64 0, fec := List.replicate 16 0, hbmEcc := [0, 0, 0, 0], sramEcc := [0, 0, 0, 0],
    replays := List.replicate 13 0, intakeRejects := 0 }

structure Stats where
  /-- Uncorrectable RS codewords per port (R260). -/
  fec : List Nat
  /-- Corrected HBM and SRAM errors per Canton (R22). -/
  hbmEcc : List Nat
  sramEcc : List Nat
  /-- Frames rejected under R120 over all contexts. -/
  intakeRejects : Nat
  shown : ModuleCounts
  seq : Nat
  window : Nat
  deriving DecidableEq, Repr

def Stats.reset : Stats :=
  { fec := List.replicate 16 0, hbmEcc := [0, 0, 0, 0], sramEcc := [0, 0, 0, 0], intakeRejects := 0,
    shown := .zero, seq := 0, window := 0 }

end Sys2Proof.Machine
end

