-- ==== Sys2Proof/Machine/State.lean ====
section
/-!
DEFINITION. Machine/State.lean: the whole state of the block, the machine right after power is applied, and the reasons
for which a command may stop.
-/
namespace Sys2Proof.Machine

/-- Faults: none. Every command of the block ends in a next state; a rejected command is a next state that records the
code the spec gives (safe: nothing stops). -/
inductive Fault where
  deriving DecidableEq, Repr

/-- Refusals. -/
inductive Refusal where
  /-- Raised by an arm of `exec` whose command has no meaning yet (safe: nothing is claimed of it). -/
  | notModelled (mnemonic : String)
  deriving DecidableEq, Repr

/-- The state of the block. -/
structure State where
  /-- The AON operating-time counter in ticks of 1/42 µs (R82): a beat is a whole number of ticks at every level. -/
  aon : Nat
  /-- The settings record in use (R462) and its two flash slots; `slotB` names the slot last written. -/
  set : Settings
  setA : Option SettingsSlot
  setB : Option SettingsSlot
  slotB : Bool
  recorder : Recorder
  hal : Halyard
  start : Startup
  power : Power
  sensors : Sensors
  pack : Pack
  keys : Keys
  att : Attest
  lead : Lead
  journal : Journal
  mgmt : Mgmt
  host : HostIf
  /-- Sixteen contexts. -/
  ctxs : List Ctx
  /-- Plan of each context. -/
  plans : List PlanSlot
  /-- Sixty-four clusters, 16 · canton + number; number 15 is the spare. -/
  clusters : List Cluster
  /-- The DRBG of core n of cluster k, at 8k + n. -/
  drbgs : List Drbg
  rounds : List Round
  grixo : Grixo
  stats : Stats
  /-- Commands waiting, first in first out. The model's own field. -/
  pending : List Instr
  /-- Draws made so far from the entropy sources: the argument of `Config.randomBytes`. The model's own field. -/
  draws : Nat
  /-- What the block has sent, oldest first. The model's own field. -/
  out : List Output
  deriving DecidableEq, Repr

/-- The block when power is applied, before the start-up instant t0 (R386, R387). -/
def State.reset : State :=
  { aon := 0, set := .default, setA := some ⟨1, true, .default⟩, setB := none, slotB := false, recorder := .reset, hal := .reset,
    start := .reset, power := .reset, sensors := .reset, pack := .reset, keys := .reset, att := .reset, lead := .reset,
    journal := .reset, mgmt := .reset, host := .reset, ctxs := List.replicate 16 .reset,
    plans := List.replicate 16 .reset, clusters := clustersReset, drbgs := List.replicate 512 .reset, rounds := [],
    grixo := .reset, stats := .reset, pending := [], draws := 0, out := [] }

end Sys2Proof.Machine
end

