-- ==== Sys2Proof/Machine/Ops.lean ====
section
/-!
DEFINITION. Machine/Ops.lean: the named operations over the state: time, list places, memory, random draws, outputs,
persistent entries, and the writing of event records (R484 to R501), which every family calls.
-/
namespace Sys2Proof.Machine

-- Lists and options

/-- Replace place `i`; out of range nothing changes. -/
def updAt {α : Type} (l : List α) (i : Nat) (f : α → α) : List α := l.modify i f

/-- Update every element that meets `p`. -/
def updIf {α : Type} (l : List α) (p : α → Bool) (f : α → α) : List α := l.map fun x => if p x then f x else x

/-- The first place with `p`, or the length of the list. -/
def placeOf {α : Type} (l : List α) (p : α → Bool) : Nat := l.findIdx p

/-- Insert or replace the value at a key of an association list. -/
def assocSet {κ α : Type} [DecidableEq κ] (l : List (κ × α)) (k : κ) (v : α) : List (κ × α) :=
  (k, v) :: l.filter fun p => decide (p.1 ≠ k)

/-- The value at a key. -/
def assocGet {κ α : Type} [DecidableEq κ] (l : List (κ × α)) (k : κ) : Option α :=
  (l.find? fun p => decide (p.1 = k)).map Prod.snd

/-- Put a pair into a list kept in strictly rising lexicographic order. -/
def putPair (p : Nat × Nat) : List (Nat × Nat) → List (Nat × Nat)
  | [] => [p]
  | q :: r => if p = q then q :: r else if p.1 < q.1 ∨ (p.1 = q.1 ∧ p.2 < q.2) then p :: q :: r else q :: putPair p r

-- Time

/-- Ticks of the AON counter in a microsecond, millisecond and second (R82). -/
def tickUs : Nat := 42
def tickMs : Nat := 42000
def tickS : Nat := 42000000

/-- Operating time in µs, ms and s (R82, R83). -/
def State.us (s : State) : Nat := s.aon / tickUs
def State.ms (s : State) : Nat := s.aon / tickMs
def State.sec (s : State) : Nat := s.aon / tickS

/-- Ticks of one beat at a level: 1, 48/42, 56/42 and 2 µs at PL3 to PL0 (R66). -/
def beatTicks (level : Nat) : Nat :=
  match level with
  | 0 => 84
  | 1 => 56
  | 2 => 48
  | _ => 42

/-- WINDOW number of the beat count (R5). -/
def State.window (s : State) : Nat := s.hal.beatCount / 256
/-- Beat within the window, and slot-table entry (R5, R91). -/
def State.beat (s : State) : Nat := s.hal.beatCount % 256
def State.entry (s : State) : Nat := s.hal.beatCount % 4096
/-- The instant is a window boundary, or a loop boundary (R5, R91). -/
def State.atWindow (s : State) : Bool := s.hal.beatCount % 256 == 0
def State.atLoop (s : State) : Bool := s.hal.beatCount % 4096 == 0

-- Draws and outputs

/-- `n` random bytes: a free value (log entry 2). -/
def State.draw (s : State) (n : Nat) : Bytes × State :=
  (padTo n (Config.randomBytes s.draws n), { s with draws := s.draws + 1 })

/-- Send something out. -/
def State.emit (s : State) (o : Output) : State := { s with out := s.out ++ [o] }

-- Settings

/-- Write a persistent entry: the settings change and the slot not last written takes them with the next sequence
number (R462). -/
def State.persist (s : State) (f : Settings → Settings) : State :=
  let v := f s.set
  let seq := ((if s.slotB then s.setB else s.setA).map SettingsSlot.seq).getD 0 + 1
  let slot : SettingsSlot := { seq := seq, valid := true, values := v }
  if s.slotB then { s with set := v, setA := some slot, slotB := false }
  else { s with set := v, setB := some slot, slotB := true }

-- Sources of records (R34)

def srcBurgee : Nat := 0x6FF0
def srcBoard : Nat := 0x7FF0
def srcHoist (h : Nat) : Nat := if h = 0 then 0x4FF0 else 0x5FF0
def srcCanton (c : Nat) : Nat := c * 0x1000 + 0xFF0
/-- Cluster `k` counted over the module, 16 · canton + number. -/
def srcCluster (k : Nat) : Nat := k / 16 * 0x1000 + k % 16 * 0x100 + 0xF0
def srcCore (k n : Nat) : Nat := k / 16 * 0x1000 + k % 16 * 0x100 + n * 0x10
/-- The lower-numbered end stands first (R34, R35). -/
def srcLink (a b : Nat) : Nat := min a b * 0x1000 + max a b * 0x100 + 0xFF
/-- The Hoist of the CP that leads; H0 while none does. -/
def State.srcLeader (s : State) : Nat := srcHoist (s.lead.holder.getD 0)

-- Event records

/-- Codes of class NOTICE that their tables record as NOTICE (R505). -/
def noticeCodes : List Nat :=
  [0x05300060, 0x05300061, 0x05300063, 0x05700001, 0x05300080, 0x05300081, 0x05300082, 0x05400030, 0x05400031,
   0x05400032, 0x05400033, 0x05410002, 0x05410020, 0x05410021, 0x05410022, 0x05410023, 0x05020001, 0x05020020,
   0x05710002, 0x05500001, 0x05500004, 0x05010010, 0x05010012, 0x05010015]

/-- Severity of a code (R486, R505). -/
def severityOf (code : Nat) : Severity :=
  let cls := code / 0x1000000
  if cls = 3 ∨ cls = 4 then .alarm
  else if cls = 5 ∧ 0x8000 ≤ code % 0x10000 then .trace
  else if noticeCodes.contains code then .notice
  else .event

/-- The writer of a record by its source (R486). -/
def State.writerOf (s : State) (source : Nat) : Writer :=
  let die := source / 0x1000
  if die = 2 ∨ die = 3 ∨ die = 5 then (if s.start.cpRuns.2 then .h1 else .aon)
  else if s.start.cpRuns.1 then .h0 else .aon

/-- A record as formed: its stamp is the instant, its number not yet given. -/
def State.formRecord (s : State) (sev : Severity) (summary : Bool) (code source : Nat) (ctx : Option Nat)
    (payload : Bytes) : Record :=
  { seq := 0, stampMs := s.ms % 2 ^ 40, cycles := s.set.powerCycles % 2 ^ 24, code := BitVec.ofNat 32 code,
    source := BitVec.ofNat 16 source, severity := sev, summary := summary, aonHeld := false, lane := false,
    lost := false, context := ctx, payload := padTo 32 payload }

def Severity.isAlarm (v : Severity) : Bool := v == .alarm

/-- Positions occupied in the general part and in the lane (R491). -/
def RecBuffer.general (b : RecBuffer) : Nat := (b.held.filter fun r => !r.lane).length
def RecBuffer.laneUsed (b : RecBuffer) : Nat := (b.held.filter fun r => r.lane).length

def Recorder.buffer (r : Recorder) (w : Writer) : RecBuffer :=
  match w with
  | .h1 => r.h1
  | _ => r.h0

def Recorder.setBuffer (r : Recorder) (w : Writer) (b : RecBuffer) : Recorder :=
  match w with
  | .h1 => { r with h1 := b }
  | _ => { r with h0 := b }

def State.setBuffer (s : State) (w : Writer) (b : RecBuffer) : State :=
  { s with recorder := s.recorder.setBuffer w b }

/-- One more record lost, by severity (R496). -/
def LossCount.add (l : LossCount) (sev : Severity) (ms : Nat) : LossCount :=
  let fresh := l.alarms + l.events + l.traces == 0
  let l := { l with firstMs := if fresh then ms else l.firstMs, lastMs := ms }
  match sev with
  | .alarm => { l with alarms := l.alarms + 1 }
  | .trace => { l with traces := l.traces + 1 }
  | _ => { l with events := l.events + 1 }

/-- The payload of 0x0460_0002 and 0x0560_0006 (R496). -/
def LossCount.payload (l : LossCount) : Bytes :=
  leBytes 4 l.alarms ++ leBytes 4 l.events ++ leBytes 4 l.traces ++ zeros 4 ++ leBytes 8 l.firstMs ++ leBytes 8 l.lastMs

/-- A record enters a subscription's queue (R464, R500). -/
def Session.offer (x : Session) (now : Nat) (r : Record) : Session :=
  let wants := match r.severity with
    | .alarm => x.recordSub == 4 || x.recordSub == 5
    | .trace => false
    | _ => x.recordSub == 5
  let room := if r.severity.isAlarm then 256 else 192
  if !wants then x
  else if x.queue.length < room then
    { x with queue := x.queue ++ [r], queuedSince := if x.queue.isEmpty then now else x.queuedSince }
  else { x with refused := x.refused + 1 }

/-- Offer a record to every subscription. -/
def State.offerAll (s : State) (r : Record) : State :=
  { s with mgmt := { s.mgmt with sessions := s.mgmt.sessions.map fun x => x.map fun y => y.offer s.aon r } }

/-- Number a record, store it in its buffer and call for a flush when R492 does. -/
def State.storeNumbered (s : State) (w : Writer) (r : Record) : State :=
  let n := s.recorder.counter + 1
  let r := { r with seq := n }
  let b := s.recorder.buffer w
  let cls := r.code.toNat / 0x1000000
  let held := b.held ++ [r]
  let due := b.due || decide (3072 ≤ held.length) || r.severity.isAlarm || decide (cls = 2 ∨ cls = 3)
  let q := s.recorder.setBuffer w { b with held := held, due := due }
  ({ s with recorder := { q with counter := n, lastSeq := n,
                                 lastAlarm := if r.severity.isAlarm then n else q.lastAlarm } }).offerAll r

/-- Make room in buffer-only mode: the oldest record that is not an ALARM goes, or the oldest ALARM (R496). -/
def RecBuffer.overwrite (b : RecBuffer) : RecBuffer :=
  match b.held.find? fun r => !r.severity.isAlarm with
  | some v => { b with held := b.held.filter fun r => decide (r.seq ≠ v.seq) }
  | none => { b with held := b.held.drop 1 }

/-- Store a record of severity EVENT, NOTICE or ALARM (or a summary) in a Hoist buffer (R491, R496, R500). -/
def State.storeHoist (s : State) (w : Writer) (r : Record) : State :=
  let b := s.recorder.buffer w
  if b.general < 4032 then s.storeNumbered w r
  else if r.severity.isAlarm ∧ b.laneUsed < 64 then s.storeNumbered w { r with lane := true }
  else if b.bufferOnly ∧ (r.severity.isAlarm ∨ b.held.any fun x => !x.severity.isAlarm) then
    ({ s with recorder := s.recorder.setBuffer w b.overwrite }).storeNumbered w r
  else
    let s' := { s with recorder := s.recorder.setBuffer w { b with loss := b.loss.add r.severity s.ms } }
    if r.severity.isAlarm then
      ({ s' with recorder := { s'.recorder with lostPending := true } }).offerAll { r with lost := true }
    else s'

/-- Store a record in the AON store (R489). -/
def Recorder.storeAon (q : Recorder) (r : Record) (ms : Nat) : Recorder :=
  let r := { r with aonHeld := true }
  if q.aon.length < 64 then { q with aon := q.aon ++ [r] }
  else if r.severity.isAlarm ∧ q.aon.any (fun x => !x.severity.isAlarm) then
    let i := q.aon.length - 1 - (q.aon.reverse.findIdx fun x => !x.severity.isAlarm)
    let lostSev := ((q.aon[i]?).map Record.severity).getD .event
    { q with aon := q.aon.eraseIdx i ++ [r], aonLoss := q.aonLoss.add lostSev ms }
  else { q with aonLoss := q.aonLoss.add r.severity ms }

/-- Tokens of a code's bucket at a writer; an absent bucket is full (R497). -/
def Recorder.tokens (q : Recorder) (w : Writer) (code : Nat) : Nat :=
  ((q.buckets.find? fun b => b.writer == w && b.code.toNat == code).map Bucket.tokens).getD 64

/-- Take one token. -/
def Recorder.takeToken (q : Recorder) (w : Writer) (code : Nat) : Recorder :=
  let t := q.tokens w code - 1
  { q with buckets := ⟨w, BitVec.ofNat 32 code, t⟩ ::
      q.buckets.filter fun b => !(b.writer == w && b.code.toNat == code) }

/-- Account a suppressed record (R497, R498). -/
def Recorder.suppress (q : Recorder) (w : Writer) (r : Record) (ms : Nat) : Recorder :=
  let mine := fun (x : Suppressed) => x.writer == w && x.code == r.code
  let old := (q.suppressed.find? mine).getD ⟨w, r.code, r.severity, 0, 0, false, 0, 0, 0, 0⟩
  let new : Suppressed :=
    { old with
      severity := r.severity
      count := old.count + 1
      contexts := match r.context with
        | some c => old.contexts ||| (1 <<< c : BitVec 16)
        | none => old.contexts
      moduleRecord := old.moduleRecord || r.context.isNone
      firstMs := if old.count = 0 then ms else old.firstMs
      lastMs := ms
      firstSource := if old.count = 0 then r.source else old.firstSource
      total := min (old.total + 1) 0xFFFFFFFF }
  { q with suppressed := new :: q.suppressed.filter fun x => !mine x }

/-- Write a record: a subsystem's code with its source, context and payload, admitted, numbered and stored, or
suppressed or dropped (R484 to R501). A code of class FAULT-RECOVERED counts in tier 1 (R504). -/
def State.record (s : State) (code source : Nat) (ctx : Option Nat) (payload : Bytes) : State :=
  let sev := severityOf code
  let w := s.writerOf source
  let r := s.formRecord sev false code source ctx payload
  let s := if code / 0x1000000 = 2 then
      s.persist fun p => { p with faultCounts := updAt p.faultCounts 0 fun n => min (n + 1) 0xFFFFFFFF }
    else s
  match sev with
  | .trace =>
    if !s.set.traceEnable then s
    else if w = .aon then { s with recorder := s.recorder.storeAon r s.ms }
    else if (s.recorder.buffer w).held.length < 2048 then s.storeNumbered w r
    else s.persist fun p => { p with traceDropped := min (p.traceDropped + 1) 0xFFFFFFFFFFFFFFFF }
  | .alarm => if w = .aon then { s with recorder := s.recorder.storeAon r s.ms } else s.storeHoist w r
  | _ =>
    if s.recorder.tokens w code = 0 then
      ({ s with recorder := s.recorder.suppress w r s.ms }).persist fun p =>
        { p with suppressedTotal := min (p.suppressedTotal + 1) 0xFFFFFFFFFFFFFFFF }
    else if w = .aon then { s with recorder := (s.recorder.takeToken w code).storeAon r s.ms }
    else
      let b := s.recorder.buffer w
      if b.general < 4032 ∨ (b.bufferOnly ∧ b.held.any fun x => !x.severity.isAlarm) then
        ({ s with recorder := s.recorder.takeToken w code }).storeHoist w r
      else s.storeHoist w r

-- Memory of a context (R295, R357)

/-- The bytes of a context's memory are canonical: addresses strictly rising and no byte listed that an unlisted address
reads as (`d`). -/
def memWf (d : Nat → Byte) : List (Nat × Byte) → Bool
  | [] => true
  | (a, b) :: [] => b != d a
  | (a, b) :: (a', b') :: r => b != d a && decide (a < a') && memWf d ((a', b') :: r)

/-- Byte at an address; an unlisted byte reads as `d` says. -/
def memRead (d : Nat → Byte) (m : List (Nat × Byte)) (a : Nat) : Byte :=
  match m with
  | [] => d a
  | (x, b) :: r => if x = a then b else memRead d r a

/-- Write one byte, keeping the form. -/
def memWrite (d : Nat → Byte) (m : List (Nat × Byte)) (a : Nat) (v : Byte) : List (Nat × Byte) :=
  match m with
  | [] => if v = d a then [] else [(a, v)]
  | (x, b) :: r =>
    if x < a then (x, b) :: memWrite d r a v
    else if x = a then (if v = d a then r else (a, v) :: r)
    else if v = d a then (x, b) :: r else (a, v) :: (x, b) :: r

/-- Write bytes from an address on. -/
def memWriteBytes (d : Nat → Byte) (m : List (Nat × Byte)) (a : Nat) : Bytes → List (Nat × Byte)
  | [] => m
  | v :: vs => memWriteBytes d (memWrite d m a v) (a + 1) vs

/-- What an unlisted byte of a context reads as: 0, since its pages are zeroed when it is created (R357); after a wake
from F1 has lost the contents, a free value until it is written (R422, log entry 3). -/
def Ctx.unlisted (x : Ctx) (c a : Nat) : Byte := if x.poison = 0 then 0 else Config.lostByte x.poison c a

-- Places of the state

def State.ctx (s : State) (c : Nat) : Ctx := s.ctxs.getD c .reset
def State.updCtx (s : State) (c : Nat) (f : Ctx → Ctx) : State := { s with ctxs := updAt s.ctxs c f }
def State.ctxSet (s : State) (c : Nat) : CtxEntries := s.set.ctx.getD c .default
def State.plan (s : State) (c : Nat) : PlanSlot := s.plans.getD c .reset
def State.updPlan (s : State) (c : Nat) (f : PlanSlot → PlanSlot) : State := { s with plans := updAt s.plans c f }
def State.cluster (s : State) (k : Nat) : Cluster := s.clusters.getD k (.reset 0 0)
def State.updCluster (s : State) (k : Nat) (f : Cluster → Cluster) : State :=
  { s with clusters := updAt s.clusters k f }
def State.vf (s : State) (v : Nat) : Vf := s.host.vfs.getD v .reset
def State.updVf (s : State) (v : Nat) (f : Vf → Vf) : State :=
  { s with host := { s.host with vfs := updAt s.host.vfs v f } }
/-- The current round of a cohort: the one most recently opened (R315); an accepted ROUND_OPEN before its boundary is not
it. -/
def State.round? (s : State) (c t : Nat) : Option Round :=
  s.rounds.find? fun r => r.ctx == c && r.template == t && r.state != .opening
def State.updRound (s : State) (c t : Nat) (f : Round → Round) : State :=
  { s with rounds := updIf s.rounds (fun r => r.ctx == c && r.template == t && r.state != .opening) f }
/-- The accepted ROUND_OPEN of a cohort whose boundary has not come. -/
def State.opening? (s : State) (c t : Nat) : Option Round :=
  s.rounds.find? fun r => r.ctx == c && r.template == t && r.state == .opening
def State.conn? (s : State) (i : Nat) : Option Conn := s.grixo.conns.find? fun c => c.index == i
def State.updConn (s : State) (i : Nat) (f : Conn → Conn) : State :=
  { s with grixo := { s.grixo with conns := updIf s.grixo.conns (fun c => c.index == i) f } }
def State.queue (s : State) (c q : Nat) : WorkQueue := s.grixo.queues.getD (64 * c + q) .reset
def State.updQueue (s : State) (c q : Nat) (f : WorkQueue → WorkQueue) : State :=
  { s with grixo := { s.grixo with queues := updAt s.grixo.queues (64 * c + q) f } }

/-- Bytes `a` to `a + n − 1` of a context's memory. -/
def State.readMem (s : State) (c a n : Nat) : Bytes :=
  let x := s.ctx c
  (List.range n).map fun i => memRead (x.unlisted c) x.memory (a + i)

/-- Write bytes into a context's memory. -/
def State.writeMem (s : State) (c a : Nat) (b : Bytes) : State :=
  s.updCtx c fun x => { x with memory := memWriteBytes (x.unlisted c) x.memory a b }

/-- Count something in a context's counters block (R331). -/
def State.count (s : State) (c : Nat) (f : Counters → Counters) : State :=
  s.updCtx c fun x => { x with counters := { x.counters with live := f x.counters.live } }

/-- The module is in HOLD (R434). -/
def State.inHold (s : State) : Bool := s.lead.hold.isSome

/-- The CP that acts as leader. -/
def State.leaderCp (s : State) : Option Nat := if s.lead.cp0.leads then some 0 else if s.lead.cp1.leads then some 1 else none

/-- No leader acts: none holds the Jack, or its takeover runs (R442). -/
def State.noLeader (s : State) : Bool := s.lead.takeover.isSome || s.leaderCp.isNone

/-- The H0–H1 link is down. -/
def State.hoistLinkDown (s : State) : Bool := s.lead.links.any fun l => l.a == 4 && l.b == 5 && l.down

-- Virtual functions

/-- Endpoint and context of a VF by its place: 16 · endpoint + context. -/
def vfEndpoint (v : Nat) : Nat := v / 16
def vfCtx (v : Nat) : Nat := v % 16

/-- The VF that serves a context (R324). -/
def State.vfOf (s : State) (c : Nat) : Nat := 16 * (s.ctxSet c).endpoint + c

/-- The context is bound to the VF: not FREE or SCRUBBING, and ENDPOINT names this endpoint (R307, R321, R324). -/
def State.bound (s : State) (v : Nat) : Bool :=
  let e := s.ctxSet (vfCtx v)
  (e.state == .active || e.state == .teardown) && e.endpoint == vfEndpoint v && decide (v < 32)

/-- READY: start-up stage D was reached (R309). -/
def State.ready (s : State) : Bool := s.start.stage == some 3
/-- Stage C has completed (R317). -/
def State.stageCDone (s : State) : Bool := s.start.stage == some 2 || s.start.stage == some 3

-- Awake claims (R412)

/-- The claim of a context is in force. -/
def State.claim (s : State) (c : Nat) : Bool :=
  let e := s.ctxSet c
  ((s.vf (s.vfOf c)).awake && s.bound (s.vfOf c)) || (s.plan c).state != .none ||
  s.grixo.conns.any (fun x => x.ctx == c) ||
  ((s.grixo.queues.drop (64 * c)).take 64).any (fun q => q.state != .none) || e.state == .teardown || e.state == .scrubbing ||
  decide (2 ≤ (s.ctx c).mem.live) || (s.bound (s.vfOf c) && (s.vf (s.vfOf c)).running.isSome)

/-- The module's own hold. -/
def State.ownHold (s : State) : Bool := s.power.inhibit || !s.ready || s.inHold || s.power.waking.isSome

def State.claimsWord (s : State) : Nat :=
  ((List.range 16).map fun c => if s.claim c then 2 ^ c else 0).sum + (if s.ownHold then 2 ^ 16 else 0)

/-- No claim and no hold is in force (R413). -/
def State.idle (s : State) : Bool := !s.ownHold && (List.range 16).all fun c => !s.claim c

/-- Account the idle interval up to the present instant: it begins when no claim and no hold is in force, and its end
also ends a retry (R413, R417). -/
def State.trackIdle (s : State) : State :=
  let i := s.idle
  { s with power := { s.power with idleSince := if i then some (s.power.idleSince.getD s.aon) else none
                                   retryAt := if i then s.power.retryAt else none } }

/-- IDLE_TIME in ms (R413). -/
def State.idleMs (s : State) : Nat := if s.idle then (s.aon - s.power.idleSince.getD s.aon) / tickMs else 0

/-- Hottest powered die, −128 with none powered (R482). -/
def Sensors.hottest (x : Sensors) : Int := x.dieTemp.foldl max (-128)

/-- The AON counter goes on to `t` ticks; POWER_LOG and TEMP_LOG shift by one element for each whole second passed
(R482). -/
def State.advance (s : State) (t : Nat) : State :=
  let k := min 60 (t / tickS - s.aon / tickS)
  { s with aon := t
           sensors := { s.sensors with powerLog := (s.sensors.powerLog ++ List.replicate k s.sensors.inputPower).drop k
                                       tempLog := (s.sensors.tempLog ++ List.replicate k s.sensors.hottest).drop k } }

/-- Bring the AON counter to a timed event's instant, `now` in µs; the counter never goes back. -/
def State.at (s : State) (now : Nat) : State := s.trackIdle.advance (max s.aon (now * tickUs))

/-- The outcome of a meaning: every command answers a next state. -/
def ok (s : State) : Host.Outcome State Fault Refusal := .next s

-- Key slots (R346 to R348)

/-- The lifecycle state in force (R379). -/
def State.lifecycle (s : State) : Lifecycle := s.keys.fuses

def Lifecycle.code : Lifecycle → Nat
  | .blank => 0
  | .test => 1
  | .develop => 2
  | .production => 3
  | .return => 4
  | .scrapped => 5

/-- The attribute word (R347). -/
def slotAttr (masters world usage kind : Nat) : BitVec 32 :=
  BitVec.ofNat 32 (masters * 2 ^ 24 + world * 2 ^ 18 + 0x1F * 2 ^ 13 + usage * 2 ^ 8 + kind * 2 ^ 4 + 1)

def KeySlot.world (k : KeySlot) : Nat := k.attr.toNat / 2 ^ 18 % 32
def KeySlot.usage (k : KeySlot) : Nat := k.attr.toNat / 2 ^ 8 % 32

/-- Masters of a slot, by bit of its attribute word (R347). The SEC block, the public-key engines and the Grixo engines have
no bit: their uses name no master. -/
def masterAu : Nat := 27
def masterKs : Nat := 28
def masterRg : Nat := 29

/-- A slot grants a use (R348): it is VALID, the master's bit is set, and its USAGE, WORLD and the bit of the lifecycle
state fit. -/
def KeySlot.grants (k : KeySlot) (now : Lifecycle) (master : Option Nat) (usage world : Nat) : Bool :=
  k.attr.getLsbD 0 && master.all (fun m => k.attr.getLsbD m) && k.usage == usage && k.world == world &&
    decide (now.code < 5) && k.attr.getLsbD (13 + now.code)

/-- The key that a use of a slot delivers; none where it is refused (R348). -/
def State.useSlot (s : State) (hoist slot : Nat) (master : Option Nat) (usage world : Nat) : Option Bytes :=
  ((s.keys.slots.find? fun k => k.hoist == hoist && k.slot == slot).filter fun k =>
    k.grants s.lifecycle master usage world).map KeySlot.value

/-- The ALARM of a refused use, with the slot and the master (R348; log entry 85). -/
def State.refuseUse (s : State) (hoist slot : Nat) (master ctx : Option Nat) : State :=
  s.record 0x04400021 (srcHoist hoist) ctx (leBytes 2 slot ++ leBytes 1 ((master.map fun m => m - 24).getD 0xFF))

end Sys2Proof.Machine
end

