-- ==== Sys2Proof/Machine/Operands.lean ====
section
/-!
DEFINITION. Machine/Operands.lean: the fields of frames (R113), Grixo packets (R263 to R266), host commands (R313) and
work-queue entries (R297), read from the bytes that carry them.
-/
namespace Sys2Proof.Machine

-- Intake frames (R113), network byte order

namespace Frame
def kind (f : Bytes) : Nat := beAt f 0 1
def version (f : Bytes) : Nat := beAt f 1 1
def format (f : Bytes) : Nat := beAt f 2 1
def role (f : Bytes) : Nat := beAt f 3 1
def cohort (f : Bytes) : Nat := beAt f 4 4
def round (f : Bytes) : Nat := beAt f 8 4
def slot (f : Bytes) : Nat := beAt f 12 3
def tile (f : Bytes) : Nat := beAt f 15 3
def sub (f : Bytes) : Nat := beAt f 18 1
def length (f : Bytes) : Nat := beAt f 20 4
def nonce (f : Bytes) : Bytes := slice f 24 12
def header (f : Bytes) : Bytes := slice f 0 64
def payload (f : Bytes) : Bytes := slice f 64 (length f)
def tag (f : Bytes) : Bytes := slice f (64 + length f) 16
/-- Reserved bytes 19 and 36 to 63 are 0. -/
def reservedZero (f : Bytes) : Bool := zeroAt f 19 1 && zeroAt f 36 28
/-- The NONCE that R115 requires. -/
def nonceOf (kind sub tile : Nat) : Bytes := beBytes 1 kind ++ beBytes 1 sub ++ beBytes 3 tile ++ zeros 7
end Frame

/-- KIND codes of frames. -/
def kChunk : Nat := 1
def kSeed : Nat := 2
def kShare : Nat := 3
def kDshare : Nat := 4
def kPeer : Nat := 5
def kSession : Nat := 6

-- Grixo header (R263), network byte order

namespace Packet
def version (p : Bytes) : Nat := beAt p 0 1
def type (p : Bytes) : Nat := beAt p 1 1
def flags (p : Bytes) : Nat := beAt p 2 1
def enc (p : Bytes) : Bool := (flags p).testBit 0
def ackReq (p : Bytes) : Bool := (flags p).testBit 1
def path (p : Bytes) : Nat := beAt p 3 1 % 16
def dstConn (p : Bytes) : Nat := beAt p 4 2
def srcConn (p : Bytes) : Nat := beAt p 6 2
def gen (p : Bytes) : Nat := beAt p 8 2
def length (p : Bytes) : Nat := beAt p 10 2
def msgId (p : Bytes) : Nat := beAt p 12 4
def index (p : Bytes) : Nat := beAt p 16 1
def last (p : Bytes) : Nat := beAt p 17 1
def ctrlSeq (p : Bytes) : Nat := beAt p 12 6
def keyOrSeq (p : Bytes) : Nat := beAt p 20 4
def offset (p : Bytes) : Nat := beAt p 26 6
def header (p : Bytes) : Bytes := slice p 0 32
/-- Payload as carried, and tag. -/
def body (p : Bytes) : Bytes := slice p 32 (length p)
def tag (p : Bytes) : Bytes := slice p (32 + length p) 16
/-- Reserved bits and bytes of the header are 0. -/
def reservedZero (p : Bytes) : Bool :=
  decide (flags p < 8) && decide (beAt p 3 1 < 16) && zeroAt p 18 2 && zeroAt p 24 2

-- CTRL payload (R266)
def ctrlSub (b : Bytes) : Nat := beAt b 0 1
def ctrlPaths (b : Bytes) : Nat := beAt b 1 1
def ctrlEnc (b : Bytes) : Nat := beAt b 2 1
def ctrlSport (b : Bytes) : Nat := beAt b 4 2
def ctrlGen (b : Bytes) : Nat := beAt b 6 2
def ctrlFirst (b : Bytes) : Nat := beAt b 8 4
def ctrlReason (b : Bytes) : Nat := beAt b 12 4
end Packet

-- Host command entries of 64 bytes, little-endian (R313, R315)

namespace Cmd
def opcode (e : Bytes) : Nat := leAt e 0 1
def id (e : Bytes) : Nat := leAt e 2 2
end Cmd

-- Work-queue entries of 64 bytes, little-endian (R297)

namespace Wqe
def opcode (e : Bytes) : Nat := leAt e 0 1
def wait (e : Bytes) : Bool := (leAt e 1 1).testBit 0
def signal (e : Bytes) : Bool := (leAt e 1 1).testBit 1
def target (e : Bytes) : Nat := leAt e 2 2
def waitCount (e : Bytes) : Nat := leAt e 4 4
def length (e : Bytes) : Nat := leAt e 8 4
def remoteKey (e : Bytes) : Nat := leAt e 12 4
def localAddr (e : Bytes) : Nat := leAt e 16 6
def remoteAddr (e : Bytes) : Nat := leAt e 24 6
def user (e : Bytes) : Bytes := slice e 32 8
/-- Reserved bits and bytes are 0. -/
def reservedZero (e : Bytes) : Bool :=
  decide (leAt e 1 1 < 4) && decide (target e / 256 % 16 = 0) && zeroAt e 22 2 && zeroAt e 30 2 && zeroAt e 40 24
end Wqe

end Sys2Proof.Machine
end

