-- ==== Sys2Proof/Machine/Plans.lean ====
section
/-!
DEFINITION. Machine/Plans.lean: what a plan image says about its cohorts, tile sets, owners, cursors, regions and costs
(R85 to R108, R124, R139 to R147), and how an admitted plan is found from the slot tables (R89).
-/
namespace Sys2Proof.Machine

-- Templates and formats

/-- Width of an element in bytes: 2, 4 or 8 (R135). -/
def fmtWidth (f : Nat) : Nat := if f = 1 then 2 else if f = 2 then 4 else 8
/-- Elements per tile, E. -/
def fmtElems (f : Nat) : Nat := 65536 / fmtWidth f
/-- Element width b in bits. -/
def fmtBits (f : Nat) : Nat := 8 * fmtWidth f

def Template.default : Template :=
  { cohortId := 0, mode := 0, format := 0, prg := 0, role := 0, clientSlots := 0, tiles := 0, slotBase := 0,
    slotCount := 0, degree := 0, threshold := 0, headroom := 0, logN := 0, limbs := 0, special := 0, dnum := 0,
    committee := 0, decThreshold := 0, chain := 0, wS := 0, lwrLambda := 0, wR := 0, lwrR := 0, plaintextMod := 0,
    publicSeed := [], graphSeed := [], rootSerial := 0 }

def Template.isRing (t : Template) : Bool := t.mode == 3
def Template.isPair (t : Template) : Bool := t.mode == 1
def Template.isSum (t : Template) : Bool := t.mode == 2
def Template.isLeaf (t : Template) : Bool := t.role == 1
def Template.isRoot (t : Template) : Bool := t.role == 2
/-- Ring degree N. -/
def Template.degreeN (t : Template) : Nat := 2 ^ t.logN
/-- Accumulator tiles per tile set, J (R139). -/
def Template.setTiles (t : Template) : Nat := if t.isRing then t.degreeN * t.limbs / 4096 else 1
/-- Tile sets of the cohort. -/
def Template.sets (t : Template) : Nat := t.tiles / max 1 t.setTiles
/-- Bytes of a tile set, S. -/
def Template.setBytes (t : Template) : Nat := 65536 * t.setTiles
/-- Slots a ledger covers: a root's covers all of C from slot 0 (R134). -/
def Template.ledgerBase (t : Template) : Nat := if t.isRoot then 0 else t.slotBase
def Template.ledgerCount (t : Template) : Nat := if t.isRoot then t.clientSlots else t.slotCount
/-- Whether the mode needs secrets at this role. -/
def Template.needsSecrets (t : Template) : Bool := !t.isLeaf

def PlanImage.template (p : PlanImage) (i : Nat) : Template := p.templates.getD i .default
def PlanImage.chainOf (p : PlanImage) (t : Template) : Chain := p.chains.getD t.chain ⟨[], []⟩

/-- Modulus of the elements of accumulator tile `m` of a tile set (R135, R192). -/
def PlanImage.modulus (p : PlanImage) (t : Template) (m : Nat) : Nat :=
  if t.isRing then (p.chainOf t).data.getD (8192 * m / (2 * t.degreeN)) 1 else 2 ^ fmtBits t.format

/-- Elements of a tile payload, network byte order (R133, R192). -/
def elemsOf (fmt : Nat) (payload : Bytes) : List Nat := (chunks (fmtWidth fmt) payload.length payload).map beNat

/-- Add tile `b` into `a` element by element modulo `q` (R135); `[]` is a tile of zeros. -/
def addTile (q : Nat) : List Nat → List Nat → List Nat
  | [], b => b.map (· % q)
  | a, [] => a
  | x :: a, y :: b => (x + y % q) % q :: addTile q a b

/-- Subtract tile `b` from `a` modulo `q`. -/
def subTile (q : Nat) (a b : List Nat) : List Nat := addTile q a (b.map fun y => (q - y % q) % q)

/-- Add tile `x` into tile `m` of a set buffer. -/
def addInto (q m : Nat) (buf : List (List Nat)) (x : List Nat) : List (List Nat) :=
  updAt (buf ++ List.replicate (m + 1 - buf.length) []) m fun a => addTile q a x

/-- Add two set buffers. -/
def addSet (q : Nat → Nat) (n : Nat) (a b : List (List Nat)) : List (List Nat) :=
  (List.range n).map fun m => addTile (q m) (a.getD m []) (b.getD m [])

-- Blocks, cursors and regions

def PlanImage.block (p : PlanImage) (position : Nat) : Option Block := p.blocks[position]?
def PlanImage.cursor (p : PlanImage) (position i : Nat) : Option CursorDef :=
  (p.block position).bind fun b => b.cursors[i]?

/-- Canton and cluster number of a block position. -/
def positionCanton (x : Nat) : Nat := x / 15
def positionNumber (x : Nat) : Nat := x % 15
/-- Cluster that a position names, 16 · canton + number. -/
def positionCluster (x : Nat) : Nat := 16 * (x / 15) + x % 15

/-- Tile sets that a range cursor covers. -/
def CursorDef.covers (c : CursorDef) (t set : Nat) : Bool :=
  (c.kind == 1 || c.kind == 3) && c.cohort == t && decide (c.first ≤ set ∧ set < c.first + c.count)

/-- Descriptors of a block that name a cursor and have an opcode. -/
def Block.uses (b : Block) (opcode cursor : Nat) : Bool :=
  b.entries.any fun e => e.2.opcode == opcode && e.2.cursor == cursor

/-- Owners of a tile set in slot-table block order: the clusters by position, each with its first ACCUM cursor that
covers the set (R124). -/
def PlanImage.owners (p : PlanImage) (t set : Nat) : List (Nat × Nat) :=
  p.blocks.zipIdx.filterMap fun (b, x) =>
    (b.cursors.zipIdx.find? fun (c, i) => c.covers t set && b.uses 0x01 i).map fun (_, i) => (x, i)

/-- Tile sets of a cohort that the cluster of a block owns, each with its first ACCUM cursor that covers it, in the order
of their bins (R124, R127). -/
def Block.ownedSets (b : Block) (t : Nat) : List (Nat × Nat) :=
  let all := b.cursors.zipIdx.flatMap fun (c, i) =>
    if (c.kind == 1 || c.kind == 3) && c.cohort == t && b.uses 0x01 i then
      (List.range c.count).map fun k => (i, c.first + k)
    else []
  let sets := ((all.map Prod.snd).eraseDups).mergeSort fun a b => decide (a ≤ b)
  sets.filterMap fun k => all.find? fun x => x.2 == k

/-- Owner 0 of a set: its unmasking cluster's position and cursor (R145, R178). -/
def PlanImage.owner0 (p : PlanImage) (t set : Nat) : Option (Nat × Nat) := (p.owners t set).head?

/-- Owner of client slot `i` for a set (R124). -/
def PlanImage.ownerOf (p : PlanImage) (t set i : Nat) : Option (Nat × Nat) :=
  let o := p.owners t set
  if o.isEmpty then none else o[i % o.length]?

/-- Memory-map regions of a kind for a cohort, in memory-map order. -/
def PlanImage.regionsOf (p : PlanImage) (kind t : Nat) : List Region :=
  p.regions.filter fun r => r.kind == kind && r.cohort == t

/-- SRAM region of a kind of a cohort at a position's cluster. -/
def PlanImage.sram (p : PlanImage) (kind t position : Nat) : Option Region :=
  (p.regionsOf kind t).find? fun r => r.die == positionCanton position && r.cluster == positionNumber position

/-- Positions P of the SRAM_TILESET region and whether they are double-buffered (R139). -/
def PlanImage.residency (p : PlanImage) (t position : Nat) : Nat × Bool :=
  let len := ((p.sram 16 t position).map Region.length).getD 0
  let sz := (p.template t).setBytes
  if 2 * sz ≤ len then (len / (2 * sz), true) else (1, false)

/-- Tile sets of residency group `g` of a cursor (R140). -/
def PlanImage.groupSets (p : PlanImage) (t position : Nat) (c : CursorDef) (g : Nat) : List Nat :=
  let k := (p.residency t position).1
  (List.range (min (g * k + k) c.count - g * k)).map fun i => c.first + g * k + i

/-- Residency groups of a cursor. -/
def PlanImage.groups (p : PlanImage) (t position : Nat) (c : CursorDef) : Nat :=
  ceilDiv c.count (p.residency t position).1

/-- Tile sets of a cohort owned by clusters of a Canton, in block order then set order: its bins there (R127). -/
def PlanImage.bins (p : PlanImage) (t canton : Nat) : List (Nat × Nat) :=
  p.blocks.zipIdx.flatMap fun (b, x) =>
    if positionCanton x = canton then (b.ownedSets t).map fun y => (x, y.2) else []

/-- Records that each bin of a cohort on a Canton holds (R127). -/
def PlanImage.binRecords (p : PlanImage) (t canton : Nat) : Nat :=
  let n := (p.bins t canton).length
  let len := (((p.regionsOf 2 t).filter fun r => r.die == canton).map Region.length).sum
  if n = 0 then 0 else len / 65536 / n

/-- Tile sets that the unmasking cluster of a position folds, with their residency group, in list order (R178). -/
def PlanImage.unmaskSets (p : PlanImage) (t position : Nat) : List (Nat × Nat) :=
  let l := (List.range (p.template t).sets).filterMap fun k =>
    match p.owner0 t k with
    | some (x, i) =>
      if x = position then
        (p.cursor position i).map fun c => ((k - c.first) / max 1 (p.residency t position).1, k)
      else none
    | none => none
  l.mergeSort fun a b => decide (a.1 < b.1 ∨ (a.1 = b.1 ∧ a.2 ≤ b.2))

/-- A route by its index. -/
def PlanImage.route (p : PlanImage) (i : Nat) : Route := p.routes.getD i ⟨0, 0, 0, 0, 0, 1⟩

/-- ACCUM entries of a cursor that lie between consecutive COMMITs of it, cyclically: the largest and smallest count
(R147, R152). -/
def gapCounts : List (Bool × Nat) → Nat → List Nat
  | [], _ => []
  | (true, _) :: r, n => n :: gapCounts r 0
  | (false, _) :: r, n => gapCounts r (n + 1)

def Block.commitGaps (b : Block) (i : Nat) : List Nat :=
  let evs := (b.entries.filter fun e => (e.2.opcode == 0x01 || e.2.opcode == 0x02) && e.2.cursor == i).map
    fun e => (e.2.opcode == 0x02, e.1)
  let before := evs.takeWhile fun e => !e.1
  let rest := evs.drop before.length
  match rest with
  | [] => []
  | c :: r => gapCounts (r ++ before ++ [c]) 0

/-- Two slot ranges share no slot. -/
def slotsApart (a b : Nat × Nat) : Bool := decide (a.1 + a.2 ≤ b.1 ∨ b.1 + b.2 ≤ a.1)

/-- Leaf ranges of a root cohort, SLOT_BASE and SLOT_COUNT, disjoint as R55 says: a range that shares a slot with one
taken before is no leaf's. The plan image has no field for them (log entry 6). -/
def leafRanges (digest : Bytes) (t : Nat) : List (Nat × Nat) :=
  (Config.leafRanges digest t).foldl (fun l r => if l.all fun q => slotsApart q r then l ++ [r] else l) []

/-- Bytes of the largest ledger section of a root cohort (R147). -/
def ledgerSection (digest : Bytes) (t : Nat) : Nat :=
  ceilDiv ((leafRanges digest t).foldl (fun n r => max n r.2) 0) 8

/-- Drain bound D of a COMMIT (R147). -/
def PlanImage.drainBound (p : PlanImage) (digest : Bytes) (t position i : Nat) (src dst : Nat) : Nat :=
  match p.block position, p.cursor position i with
  | some b, some c =>
    let tm := p.template t
    let g := min (p.residency t position).1 c.count
    let a := 32 * (b.commitGaps i).foldl max 0
    let v := g * tm.setBytes + (if tm.isRoot then a * ledgerSection digest t else 0)
    let rate := min (p.route src).rate (p.route dst).rate
    2 + ceilDiv v (1000 * rate) + ceilDiv a 512 + ceilDiv (g * tm.setBytes) 262144
  | _, _ => 0

-- Neighbour graph (R167)

/-- Keep the candidates of one SHAKE128 block that are new, until `m` are kept. -/
def keepOffsets (m half : Nat) : List Bytes → List Nat → List Nat
  | [], kept => kept
  | w :: r, kept =>
    let o := 1 + beNat w % max 1 half
    keepOffsets m half r (if kept.length < m ∧ !(kept.contains o) then kept ++ [o] else kept)

/-- Squeeze blocks until `m` offsets are kept; 8-byte words run on across the blocks of 168 bytes, 21 words each. -/
def graphBlocks (m half : Nat) : Nat → List (BitVec 64) → List Nat → List Nat
  | 0, _, kept => kept
  | n + 1, a, kept =>
    if m ≤ kept.length then kept
    else
      let block := (a.flatMap fun w => leBytes 8 w.toNat).take 168
      graphBlocks m half n (keccakF a) (keepOffsets m half (chunks 8 21 block) kept)

/-- Offsets o_1 to o_m of a pair-masked template. -/
def Template.offsets (t : Template) : List Nat :=
  let input := ascii "TA32 graph" ++ t.graphSeed ++ beBytes 4 t.clientSlots
  let p := input ++ [0x1F] ++ zeros (roundUp (input.length + 1) 168 - (input.length + 1))
  let p := p.take (p.length - 1) ++ (p.drop (p.length - 1)).map (· ||| 0x80)
  let st := (chunks 168 p.length p).foldl keccakAbsorb (List.replicate 25 0)
  graphBlocks (t.degree / 2) ((t.clientSlots - 1) / 2) 16384 st []

/-- Slots i and j are neighbours under the offsets given. -/
def isNeighbour (t : Template) (offs : List Nat) (i j : Nat) : Bool :=
  let c := t.clientSlots
  let up := (j + c - i % c) % c
  let down := (i + c - j % c) % c
  decide (i < c ∧ j < c ∧ i ≠ j) &&
    (offs.contains up || offs.contains down || (t.degree % 2 == 1 && up == c / 2))

/-- Neighbours of a slot, ascending. -/
def neighbours (t : Template) (offs : List Nat) (i : Nat) : List Nat :=
  let c := t.clientSlots
  let l := offs.flatMap fun o => [(i + o) % c, (i + c - o % c) % c]
  let l := if t.degree % 2 = 1 then (i + c / 2) % c :: l else l
  (l.eraseDups).mergeSort (fun a b => decide (a ≤ b))

/-- Export level of a ring cohort: LEVEL of its C1OUT descriptors (R228); 0 if it has none. -/
def PlanImage.exportLevel (p : PlanImage) (t : Nat) : Nat :=
  (((p.blocks.flatMap Block.entries).find? fun e => e.2.opcode == 0x19 && e.2.cohort == t).map
    fun e => e.2.param0 / 256 % 256).getD 0

/-- Export tiles X of a ring tile and 512-residue blocks of export tile `x` (R228). -/
def exportTiles (level n : Nat) : Nat := ceilDiv (level * n) 8192
def exportBlocks (level n x : Nat) : Nat := ceilDiv (min 8192 (level * n - 8192 * x)) 512

-- Plans from the state

/-- The context, not FREE, that owns beat `b` of each window (R89, R323). -/
def State.beatOwner (s : State) (b : Nat) : Option Nat :=
  (List.range 16).find? fun c => (s.ctxSet c).state != .free && (s.ctxSet c).mask.getLsbD b

/-- The descriptor an entry holds for the cluster of a block position, with its context: none reads as IDLE (R89). -/
def State.tableEntry (s : State) (position entry : Nat) : Option (Nat × Descriptor) :=
  match s.beatOwner (entry % 256) with
  | none => none
  | some c =>
    let p := s.plan c
    if p.state = .running ∨ (p.state = .unloading ∧ p.startBeat ≠ 0) then
      p.image.bind fun i => (i.block position).bind fun b =>
        (b.entries.find? fun e => e.1 == entry).map fun e => (c, e.2)
    else none

/-- Image of a context's admitted plan: its cohorts are open until an unload takes effect (R36). -/
def State.image (s : State) (c : Nat) : Option PlanImage :=
  match (s.plan c).state with
  | .loaded => (s.plan c).image
  | .running => (s.plan c).image
  | .unloading => (s.plan c).image
  | _ => none

/-- Template index of an open cohort of a context (R36). -/
def State.cohortOf (s : State) (c id : Nat) : Option Nat :=
  (s.image c).bind fun i =>
    let k := i.templates.findIdx fun t => t.cohortId == id
    if k < i.templates.length then some k else none

/-- The PHASE bit of a round's state (R94, R251). -/
def Round.phase (r : Round) (opcode : Nat) : Nat :=
  match r.state with
  | .open => 1
  | .closed => 2
  | .unmasking => if opcode = 0x20 then (if r.finishPhase then 8 else 0) else 4
  | .finished => 8
  | _ => 0

end Sys2Proof.Machine
end

