-- ==== Sys2Proof/Machine/PlanImage.lean ====
section
/-!
DEFINITION. Machine/PlanImage.lean: the parts of a plan image read from its bytes (R103 to R108): directory, stage map,
slot tables, routes, memory map, templates, chains, policy binding, noise table, spare map and cost.
-/
namespace Sys2Proof.Machine

/-- Where no single field fails (R109). -/
def noField : Nat := 0xFFFFFFFF

/-- Offset of the directory entry of section type `k`, 1 to 9. -/
def dirEntry (k : Nat) : Nat := 16 + 16 * k
def secOff (b : Bytes) (k : Nat) : Nat := leAt b (dirEntry k + 4) 4
def secLen (b : Bytes) (k : Nat) : Nat := leAt b (dirEntry k + 8) 4

/-- Bytes of a slot-table block and offsets within the section. -/
def blockBytes : Nat := 132112
def blockOff (b : Bytes) (x : Nat) : Nat := secOff b 2 + blockBytes * x
def cursorOff (b : Bytes) (x i : Nat) : Nat := blockOff b x + 16 + 16 * i
def entryOff (b : Bytes) (x e : Nat) : Nat := blockOff b x + 1040 + 32 * e
def templateOff (b : Bytes) (i : Nat) : Nat := secOff b 5 + 16 + 128 * i
def templateCount (b : Bytes) : Nat := leAt b (secOff b 5) 2
def chainCount (b : Bytes) : Nat := leAt b (secOff b 5 + 2) 2
def chainOff (b : Bytes) (k : Nat) : Nat := secOff b 5 + 16 + 128 * templateCount b + 520 * k
def noiseCount (b : Bytes) : Nat := leAt b (secOff b 7) 4

/-- A slot descriptor. -/
def readDescriptor (r : Bytes) : Descriptor :=
  { opcode := leAt r 0 1, context := leAt r 1 1 % 16, span := leAt r 2 2, stageMap := leAt r 4 2, cohort := leAt r 6 2,
    format := leAt r 8 1, phase := leAt r 9 1 % 16, cursor := leAt r 10 1, srcRoute := leAt r 12 2,
    dstRoute := leAt r 14 2, keyGroup := leAt r 16 2, evalKey := leAt r 18 2, param0 := leAt r 20 4,
    sramOffset := leAt r 24 4 % 8192, param1 := leAt r 28 4 }

def readCursor (r : Bytes) : CursorDef :=
  { kind := leAt r 0 1, cohort := leAt r 2 2, first := leAt r 4 4 % 2 ^ 24, count := leAt r 8 4 }

/-- One block: its cursors and its entries whose OPCODE is not 0. -/
def readBlock (b : Bytes) (x : Nat) : Block :=
  let n := min 64 (leAt b (blockOff b x + 2) 2)
  { cluster := leAt b (blockOff b x) 2
    cursors := (List.range n).map fun i => readCursor (slice b (cursorOff b x i) 16)
    entries := (List.range 4096).filterMap fun e =>
      let r := slice b (entryOff b x e) 32
      if leAt r 0 1 = 0 then none else some (e, readDescriptor r) }

def readStage (r : Bytes) : StageEntry :=
  { enable := BitVec.ofNat 8 (leAt r 0 1), auMode := leAt r 1 1, upMode := leAt r 2 1, ksMode := leAt r 3 1,
    ksUnits := leAt r 4 1, rgMode := leAt r 5 1, tfMode := leAt r 6 1, acMode := leAt r 7 1, fnMode := leAt r 8 1 }

def readRoute (r : Bytes) : Route :=
  { src := leAt r 0 2, dst := leAt r 2 2, kind := leAt r 4 1, hops := leAt r 5 1, via := leAt r 6 1, rate := leAt r 8 2 }

def readRegion (r : Bytes) : Region :=
  { kind := leAt r 0 1, die := leAt r 1 1, cluster := leAt r 2 1, cohort := leAt r 4 2, base := leAt r 8 8,
    length := leAt r 16 8 }

def readTemplate (r : Bytes) : Template :=
  { cohortId := leAt r 0 4, mode := leAt r 4 1, format := leAt r 5 1, prg := leAt r 6 1, role := leAt r 7 1,
    clientSlots := leAt r 8 4, tiles := leAt r 12 4, slotBase := leAt r 16 4, slotCount := leAt r 20 4,
    degree := leAt r 24 2, threshold := leAt r 26 2, headroom := leAt r 28 1, logN := leAt r 29 1, limbs := leAt r 30 1,
    special := leAt r 31 1, dnum := leAt r 32 1, committee := leAt r 33 1, decThreshold := leAt r 34 1,
    chain := leAt r 35 1, wS := leAt r 36 2, lwrLambda := leAt r 38 2, wR := leAt r 40 4, lwrR := leAt r 44 1,
    plaintextMod := leAt r 48 8, publicSeed := slice r 56 32, graphSeed := slice r 88 32, rootSerial := leAt r 120 8 }

def readChain (r : Bytes) : Chain :=
  let d := leAt r 0 1
  let primes := (List.range 64).map fun j => leAt r (8 + 8 * j) 8
  { data := primes.take d, special := (primes.drop d).take (leAt r 1 1) }

def readNoise (r : Bytes) : NoiseEntry :=
  { opcode := leAt r 0 1, logN := leAt r 1 1, level := leAt r 2 1, rule := leAt r 3 1, growth := leAt r 4 4 % 2 ^ 24 }

/-- Records of `n` bytes from an offset. -/
def records (b : Bytes) (off n count : Nat) : List Bytes := (List.range count).map fun i => slice b (off + n * i) n

/-- The whole image. -/
def readPlan (b : Bytes) : PlanImage :=
  let o6 := secOff b 6
  let o9 := secOff b 9
  { planId := leAt b 16 8, compilerBuild := leAt b 24 4
    stages := (records b (secOff b 1) 16 (secLen b 1 / 16)).map readStage
    blocks := (List.range 60).map fun x => readBlock b x
    routes := (records b (secOff b 3) 16 (secLen b 3 / 16)).map readRoute
    regions := (records b (secOff b 4) 32 (secLen b 4 / 32)).map readRegion
    templates := (records b (templateOff b 0) 128 (templateCount b)).map readTemplate
    chains := (records b (chainOff b 0) 520 (chainCount b)).map readChain
    binding := { policyDigest := slice b o6 48, aggKeyDigest := slice b (o6 + 48) 48, kmin := leAt b (o6 + 96) 4,
                 noiseRequired := leAt b (o6 + 100) 1 == 1, rootPlanDigest := slice b (o6 + 128) 48 }
    noiseMargin := leAt b (secOff b 7 + 4) 4 % 2 ^ 24
    noise := (records b (secOff b 7 + 8) 16 (noiseCount b)).map readNoise
    eligible := (List.range 4).map fun c => leAt b (secOff b 8 + 16 * c + 2) 2
    cost := { level := leAt b o9 1, powerClass := leAt b (o9 + 1) 1, windowsPerRound := leAt b (o9 + 4) 4,
              hbmBytes := leAt b (o9 + 8) 8 } }

/-- Cyclic distance between two entries of the table; a whole loop between an entry and itself. -/
def cyclic (a b : Nat) : Nat := let d := (b + 4096 - a) % 4096; if d = 0 then 4096 else d

/-- Consecutive pairs of a list, the last with the first. -/
def cyclicPairs {α : Type} (l : List α) : List (α × α) := List.zip l (l.drop 1 ++ l.take 1)

/-- Lead entries: neither IDLE nor CONT. -/
def Block.leads (b : Block) : List (Nat × Descriptor) := b.entries.filter fun e => e.2.opcode != 0xF0

/-- Leads of an opcode on a cursor. -/
def Block.leadsOf (b : Block) (op cursor : Nat) : List (Nat × Descriptor) :=
  b.entries.filter fun e => e.2.opcode == op && e.2.cursor == cursor

/-- A ring opcode of a sequence (R200). -/
def ringSeqOp (op : Nat) : Bool := decide (0x10 ≤ op ∧ op ≤ 0x19)

/-- Ciphertext elements of the costs: unit rule of R209. -/
def unitCost (u c : Nat) : Nat := ceilDiv u 8 * c

/-- Cycles of a ring opcode at level `l` (R97, R209, R233). -/
def ringCycles (t : Template) (op l : Nat) : Nat :=
  let n := t.degreeN
  let cM := n / 16
  let cT := n * t.logN / 16
  let k := t.special
  let alpha := ceilDiv t.limbs (max 1 t.dnum)
  let beta := ceilDiv l (max 1 alpha)
  let lp := beta * alpha
  let ks := unitCost l cT + unitCost lp cM + unitCost (beta * (lp - alpha + k)) (alpha * cM) +
    unitCost (beta * (lp - alpha + k)) cT + unitCost (beta * (lp + k)) (2 * cM) + unitCost (2 * k) cT +
    unitCost (2 * k) cM + unitCost (2 * l) (k * cM) + unitCost (2 * l) cT + unitCost (2 * l) cM
  match op with
  | 0x10 => unitCost (2 * l) cM
  | 0x11 => unitCost (2 * l) cM
  | 0x12 => unitCost (2 * l) cT
  | 0x13 => unitCost (2 * l) cT
  | 0x14 => unitCost l (n / 4)
  | 0x15 => ks
  | 0x16 => unitCost (2 * l) cM + ks
  | 0x17 => ks
  | 0x18 => unitCost 2 cT + unitCost 2 cM + unitCost (2 * (l - 1)) cM + unitCost (2 * (l - 1)) cT +
      unitCost (2 * (l - 1)) cM
  | 0x19 => unitCost l cM
  | _ => unitCost l ((t.decThreshold + 2) * cM) + (l + 1) * n / 128

/-- Bytes that a ring opcode streams over its SRC_ROUTE (R203, R206, R218, R233). -/
def ringStream (t : Template) (op l : Nat) : Nat :=
  let n := t.degreeN
  let alpha := ceilDiv t.limbs (max 1 t.dnum)
  let key := ceilDiv l (max 1 alpha) * 2 * (l + t.special) * 8 * n + 48 * (t.dnum * 2 * (t.limbs + t.special))
  match op with
  | 0x10 => 16 * n * t.limbs
  | 0x14 => 16 * n * t.limbs
  | 0x11 => 8 * n * l
  | 0x15 => key
  | 0x16 => key
  | 0x17 => key
  | 0x1A => (t.decThreshold + 1) * l * 8 * n
  | _ => 0

/-- Level of a ring descriptor. -/
def Descriptor.level (d : Descriptor) : Nat := d.param0 / 256 % 256

/-- Cost of a lead in beats (R97, R99, R209). -/
def PlanImage.cost? (im : PlanImage) (d : Descriptor) : Nat :=
  let t := im.template d.cohort
  let e := fmtElems t.format
  if d.opcode = 0x05 then 8
  else if d.opcode = 0x08 then ceilDiv (ceilDiv (e * t.lwrLambda * ceilDiv (fmtBits t.format + t.lwrR) 8) 32) 2048
  else if d.opcode = 0x20 then ceilDiv (4 * (d.param0 % 256 + 2) * (e / 16)) 2048
  else if 0x10 ≤ d.opcode ∧ d.opcode ≤ 0x1A then
    max (ceilDiv (ringCycles t d.opcode d.level) 2048)
      (ceilDiv (ringStream t d.opcode d.level) (1000 * max 1 (im.route d.srcRoute).rate))
  else 1

/-- Limb-polynomials that a ring opcode needs in SRAM (R202, R233). -/
def workingSet (t : Template) (op l : Nat) : Nat :=
  let k := t.special
  match op with
  | 0x14 => 3 * l + 2
  | 0x15 => 4 * l + 2 * k + 2
  | 0x16 => 4 * l + 2 * k + 2
  | 0x17 => 5 * l + 2 * k + 2
  | _ => 2 * l + 2

end Sys2Proof.Machine
end

