-- ==== Sys2Proof/Machine/Policy.lean ====
section
/-!
DEFINITION. Machine/Policy.lean: the policy object and its finish specifications (R237, R238, R465), read from its bytes.
-/
namespace Sys2Proof.Machine

/-- A term of a finish specification: EXP, OFFSET, WEIGHT. -/
structure FinishTerm where
  exp : Nat
  offset : Nat
  weight : Int
  deriving DecidableEq, Repr

/-- A finish specification (R237). -/
structure FinishSpec where
  cohortId : Nat
  outFormat : Nat
  f0 : Int
  noiseFrac : Int
  stride : Nat
  outTiles : Nat
  sigma : Nat
  terms : List FinishTerm
  deriving DecidableEq, Repr

/-- Bytes of one specification with `n` terms. -/
def specBytes (n : Nat) : Nat := 64 + 16 * n

/-- Read the term at an offset. -/
def readTerm (b : Bytes) (o : Nat) : FinishTerm := ⟨leAt b o 1, leAt b (o + 2) 2, signedOf 32 (leAt b (o + 4) 4)⟩

/-- Read a specification from its bytes. -/
def readSpec (b : Bytes) : FinishSpec :=
  { cohortId := leAt b 0 4, outFormat := leAt b 4 1, f0 := signedOf 8 (leAt b 6 1), noiseFrac := signedOf 8 (leAt b 7 1),
    stride := leAt b 8 4, outTiles := leAt b 12 4, sigma := leAt b 16 4,
    terms := (List.range (leAt b 5 1)).map fun j => readTerm b (64 + 16 * j) }

/-- A specification keeps the ranges of R237 and its reserved bytes are 0. -/
def specOk (noise : Bool) (b : Bytes) : Bool :=
  let s := readSpec b
  let n := leAt b 5 1
  decide (1 ≤ s.outFormat ∧ s.outFormat ≤ 4 ∧ 1 ≤ n ∧ n ≤ 64 ∧ -32 ≤ s.f0 ∧ s.f0 ≤ 62 ∧ -32 ≤ s.noiseFrac ∧
    s.noiseFrac ≤ 32 ∧ 1 ≤ s.stride ∧ s.stride ≤ 65536 ∧ 1 ≤ s.outTiles ∧ s.outTiles ≤ 16777216 ∧
    s.sigma ≤ 0x40000000) && zeroAt b 20 44 &&
  s.terms.all (fun t => decide (t.exp ≤ 62 ∧ t.offset < s.stride ∧ -2147483647 ≤ t.weight)) &&
  (List.range n).all (fun j => zeroAt b (64 + 16 * j + 1) 1 && zeroAt b (64 + 16 * j + 8) 8) &&
  (!noise || decide (0x100 ≤ s.sigma))

/-- Specifications one after another, each as its bytes; none when they do not end with the object. -/
def splitSpecs : Nat → Bytes → Option (List Bytes)
  | 0, b => if b.isEmpty then some [] else none
  | n + 1, b =>
    let len := specBytes (leAt b 5 1)
    if b.length < 64 ∨ b.length < len then none
    else (splitSpecs n (b.drop len)).map fun r => b.take len :: r

def policyKmin (b : Bytes) : Nat := if leAt b 8 4 = 0 then 1000 else leAt b 8 4
def policyNoise (b : Bytes) : Bool := leAt b 12 1 == 1
/-- The object: the first LENGTH bytes of the staged area (R466). -/
def policyObject (stage : Bytes) : Bytes := stage.take (leAt stage 16 4)

/-- The staged area holds a policy object that may be put in force (R238, R465, R466). -/
def policyOk (stage : Bytes) : Bool :=
  let len := leAt stage 16 4
  let b := stage.take len
  let k := leAt b 8 4
  let specs := splitSpecs (leAt b 6 2) (b.drop 64)
  decide (64 ≤ len ∧ len ≤ 65536 ∧ len ≤ stage.length) && slice b 0 4 == ascii "TLPO" && leAt b 4 2 == 1 &&
  decide (leAt b 6 2 ≤ 256) && (k == 0 || decide (2 ≤ k ∧ k ≤ 16777216)) && decide (leAt b 12 1 ≤ 1) &&
  zeroAt b 13 3 && zeroAt b 20 44 &&
  match specs with
  | none => false
  | some l =>
    l.all (specOk (policyNoise b)) && decide ((l.map fun x => leAt x 0 4).Nodup)

/-- The finish specification of a cohort in a policy object. -/
def policySpec (b : Bytes) (cohortId : Nat) : Option FinishSpec :=
  ((splitSpecs (leAt b 6 2) (b.drop 64)).getD []).map readSpec |>.find? fun s => s.cohortId == cohortId

/-- Bytes of an output element, w_out (R245). -/
def outWidth (fmt : Nat) : Nat := if fmt = 2 then 8 else if fmt = 4 then 2 else 4

end Sys2Proof.Machine
end

