-- ==== Sys2Proof/Machine/Cipher.lean ====
section
/-!
DEFINITION. Machine/Cipher.lean: AES-128 and AES-256 (FIPS 197), counter mode, GCM (SP 800-38D), key wrap with
padding (SP 800-38F) and ChaCha20 (RFC 8439). The spec names the standards (R15); their bodies are the published
ones (PRESUMED, log entry 4).
-/
namespace Sys2Proof.Machine

/-- Multiplication by x in GF(2^8) with the AES polynomial. -/
def gfDouble (a : Byte) : Byte := if a.getLsbD 7 then (a <<< 1) ^^^ 0x1B else a <<< 1

/-- Product in GF(2^8), over the low `n` bits of `b`. -/
def gfMulBits : Nat → Byte → Byte → Byte
  | 0, _, _ => 0
  | n + 1, a, b => (if b.getLsbD 0 then a else 0) ^^^ gfMulBits n (gfDouble a) (b >>> 1)

def gfMul (a b : Byte) : Byte := gfMulBits 8 a b

/-- Inverse in GF(2^8): the 254th power. -/
def gfInv (a : Byte) : Byte :=
  let a2 := gfMul a a
  let a3 := gfMul a2 a
  let a6 := gfMul a3 a3
  let a12 := gfMul a6 a6
  let a15 := gfMul a12 a3
  let a30 := gfMul a15 a15
  let a60 := gfMul a30 a30
  let a120 := gfMul a60 a60
  let a126 := gfMul a120 a6
  let a127 := gfMul a126 a
  gfMul a127 a127

/-- The AES S-box. -/
def aesSbox (a : Byte) : Byte :=
  let b := gfInv a
  b ^^^ b.rotateLeft 1 ^^^ b.rotateLeft 2 ^^^ b.rotateLeft 3 ^^^ b.rotateLeft 4 ^^^ 0x63

/-- The S-box as a list of 256 bytes. -/
def aesSboxTable : Bytes := (List.range 256).map fun i => aesSbox (BitVec.ofNat 8 i)

/-- Expands the key words, held newest first, by `n` words; `i` counts words, `nk` words in the key. -/
def aesExpand (sb : Byte → Byte) (nk : Nat) : Nat → Nat → Byte → List Bytes → List Bytes
  | 0, _, _, ws => ws
  | n + 1, i, rc, ws =>
    let prev := ws.headD []
    let t :=
      if i % nk = 0 then xorBytes ((prev.drop 1 ++ prev.take 1).map sb) [rc, 0, 0, 0]
      else if nk > 6 && i % nk = 4 then prev.map sb else prev
    aesExpand sb nk n (i + 1) (if i % nk = 0 then gfDouble rc else rc) (xorBytes (ws.getD (nk - 1) []) t :: ws)

/-- An expanded key: the S-box table and the round keys of 16 bytes. -/
structure AesKey where
  sbox : Bytes
  rounds : List Bytes

/-- Key expansion of FIPS 197 for 16- or 32-byte keys. -/
def aesKey (key : Bytes) : AesKey :=
  let t := aesSboxTable
  let sb := fun (b : Byte) => t.getD b.toNat 0
  let nk := key.length / 4
  let ws := (aesExpand sb nk (4 * (nk + 7) - nk) nk 1 (chunks 4 nk key).reverse).reverse
  ⟨t, (chunks 4 (nk + 7) ws).map List.flatten⟩

def aesShiftRows (s : Bytes) : Bytes := (List.range 16).map fun i => s.getD ((i + 4 * (i % 4)) % 16) 0

def aesMixColumn (c : Bytes) : Bytes :=
  (List.range 4).map fun r =>
    let g := fun i => c.getD ((r + i) % 4) 0
    gfDouble (g 0) ^^^ (gfDouble (g 1) ^^^ g 1) ^^^ g 2 ^^^ g 3

/-- Encrypts one 16-byte block. -/
def aesBlock (k : AesKey) (b : Bytes) : Bytes :=
  let sub := fun (s : Bytes) => s.map fun x => k.sbox.getD x.toNat 0
  let first := xorBytes b (k.rounds.headD [])
  let mid := (k.rounds.drop 1).take (k.rounds.length - 2)
  let s := mid.foldl (fun s rk =>
    xorBytes (((chunks 4 4 (aesShiftRows (sub s))).map aesMixColumn).flatten) rk) first
  xorBytes (aesShiftRows (sub s)) (k.rounds.getLastD [])

def aesInvShiftRows (s : Bytes) : Bytes := (List.range 16).map fun i => s.getD ((i + 12 * (i % 4)) % 16) 0

def aesInvMixColumn (c : Bytes) : Bytes :=
  (List.range 4).map fun r =>
    let g := fun i => c.getD ((r + i) % 4) 0
    gfMul 0x0E (g 0) ^^^ gfMul 0x0B (g 1) ^^^ gfMul 0x0D (g 2) ^^^ gfMul 0x09 (g 3)

/-- Decrypts one 16-byte block. -/
def aesBlockInv (k : AesKey) (b : Bytes) : Bytes :=
  let inv := fun (x : Byte) => BitVec.ofNat 8 (k.sbox.idxOf x)
  let mid := (k.rounds.drop 1).take (k.rounds.length - 2)
  let s := aesInvShiftRows (xorBytes b (k.rounds.getLastD []))
  let s := mid.reverse.foldl (fun s rk =>
    aesInvShiftRows (((chunks 4 4 (xorBytes (s.map inv) rk)).map aesInvMixColumn).flatten)) s
  xorBytes (s.map inv) (k.rounds.headD [])

/-- Keystream blocks from counter block `ctr`, incrementing its low `w` bits. -/
def aesCtrStream (k : AesKey) (w : Nat) : Nat → Nat → Bytes
  | 0, _ => []
  | n + 1, ctr =>
    aesBlock k (beBytes 16 ctr)
      ++ aesCtrStream k w n (ctr / 2 ^ w * 2 ^ w + (ctr % 2 ^ w + 1) % 2 ^ w)

/-- `len` keystream bytes of AES counter mode with a 128-bit counter from `iv`. -/
def aesCtr (key iv : Bytes) (len : Nat) : Bytes := (aesCtrStream (aesKey key) 128 (ceilDiv len 16) (beNat iv)).take len

/-- Product in the field of GHASH, over the bits of `x` from the most significant down. -/
def ghashMul (y : BitVec 128) : Nat → BitVec 128 → BitVec 128 → BitVec 128
  | 0, _, z => z
  | n + 1, v, z =>
    ghashMul y n (if v.getLsbD 0 then (v >>> 1) ^^^ (0xE1#128 <<< 120) else v >>> 1)
      (if y.getLsbD n then z ^^^ v else z)

def ghash (h : BitVec 128) (m : Bytes) : BitVec 128 :=
  (chunks 16 m.length m).foldl
    (fun y b => ghashMul (y ^^^ BitVec.ofNat 128 (beNat (padTo 16 b))) 128 h 0) 0

def padBlock (b : Bytes) : Bytes := b ++ zeros (roundUp b.length 16 - b.length)

/-- The GCM tag over additional data and ciphertext. -/
def gcmTag (k : AesKey) (iv aad ct : Bytes) : Bytes :=
  let h := BitVec.ofNat 128 (beNat (aesBlock k (zeros 16)))
  let s := ghash h (padBlock aad ++ padBlock ct ++ beBytes 8 (8 * aad.length) ++ beBytes 8 (8 * ct.length))
  xorBytes (beBytes 16 s.toNat) (aesBlock k (iv ++ beBytes 4 1))

def gcmCrypt (k : AesKey) (iv m : Bytes) : Bytes :=
  xorBytes m (aesCtrStream k 32 (ceilDiv m.length 16) (beNat (iv ++ beBytes 4 2)))

/-- AES-GCM seal with a 12-byte IV: ciphertext, then the 16-byte tag. -/
def gcmSeal (key iv aad m : Bytes) : Bytes :=
  let k := aesKey key
  let c := gcmCrypt k iv m
  c ++ gcmTag k iv aad c

/-- AES-GCM open: the plaintext when the tag verifies. -/
def gcmOpen (key iv aad sealed : Bytes) : Option Bytes :=
  let k := aesKey key
  let n := sealed.length - 16
  if sealed.length < 16 then none
  else if gcmTag k iv aad (sealed.take n) = sealed.drop n then some (gcmCrypt k iv (sealed.take n)) else none

/-- One pass over the registers of the wrapping function W. -/
def kwPass (k : AesKey) (n j : Nat) (st : Bytes × List Bytes) : Bytes × List Bytes :=
  (List.range n).foldl (fun st i =>
    let b := aesBlock k (st.1 ++ st.2.getD i [])
    (xorBytes (b.take 8) (beBytes 8 (n * j + i + 1)), st.2.set i (b.drop 8))) st

def kwUnpass (k : AesKey) (n j : Nat) (st : Bytes × List Bytes) : Bytes × List Bytes :=
  (List.range n).foldl (fun st i' =>
    let i := n - 1 - i'
    let b := aesBlockInv k (xorBytes st.1 (beBytes 8 (n * j + i + 1)) ++ st.2.getD i [])
    (b.take 8, st.2.set i (b.drop 8))) st

/-- AES key wrap with padding of a plaintext longer than 8 bytes (SP 800-38F). -/
def kwpWrap (key m : Bytes) : Bytes :=
  let k := aesKey key
  let n := ceilDiv m.length 8
  let st := (List.range 6).foldl (fun st j => kwPass k n j st)
    ([0xA6, 0x59, 0x59, 0xA6] ++ beBytes 4 m.length, chunks 8 n (padTo (8 * n) m))
  st.1 ++ st.2.flatten

/-- Unwraps, when the integrity value, the length and the padding hold. -/
def kwpUnwrap (key c : Bytes) : Option Bytes :=
  let k := aesKey key
  let n := c.length / 8 - 1
  let st := (List.range 6).foldl (fun st j => kwUnpass k n (5 - j) st) (c.take 8, chunks 8 n (c.drop 8))
  let m := st.2.flatten
  let len := beNat (st.1.drop 4)
  if st.1.take 4 = [0xA6, 0x59, 0x59, 0xA6] && ceilDiv len 8 == n && (m.drop len).all (· == 0)
  then some (m.take len) else none

/-- The tweak of the next block of XTS: its product with x, the first byte lowest (SP 800-38E). -/
def xtsNext (t : Bytes) : Bytes :=
  let n := leNat t
  leBytes 16 ((2 * n % 2 ^ 128) ^^^ (if n < 2 ^ 127 then 0 else 0x87))

def xtsTweaks : Nat → Bytes → List Bytes
  | 0, _ => []
  | n + 1, t => t :: xtsTweaks n (xtsNext t)

/-- One data unit of at least 16 bytes through XTS with the block operation `f`; a last part of a block is stolen from the
block before it, whose two tweaks `back` exchanges. -/
def xtsUnit (f : Bytes → Bytes) (tweak : Bytes) (back : Bool) (m : Bytes) : Bytes :=
  let n := m.length / 16
  let part := m.length % 16
  let ts := xtsTweaks (n + 1) tweak
  let block := fun (j : Nat) (b : Bytes) => let t := ts.getD j []; xorBytes (f (xorBytes b t)) t
  let body := fun (k : Nat) => (List.range k).flatMap fun j => block j (slice m (16 * j) 16)
  if part = 0 then body n
  else
    let c := block (if back then n else n - 1) (slice m (16 * (n - 1)) 16)
    body (n - 1) ++ block (if back then n - 1 else n) (m.drop (16 * n) ++ c.drop part) ++ c.take part

/-- AES-256-XTS under a 64-byte key, with a tweak number (R161, R356). -/
def xtsSeal (key : Bytes) (tweak : Nat) (m : Bytes) : Bytes :=
  xtsUnit (aesBlock (aesKey (key.take 32))) (aesBlock (aesKey (key.drop 32)) (leBytes 16 tweak)) false m
def xtsOpen (key : Bytes) (tweak : Nat) (c : Bytes) : Bytes :=
  xtsUnit (aesBlockInv (aesKey (key.take 32))) (aesBlock (aesKey (key.drop 32)) (leBytes 16 tweak)) true c

/-- The quarter round of ChaCha20 on four indices. -/
def chachaQuarter (s : List (BitVec 32)) (i : Nat × Nat × Nat × Nat) : List (BitVec 32) :=
  let a := s.getD i.1 0; let b := s.getD i.2.1 0; let c := s.getD i.2.2.1 0; let d := s.getD i.2.2.2 0
  let a := a + b; let d := (d ^^^ a).rotateLeft 16
  let c := c + d; let b := (b ^^^ c).rotateLeft 12
  let a := a + b; let d := (d ^^^ a).rotateLeft 8
  let c := c + d; let b := (b ^^^ c).rotateLeft 7
  (((s.set i.1 a).set i.2.1 b).set i.2.2.1 c).set i.2.2.2 d

/-- One 64-byte block of ChaCha20. -/
def chachaBlock (key nonce : Bytes) (ctr : Nat) : Bytes :=
  let w := fun (b : Bytes) n => (chunks 4 n b).map fun x => BitVec.ofNat 32 (leNat x)
  let s := w (ascii "expand 32-byte k") 4 ++ w key 8 ++ [BitVec.ofNat 32 ctr] ++ w nonce 3
  let double := fun s => [(0, 4, 8, 12), (1, 5, 9, 13), (2, 6, 10, 14), (3, 7, 11, 15),
    (0, 5, 10, 15), (1, 6, 11, 12), (2, 7, 8, 13), (3, 4, 9, 14)].foldl chachaQuarter s
  (List.zipWith (· + ·) s (Nat.repeat double 10 s)).flatMap fun x => leBytes 4 x.toNat

def chachaStream (key nonce : Bytes) : Nat → Nat → Bytes
  | 0, _ => []
  | n + 1, c => chachaBlock key nonce c ++ chachaStream key nonce n (c + 1)

/-- `len` keystream bytes of ChaCha20 from block counter `ctr`. -/
def chacha20 (key nonce : Bytes) (ctr len : Nat) : Bytes := (chachaStream key nonce (ceilDiv len 64) ctr).take len

end Sys2Proof.Machine
end

