-- ==== Sys2Proof/Machine/Frames.lean ====
section
/-!
DEFINITION. Machine/Frames.lean: sub-ports and their Ethernet frames: which sub-ports carry traffic, the encapsulation of a
Grixo packet, checks 1 to 4 of a received frame, and address resolution (R257 to R262, R269). The layouts of Ethernet,
IP, UDP, ARP, ICMPv6 and their checksums are those of the standards that the spec names (log entry 55).
-/
namespace Sys2Proof.Machine

-- Sub-ports (R257 to R261)

def State.port (s : State) (lane : Nat) : SubPort := s.grixo.ports.getD lane .reset
def State.updPort (s : State) (lane : Nat) (f : SubPort → SubPort) : State :=
  { s with grixo := { s.grixo with ports := updAt s.grixo.ports lane f } }

/-- Mode of a port, and the sub-ports that a mode has (R257). -/
def PortSettings.modeOf (p : PortSettings) (n : Nat) : Nat := p.mode.toNat / 4 ^ n % 4
def subPorts (mode : Nat) : Nat := 2 ^ mode

/-- The sub-port exists in its port's mode and its port is enabled. -/
def State.portUsable (s : State) (lane : Nat) : Bool :=
  s.set.ports.enable.getLsbD (lane / 4) && decide (lane < 64 ∧ lane % 4 < subPorts (s.set.ports.modeOf (lane / 4)))

/-- A frame can come in by the sub-port: it is usable and its link is trained or being trained (R259). -/
def State.listens (s : State) (lane : Nat) : Bool := s.portUsable lane && (s.port lane).training

/-- The sub-port has a next hop of the family. -/
def SubPort.hop (p : SubPort) (ipv4 : Bool) : Option Bytes := if ipv4 then p.hop4 else p.hop6

/-- Count a dropped frame at its sub-port (R269). -/
def State.dropAt (s : State) (lane : Nat) : State := s.updPort lane fun p => { p with drops := p.drops + 1 }

-- Addresses (R258, R261)

/-- MAC_BASE + n, its low 6 bits being 0: sub-port n, or the management port for 64 (R258, R451). -/
def State.macOf (s : State) (n : Nat) : Bytes := beBytes 6 (beNat s.grixo.macBase / 64 * 64 + n)

/-- A Hoist's address of a family: 16 or 4 bytes. -/
def State.hoistAddr (s : State) (hoist : Nat) (ipv4 : Bool) : Bytes :=
  let p := s.set.ports
  if ipv4 then beBytes 4 (if hoist = 0 then p.addr4.1 else p.addr4.2)
  else if hoist = 0 then p.addr6.1 else p.addr6.2

/-- Its gateway. -/
def State.gateway (s : State) (hoist : Nat) (ipv4 : Bool) : Bytes :=
  let p := s.set.ports
  if ipv4 then beBytes 4 (if hoist = 0 then p.gw4.1 else p.gw4.2)
  else if hoist = 0 then p.gw6.1 else p.gw6.2

/-- The family is enabled: its address is not all 0. -/
def State.family (s : State) (hoist : Nat) (ipv4 : Bool) : Bool := (s.hoistAddr hoist ipv4).any (· != 0)

/-- An IPv4 address as the mapped IPv6 address that REMOTE_ADDR holds (R285). -/
def mapped4 (a : Bytes) : Bytes := zeros 10 ++ [0xFF, 0xFF] ++ a

-- Checksums

/-- Sum of big-endian 16-bit words, an odd last byte being the high one. -/
def wordSum : Bytes → Nat
  | a :: b :: r => 256 * a.toNat + b.toNat + wordSum r
  | [a] => 256 * a.toNat
  | [] => 0

/-- The Internet checksum: the complement of the ones' complement sum. A range that holds its own checksum gives 0. -/
def inetSum (b : Bytes) : Nat :=
  let fold := fun n => n % 65536 + n / 65536
  65535 - fold (fold (wordSum b))

/-- Pseudo-header of a datagram of a protocol and length. -/
def pseudoHeader (ipv4 : Bool) (src dst : Bytes) (proto len : Nat) : Bytes :=
  if ipv4 then src ++ dst ++ beBytes 2 proto ++ beBytes 2 len else src ++ dst ++ beBytes 4 len ++ beBytes 4 proto

-- Encapsulation (R258, R262)

/-- UDP datagram with its checksum, which is never sent as 0. -/
def udpDatagram (ipv4 : Bool) (src dst : Bytes) (sport dport : Nat) (body : Bytes) : Bytes :=
  let len := 8 + body.length
  let head := beBytes 2 sport ++ beBytes 2 dport ++ beBytes 2 len
  let sum := inetSum (pseudoHeader ipv4 src dst 17 len ++ head ++ zeros 2 ++ body)
  head ++ beBytes 2 (if sum = 0 then 65535 else sum) ++ body

/-- IP packet without options or extension headers: ECN 0; over IPv4 Identification 0 and DF set. -/
def ipPacket (ipv4 : Bool) (src dst : Bytes) (dscp flow proto hops : Nat) (body : Bytes) : Bytes :=
  if ipv4 then
    let front := [0x45] ++ beBytes 1 (4 * dscp) ++ beBytes 2 (20 + body.length) ++ zeros 2 ++ beBytes 2 0x4000 ++
      beBytes 1 hops ++ beBytes 1 proto
    front ++ beBytes 2 (inetSum (front ++ zeros 2 ++ src ++ dst)) ++ src ++ dst ++ body
  else beBytes 4 (6 * 2 ^ 28 + 4 * dscp * 2 ^ 20 + flow) ++ beBytes 2 body.length ++ beBytes 1 proto ++ beBytes 1 hops ++
    src ++ dst ++ body

/-- EtherTypes. -/
def etherIp (ipv4 : Bool) : Nat := if ipv4 then 0x0800 else 0x86DD
def etherArp : Nat := 0x0806

/-- Ethernet frame: untagged, padded to 64 bytes, with its FCS. -/
def etherFrame (dst src : Bytes) (type : Nat) (body : Bytes) : Bytes :=
  withCrc (dst ++ src ++ beBytes 2 type ++ body ++ zeros (46 - body.length))

/-- The frame of a Grixo packet of connection `c` on path `p` to a peer through a sub-port and its next hop (R262). -/
def State.grixoFrame (s : State) (lane : Nat) (hop : Bytes) (ipv4 : Bool) (remote : Bytes) (c p dscp sport : Nat)
    (packet : Bytes) : Bytes :=
  let src := s.hoistAddr (lane / 32) ipv4
  let dst := if ipv4 then remote.drop 12 else remote
  etherFrame hop (s.macOf lane) (etherIp ipv4)
    (ipPacket ipv4 src dst dscp (16 * c + p) 17 64 (udpDatagram ipv4 src dst sport s.set.ports.udpPort packet))

-- Received frames (R258, R261, R269)

namespace Frame
def dstMac (f : Bytes) : Bytes := f.take 6
def srcMac (f : Bytes) : Bytes := slice f 6 6
def etherType (f : Bytes) : Nat := beAt f 12 2
/-- What lies between the EtherType and the FCS, with any padding. -/
def data (f : Bytes) : Bytes := (f.take (f.length - 4)).drop 14
/-- Length and FCS (check 1). -/
def sound (f : Bytes) : Bool := decide (64 ≤ f.length ∧ f.length ≤ 9216) && f == withCrc (f.take (f.length - 4))
end Frame

/-- Fields of an IP header, and its payload. -/
structure IpView where
  src : Bytes
  dst : Bytes
  proto : Nat
  hops : Nat
  body : Bytes
  deriving DecidableEq, Repr

/-- An IP packet whose header is right (check 3): version, lengths, header checksum, no options, no fragment. An
extension header is a protocol other than UDP and ICMPv6. -/
def ipView (ipv4 : Bool) (b : Bytes) : Option IpView :=
  if ipv4 then
    let total := beAt b 2 2
    if beAt b 0 1 = 0x45 ∧ 20 ≤ total ∧ total ≤ b.length ∧ inetSum (b.take 20) = 0 ∧ beAt b 6 2 % 0x4000 = 0 then
      some ⟨slice b 12 4, slice b 16 4, beAt b 9 1, beAt b 8 1, slice b 20 (total - 20)⟩
    else none
  else if beAt b 0 1 / 16 = 6 ∧ 40 + beAt b 4 2 ≤ b.length then
    some ⟨slice b 8 16, slice b 24 16, beAt b 6 1, beAt b 7 1, slice b 40 (beAt b 4 2)⟩
  else none

/-- UDP datagram rules (check 4): the port, the length, and the checksum, which IPv4 may leave 0. -/
def udpOk (ipv4 : Bool) (v : IpView) (port : Nat) : Bool :=
  let u := v.body
  decide (8 ≤ u.length ∧ beAt u 2 2 = port ∧ beAt u 4 2 = u.length) &&
    if beAt u 6 2 = 0 then ipv4 else inetSum (pseudoHeader ipv4 v.src v.dst 17 u.length ++ u) == 0

/-- Checks 1 to 4 of a frame on a sub-port: source address as REMOTE_ADDR shows it, source port and UDP payload; none if
one fails. -/
def State.datagram (s : State) (lane : Nat) (f : Bytes) : Option (Bytes × Nat × Bytes) :=
  let ipv4 := Frame.etherType f == 0x0800
  if !Frame.sound f || Frame.dstMac f != s.macOf lane || !(ipv4 || Frame.etherType f == 0x86DD) then none
  else match ipView ipv4 (Frame.data f) with
    | none => none
    | some v =>
      if v.proto = 17 ∧ s.family (lane / 32) ipv4 ∧ v.dst = s.hoistAddr (lane / 32) ipv4 ∧ udpOk ipv4 v s.set.ports.udpPort then
        some (if ipv4 then mapped4 v.src else v.src, beAt v.body 0 2, v.body.drop 8)
      else none

-- Address resolution (R261)

/-- ICMPv6 message with its checksum. -/
def icmp6 (src dst front : Bytes) : Bytes :=
  front.take 2 ++ beBytes 2 (inetSum (pseudoHeader false src dst 58 front.length ++ front)) ++ front.drop 4

/-- Solicited-node multicast address of an address. -/
def solicitedNode (a : Bytes) : Bytes := [0xFF, 2] ++ zeros 9 ++ [1, 0xFF] ++ a.drop 13

/-- ARP packet of an operation, from sender to target. -/
def arpPacket (op : Nat) (sha spa tha tpa : Bytes) : Bytes :=
  beBytes 2 1 ++ beBytes 2 0x0800 ++ [6, 4] ++ beBytes 2 op ++ sha ++ spa ++ tha ++ tpa

/-- The request for a Hoist's gateway on a sub-port. -/
def State.hopRequest (s : State) (lane : Nat) (ipv4 : Bool) : Bytes :=
  let mac := s.macOf lane
  let src := s.hoistAddr (lane / 32) ipv4
  let target := s.gateway (lane / 32) ipv4
  if ipv4 then etherFrame (List.replicate 6 0xFF) mac etherArp (arpPacket 1 mac src (zeros 6) target)
  else
    let dst := solicitedNode target
    etherFrame ([0x33, 0x33] ++ dst.drop 12) mac 0x86DD (ipPacket false src dst 0 0 58 255
      (icmp6 src dst ([135] ++ zeros 7 ++ target ++ [1, 1] ++ mac)))

/-- Ask for the gateway of every family that is enabled and for which `need` holds. -/
def State.askHops (s : State) (lane : Nat) (need : Bool → Bool) : State :=
  [false, true].foldl (fun s v4 =>
    if s.family (lane / 32) v4 && need v4 then s.emit (.frame lane (s.hopRequest lane v4)) else s) s

/-- The address of a family that a port answers for: its Hoist's, or that of the management port (64) (R261, R451). -/
def State.ownAddr (s : State) (lane : Nat) (ipv4 : Bool) : Bytes :=
  if lane = 64 then (if ipv4 then beBytes 4 s.mgmt.inUse.addr4 else s.mgmt.inUse.addr6) else s.hoistAddr (lane / 32) ipv4

/-- The port takes frames for address resolution: a sub-port that listens, or the management port while it has power. -/
def State.answers (s : State) (lane : Nat) : Bool :=
  if lane = 64 then s.start.t0.isSome && s.power.powered.getLsbD 1 else s.listens lane

/-- The reply to an ARP request for the port's address. -/
def State.arpReply (s : State) (lane : Nat) (f : Bytes) : Option Bytes :=
  let b := Frame.data f
  let mine := s.ownAddr lane true
  if beAt b 0 2 = 1 ∧ beAt b 2 2 = 0x0800 ∧ slice b 4 2 = [6, 4] ∧ beAt b 6 2 = 1 ∧ mine.any (· != 0) ∧
      slice b 24 4 = mine then
    some (etherFrame (slice b 8 6) (s.macOf lane) etherArp (arpPacket 2 (s.macOf lane) mine (slice b 8 6) (slice b 14 4)))
  else none

/-- The Neighbor Advertisement that answers a Neighbor Solicitation for the port's address; to all nodes where the
solicitation has no source. -/
def State.neighborReply (s : State) (lane : Nat) (f : Bytes) (v : IpView) : Option Bytes :=
  let mine := s.ownAddr lane false
  if v.hops = 255 ∧ beAt v.body 1 1 = 0 ∧ 24 ≤ v.body.length ∧ mine.any (· != 0) ∧ slice v.body 8 16 = mine then
    let anon := v.src.all (· == 0)
    let dst := if anon then [0xFF, 2] ++ zeros 13 ++ [1] else v.src
    let mac := if anon then [0x33, 0x33] ++ dst.drop 12 else Frame.srcMac f
    some (etherFrame mac (s.macOf lane) 0x86DD (ipPacket false mine dst 0 0 58 255
      (icmp6 mine dst ([136, 0, 0, 0, if anon then 0x20 else 0x60] ++ zeros 3 ++ mine ++ [2, 1] ++ s.macOf lane))))
  else none

/-- What a frame is for R261: a request with its reply or none, another message of address resolution, or no part of
it. -/
inductive Resolution where
  | reply (frame : Bytes)
  | silent
  | no
  deriving DecidableEq, Repr

def State.resolution (s : State) (lane : Nat) (f : Bytes) : Resolution :=
  let mine := Frame.dstMac f == s.macOf lane || ((Frame.dstMac f).getD 0 0).getLsbD 0
  let answer := fun (o : Option Bytes) => match o with
    | some r => Resolution.reply r
    | none => .silent
  if !Frame.sound f || !mine then .no
  else if Frame.etherType f = etherArp then answer (s.arpReply lane f)
  else if Frame.etherType f = 0x86DD then
    match ipView false (Frame.data f) with
    | none => .no
    | some v =>
      if v.proto ≠ 58 ∨ inetSum (pseudoHeader false v.src v.dst 58 v.body.length ++ v.body) ≠ 0 then .no
      else if beAt v.body 0 1 = 135 then answer (s.neighborReply lane f v)
      else if beAt v.body 0 1 = 136 then .silent
      else .no
  else .no

end Sys2Proof.Machine
end

