-- ==== Sys2Proof/Machine/Hostif.lean ====
section
/-!
DEFINITION. Machine/Hostif.lean: shared operations of the host interface: errors, interrupts, commands and completions
of a virtual function (R309 to R317).
-/
namespace Sys2Proof.Machine

/-- FURLED: from the commit point of an entry to the end of the wake (R309, R416, R422). -/
def State.furled (s : State) : Bool := decide (s.power.furl ≠ 0) || s.power.committed.isSome

/-- An MSI-X message on a vector, or its pending bit if the vector is masked (R309, R312). -/
def State.msix (s : State) (v vec : Nat) : State :=
  match (s.vf v).msix[vec]? with
  | none => s
  | some m =>
    if m.masked then s.updVf v fun x => { x with pba := updAt x.pba vec fun _ => true }
    else s.emit (.msix (vfEndpoint v) (vfCtx v) vec)

/-- Record a code in a VF's ERROR_STATUS and signal it on vector 1 (R309). -/
def State.vfError (s : State) (v code : Nat) : State :=
  (s.updVf v fun x =>
    { x with overflow := x.overflow || x.err, err := true, errCode := BitVec.ofNat 32 code,
             errCount := min (x.errCount + 1) 0xFFFFFFFF }).msix v 1

/-- Opcodes of R314. -/
def cmdOpcodes : List Nat :=
  [0x01, 0x02, 0x03, 0x04, 0x05, 0x06, 0x07, 0x08, 0x09, 0x0A, 0x10, 0x11, 0x12, 0x13, 0x14, 0x18, 0x19, 0x1A, 0x1B]

/-- Parameter bytes of each opcode: (offset, length) of the fields; every other byte from 8 on is reserved (R314). -/
def cmdFields (op : Nat) : List (Nat × Nat) :=
  match op with
  | 0x01 => [(8, 8), (16, 4)]
  | 0x02 => []
  | 0x03 => [(8, 4), (12, 4), (16, 8)]
  | 0x08 => [(8, 4), (12, 4), (16, 8), (24, 4)]
  | 0x09 => [(8, 4), (12, 4), (16, 8), (24, 32)]
  | 0x0A => [(8, 4), (12, 4), (16, 8), (24, 4), (28, 2)]
  | 0x10 => [(8, 1), (9, 1), (10, 1), (11, 1), (12, 2), (14, 2), (16, 4), (20, 1), (24, 16)]
  | 0x14 => [(8, 2), (12, 4), (16, 1)]
  | 0x18 => [(8, 1), (9, 1), (10, 2), (12, 1), (13, 1), (16, 8), (24, 8)]
  | 0x19 => [(8, 1)]
  | 0x1A => [(8, 1)]
  | 0x1B => [(8, 1), (16, 8), (24, 8), (32, 4)]
  | op => if 0x11 ≤ op ∧ op ≤ 0x13 then [(8, 2)] else [(8, 4), (12, 4)]

/-- An opcode that is not listed, or a reserved byte that is set (R314). -/
def Cmd.malformed (e : Bytes) : Bool :=
  let op := Cmd.opcode e
  !cmdOpcodes.contains op || !zeroAt e 1 1 || !zeroAt e 4 4 ||
    ((e.zipIdx.drop 8).any fun (b, i) => b != 0 && !((cmdFields op).any fun f => decide (f.1 ≤ i ∧ i < f.1 + f.2)))

/-- Form a completion (R313). -/
def State.completion (s : State) (e : Bytes) (status r0 r1 : Nat) : Completion :=
  { cmdId := Cmd.id e, opcode := Cmd.opcode e, status := BitVec.ofNat 32 status, result0 := r0, result1 := r1,
    beat := s.hal.beatCount }

/-- Complete malformed commands that stand at the front (R314). -/
def settleFetched (mk : Bytes → Completion) : List Bytes → List Bytes × List Completion
  | [] => ([], [])
  | e :: r =>
    if Cmd.malformed e then let (q, h) := settleFetched mk r; (q, mk e :: h) else (e :: r, [])

/-- While no command runs, malformed commands at the front complete with 0x0121_0014. -/
def State.settleVf (s : State) (v : Nat) : State :=
  let x := s.vf v
  if x.running.isSome then s
  else
    let (q, h) := settleFetched (fun e => s.completion e 0x01210014 0 0) x.fetched
    s.updVf v fun x => { x with fetched := q, held := x.held ++ h }

/-- Complete a command of a VF: its completion is formed and the next one may start (R313, R314). -/
def State.complete (s : State) (v : Nat) (e : Bytes) (status r0 r1 : Nat) : State :=
  (s.updVf v fun x => { x with running := none, moved := 0, held := x.held ++ [s.completion e status r0 r1] }).settleVf v

/-- Complete the command that runs on a VF, if it is of an opcode. -/
def State.completeRunning (s : State) (v opcode status r0 r1 : Nat) : State :=
  match (s.vf v).running with
  | some e => if Cmd.opcode e = opcode then s.complete v e status r0 r1 else s
  | none => s

/-- Opcodes that the leader serves (R314). -/
def leaderOpcode (op : Nat) : Bool := decide (1 ≤ op ∧ op ≤ 0x0A)

/-- No leader serves a VF: none acts, or it sits behind the H0–H1 link, which is down (R317, R433). -/
def State.leaderAway (s : State) (v : Nat) : Bool :=
  s.noLeader || (s.hoistLinkDown && s.leaderCp != some (vfEndpoint v))

/-- The rejection that applies to a command before its own checks: teardown (R321), readiness, furl and HOLD (R317). -/
def State.commandGate (s : State) (v op : Nat) : Option Nat :=
  if (s.ctxSet (vfCtx v)).state = .teardown then some 0x01300076
  else if !s.ready && !((op == 0x09 || (0x10 ≤ op && op ≤ 0x14)) && s.stageCDone) then some 0x01210011
  else if s.furled && op != 0x1A then some 0x0121001A
  else if leaderOpcode op && op != 0x06 && (s.inHold || s.leaderAway v) then
    some 0x01210015
  else none

/-- Take the command at the front of a VF if it has the opcode: rejected by the gate, or decided by `f` (R314). The
command waits while another of its VF runs. -/
def State.command (s : State) (v op : Nat) (f : State → Bytes → State) : State :=
  match (s.vf v).fetched with
  | [] => s
  | e :: rest =>
    if (s.vf v).running.isSome || Cmd.opcode e != op || !s.bound v then s
    else
      let s := s.updVf v fun x => { x with fetched := rest }
      match s.commandGate v op with
      | some code => s.complete v e code 0 0
      | none => f s e

/-- Bytes of a completion entry (R313). -/
def Completion.bytes (c : Completion) : Bytes :=
  leBytes 2 c.cmdId ++ leBytes 1 c.opcode ++ zeros 1 ++ leBytes 4 c.status.toNat ++ leBytes 8 c.result0 ++
  leBytes 8 c.result1 ++ leBytes 8 c.beat

/-- Write bytes into host memory for a context. -/
def State.toHost (s : State) (c addr : Nat) (b : Bytes) : State :=
  (s.emit (.hostWrite (s.ctxSet c).endpoint c addr b)).count c fun k => { k with dmaToHost := k.dmaToHost + b.length }

end Sys2Proof.Machine
end

