-- ==== Sys2Proof/Machine/Wire.lean ====
section
/-!
DEFINITION. Machine/Wire.lean: shared operations of the Grixo transport: paths, sealing, control packets, credits, notices,
work-queue completions and the ways a connection ends (R261 to R301).
-/
namespace Sys2Proof.Machine

-- Hoists, sub-ports and paths

/-- Hoist of a connection index (R261). -/
def connHoist (i : Nat) : Nat := i / 0x8000

/-- Up sub-ports of a Hoist whose next hop of the family is resolved, ascending (R267). -/
def State.upLanes (s : State) (hoist : Nat) (ipv4 : Bool) : List Nat :=
  (List.range 64).filter fun l =>
    l / 32 == hoist && (s.port l).up && ((s.port l).hop ipv4).isSome

/-- Packets of the family can leave the Hoist: U is not 0 (R267). -/
def State.canSend (s : State) (hoist : Nat) (ipv4 : Bool) : Bool := !(s.upLanes hoist ipv4).isEmpty

/-- Source-port base of the module's connection (R267). -/
def sportBase (i : Nat) : Nat := 32768 + 16 * (i % 2048)

/-- Sub-port by which a packet of connection `i` leaves on a path (R267). -/
def State.laneOf (s : State) (i : Nat) (ipv4 : Bool) (path : Nat) : Option Nat :=
  let u := s.upLanes (connHoist i) ipv4
  if u.isEmpty then none else u[(i + path) % u.length]?

def Conn.suspended (c : Conn) (p : Nat) : Bool := ((c.pathStates[p]?).map PathState.suspended).getD false

/-- The next non-suspended path after `p`, in ascending cyclic order (R268). -/
def Conn.pathAfter (c : Conn) (p : Nat) : Nat :=
  let cand := (List.range c.paths).map fun k => (p + 1 + k) % max 1 c.paths
  (cand.find? fun x => !c.suspended x).getD p

-- Sealing (R276, R354)

/-- K_G of a connection: its slot used for GRIXO in the context's world, all zero where the use is refused (R348, R354). -/
def State.grixoKey (s : State) (c : Conn) : Bytes :=
  (s.useSlot (connHoist c.index) c.keySlot none 5 c.ctx).getD (zeros 32)

/-- K_conn (R354): A is the end that sent CONN_REQ. -/
def connKeyFrom (kg : Bytes) (aIdx aGen pIdx aFirst : Nat) : Bytes :=
  derive kg "TA32 conn" (beBytes 2 aIdx ++ beBytes 2 aGen ++ beBytes 2 pIdx ++ beBytes 4 aFirst) 32

def State.connKey (s : State) (c : Conn) : Bytes :=
  let kg := s.grixoKey c
  if c.passive then connKeyFrom kg c.remoteConn c.remoteGen c.index c.remoteFirst
  else connKeyFrom kg c.index c.gen c.remoteConn c.first

/-- IV of a packet: DIR, TYPE, header bytes 12 to 17, the receiver's CONN_GEN, two zeros. -/
def packetIv (dir : Nat) (hdr : Bytes) : Bytes :=
  beBytes 1 dir ++ slice hdr 1 1 ++ slice hdr 12 6 ++ slice hdr 8 2 ++ zeros 2

/-- The header with FLAGS and PATH replaced by 0. -/
def packetAad (hdr : Bytes) : Bytes := slice hdr 0 2 ++ zeros 2 ++ hdr.drop 4

/-- A packet from its header and payload, sealed on an encrypted connection. -/
def sealPacket (enc : Bool) (key : Bytes) (dir : Nat) (hdr body : Bytes) : Bytes :=
  if !enc then hdr ++ body
  else if beAt hdr 1 1 ≤ 4 then hdr ++ gcmSeal key (packetIv dir hdr) (packetAad hdr) body
  else hdr ++ body ++ gcmSeal key (packetIv dir hdr) (packetAad hdr ++ body) []

/-- Payload of a received packet, if its tag holds (check 7 of R269). -/
def openPacket (enc : Bool) (key : Bytes) (dir : Nat) (p : Bytes) : Option Bytes :=
  let hdr := Packet.header p
  if !enc then some (Packet.body p)
  else if Packet.type p ≤ 4 then gcmOpen key (packetIv dir hdr) (packetAad hdr) (p.drop 32)
  else (gcmOpen key (packetIv dir hdr) (packetAad hdr ++ Packet.body p) (Packet.tag p)).map fun _ => Packet.body p

/-- Grixo header (R263). -/
def grixoHeader (type flags path dst src gen len : Nat) (id6 : Bytes) (kos off : Nat) : Bytes :=
  beBytes 1 1 ++ beBytes 1 type ++ beBytes 1 flags ++ beBytes 1 path ++ beBytes 2 dst ++ beBytes 2 src ++
  beBytes 2 gen ++ beBytes 2 len ++ id6 ++ zeros 2 ++ beBytes 4 kos ++ beBytes 8 off

-- Transmit allowance and sending

def PerHoist.get (p : PerHoist) (h : Nat) : Nat := if h = 0 then p.h0 else p.h1
def PerHoist.set (p : PerHoist) (h v : Nat) : PerHoist := if h = 0 then { p with h0 := v } else { p with h1 := v }

/-- A packet leaves on a path: it joins the last 64 sent there (R268). -/
def Conn.sentOn (c : Conn) (path : Nat) : Conn :=
  { c with txOrder := c.txOrder + 1
           pathStates := updAt c.pathStates path fun q =>
             { q with history := (q.history ++ [(c.txOrder, false)]).drop (q.history.length + 1 - 64) } }

/-- The frame of a packet that the end `c` sends on a path, by which sub-port; none while no sub-port is up (R262, R263,
R267, R276). -/
def State.packetFrame (s : State) (c : Conn) (path type flags : Nat) (id6 : Bytes) (kos off : Nat) (body : Bytes) :
    Option (Nat × Bytes) :=
  match s.laneOf c.index c.ipv4 path with
  | none => none
  | some lane =>
    let hdr := grixoHeader type (flags + if c.enc then 1 else 0) path c.remoteConn c.index c.remoteGen body.length id6 kos off
    let pkt := sealPacket c.enc (s.connKey c) (if c.passive then 1 else 0) hdr body
    let ports := s.set.ports
    let dscp := if type ≤ 4 then ports.dscpData else ports.dscpCtrl
    some (lane, s.grixoFrame lane (((s.port lane).hop c.ipv4).getD []) c.ipv4 c.remoteAddr c.index path dscp
      (sportBase c.index + path) pkt)

/-- Put a packet on the wire: none while no sub-port is up or the context's allowance is spent (R267, R328). -/
def State.emitPacket (s : State) (c : Conn) (path type flags : Nat) (id6 : Bytes) (kos off : Nat) (body : Bytes) :
    Option (State × Nat) :=
  let h := connHoist c.index
  let left := (s.ctx c.ctx).egress.get h
  if left < body.length then none
  else (s.packetFrame c path type flags id6 kos off body).map fun (lane, f) =>
    let s := s.updCtx c.ctx fun x => { x with egress := x.egress.set h (left - body.length) }
    let s := s.count c.ctx fun k => { k with pktsTx := k.pktsTx + 1, bytesTx := k.bytesTx + body.length }
    (s.emit (.frame lane f), lane)

/-- Send a packet of a connection, which its path remembers. -/
def State.putPacket (s : State) (c : Conn) (path type flags : Nat) (id6 : Bytes) (kos off : Nat) (body : Bytes) :
    Option (State × Nat) :=
  (s.emitPacket c path type flags id6 kos off body).map fun (s, lane) => (s.updConn c.index fun x => x.sentOn path, lane)

/-- Send waiting control packets of a connection, in order, while they can go. -/
def sendCtrls (idx : Nat) : List (Nat × Bytes × Option Nat) → State → State
  | [], s => s
  | (ty, body, fixed) :: r, s =>
    match s.conn? idx with
    | none => s
    | some c =>
      let path := fixed.getD (c.pathAfter c.lastPath)
      match s.putPacket c path ty 0 (beBytes 6 c.txCtrl) 0 0 body with
      | none => s
      | some (s, _) =>
        sendCtrls idx r (s.updConn idx fun c =>
          { c with lastPath := if fixed.isSome then c.lastPath else path
                   txCtrl := (c.txCtrl + 1) % 2 ^ 48, ctrlQueue := c.ctrlQueue.drop 1 })

/-- Send a control packet, on a path of its own or by the rotation: it joins the control packets of the connection that
wait, and they go while they can. -/
def State.sendCtrlOn (s : State) (idx type : Nat) (body : Bytes) (path : Option Nat) : State :=
  let s := s.updConn idx fun c => { c with ctrlQueue := c.ctrlQueue ++ [(type, body, path)] }
  match s.conn? idx with
  | none => s
  | some c => sendCtrls idx c.ctrlQueue s

def State.sendCtrl (s : State) (idx type : Nat) (body : Bytes) : State := s.sendCtrlOn idx type body none

/-- CTRL payload (R266). -/
def ctrlPayload (c : Conn) (sub reason : Nat) : Bytes :=
  beBytes 1 sub ++ beBytes 1 c.paths ++ beBytes 1 (if c.enc then 1 else 0) ++ zeros 1 ++
  beBytes 2 (sportBase c.index) ++ beBytes 2 c.gen ++ beBytes 4 c.first ++ beBytes 4 reason ++ zeros 16

def State.sendConnCtrl (s : State) (idx sub reason : Nat) : State :=
  match s.conn? idx with
  | none => s
  | some c => s.sendCtrl idx 7 (ctrlPayload c sub reason)

/-- CREDIT payload (R266). -/
def creditPayload (window grant expiry : Nat) : Bytes :=
  beBytes 8 window ++ beBytes 4 grant ++ beBytes 1 expiry ++ zeros 3

-- Acknowledgement (R265, R273)

/-- BITMAP of accepted packets. -/
def bitmapBytes (bits : List Nat) : Bytes :=
  (List.range 32).map fun j => BitVec.ofNat 8 (((List.range 8).map fun k => if bits.contains (8 * j + k) then 2 ^ k else 0).sum)

/-- Entries due, first RESP clear then RESP set, each in ascending MSG_ID. -/
def insertDue (x : Bool × Nat) : List (Bool × Nat) → List (Bool × Nat)
  | [] => [x]
  | y :: l =>
    if x = y then y :: l
    else if (!x.1 && y.1) || (x.1 == y.1 && x.2 < y.2) then x :: y :: l else y :: insertDue x l

/-- Packets accepted of a message (R265): a message whose tracker is freed was received whole. -/
def Conn.bitsOf (c : Conn) (e : Bool × Nat) : List Nat :=
  let live := if e.1 then (c.reads.find? fun r => r.id == e.2).map OutRead.bits
    else (c.rx.find? fun m => m.id == e.2).map RxMsg.bits
  live.getD (((assocGet c.past e).map fun last => List.range (last + 1)).getD [])

/-- Free the trackers of messages that are complete and acknowledged, below CUM and taken over by intake, and of READs
whose response is complete. -/
def Conn.freeTrackers (c : Conn) : Conn :=
  let gone := fun (m : RxMsg) => m.complete && decide (m.id < c.rxCum) && (c.kind != 1 || m.parts.isEmpty)
  { c with
    rx := c.rx.filter fun m => !gone m
    reads := c.reads.filter fun r => !r.done
    past := c.past ++ ((c.rx.filter gone).map fun m => ((false, m.id), m.last)) ++
      (c.reads.filter fun r => r.done).map fun r => ((true, r.id), ceilDiv r.length 8192 - 1) }

def ackPayload (c : Conn) (es : List (Bool × Nat)) : Bytes :=
  beBytes 4 c.rxCum ++ beBytes 1 es.length ++ zeros 3 ++
  (es.map fun e => beBytes 4 e.2 ++ beBytes 1 (if e.1 then 1 else 0) ++ zeros 3 ++ bitmapBytes (c.bitsOf e)).flatten

/-- Send the ACKs that are due: 64 entries each, further ACKs at once (R273). -/
def State.sendAcks (s : State) (idx : Nat) : State :=
  match s.conn? idx with
  | none => s
  | some c =>
    let groups := if c.ackDue.isEmpty then [[]] else chunks 64 c.ackDue.length c.ackDue
    let s := groups.foldl (fun s g => s.sendCtrl idx 5 (ackPayload c g)) s
    s.updConn idx fun c =>
      { c.freeTrackers with ackDue := [], ackCount := 0, ackDueAt := none }

-- Credits (R289 to R293)

def creditsFor (bytes : Nat) : Nat := ceilDiv bytes 4096

/-- Take credits from buckets, the first to expire first; none if there are too few. -/
def takeFrom : List Nat → Nat → Option (List Nat)
  | [], n => if n = 0 then some [] else none
  | b :: r, n => if n ≤ b then some ((b - n) :: r) else (takeFrom r (n - b)).map fun r' => 0 :: r'

/-- Peer grants still usable at a time: expired buckets read 0 (R291). -/
def Conn.inLive (c : Conn) (us : Nat) : List Nat :=
  c.inBucket.zipIdx.map fun (b, k) => if us < c.inBase + 256 * (k + 1) then b else 0

/-- A CREDIT received at a time: buckets are moved on to it, and the grant goes where it expires (R285, R291). -/
def Conn.addGrant (c : Conn) (us grant expiry : Nat) : Conn :=
  let live := c.inLive us
  let shift := (us - c.inBase) / 256
  let base := if c.inBucket.all (· == 0) then us else c.inBase + 256 * shift
  let buckets := if c.inBucket.all (· == 0) then List.replicate 16 0
    else live.drop shift ++ List.replicate (min 16 shift) 0
  let k := (us + 256 * (expiry - 1) - base) / 256
  { c with inBase := base
           inBucket := if k = 0 then buckets.take 16 else updAt (buckets.take 16) (min 15 (k - 1)) (· + grant) }

-- Work-queue completions (R300, R301, R312)

/-- Completion entry of 32 bytes (R301). -/
def queueCompletion (q : Nat) (e : Bytes) (status moved count : Nat) : Bytes :=
  leBytes 1 q ++ leBytes 1 (Wqe.opcode e) ++ zeros 2 ++ leBytes 4 status ++ Wqe.user e ++ leBytes 4 moved ++
  leBytes 4 count ++ zeros 8

/-- One entry completes in ring order: the queue count rises and a completion is formed for SIGNAL or a failure. -/
def WorkQueue.post (w : WorkQueue) (q : Nat) (e : Bytes) (status moved : Nat) : WorkQueue :=
  let count := (w.count + 1) % 2 ^ 32
  let posts := (Wqe.signal e || status != 0) && w.state == .active
  { w with count := count, held := if posts then w.held ++ [queueCompletion q e status moved count] else w.held }

/-- Entries finished at the head of the started list complete in order. -/
def WorkQueue.drainStarted (q : Nat) : List StartedEntry → WorkQueue → WorkQueue
  | [], w => { w with started := [] }
  | x :: r, w =>
    if x.done then WorkQueue.drainStarted q r (w.post q x.bytes x.status.toNat x.moved) else { w with started := x :: r }

/-- After the connection failed or closed, every later entry completes in order with 0x0120_0021 (R300). -/
def WorkQueue.drain (q : Nat) (w : WorkQueue) : WorkQueue :=
  let w := WorkQueue.drainStarted q w.started w
  if w.dead && w.started.isEmpty then
    { (w.fetched.foldl (fun w e => w.post q e.2 0x01200021 0) w) with fetched := [] }
  else w

/-- A started entry has finished with a status; WQE_COMPLETE completes it in ring order. -/
def State.finishEntry (s : State) (ctx q entry status moved : Nat) : State :=
  s.updQueue ctx q fun w =>
    { w with started := updIf w.started (fun x => x.entry == entry && !x.done)
               fun x => { x with done := true, status := BitVec.ofNat 32 status, moved := moved } }

/-- Every started entry of a queue bound to a connection that ended completes with the code (R275, R284, R300). -/
def State.killQueue (s : State) (ctx q status : Nat) : State :=
  s.updQueue ctx q fun w =>
    WorkQueue.drain q
      { w with dead := true
               started := w.started.map fun x =>
                 if x.done then x else { x with done := true, status := BitVec.ofNat 32 status } }

-- Notices (R122)

/-- A notice entry of 32 bytes about a frame. -/
def noticeEntry (code : Nat) (f : Bytes) (action : Nat) : Bytes :=
  beBytes 4 code ++ beBytes 1 (Frame.kind f) ++ beBytes 1 (Frame.role f) ++ beBytes 1 (Frame.sub f) ++
  beBytes 1 action ++ beBytes 4 (Frame.cohort f) ++ beBytes 4 (Frame.round f) ++ beBytes 4 (Frame.slot f) ++
  beBytes 4 (Frame.tile f) ++ zeros 8

/-- Queue a notice to the delivering connection; beyond 65,536 it is dropped and counted. -/
def State.notice (s : State) (idx code : Nat) (f : Bytes) (action : Nat) : State :=
  match s.conn? idx with
  | none => s
  | some c =>
    if c.state = .open ∧ c.notices.length < 65536 then
      s.updConn idx fun c => { c with notices := c.notices ++ [noticeEntry code f action] }
    else s.count c.ctx fun k => { k with noticesDropped := k.noticesDropped + 1 }

-- Ends of a connection (R282, R284, R275)

/-- A connection leaves OPEN for a state: operations in flight complete with the code, incomplete incoming messages and
waiting notices are discarded (R122, R284). -/
def State.endConn (s : State) (idx : Nat) (st : ConnState) (status : Nat) : State :=
  match s.conn? idx with
  | none => s
  | some c =>
    let s := s.count c.ctx fun k =>
      { k with noticesDropped := k.noticesDropped + c.notices.length
               connFailed := if st = .failed then k.connFailed + 1 else k.connFailed }
    let s := s.updConn idx fun c =>
      { c with state := st, tx := [], rx := c.rx.filter fun m => m.complete && c.kind == 1, reads := [], notices := [],
               waiting := [], ctrlQueue := [], sendArea := [], ackDue := [], ackCount := 0, ackDueAt := none, outBucket := List.replicate 16 0,
               inBucket := List.replicate 16 0, pathStates := c.pathStates.map fun _ => .new, reqSent := 0 }
    if c.queue < 64 then s.killQueue c.ctx c.queue status else s

/-- A connection fails at the retransmission limit (R275). -/
def State.failConn (s : State) (idx code : Nat) : State :=
  match s.conn? idx with
  | none => s
  | some c =>
    (s.endConn idx .failed code).record code (srcHoist (connHoist idx)) (some c.ctx) (leBytes 2 idx ++ leBytes 2 c.gen)

end Sys2Proof.Machine
end

