-- ==== Sys2Proof/Machine/Transmit.lean ====
section
/-!
DEFINITION. Machine/Transmit.lean: residency of connection records, data packets and the trackers they take, closing, and
the retransmission timers of a Hoist without a sub-port (R264, R267, R270, R274, R284 to R294).
-/
namespace Sys2Proof.Machine

-- Residency (R286 to R288)

/-- A pinned record is never evicted (R287). -/
def State.pinned (s : State) (c : Conn) : Bool :=
  c.outBucket.any (· != 0) || c.inBucket.any (· != 0) ||
  c.tx.any (fun m => m.packets.any fun p => p.sent && !p.acked) || c.rx.any (fun m => !m.complete) ||
  (decide (c.queue < 64) && (s.queue c.ctx c.queue).started.any fun e => !e.done) ||
  c.state == .requesting || c.state == .listen

/-- Records of a context that are resident on a Hoist. -/
def State.residents (s : State) (ctx hoist : Nat) : List Conn :=
  s.grixo.conns.filter fun c => c.ctx == ctx && connHoist c.index == hoist && c.resident

/-- The unpinned record with the oldest LAST_USE. -/
def State.victim (s : State) (ctx hoist : Nat) : Option Conn :=
  ((s.residents ctx hoist).filter fun c => !s.pinned c).foldl
    (fun b c => match b with
      | none => some c
      | some x => if c.lastUse < x.lastUse then some c else b) none

/-- The Grixo engine derives K_conn of a connection whose record becomes resident: a refused use of K_G is reported
(R348, R354). -/
def State.deriveConnKey (s : State) (c : Conn) : State :=
  if c.enc && (s.useSlot (connHoist c.index) c.keySlot none 5 c.ctx).isNone then
    s.refuseUse (connHoist c.index) c.keySlot none (some c.ctx)
  else s

/-- A record is read from the context store; one that fails its CRC fails its connection (R288). -/
def State.fetchRecord (s : State) (c : Conn) : State :=
  let s := ((s.updConn c.index fun x => { x with resident := true }).count c.ctx fun k =>
    { k with recordFetches := k.recordFetches + 1 })
  if c.intact then s.deriveConnKey c else s.endConn c.index .failed 0x05200006

/-- Make a record resident, writing back another of its context if no slot is free; none while every slot is pinned. -/
def State.makeResident (s : State) (idx : Nat) : Option State :=
  match s.conn? idx with
  | none => none
  | some c =>
    let h := connHoist idx
    if c.resident then some s
    else if (s.residents c.ctx h).length < (s.ctxSet c.ctx).resident.get h then some (s.fetchRecord c)
    else (s.victim c.ctx h).map fun v =>
      (s.updConn v.index fun x => { x with resident := false, intact := true }).fetchRecord c

/-- The context store of a Canton is lost: C0 holds that of H0, C2 that of H1 (R286, log entry 55). -/
def State.loseStore (s : State) (canton : Nat) : State :=
  let lose := fun (c : Conn) => if !c.resident && canton == 2 * connHoist c.index then { c with intact := false } else c
  { s with grixo := { s.grixo with conns := s.grixo.conns.map lose } }

-- Timers of a Hoist (R267)

/-- Move the timers of a message's packets. -/
def TxMsg.delay (m : TxMsg) (ticks : Nat) : TxMsg :=
  { m with packets := m.packets.map fun (p : TxPacket) => { p with due := p.due + ticks } }

/-- The retransmission timers of a Hoist and family stand still from now on, or go on with what was left of them. -/
def State.holdTimers (before s : State) (hoist : Nat) (ipv4 : Bool) : State :=
  let key := (hoist, ipv4)
  let was := before.canSend hoist ipv4
  let now := s.canSend hoist ipv4
  let rest := s.grixo.stopped.filter fun x => x.1 != key
  if was = now then s
  else if !now then { s with grixo := { s.grixo with stopped := (key, s.aon) :: rest } }
  else
    let d := ((assocGet s.grixo.stopped key).map fun t => s.aon - t).getD 0
    let go := fun (c : Conn) =>
      if connHoist c.index == hoist && c.ipv4 == ipv4 then { c with tx := c.tx.map fun m => m.delay d } else c
    { s with grixo := { s.grixo with stopped := rest, conns := s.grixo.conns.map go } }

/-- What changed U: `s` is the state after it. -/
def State.timersFrom (s before : State) : State :=
  [(0, false), (0, true), (1, false), (1, true)].foldl (fun s x => State.holdTimers before s x.1 x.2) s

/-- Ticks of RTO × 2^min(r, 5) (R274). -/
def State.rtoTicks (s : State) (r : Nat) : Nat := s.set.ports.rtoUs * 2 ^ min r 5 * tickUs

-- Data packets

def TxMsg.last (m : TxMsg) : Nat := ceilDiv m.data.length 8192 - 1

/-- Credits of a packet's first transmission (R289). -/
def TxMsg.credits (m : TxMsg) (i : Nat) : Nat :=
  match m.type with
  | 3 => creditsFor (beAt m.data 0 4)
  | 4 => 0
  | _ => creditsFor (slice m.data (8192 * i) 8192).length

/-- Credits that packets of a connection not yet sent will take. -/
def Conn.unsentCredits (c : Conn) : Nat :=
  (c.tx.flatMap fun m => (m.packets.zipIdx.filter fun (p, _) => !p.sent).map fun (_, i) => m.credits i).sum

/-- Bytes of packet `i`: those of a READ_RESP are read when it is first sent (R302). -/
def State.packetBytes (s : State) (ctx : Nat) (m : TxMsg) (i : Nat) (again : Bool) : Bytes :=
  let b := slice m.data (8192 * i) 8192
  if m.type = 4 ∧ !again then s.readMem ctx (m.addr + 8192 * i) b.length else b

/-- Send packet `i` of message `m` of a connection on a path. A first transmission needs credit and the message window
of R270; a retransmission carries the same bytes with RETX and ACK_REQ (R275). -/
def State.sendData (s : State) (idx : Nat) (m : TxMsg) (i path : Nat) (again : Bool) : Option State :=
  match s.conn? idx with
  | none => none
  | some c =>
    let need := if again then 0 else m.credits i
    if m.type ≠ 4 ∧ c.txOldest + 254 < m.id then none
    else match takeFrom (c.inLive s.us) need with
      | none => none
      | some buckets =>
        let body := s.packetBytes c.ctx m i again
        let flags := (if again || i == m.last || m.type == 3 then 2 else 0) + (if again then 4 else 0)
        let kos := if m.type = 1 then m.sendSeq else if m.type = 4 then 0 else m.key
        let off := if m.type = 2 then m.addr + 8192 * i else if m.type = 3 then m.addr else 0
        let id6 := beBytes 4 m.id ++ beBytes 1 i ++ beBytes 1 m.last
        let mark := fun (p : TxPacket) =>
          let r := if again then p.retries + 1 else p.retries
          { p with sent := true, path := path, due := s.aon + s.rtoTicks r, order := c.txOrder, retries := r, lost := false }
        let sent := fun (x : TxMsg) (lane : Nat) =>
          { x with
            data := x.data.take (8192 * i) ++ body ++ x.data.drop (8192 * i + body.length)
            packets := updAt x.packets i fun p => { mark p with port := lane } }
        (s.putPacket c path m.type flags id6 kos off body).map fun (s, lane) =>
          let s := s.updConn idx fun c =>
            { c with
              inBucket := if need = 0 then c.inBucket else buckets
              lastPath := if again then c.lastPath else path
              lastUse := s.us
              tx := updIf c.tx (fun x => x.id == m.id && (x.type == 4) == (m.type == 4)) fun x => sent x lane }
          if again then s.count c.ctx fun k => { k with retx := k.retx + 1 } else s

/-- Packets of a connection that have still to be sent again, or sent: lost packets first, then responses, which take no
credit, then the rest in order. -/
def Conn.duePackets (c : Conn) : List (TxMsg × Nat × Bool) :=
  let due := c.tx.flatMap fun m => (m.packets.zipIdx.filter fun (p, _) => !p.acked && (!p.sent || p.lost)).map
    fun (p, i) => (m, i, p.sent)
  (due.filter fun x => x.2.2) ++ (due.filter fun x => !x.2.2 && x.1.type == 4) ++
    due.filter fun x => !x.2.2 && x.1.type != 4

/-- Path for a packet: the rotation for a first transmission, the next path after the lost one otherwise (R268). -/
def Conn.pathFor (c : Conn) (m : TxMsg) (i : Nat) (again : Bool) : Nat :=
  if again then c.pathAfter (((m.packets[i]?).map TxPacket.path).getD 0) else c.pathAfter c.lastPath

def pumpList (idx : Nat) : List (TxMsg × Nat × Bool) → State → State
  | [], s => s
  | (m, i, again) :: r, s =>
    match s.conn? idx with
    | none => s
    | some c =>
      match s.sendData idx m i (c.pathFor m i again) again with
      | none => s
      | some s => pumpList idx r s

/-- Trackers in use on a Hoist by a context, and its share: 8 per resident slot (R285, R325). -/
def State.trackersUsed (s : State) (ctx hoist : Nat) : Nat :=
  ((s.grixo.conns.filter fun c => c.ctx == ctx && connHoist c.index == hoist).map fun c => c.tx.length + c.rx.length).sum
def State.trackerFree (s : State) (ctx hoist : Nat) : Bool :=
  decide (s.trackersUsed ctx hoist < 8 * (s.ctxSet ctx).resident.get hoist)

/-- Responses of a connection take free trackers, the oldest first (R285). -/
def takeTrackers (idx : Nat) : List TxMsg → State → State
  | [], s => s
  | m :: r, s =>
    match s.conn? idx with
    | none => s
    | some c =>
      if s.trackerFree c.ctx (connHoist idx) then
        takeTrackers idx r (s.updConn idx fun c => { c with tx := c.tx ++ [m], waiting := r })
      else s

/-- Send what a connection may send now: waiting control packets, then lost and unsent data packets in order. What is to
be sent needs the record resident (R288). -/
def State.pump (s : State) (idx : Nat) : State :=
  match s.conn? idx with
  | none => s
  | some c =>
    if c.ctrlQueue.isEmpty && c.waiting.isEmpty && c.duePackets.isEmpty then s
    else match s.makeResident idx with
      | none => s
      | some s =>
        let s := takeTrackers idx c.waiting s
        let s := sendCtrls idx c.ctrlQueue s
        match s.conn? idx with
        | none => s
        | some c => if c.state = .open then pumpList idx c.duePackets s else s

/-- A tracker of a context has become free: responses that wait for one go on. -/
def State.pumpWaiting (s : State) (ctx hoist : Nat) : State :=
  let ids := (s.grixo.conns.filter fun c => c.ctx == ctx && connHoist c.index == hoist && !c.waiting.isEmpty).map Conn.index
  ids.foldl (fun s i => s.pump i) s

/-- A new message can be made on a connection: its record is resident, it is OPEN, a tracker is free and the ID space is
not used up (R264, R285, R288). The record is fetched for the question. -/
def State.readyToSend (s : State) (idx : Nat) : Bool × State :=
  let s := (s.makeResident idx).getD s
  ((s.conn? idx).any fun c =>
    c.resident && c.state == .open && s.trackerFree c.ctx (connHoist idx) && decide (c.txNext ≤ 0xFFFFFFFF), s)

/-- Queue a new message on a connection and send what may go. -/
def State.newMsg (s : State) (idx type : Nat) (data : Bytes) (key addr : Nat) (entry : Option (Nat × Nat)) : State :=
  match s.conn? idx with
  | none => s
  | some c =>
    let m : TxMsg :=
      { id := c.txNext, type := type, data := data, sendSeq := c.txSendSeq, key := key, addr := addr,
        packets := List.replicate (ceilDiv data.length 8192) .new, entry := entry }
    (s.updConn idx fun c =>
      { c with tx := c.tx ++ [m], txNext := c.txNext + 1
               txSendSeq := if type = 1 then (c.txSendSeq + 1) % 2 ^ 32 else c.txSendSeq }).pump idx

-- Closing (R284)

/-- Send the CONN_CLOSE of a closing that is due, if it can go; the next is due RTO later. The connection may be open
anew or gone by then. -/
def State.sendClosing (s : State) (k : Closing) : Closing × State :=
  let c := k.conn
  let path := c.pathAfter c.lastPath
  match s.emitPacket c path 7 0 (beBytes 6 c.txCtrl) 0 0 (ctrlPayload c 4 k.reason.toNat) with
  | none => (k, s)
  | some (s, _) =>
    ({ k with conn := { c with lastPath := path, txCtrl := (c.txCtrl + 1) % 2 ^ 48 }
              left := k.left - 1, due := s.aon + s.rtoTicks 0 }, s)

/-- Close a connection: CONN_CLOSE goes out three times, RTO apart, and operations complete with 0x0520_0025 or the
REASON. `st` is CLOSED, or FAILED for a refusal of R295. -/
def State.closeConn (s : State) (idx reason : Nat) (st : ConnState) : State :=
  let s := (s.makeResident idx).getD s
  match s.conn? idx with
  | none => s
  | some c =>
    if c.state = .closed then s
    else
      let s := s.endConn idx st (if reason = 0 then 0x05200025 else reason)
      let (k, s) := s.sendClosing ⟨{ c with tx := [], rx := [], sendArea := [], notices := [], missQueue := [] }, 3, s.aon,
        BitVec.ofNat 32 reason⟩
      let s := { s with grixo := { s.grixo with closing := s.grixo.closing ++ [k] } }
      s.record 0x05200025 (srcHoist (connHoist idx)) (some c.ctx) (leBytes 2 idx ++ leBytes 2 c.gen ++ leBytes 4 reason)

/-- Close every connection of a context that meets a condition. -/
def State.closeAll (s : State) (p : Conn → Bool) (reason : Nat) : State :=
  (s.grixo.conns.filter p).foldl (fun s c => s.closeConn c.index reason .closed) s

end Sys2Proof.Machine
end

