-- ==== Sys2Proof/Machine/Tiles.lean ====
section
/-!
DEFINITION. Machine/Tiles.lean: shared operations on rounds: their tile sets at the owners, commit records, rollback,
the journal, key slots and abandonment (R44, R127, R143 to R157, R183, R346, R438).
-/
namespace Sys2Proof.Machine

-- Journal (R438 to R440)

/-- The Canton of a journal copy serves: its die runs. -/
def State.cantonUp (s : State) (c : Nat) : Bool := s.start.dieState.getD c 0 == 2

/-- Records that a journal copy holds (R438). -/
def journalRing : Nat := 4194304

/-- A record is still needed: that of a context that is not FREE, or of a running plan or open round of one (R438). -/
def State.needed (s : State) (r : JournalRecord) : Bool :=
  (r.context.map fun c => (s.ctxSet c).state != .free).getD false

/-- Make room for one record: a record that would be overwritten and is still needed is written again as a CARRY record
with its original SEQ (R438, R439). -/
def State.journalRoom (s : State) (e beat ms : Nat) : Nat → Nat → List JournalRecord → Nat × List JournalRecord
  | 0, seq, l => (seq, l.drop 1)
  | _ + 1, seq, [] => (seq, [])
  | f + 1, seq, r :: l =>
    if s.needed r then
      let body := if r.kind = 13 then r.body else leBytes 8 r.seq ++ r.body
      s.journalRoom e beat ms f (seq + 1) (l ++ [JournalRecord.mk (seq + 1) e 13 r.context beat ms body])
    else (seq, l)

/-- Write a journal record under the leader's epoch; a copy whose Canton cannot be reached is left behind, with an ALARM
the first time (R438). -/
def State.journal1 (s : State) (kind : Nat) (ctx : Option Nat) (body : Bytes) : State :=
  let c0 := s.cantonUp 0
  let c2 := s.cantonUp 2
  let lost := (s.journal.copyC0 && !c0) || (s.journal.copyC2 && !c2)
  let old := s.journal.records
  let (seq, kept) := if old.length < journalRing then (s.journal.seq, old)
    else s.journalRoom s.lead.epoch s.hal.beatCount s.ms old.length s.journal.seq old
  let r : JournalRecord :=
    { seq := seq + 1, epoch := s.lead.epoch, kind := kind, context := ctx, beat := s.hal.beatCount,
      timeMs := s.ms, body := body }
  let s := { s with journal :=
    { s.journal with records := kept ++ [r], seq := seq + 1,
                     copyC0 := s.journal.copyC0 && c0, copyC2 := s.journal.copyC2 && c2 } }
  if lost then s.record 0x04500006 s.srcLeader none [] else s

-- Slots of a world (R330, R346)

/-- Slots of a context's world on a Hoist that count against KEY_SLOTS (R330): reserved ones keep their attribute word
with VALID clear. -/
def State.slotsUsed (s : State) (ctx hoist : Nat) : Nat :=
  (s.keys.slots.filter fun k => k.hoist == hoist && k.world == ctx && decide (256 ≤ k.slot)).length

def State.slotFree (s : State) (ctx hoist n : Nat) : Bool :=
  decide (s.slotsUsed ctx hoist + n ≤ (s.ctxSet ctx).keySlots.get hoist)

/-- The lowest free slot from 256 on. -/
def State.lowestSlot (s : State) (hoist : Nat) : Nat :=
  ((List.range 1792).find? fun i => !(s.keys.slots.any fun k => k.hoist == hoist && k.slot == 256 + i)).getD 0 + 256

/-- Fill the lowest free slot of a Hoist, or reserve it with no value. -/
def State.fillSlot (s : State) (hoist : Nat) (attr : BitVec 32) (value : Bytes) : State × Nat :=
  let i := s.lowestSlot hoist
  let a := if value.isEmpty then attr &&& ~~~1#32 else attr
  ({ s with keys := { s.keys with slots := s.keys.slots ++ [⟨hoist, i, a, value⟩] } }, i)

/-- Invalidate slots. -/
def State.freeSlots (s : State) (l : List (Nat × Nat)) : State :=
  { s with keys := { s.keys with slots := s.keys.slots.filter fun k => !(l.contains (k.hoist, k.slot)) } }

-- Routes (R102, R446)

/-- Links that a route uses, as (from, to) dies (R24, R102). -/
def Route.links (r : Route) : List (Nat × Nat) :=
  let a := r.src / 4096
  let b := r.dst / 4096
  if a = b then [] else if r.hops = 2 then [(a, r.via), (r.via, b)] else [(a, b)]

/-- A route passes over a die link, in either direction. -/
def Route.passes (r : Route) (l : DieLink) : Bool :=
  r.links.any fun x => x == (l.a, l.b) || x == (l.b, l.a)

/-- A route carries nothing: a link that it uses is down (R446). -/
def State.routeDown (s : State) (r : Route) : Bool := s.lead.links.any fun l => l.down && r.passes l

/-- COMMIT descriptors whose drain a record stands for: that of its own entry; for a fold those of the owner's ACCUM
cursor (R147, R182). -/
def PlanImage.commitDescs (im : PlanImage) (o : OwnerSet) : List Descriptor :=
  (((im.block o.position).map Block.entries).getD []).filterMap fun e =>
    if e.2.opcode == 2 && (if o.commit.fold then e.2.cursor == o.cursor else e.1 == o.commit.entry) then some e.2 else none

/-- The routes of the COMMIT whose drain runs at an owner (R143, R147). -/
def PlanImage.commitRoutes (im : PlanImage) (o : OwnerSet) : List Route :=
  (im.commitDescs o).flatMap fun d => [im.route d.srcRoute, im.route d.dstRoute]

/-- The beat at which the drain that runs at an owner exceeds its bound: the largest bound of its COMMITs (R147, R182). -/
def PlanImage.drainDue (im : PlanImage) (digest : Bytes) (t : Nat) (o : OwnerSet) : Nat :=
  o.commit.beat + ((im.commitDescs o).map fun d =>
    im.drainBound digest t o.position d.cursor d.srcRoute d.dstRoute).foldl max 0

-- Tile sets at their owners

def Round.set (r : Round) (k : Nat) : TileSet := r.sets.getD k .zero
def Round.updSet (r : Round) (k : Nat) (f : TileSet → TileSet) : Round := { r with sets := updAt r.sets k f }
def OwnerSet.isAt (o : OwnerSet) (position k : Nat) : Bool := o.position == position && o.set == k
def Round.owner? (r : Round) (position k : Nat) : Option OwnerSet := r.owners.find? fun o => o.isAt position k
def Round.updOwner (r : Round) (position k : Nat) (f : OwnerSet → OwnerSet) : Round :=
  { r with owners := updIf r.owners (fun o => o.isAt position k) f }

/-- Group and position of a cursor. -/
def Round.cursorAt (r : Round) (position cursor : Nat) : CursorPos :=
  (r.cursors.find? fun c => c.position == position && c.cursor == cursor).getD ⟨position, cursor, 0, 0⟩
def Round.updCursor (r : Round) (position cursor : Nat) (f : CursorPos → CursorPos) : Round :=
  let c := f (r.cursorAt position cursor)
  { r with cursors := c :: r.cursors.filter fun c => !(c.position == position && c.cursor == cursor) }

/-- First accumulator tile of a tile set. -/
def Template.firstTile (t : Template) (k : Nat) : Nat := k * max 1 t.setTiles

/-- Ledger section of a PEER frame: slots of the leaf whose bit is set (R129). -/
def sectionSlots (base : Nat) (sec : Bytes) : List Nat :=
  sec.zipIdx.flatMap fun (b, m) => ((List.range 8).filter fun k => b.getLsbD k).map fun k => base + 8 * m + k

/-- The payload of the frame whose first record stands at the head of the list. -/
def framePayload (l : List BinRecord) : Bytes :=
  match l with
  | [] => []
  | r :: rest => ((r :: rest.takeWhile BinRecord.cont).map BinRecord.payload).flatten.take (Frame.length r.header)

/-- The ledger section of a PEER frame's payload. -/
def peerSection (p : Bytes) : Bytes := p.drop 65536

/-- Effect of the commit of one record, number `i` of its bin, of set `k` on ledger, pending map and peer bits; a PEER
record brings the ledger section that waits in the merge buffer (R144, R157). -/
def applyRecord (k : Nat) (sections : List (Nat × Bytes)) (i : Nat) (r : BinRecord) (q : RoundIntake) : RoundIntake :=
  let slot := Frame.slot r.header
  let tile := Frame.tile r.header
  if r.cont || r.skip then q
  else
    let slots := if r.peer then sectionSlots slot ((assocGet sections i).getD []) else [slot]
    { q with ledger := slots.foldl (fun l x => putPair (x, tile) l) q.ledger
             pending := q.pending.filter fun x => decide (x ≠ (slot, tile))
             peerBits := if r.peer then putPair (slot, k) q.peerBits else q.peerBits }

/-- The records of a bin with their numbers. -/
def OwnerSet.numbered (o : OwnerSet) : List (Nat × BinRecord) := o.bin.zipIdx.map fun (x, i) => (o.release + i, x)

/-- The buffer that a set's drain adds: its shadow, or the one buffer of a single-buffered set (R142). -/
def OwnerSet.source (o : OwnerSet) : List (List Nat) := if o.single then o.active else o.shadow

/-- The buffers swap and the record is PREPARED; the one buffer of a single-buffered set is frozen (R142). -/
def OwnerSet.swapped (o : OwnerSet) (c : CommitRec) : OwnerSet :=
  if o.single then { o with activeCount := 0, commit := c }
  else { o with shadow := o.active, active := [], activeCount := 0, commit := c }

/-- The drain's source is zeroed and the record takes STATE `st` (R143, R150, R182). -/
def OwnerSet.drained (o : OwnerSet) (st : Nat) : OwnerSet :=
  { o with shadow := [], active := if o.single then [] else o.active, commit := { o.commit with state := st } }

/-- The one buffer of a single-buffered set is the source of a drain: nothing is added to it (R142). -/
def OwnerSet.busy (o : OwnerSet) : Bool := o.single && o.commit.state == 1

/-- Steps of R143 after the commit point of an owner's set: ledger application, MARK and RELEASE to CUT, APPLIED. -/
def Round.applyCommit (r : Round) (position k : Nat) : Round :=
  match r.owner? position k with
  | none => r
  | some o =>
    let q := (o.numbered.take (o.commit.cut - o.release)).foldl (fun q x => applyRecord k o.sections x.1 x.2 q) r.intake
    ({ r with intake := q }).updOwner position k fun o =>
      { o.drained 2 with bin := o.bin.drop (o.commit.cut - o.release), mark := o.commit.cut, release := o.commit.cut,
                         sections := o.sections.filter fun x => decide (o.commit.cut ≤ x.1) }

/-- Copy 1 − SEL is written and SEL flips (R143 steps 2 and 3). -/
def TileSet.flip (x : TileSet) (sum : List (List Nat)) : TileSet :=
  if x.sel = 0 then { x with copyB := sum, sel := 1, copyErrors := x.copyErrors % 2 }
  else { x with copyA := sum, sel := 0, copyErrors := x.copyErrors / 2 % 2 * 2 }

/-- Commit point of an owner's set (R143 steps 1 to 3; R445 for a set that is VOID): copies, SEL, COUNT, COMMITS and
LAST_SEQ. A copy that is written anew has met no error. -/
def Round.commitPoint (r : Round) (q : Nat → Nat) (n position k : Nat) : Round :=
  match r.owner? position k with
  | none => r
  | some o =>
    r.updSet k fun x =>
      let cur := if x.sel = 0 then x.copyA else x.copyB
      let sum := addSet q n cur o.source
      let x := { x with count := x.count + o.commit.added, commits := x.commits + 1, lastSeq := o.commit.seq }
      if x.unmask = 2 ∨ x.dataFault then x else x.flip sum

/-- Copy SEL of a tile set. -/
def TileSet.copy (x : TileSet) : List (List Nat) := if x.sel = 0 then x.copyA else x.copyB

/-- The end of a fold past its commit point: FOLD_SEQ and STATE FOLDED unless the tile is VOID, the source zeroed, APPLIED
(R182). -/
def Round.foldApplied (r : Round) (position k seq : Nat) : Round :=
  (r.updSet k fun x => if x.unmask = 2 then x else { x with unmask := 1, foldSeq := seq }).updOwner position k fun o => o.drained 2

/-- Settle a commit record under R151: a commit past its point is completed, another is discarded. -/
def Round.settle (r : Round) (position k : Nat) : Round :=
  match r.owner? position k with
  | none => r
  | some o =>
    if o.commit.state ≠ 1 then r
    else if (r.set k).lastSeq = o.commit.seq then
      if o.commit.fold then r.foldApplied position k o.commit.seq else r.applyCommit position k
    else r.updOwner position k fun o => o.drained 0

/-- Roll one tile set back at one owner (R150): the record is settled, uncommitted buffers and the sections that belong to
them are discarded, READ returns to MARK and the cursor to the first tile set of its group. -/
def Round.rollback (r : Round) (position cursor k : Nat) : Round :=
  let r := r.settle position k
  let r := r.updOwner position k fun o =>
    { o with active := [], activeCount := 0, shadow := [], sections := [], taint := false, read := o.mark }
  r.updCursor position cursor fun c => { c with pos := 0 }

/-- The cluster that serves a block position: after a takeover the spare of its Canton (R154). -/
def State.clusterAt (s : State) (position : Nat) : Nat :=
  (s.clusters.findIdx? fun c => c.position == some position).getD (positionCluster position)

/-- Roll a set back and report it; what a fill has staged of it goes with its buffers (R150, R159). -/
def State.rollbackSet (s : State) (ctx t position cursor k code : Nat) : State :=
  match s.image ctx, s.round? ctx t with
  | some p, some r =>
    let at_ := s.clusterAt position
    let s := s.updRound ctx t fun r => r.rollback position cursor k
    let s := s.updCluster at_ fun c => { c with banks := c.banks.filter fun b =>
      !(b.ctx == ctx && b.cohort == t && !b.secret && b.tileSet == k) }
    let s := s.count ctx fun c => { c with rollbacks := c.rollbacks + 1 }
    s.record code (srcCluster at_) (some ctx) (leBytes 4 r.cohortId ++ leBytes 4 ((p.template t).firstTile k))
  | _, _ => s

/-- Roll back the tile sets of a block position that `p` picks, in every round that is OPEN or still drains (R151). -/
def State.rollbackWhere (s : State) (position : Nat) (p : Round → OwnerSet → Bool) : State :=
  (s.rounds.flatMap fun r =>
    if r.state == .open || (r.state == .closed && !r.frozen) then
      (r.owners.filter fun o => o.position == position && p r o).map fun o => (r.ctx, r.template, o.cursor, o.set)
    else []).foldl (fun s x => s.rollbackSet x.1 x.2.1 position x.2.2.1 x.2.2.2 0x02110001) s

/-- Roll back every tile set of a block position (R151). -/
def State.rollbackPosition (s : State) (position : Nat) : State := s.rollbackWhere position fun _ _ => true

/-- The running beat's ACCUM or COMMIT at a cluster touches the set, or a drain works on it (R151). An ACCUM that has run
has moved its cursor on by one place. -/
def State.touches (s : State) (k : Nat) (r : Round) (o : OwnerSet) : Bool :=
  o.commit.state == 1 ||
  match (s.cluster k).span, s.image r.ctx with
  | some sp, some im =>
    !sp.dummy && sp.ctx == r.ctx && sp.desc.cohort == r.template &&
    match im.cursor o.position sp.desc.cursor with
    | none => false
    | some c =>
      let at_ := r.cursorAt o.position sp.desc.cursor
      let sets := im.groupSets r.template o.position c at_.group
      let n := max 1 sets.length
      if sp.desc.opcode = 1 then
        sets.getD ((at_.pos + (if sp.done then n - 1 else 0)) % n) 0 == o.set
      else sp.desc.opcode == 2 && !sp.done && sets.contains o.set
  | _, _ => false

-- Mask groups (R183)

/-- Unmasking cluster of a tile set: position and cursor of owner 0. -/
def PlanImage.unmasker (p : PlanImage) (t k : Nat) : Nat × Nat := (p.owner0 t k).getD (0, 0)

/-- Groups of a position whose mask buffers a fault reaches: the lowest group of the tiles struck (with none struck, the
lowest that holds a MASKED tile) and every later group that has received items. -/
def Round.groupsHit (r : Round) (im : PlanImage) (t position : Nat) (struck : List Nat) : List Nat :=
  let sets := im.unmaskSets t position
  let mine := r.mask.lists.filter fun l =>
    l.position == position && (l.kind == .self || l.kind == .pair || l.kind == .lwr)
  let tiles := mine.flatMap fun l => ((l.items.take l.consumed).filter fun x => x.kind != 0).map Item.tile
  match sets.find? fun y => if struck.isEmpty then (r.set y.2).unmask == 0 else struck.contains y.2 with
  | none => []
  | some g => ((sets.filter fun y => decide (y.1 = g.1) || (decide (g.1 < y.1) && tiles.contains y.2)).map
      Prod.fst).eraseDups

/-- Step 2 of R183: some tile of those groups is not FOLDED. -/
def Round.replayDue (r : Round) (im : PlanImage) (t position : Nat) (struck : List Nat) : Bool :=
  let groups := r.groupsHit im t position struck
  (im.unmaskSets t position).any fun y => groups.contains y.1 && (r.set y.2).unmask != 1

/-- Fold records of a position are settled (R183, step 1). -/
def Round.settleFolds (r : Round) (position : Nat) : Round :=
  (r.owners.filter fun o => o.position == position).foldl (fun r o => r.settle position o.set) r

/-- Steps 3 and 4 of R183: mask buffers of tiles not FOLDED are zeroed and the removal lists start again from the frozen
ledger (their builder runs again at REMOVAL_LIST_BUILD). -/
def Round.replayMask (r : Round) (position : Nat) : Round :=
  { r with
    owners := updIf r.owners (fun o => o.position == position) fun o =>
      { o with active := [], shadow := if o.commit.state = 1 then o.shadow else [] }
    mask := { r.mask with
      lists := r.mask.lists.filter fun l =>
        !(l.position == position && (l.kind == .self || l.kind == .pair || l.kind == .lwr))
      lastItem := r.mask.lastItem.filter fun l =>
        !(l.1 == position && (l.2.1 == .self || l.2.1 == .pair || l.2.1 == .lwr)) } }

/-- A fault reaches the mask buffers of a position, those of the tiles `struck` among them (R183). -/
def State.replayMaskAt (s : State) (ctx t position : Nat) (struck : List Nat) : State :=
  match s.image ctx, s.round? ctx t with
  | some p, some r =>
    if (p.template t).isRing then s
    else
      let r := r.settleFolds position
      let s := s.updRound ctx t fun _ => r
      if !r.replayDue p t position struck then s
      else
        let s := s.updRound ctx t fun r => r.replayMask position
        s.record 0x02120022 (srcCluster (s.clusterAt position)) (some ctx) (leBytes 4 r.cohortId)
  | _, _ => s

-- VOID tiles

/-- Make a tile set VOID in its unmask record, unless it is FOLDED (R180, R181). -/
def Round.voidSet (r : Round) (k cause : Nat) : Round :=
  r.updSet k fun x => if x.unmask = 1 then x else { x with unmask := 2, cause := cause }

-- Abandonment (R44)

/-- What is left of a round that is ABANDONED or whose data has been zeroed. -/
def Round.zeroed (r : Round) (st : RoundState) : Round :=
  { r with state := st, roundKey := [], slots := [], intake := .empty,
           sets := r.sets.map fun x => { x with copyA := [], copyB := [] },
           owners := [], mask := .empty, ring := .empty, finishItems := [], peerAgain := [],
           finishRecs := r.finishRecs.map fun _ => .none }

/-- A cluster drops what it holds of a round that ends: banks filled for it go, and a span runs on dummy operands. -/
def Cluster.forget (c : Cluster) (ctx t : Nat) : Cluster :=
  { c with banks := c.banks.filter fun b => !(b.ctx == ctx && b.cohort == t)
           span := c.span.map fun sp => if sp.ctx = ctx ∧ sp.desc.cohort = t then { sp with dummy := true } else sp }

/-- Abandon a round: nothing is released, accumulators and secrets are zeroed, key slots invalidated (R44, R162). -/
def State.abandonRound (s : State) (ctx t cause : Nat) : State :=
  match s.round? ctx t with
  | none => s
  | some r =>
    let s := s.freeSlots r.slots
    let s := s.updRound ctx t fun r => r.zeroed .abandoned
    let s := { s with clusters := s.clusters.map fun (c : Cluster) => c.forget ctx t }
    let s := s.journal1 6 (some ctx) (leBytes 4 r.cohortId ++ leBytes 4 r.number ++ leBytes 4 cause)
    s.record 0x05140030 s.srcLeader (some ctx) (leBytes 4 r.cohortId ++ leBytes 4 r.number)

/-- A round that abandonment still reaches. -/
def RoundState.live : RoundState → Bool
  | .open => true
  | .closed => true
  | .unmasking => true
  | .finished => true
  | _ => false

/-- Abandon every live round of a context; an accepted ROUND_OPEN that has not come into effect is dropped, and its
command completes with the code. -/
def State.abandonAll (s : State) (ctx code : Nat) : State :=
  let s := (s.rounds.filter fun r => r.ctx == ctx && r.state.live).foldl
    (fun s r => s.abandonRound ctx r.template code) s
  let opening := s.rounds.any fun r => r.ctx == ctx && r.state == .opening
  let s := { s with rounds := s.rounds.filter fun r => !(r.ctx == ctx && r.state == .opening) }
  if opening then s.completeRunning (s.vfOf ctx) 0x03 code 0 0 else s

-- Delivery (R254, R255)

/-- The manifest of R255. -/
def Round.manifest (r : Round) (t : Template) (spec : FinishSpec) : Bytes :=
  let sets := t.sets
  let counts := 128 + 16 * spec.outTiles
  let data := roundUp (counts + 4 * sets) 65536
  withCrc (ascii "TLRO" ++ leBytes 2 1 ++ leBytes 1 spec.outFormat ++ leBytes 1 t.mode ++ leBytes 4 r.cohortId ++
    leBytes 4 r.number ++ leBytes 4 spec.outTiles ++ leBytes 4 sets ++ leBytes 8 r.releaseBeat ++ leBytes 8 counts ++
    leBytes 8 data ++ leBytes 4 (fmtElems t.format) ++ leBytes 4 r.kmin ++ r.policyDigest ++ zeros 20)

/-- Everything that a delivery writes, from offset 0 of the OUTPUT region. -/
def Round.outputImage (r : Round) (t : Template) (spec : FinishSpec) : Bytes :=
  let heads := r.finishRecs.zipIdx.flatMap fun (f, o) =>
    leBytes 4 o ++ leBytes 1 (unsignedOf 8 f.scale) ++ leBytes 1 f.attempt ++ leBytes 1 (if f.noise then 1 else 0) ++ zeros 9
  let counts := r.sets.flatMap fun x => leBytes 4 x.count
  let head := r.manifest t spec ++ heads ++ counts
  let data := r.finishRecs.flatMap fun f => padTo (fmtElems t.format * outWidth spec.outFormat) f.output
  head ++ zeros (roundUp head.length 65536 - head.length) ++ data

/-- Delivery ends: the output lies in the OUTPUT region, the round's keys are invalidated and its data zeroed (R254,
R255). -/
def State.deliver (s : State) (ctx t : Nat) : State :=
  match s.round? ctx t, s.image ctx with
  | some r, some im =>
    let tm := im.template t
    let spec := (policySpec r.policyObject r.cohortId).getD ⟨0, 0, 0, 0, 1, 0, 0, []⟩
    let base := ((im.regionsOf 7 t).head?.map Region.base).getD 0
    let s := s.writeMem ctx base (r.outputImage tm spec)
    let s := s.freeSlots r.slots
    let s := s.updRound ctx t fun r => { r.zeroed .released with delivering := false, delivered := true }
    let n := (assocGet s.grixo.releases (ctx, t)).getD 0
    let s := { s with grixo := { s.grixo with releases := assocSet s.grixo.releases (ctx, t) ((n + 1) % 2 ^ 32) } }
    let s := s.count ctx fun c => { c with releases := c.releases + 1 }
    let s := s.journal1 8 (some ctx) (leBytes 4 r.cohortId ++ leBytes 4 r.number)
    let s := s.record 0x05140034 s.srcLeader (some ctx) (leBytes 4 r.cohortId ++ leBytes 4 r.number)
    match r.releaseCmd with
    | some v => s.completeRunning v 0x06 0 0 r.releaseBeat
    | none => s
  | _, _ => s

-- Plan loss and cluster failure (R443, R444)

/-- A fault of tier 2, 3 or 4; one of tier 1 is counted with the record of its replay, and here only
where no code records it (R443, R504). -/
def State.countTier (s : State) (tier : Nat) : State :=
  s.persist fun p => { p with faultCounts := updAt p.faultCounts (tier - 1) fun n => min (n + 1) 0xFFFFFFFF }

/-- A cluster no longer runs a context's plan: its span and banks go, and the entry read ahead is read again. -/
def Cluster.without (c : Cluster) (ctx : Nat) : Cluster :=
  { c with span := if (c.span.map RunningSpan.ctx) = some ctx then none else c.span
           banks := c.banks.filter fun b => b.ctx != ctx
           ahead := none }

/-- A context's plan is lost (tier 3): its rounds are ABANDONED, its entries run as IDLE at once and its ROUND
connections close (R443). A delivery past its release point is finished first, for nothing undoes a release (R254; log
entry 20). -/
def State.losePlan (s : State) (ctx : Nat) : State :=
  if (s.plan ctx).state = .none then s
  else
    let s := s.abandonAll ctx 0x03500040
    let s := (s.rounds.filter fun r => r.ctx == ctx && r.delivering).foldl (fun s r => s.deliver ctx r.template) s
    let s := s.completeRunning (s.vfOf ctx) 0x01 0x03500040 0xFFFFFFFF 0
    let s := s.completeRunning (s.vfOf ctx) 0x02 0x03500040 0 0
    let s := s.updPlan ctx fun p => { PlanSlot.reset with lastReject := p.lastReject }
    let s := { s with rounds := s.rounds.filter fun r => r.ctx != ctx
                      clusters := s.clusters.map fun (c : Cluster) => c.without ctx }
    let s := s.closeAll (fun c => c.ctx == ctx && c.kind == 1) 0x03500040
    let s := s.journal1 2 (some ctx) (leBytes 8 s.hal.beatCount)
    let s := s.countTier 3
    s.record 0x03500040 s.srcLeader (some ctx) (leBytes 1 ctx)

/-- The failed cluster of a Canton whose block waits for the spare (R154). -/
def State.takeoverOf (s : State) (canton : Nat) : Option Nat :=
  ((List.range 15).map (16 * canton + ·)).find? fun k => (s.cluster k).takeoverWindow.isSome

/-- Contexts whose plan holds a non-IDLE entry in the block of a position. -/
def State.plansAt (s : State) (position : Nat) : List Nat :=
  (List.range 16).filter fun c =>
    (((s.image c).bind fun p => p.block position).map fun b => !b.entries.isEmpty).getD false

/-- A cluster is declared failed (R444): its outputs stop, its owner becomes MAINTENANCE at the next window boundary and
its block goes to the spare of its Canton, or the plans that use it are lost. -/
def State.failCluster (s : State) (k : Nat) : State :=
  let c := s.cluster k
  if c.failed then s
  else
    let canton := k / 16
    let spare := s.cluster (16 * canton + 15)
    let dropped := c.request.isSome
    let s := s.updCluster k fun c =>
      { c with failed := true, span := none, banks := [], request := some (.maintenance, s.hal.beatCount) }
    let s := if dropped then s.record 0x01500032 (srcCluster k) none [] else s
    let s := s.record 0x04500007 (srcCluster k) none []
    match c.position with
    | none =>
      -- a spare that stands by is unavailable from now on; the failure that it was to absorb is beyond spare capacity
      let waits := s.takeoverOf canton
      let s := s.updCluster k fun c => { c with unavailable := true, tableLoaded := false }
      let s := { s with lead := { s.lead with spareState := updAt s.lead.spareState canton fun _ => 14 } }
      match waits with
      | none => s
      | some j =>
        let users := s.plansAt ((s.cluster j).position.getD 0)
        let s := (s.updCluster j fun c => { c with takeoverWindow := none }).record 0x04500008 (srcCluster j) none []
        users.foldl (fun s u => s.losePlan u) s
    | some p =>
      let users := s.plansAt p
      let unfit := spare.unavailable || spare.failed || spare.position.isSome || k % 16 == 15 ||
        (s.takeoverOf canton).isSome || s.start.substituted.getD canton 15 != 15
      let beyond := users.filter fun u =>
        unfit || !(((s.image u).map fun i => (i.eligible.getD canton 0).testBit (positionNumber p)).getD false)
      let s := s.updCluster k fun c => { c with takeoverWindow := if unfit then none else some s.window }
      if beyond.isEmpty && !unfit then s
      else
        let s := s.record 0x04500008 (srcCluster k) none []
        beyond.foldl (fun s u => s.losePlan u) s

end Sys2Proof.Machine
end

