-- ==== Sys2Proof/Machine/Sequencer.lean ====
section
/-!
DEFINITION. Machine/Sequencer.lean: slot issue and prefetch at a cluster (R92 to R96, R130, R131): the commands
SLOT_ISSUE, IDLE, CONT and PREFETCH_FILL.
-/
namespace Sys2Proof.Machine

/-- Work list of a position. -/
def Round.list? (r : Round) (position : Nat) (k : ListKind) : Option WorkList :=
  r.mask.lists.find? fun l => l.position == position && l.kind == k

/-- A list holds an item its cursor has not consumed. -/
def Round.hasItem (r : Round) (position : Nat) (k : ListKind) : Bool :=
  ((r.list? position k).map fun l => decide (l.consumed < l.items.length)).getD false

/-- The list that an opcode's cursor takes items from. -/
def listOf (opcode : Nat) : Option ListKind :=
  match opcode with
  | 0x03 => some .self
  | 0x04 => some .pair
  | 0x05 => some .shamir
  | 0x07 => some .seedAcc
  | 0x08 => some .lwr
  | 0x1A => some .dsComb
  | _ => none

/-- Removal cursors do not pass the first item of the group after the next before the folds of a group are APPLIED (R182):
the next item may run while its group lies less than two (one, where buffers are single) past the first group that still
has to be folded. -/
def Round.mayRemove (r : Round) (im : PlanImage) (t position : Nat) (k : ListKind) : Bool :=
  if k == .shamir || k == .dsComb || k == .seedAcc then true
  else match (r.list? position k).bind fun l => l.items[l.consumed]? with
    | none => false
    | some item =>
      let sets := im.unmaskSets t position
      let open_ := (sets.filter fun x => (r.set x.2).unmask == 0).map Prod.fst
      let g := ((sets.find? fun x => x.2 == item.tile).map Prod.fst).getD 0
      match open_.head? with
      | none => true
      | some f => decide (g < f + (if (im.residency t position).2 then 2 else 1))

/-- The working copy of a position that stands on real operands. -/
def Round.working? (r : Round) (position cursor : Nat) : Option WorkingCopy :=
  r.ring.working.find? fun w => w.position == position && w.cursor == cursor

/-- Ring descriptors of a cursor in entry order (R200). -/
def Block.ringDescs (b : Block) (cursor : Nat) : List (Nat × Descriptor) :=
  b.entries.filter fun e => decide (0x10 ≤ e.2.opcode ∧ e.2.opcode ≤ 0x19) && e.2.cursor == cursor

/-- What makes two descriptors the same step of a base sequence. -/
def Descriptor.ringKey (d : Descriptor) : List Nat := [d.opcode, d.param0, d.param1, d.evalKey]

/-- A descriptor begins a base sequence: it names the staging routes (R201). -/
def Descriptor.begins (d : Descriptor) : Bool := d.opcode != 0x19 && d.dstRoute != 0xFFFF

/-- Length of the base sequence: descriptors up to the next that begins one (R200, R201). -/
def Block.baseLength (b : Block) (cursor : Nat) : Nat :=
  let l := b.ringDescs cursor
  match l with
  | [] => 1
  | _ :: r => (r.findIdx fun e => e.2.begins) + 1

/-- The descriptors of a cursor are a whole number of repetitions of its base sequence (R200). -/
def Block.wholeRepetitions (b : Block) (cursor : Nat) : Bool :=
  let l := b.ringDescs cursor
  let m := b.baseLength cursor
  l.length % m == 0 && l.zipIdx.all fun (e, i) =>
    (l[i % m]?).any fun f => f.2.ringKey == e.2.ringKey && f.2.begins == e.2.begins

/-- Place within the base sequence of the descriptor in an entry. -/
def Block.ringPlace (b : Block) (cursor entry : Nat) : Nat :=
  ((b.ringDescs cursor).findIdx fun e => e.1 == entry) % max 1 (b.baseLength cursor)

/-- Beats since the gap between two repetitions began, if an entry lies in one: after the span of a base sequence's last
descriptor and before the next lead of the cursor (R201). -/
def Block.gapSince (b : Block) (cursor entry : Nat) : Option Nat :=
  let l := b.ringDescs cursor
  let m := b.baseLength cursor
  (cyclicPairs l).zipIdx.findSome? fun ((e, f), i) =>
    let stop := e.1 + e.2.span
    let since := (entry + 4096 - stop % 4096) % 4096
    if (i + 1) % m = 0 ∧ since < (f.1 + 4096 - stop % 4096) % 4096 then some since else none

/-- A ring lead works on real operands: it starts a repetition on a staged-in tile in its PHASE, or carries on the one
begun (R200, R201). -/
def State.ringReal (s : State) (r : Round) (position ctx : Nat) (d : Descriptor) : Bool :=
  match (s.image ctx).bind fun p => p.block position, r.working? position d.cursor with
  | some b, some w =>
    let place := b.ringPlace d.cursor s.entry
    let phase := r.phase d.opcode
    place == w.step && (decide (0 < w.step) || (w.real && phase != 0 && d.phase &&& phase != 0))
  | _, _ => false

/-- A lead works on real operands: its round is in a state of PHASE and its cursor holds an item (R94, R141, R178,
R200, R249). -/
def State.leadReal (s : State) (position ctx : Nat) (d : Descriptor) : Bool :=
  match s.round? ctx d.cohort with
  | none => false
  | some r =>
    let phase := r.phase d.opcode
    if 0x10 ≤ d.opcode ∧ d.opcode ≤ 0x19 then s.ringReal r position ctx d
    else if phase = 0 || d.phase &&& phase = 0 then false
    else match listOf d.opcode with
      | some k => r.hasItem position k && ((s.image ctx).map fun im => r.mayRemove im d.cohort position k).getD false
      | none =>
        if d.opcode = 0x20 then
          r.finishItems.any fun i => i.position == position && i.cursor == d.cursor && i.result.isNone
        else if d.opcode = 0x30 then
          r.frozen &&
          (r.peerAgain.any (fun x => x.position == position && x.cursor == d.cursor) ||
           (((s.image ctx).bind fun p => p.cursor position d.cursor).map fun c =>
              decide ((r.cursorAt position d.cursor).pos < c.count)).getD false)
        else true

/-- What the records of one frame group have in common: slot, role and whether they are a peer's (R125). -/
def BinRecord.sender (x : BinRecord) : Nat × Nat × Bool := (Frame.slot x.header, Frame.role x.header, x.peer)

/-- Records taken but never added are marked SKIP, so that no commit counts them; their pending bits stay until the close
(R132, DEDUCED, log entry 7). In ring mode their whole groups are, and a group of which another fill has added a part
taints the set, since no commit includes part of a group (R40, R153). -/
def OwnerSet.skipTaken (o : OwnerSet) (ring : Bool) (taken : List Nat) : OwnerSet :=
  let senders := (o.numbered.filter fun x => taken.contains x.1).map fun x => x.2.sender
  let group := fun (x : Nat × BinRecord) => ring && senders.contains x.2.sender
  { o with
    taint := o.taint || o.numbered.any fun x =>
      group x && !x.2.skip && !(taken.contains x.1) && decide (o.mark ≤ x.1 ∧ x.1 < o.read)
    bin := o.numbered.map fun x => if taken.contains x.1 || group x then { x.2 with skip := true } else x.2 }

/-- The records of a staged bank are consumed and never added. The frames of a SECRETIN bank stay in the secret queue. -/
def State.skipBank (s : State) (p : Nat) (b : Bank) : State :=
  if b.secret then s
  else
    let ring := ((s.image b.ctx).map fun im => (im.template b.cohort).isRing).getD false
    s.updRound b.ctx b.cohort fun r => r.updOwner p b.tileSet fun o =>
      o.skipTaken ring (b.buffers.filterMap fun x => x.map Staged.record)

/-- Drop the banks of a cluster that were filled for an entry. -/
def State.dropBank (s : State) (k entry : Nat) : State :=
  let c := s.cluster k
  let s := (c.banks.filter fun b => b.entry == entry).foldl (fun s b => s.skipBank (c.position.getD 0) b) s
  s.updCluster k fun c => { c with banks := c.banks.filter fun b => b.entry != entry }

/-- In HOLD no lead is issued after the window of its entry (R435). -/
def State.leadsBlocked (s : State) (beat : Nat) : Bool := s.inHold && decide (s.lead.holdBeat ≤ beat)

/-- The evaluation-key header that the sequencer reads together with a descriptor (R216). -/
def State.readKey (s : State) (e : Option (Nat × Descriptor)) : Bytes :=
  match e with
  | none => []
  | some (ctx, d) =>
    if d.opcode < 0x15 ∨ 0x17 < d.opcode then []
    else match (s.image ctx).bind fun im => im.regions[d.evalKey]? with
      | some g => s.readMem ctx g.base 128
      | none => []

/-- Issue an entry to a cluster with the key header read with it: a lead starts its span, a CONT carries on the span of
its own lead only, and nothing leads in HOLD (R92, R93, R96, R154, R216). -/
def State.issue (s : State) (k : Nat) (e : Option (Nat × Descriptor)) (key : Bytes) : State :=
  match e with
  | none => s.updCluster k fun c => { c with span := none }
  | some (ctx, d) =>
    let c := s.cluster k
    if d.opcode = 0xF0 then
      match c.span with
      | some sp =>
        if sp.ctx = ctx ∧ sp.lead + d.span = s.entry then
          s.count ctx fun n => if sp.dummy then { n with beatsDummy := n.beatsDummy + 1 }
            else { n with beatsReal := n.beatsReal + 1 }
        else s.updCluster k fun c => { c with span := none }
      | none => s
    else if d.opcode = 0 then s.updCluster k fun c => { c with span := none }
    else if s.leadsBlocked s.hal.beatCount then (s.dropBank k s.entry).updCluster k fun c => { c with span := none }
    else
      let real := s.leadReal (c.position.getD 0) ctx d
      let s := s.count ctx fun n => if real then { n with beatsReal := n.beatsReal + 1 }
        else { n with beatsDummy := n.beatsDummy + 1 }
      let sp : RunningSpan :=
        { ctx := ctx, lead := s.entry, beats := 1, desc := d, dummy := !real, done := false, key := key }
      let s := s.updCluster k fun c => { c with span := some sp }
      if real then s else s.dropBank k s.entry

/-- SLOT_ISSUE: the entry read during the previous beat goes to the cluster (R92); in MAINTENANCE no slot is issued
(R26). -/
def execSlotIssue (cluster : Nat) (s : State) : Host.Outcome State Fault Refusal :=
  let c := s.cluster cluster
  match c.position with
  | none => .next s
  | some p =>
    if c.owner ≠ .service ∨ c.failed ∨ s.hal.frozen then .next s
    else
      let now := s.tableEntry p s.entry
      let (e, key) := match c.ahead with
        | some (b, e) => if b = s.hal.beatCount then (e, c.aheadKey) else (now, s.readKey now)
        | none => (now, s.readKey now)
      let stale := c.banks.filter fun b => b.entry != s.entry && b.entry != (s.entry + 1) % 4096
      let s := stale.foldl (fun s b => s.dropBank cluster b.entry) s
      let s := s.issue cluster e key
      let next := s.tableEntry p ((s.entry + 1) % 4096)
      .next (s.updCluster cluster fun c => { c with ahead := some (s.hal.beatCount + 1, next), aheadKey := s.readKey next })

/-- Beats that the opcode of a span takes (R97); the excess beats of its SPAN idle (R93). -/
def State.spanCost (s : State) (sp : RunningSpan) : Nat :=
  ((s.image sp.ctx).map fun im => im.cost? sp.desc).getD 1

/-- Run the work of the span that a cluster carries, once, if it has the opcode: `f` gets the block position and the
span. The work ends in the last beat of the opcode's cost, so that a span interrupted before it leaves nothing behind
(R95). On dummy operands the work is discarded (R94). -/
def State.runSpan (s : State) (k op : Nat) (f : State → Nat → RunningSpan → State) : State :=
  match (s.cluster k).span, (s.cluster k).position with
  | some sp, some p =>
    if sp.desc.opcode = op ∧ !sp.done ∧ s.spanCost sp ≤ sp.beats then
      let s := s.updCluster k fun c => { c with span := some { sp with done := true } }
      if sp.dummy then s else f s p sp
    else s
  | _, _ => s

/-- IDLE: the slot runs nothing for 2,048 cycles (R97). -/
def execIdle (_cluster : Nat) (s : State) : Host.Outcome State Fault Refusal := .next s

/-- CONT: the span of the lead goes on for one more beat (R93). -/
def execCont (cluster : Nat) (s : State) : Host.Outcome State Fault Refusal :=
  .next (s.updCluster cluster fun c =>
    { c with span := c.span.map fun sp => if sp.beats < sp.desc.span then { sp with beats := sp.beats + 1 } else sp })

-- Fills (R130, R131)

/-- Records of a frame from its first record. -/
def BinRecord.size (r : BinRecord) : Nat := max 1 r.records

/-- Records from the head of a list up to and including GROUP_LAST of the frame it starts, with the buffers they need
when the first of them would stand in buffer `slot`. -/
def groupSpan : List BinRecord → Nat → Nat
  | [], slot => slot
  | r :: rest, slot =>
    let slot' := if r.peer && !r.cont && slot % 4 + r.size > 4 then roundUp slot 4 else slot
    if r.last && r.records ≤ 1 then slot' + 1 else groupSpan rest (slot' + 1)

/-- Place records into 32 buffers, from buffer `slot` on (R130, R152): number of the record, buffer, record. `more` is
the room of later fills of the cursor before its next COMMIT. -/
def placeRecords (ring : Bool) (more : Nat) : List (Nat × BinRecord) → Nat → List (Nat × Nat × BinRecord)
  | [], _ => []
  | (i, r) :: rest, slot =>
    let slot' := if r.peer && !r.cont && slot % 4 + r.size > 4 then roundUp slot 4 else slot
    if 32 ≤ slot' then []
    else if r.peer && !r.cont && 32 < slot' + r.size then []
    else if ring && r.first && !r.cont && 32 + more < groupSpan (r :: rest.map Prod.snd) slot' then []
    else (i, slot', r) :: placeRecords ring more rest (slot' + 1)

/-- Room of the later fills that serve the same tile set before the cursor's next COMMIT: 32 buffers for each ACCUM
entry of the cursor after this one, one in every `g` of them (R152, DEDUCED, log entry 8). -/
def Block.laterFills (b : Block) (cursor entry g : Nat) : Nat :=
  let evs := b.entries.filter fun e => e.2.cursor == cursor && (e.2.opcode == 1 || e.2.opcode == 2)
  let after := (evs.filter fun e => decide (entry < e.1)) ++ evs.filter fun e => decide (e.1 < entry)
  32 * ((after.takeWhile fun e => e.2.opcode == 1).length / max 1 g)

/-- Frame key of a session (R116). -/
def Round.frameKey (r : Round) (role slot : Nat) : Option Bytes :=
  (r.intake.sessions.find? fun x => x.role == role && x.slot == slot && x.stored).map RoundSession.key

/-- Plaintext of a frame, if its tag holds under its session's key (R116). -/
def Round.openFrame (r : Round) (hdr payload tag : Bytes) : Option Bytes :=
  match r.frameKey (Frame.role hdr) (Frame.slot hdr) with
  | none => none
  | some k => gcmOpen k (Frame.nonce hdr) hdr (payload ++ tag)

/-- The period of a CLOSED round is over: W_s windows have been counted since the close (R43). -/
def Round.periodOver (r : Round) (t : Template) : Bool := decide (t.wS ≤ r.closedWindows)

/-- ACTION of a resend request: 1 while the round still accepts the kind, else 2 (R121, R122, R131). -/
def Round.resendAction (r : Round) (t : Template) (kind role : Nat) : Nat :=
  let accepts := match r.state with
    | .open => kind == 1 || kind == 2 || kind == 5 || kind == 6
    | .closed => ((kind == 3 || kind == 4) && !r.periodOver t) || (kind == 6 && role == 1)
    | _ => false
  if accepts then 1 else 2

/-- A frame taken by a fill fails: SKIP on its record, or on every record of its group, whichever connections brought
them; pending bits cleared, one notice (for a group about its first tile) and one record (R131, R153, R158, R129). Its
source is the core whose buffer held the frame (R130, DEDUCED, log entry 89). -/
def State.failFill (s : State) (k core ctx t set : Nat) (ring : Bool) (start : Nat) (i : Nat) (r : BinRecord)
    (code action : Nat) : State :=
  match (s.cluster k).position with
  | none => s
  | some p =>
    let slot := Frame.slot r.header
    let mine := fun (y : BinRecord) => ring && y.sender == r.sender
    let group : List BinRecord := match (s.round? ctx t).bind fun x => x.owner? p set with
      | some o => r :: o.bin.filter fun y => mine y && !y.skip
      | none => [r]
    let lead := group.foldl (fun a y => if Frame.tile y.header < Frame.tile a.header then y else a) r
    let tiles := group.map fun y => Frame.tile y.header
    let s := s.updRound ctx t fun x =>
      let x := x.updOwner p set fun o =>
        { o with
          taint := o.taint || o.numbered.any fun y =>
            mine y.2 && !y.2.skip && decide (o.mark ≤ y.1 ∧ y.1 < start)
          bin := o.numbered.map fun y => if mine y.2 || y.1 == i then { y.2 with skip := true } else y.2 }
      { x with intake := { x.intake with pending := x.intake.pending.filter fun q =>
          !(q.1 == slot && tiles.contains q.2) } }
    let s := if code = 0x05100020 then s.count ctx fun c => { c with framesTagFailed := c.framesTagFailed + 1 } else s
    let s := s.record code (srcCore k core) (some ctx) []
    s.notice lead.conn code lead.header action

/-- Leaf range of a PEER frame's slot, and whether a section keeps within it (R129). -/
def sectionOk (ranges : List (Nat × Nat)) (base : Nat) (sec : Bytes) : Bool :=
  match ranges.find? fun g => g.1 == base with
  | none => false
  | some g => (sectionSlots base sec).all fun x => decide (x < base + g.2)

/-- Verify one placed record and stage it; `rest` are the bin's records after it. -/
def State.stage (s : State) (k ctx t set : Nat) (tm : Template) (start : Nat) (x : Nat × Nat × BinRecord)
    (rest : List BinRecord) : State × Option (Nat × Staged) :=
  let (i, slot, r) := x
  match s.round? ctx t with
  | none => (s, none)
  | some rd =>
    -- an earlier frame of the group may have set SKIP in this fill
    let skipNow := r.skip || (((s.cluster k).position.bind fun p => rd.owner? p set).map fun o =>
      ((o.bin[i - o.release]?).map BinRecord.skip).getD true).getD true
    if r.cont || skipNow then (s, none)
    else
      let payload := framePayload (r :: rest)
      let fail := fun code action => s.failFill k (slot / 4) ctx t set tm.isRing start i r code action
      match rd.openFrame r.header payload r.tag with
      | none => (fail 0x05100020 (rd.resendAction tm (Frame.kind r.header) (Frame.role r.header)), none)
      | some plain =>
        if r.peer && !sectionOk (leafRanges rd.planDigest t) (Frame.slot r.header) (peerSection plain) then
          (fail 0x05100013 2, none)
        else (s, some (slot, { record := i, ok := true, plain := plain, header := r.header }))

/-- Stage the placed records in order. -/
def State.stageAll (k ctx t set : Nat) (tm : Template) (start : Nat) :
    List (Nat × Nat × BinRecord) → State → State × List (Nat × Staged)
  | [], s => (s, [])
  | x :: rest, s =>
    let (s, y) := s.stage k ctx t set tm start x (rest.map fun z => z.2.2)
    let (s, ys) := State.stageAll k ctx t set tm start rest s
    (s, y.toList ++ ys)

def Cluster.stageBank (c : Cluster) (b : Bank) : Cluster := { c with banks := c.banks ++ [b] }

/-- Fill a bank for an ACCUM entry (R130). Records for a single-buffered set whose drain runs stay in the bin (R142, DESIGN
CHOICE, log entry 89). -/
def State.fillAccum (s : State) (k ctx entry : Nat) (d : Descriptor) : State :=
  match (s.cluster k).position, s.image ctx, s.round? ctx d.cohort with
  | some p, some im, some r =>
    match im.cursor p d.cursor with
    | none => s
    | some c =>
      let tm := im.template d.cohort
      let at_ := r.cursorAt p d.cursor
      let sets := im.groupSets d.cohort p c at_.group
      let set := sets.getD (at_.pos % max 1 sets.length) 0
      match r.owner? p set with
      | none => s
      | some o =>
        let avail := if o.busy then [] else o.numbered.drop (o.read - o.release)
        let more := ((im.block p).map fun b => b.laterFills d.cursor entry sets.length).getD 0
        let placed := placeRecords tm.isRing more avail 0
        let s := s.updRound ctx d.cohort fun r => r.updOwner p set fun o => { o with read := o.read + placed.length }
        let (s, st) := State.stageAll k ctx d.cohort set tm o.read placed s
        let skipped := fun (i : Nat) => ((((s.round? ctx d.cohort).bind fun r => r.owner? p set).bind fun o =>
          o.bin[i - o.release]?).map BinRecord.skip).getD true
        let st := st.filter fun x => !skipped x.2.record
        let buffers := (List.range 32).map fun i => (st.find? fun x => x.1 == i).map Prod.snd
        s.updCluster k fun c =>
          c.stageBank { ctx := ctx, cohort := d.cohort, entry := entry, secret := false, cursor := d.cursor,
                                  tileSet := set, buffers := buffers }
  | _, _, _ => s

/-- Verify the frames that a SECRETIN fill took, from buffer `n` on: a failure removes the frame, with its notice
(R131). -/
def State.stageSecrets (k ctx t : Nat) (tm : Template) : List WaitFrame → Nat → State → State × List (Option Staged)
  | [], _, s => (s, [])
  | w :: rest, n, s =>
    let hdr := Frame.header w.bytes
    match s.round? ctx t with
    | none => (s, [])
    | some r =>
      match r.openFrame hdr (Frame.payload w.bytes) (Frame.tag w.bytes) with
      | some plain =>
        let (s, l) := State.stageSecrets k ctx t tm rest (n + 1) s
        (s, some { record := w.conn, ok := true, plain := plain, header := hdr } :: l)
      | none =>
        let s := s.updRound ctx t fun r =>
          { r with intake := { r.intake with secretQueue := r.intake.secretQueue.filter fun x => decide (x ≠ w) } }
        let s := s.count ctx fun c => { c with framesTagFailed := c.framesTagFailed + 1 }
        let s := s.record 0x05100021 (srcCore k (n / 4)) (some ctx) []
        let s := s.notice w.conn 0x05100021 hdr (r.resendAction tm (Frame.kind hdr) (Frame.role hdr))
        let (s, l) := State.stageSecrets k ctx t tm rest (n + 1) s
        (s, none :: l)

/-- Headers of the frames that stand in a bank filled for a SECRETIN of a cohort. -/
def State.bankedSecrets (s : State) (ctx t : Nat) : List Bytes :=
  (s.clusters.flatMap Cluster.banks).flatMap fun b =>
    if b.secret && b.ctx == ctx && b.cohort == t then (b.buffers.filterMap id).map Staged.header else []

/-- Fill a bank for a SECRETIN entry: up to 32 frames of the secret queue that no bank holds (R130). A frame stays in the
queue until its slot has stored it (R120 check 13, R125). -/
def State.fillSecret (s : State) (k ctx entry : Nat) (d : Descriptor) : State :=
  match s.round? ctx d.cohort, s.image ctx with
  | some r, some im =>
    let banked := s.bankedSecrets ctx d.cohort
    let frames := (r.intake.secretQueue.filter fun w => !(banked.contains (Frame.header w.bytes))).take 32
    let (s, st) := State.stageSecrets k ctx d.cohort (im.template d.cohort) frames 0 s
    s.updCluster k fun c =>
      c.stageBank { ctx := ctx, cohort := d.cohort, entry := entry, secret := true, cursor := d.cursor,
                              tileSet := 0, buffers := st }
  | _, _ => s

/-- The ACCUM or COMMIT of the running beat has still to run at a cluster: what it does to cursor, heads and buffers comes
before the fill for the next beat (R142; log entry 89). -/
def Cluster.fillWaits (c : Cluster) (entry : Nat) : Bool :=
  c.span.any fun sp => (sp.desc.opcode == 1 || sp.desc.opcode == 2) && !sp.done && !sp.dummy && sp.lead == entry

/-- PREFETCH_FILL: during this beat the cores fill and verify a bank for the ACCUM or SECRETIN lead of the next one
(R130). -/
def execPrefetchFill (cluster : Nat) (s : State) : Host.Outcome State Fault Refusal :=
  let c := s.cluster cluster
  match c.position with
  | none => .next s
  | some p =>
    let entry := (s.entry + 1) % 4096
    if c.owner ≠ .service ∨ c.failed ∨ s.hal.frozen ∨ s.leadsBlocked (s.hal.beatCount + 1) ∨ c.fillWaits s.entry ∨
        c.banks.any (fun b => b.entry == entry) then .next s
    else match s.tableEntry p entry with
      | some (ctx, d) =>
        if d.opcode = 0x01 ∧ s.leadReal p ctx d then .next (s.fillAccum cluster ctx entry d)
        else if d.opcode = 0x06 ∧ s.leadReal p ctx d then .next (s.fillSecret cluster ctx entry d)
        else .next s
      | none => .next s

end Sys2Proof.Machine
end

