-- ==== Sys2Proof/Machine/Accumulate.lean ====
section
/-!
DEFINITION. Machine/Accumulate.lean: accumulation and commit (R135 to R158): ACCUM, COMMIT, COMMIT_DRAIN,
DRAIN_BOUND_EXCEEDED and PEERFWD.
-/
namespace Sys2Proof.Machine

/-- Contributors that a staged frame adds to the buffer's count: 1 for a CHUNK or for a complete ring group, at a root
the section's population (R144). -/
def Staged.contributors (t : Template) (x : Staged) : Nat :=
  let last := Frame.tile x.header % max 1 t.setTiles + 1 = max 1 t.setTiles
  if !last then 0
  else if Frame.kind x.header = kPeer then
    (sectionSlots (Frame.slot x.header) (peerSection x.plain)).length
  else 1

/-- Add a staged frame's tile into the active buffer of a set (R137, R138). -/
def OwnerSet.addStaged (im : PlanImage) (t : Template) (o : OwnerSet) (x : Staged) : OwnerSet :=
  let m := Frame.tile x.header % max 1 t.setTiles
  { o with active := addInto (im.modulus t m) m o.active (elemsOf t.format (x.plain.take 65536))
           activeCount := o.activeCount + x.contributors t }

/-- The ledger section of a staged PEER frame waits in the merge buffer for its commit (R132, R144). -/
def OwnerSet.addSection (o : OwnerSet) (x : Staged) : OwnerSet :=
  if Frame.kind x.header = kPeer then
    { o with sections := assocSet o.sections x.record (peerSection x.plain) }
  else o

/-- Sections of a leaf's current group in the merge buffer, with their record numbers. -/
def OwnerSet.groupSections (o : OwnerSet) (sender : Nat × Nat × Bool) : List (Nat × Bytes) :=
  (o.numbered.filter fun x => x.2.sender == sender && !x.2.cont && !x.2.skip).filterMap fun x =>
    (assocGet o.sections x.1).map fun sec => (x.1, sec)

/-- Headers of the PEER frames at whose GROUP_LAST some ledger section of the group differs from the first (R158). -/
def OwnerSet.unequalGroups (o : OwnerSet) (n : Nat) (staged : List Staged) : List Staged :=
  staged.filter fun x =>
    Frame.kind x.header == kPeer && Frame.tile x.header % n + 1 == n &&
    match (o.numbered.find? fun y => y.1 == x.record).map fun y => (o.groupSections y.2.sender).map Prod.snd with
    | some (first :: rest) => rest.any fun sec => sec != first
    | _ => false

/-- At GROUP_LAST the root compares each section of a ring group with the first: a group that differs taints its set, with
a notice of ACTION 2 (R158). -/
def State.checkSections (s : State) (k ctx t set : Nat) (tm : Template) (bank : List (Nat × Staged)) : State :=
  match (s.cluster k).position.bind fun p => (s.round? ctx t).bind fun r => r.owner? p set with
  | none => s
  | some o =>
    (o.unequalGroups (max 1 tm.setTiles) (bank.map Prod.snd)).foldl (fun s x =>
      match o.numbered.find? fun y => y.1 == x.record with
      | none => s
      | some (i, y) =>
        let core := (((bank.find? fun b => b.2.record == x.record).map Prod.fst).getD 0) / 4
        s.failFill k core ctx t set tm.isRing o.read i y 0x05110005 2) s

/-- ACCUM: the staged chunks are added into the active buffer of the cursor's tile set, and the cursor moves on within its
group (R137, R138, R141). -/
def execAccum (cluster : Nat) (s : State) : Host.Outcome State Fault Refusal :=
  .next (s.runSpan cluster 0x01 fun s p sp =>
    let bank := (s.cluster cluster).banks.find? fun b => b.entry == sp.lead && b.ctx == sp.ctx && !b.secret
    let s := s.updCluster cluster fun c => { c with banks := c.banks.filter fun b => b.entry != sp.lead }
    match s.image sp.ctx with
    | none => s
    | some im =>
      let tm := im.template sp.desc.cohort
      let s := match bank with
        | some b =>
          let staged : List (Nat × Staged) := b.buffers.zipIdx.filterMap fun (x : Option Staged × Nat) => x.1.map fun (y : Staged) => (x.2, y)
          let s := s.updRound sp.ctx sp.desc.cohort fun r => r.updOwner p b.tileSet fun o =>
            staged.foldl (fun o (x : Nat × Staged) => (o.addStaged im tm x.2).addSection x.2) o
          if tm.isRing then s.checkSections cluster sp.ctx sp.desc.cohort b.tileSet tm staged else s
        | none => s
      s.updRound sp.ctx sp.desc.cohort fun r =>
        match im.cursor p sp.desc.cursor with
        | none => r
        | some c =>
          let n := (im.groupSets sp.desc.cohort p c (r.cursorAt p sp.desc.cursor).group).length
          r.updCursor p sp.desc.cursor fun q => { q with pos := (q.pos + 1) % max 1 n })

/-- The cut would split a group of which a fill has taken a part only (R40, R152). -/
def OwnerSet.splits (o : OwnerSet) : Bool :=
  decide (o.mark < o.read) &&
  ((o.bin[o.read - 1 - o.release]?).map fun x => !x.skip && !(x.last && x.records ≤ 1)).getD false

/-- The cut and swap of one tile set (R142) at the COMMIT of an entry. -/
def Round.cutSet (r : Round) (cluster beat entry next p k : Nat) (first : Nat) : Round :=
  match r.owner? p k with
  | none => r
  | some o =>
    let rec' : CommitRec :=
      { seq := r.nextSeq, tile := first, cluster := srcCluster cluster, state := 1, newSel := 1 - (r.set k).sel,
        markFrom := o.mark, cut := o.read, added := o.activeCount, nextGroup := next, fold := false, beat := beat, entry := entry }
    ({ r with nextSeq := r.nextSeq + 1 }).updOwner p k fun o => o.swapped rec'

/-- COMMIT: each tile set of the current group is cut and swapped and its commit record PREPARED; a tainted set is rolled
back instead, as is a set of which the cut would take part of a ring group (R40); the next group becomes current (R141,
R142, R153). -/
def execCommit (cluster : Nat) (s : State) : Host.Outcome State Fault Refusal :=
  .next (s.runSpan cluster 0x02 fun s p sp =>
    let t := sp.desc.cohort
    let i := sp.desc.cursor
    match s.image sp.ctx, s.round? sp.ctx t with
    | some im, some r =>
      match im.cursor p i with
      | none => s
      | some c =>
        let tm := im.template t
        let g := (r.cursorAt p i).group
        let next := (g + 1) % max 1 (im.groups t p c)
        let sets := im.groupSets t p c g
        let s := sets.foldl (fun s k =>
          if (((s.round? sp.ctx t).bind fun r => r.owner? p k).any fun o => o.taint || (tm.isRing && o.splits)) then
            s.rollbackSet sp.ctx t p i k 0x05110002
          else s.updRound sp.ctx t fun r => r.cutSet cluster s.hal.beatCount sp.lead next p k (tm.firstTile k)) s
        s.updRound sp.ctx t fun r => r.updCursor p i fun q => { q with group := next, pos := 0 }
    | _, _ => s)

/-- Commit points, then ledger application and freeing of the bins, of the tile sets of a cluster whose commit records
are PREPARED; a set whose record another owner has locked waits (R143, R144, R157), as does one whose routes a die link that is down
cuts (R446). -/
def State.drain (s : State) (ctx t position : Nat) : State :=
  match s.image ctx, s.round? ctx t with
  | some im, some r =>
    let tm := im.template t
    let n := max 1 tm.setTiles
    let mine := r.owners.filter fun o =>
      o.position == position && o.commit.state == 1 && !o.commit.fold && !(r.set o.set).lock &&
        !((im.commitRoutes o).any s.routeDown)
    let s := s.updRound ctx t fun r =>
      let r := mine.foldl (fun r o => r.commitPoint (im.modulus tm) n position o.set) r
      let r := mine.foldl (fun r o => r.applyCommit position o.set) r
      { r with chunks := r.chunks + (mine.map fun o => o.commit.added).sum }
    s.count ctx fun c =>
      { c with commits := c.commits + mine.length
               chunksCommitted := c.chunksCommitted + (mine.map fun o => o.commit.added).sum }
  | _, _ => s

/-- COMMIT_DRAIN: the drain of a cluster's commits of a cohort ends (R143, R144). A drain that HOLD overtakes runs to its
end (R435); a failed cluster drains nothing (R95, R154). -/
def execCommitDrain (cluster ctx cohort : Nat) (s : State) : Host.Outcome State Fault Refusal :=
  match (s.cluster cluster).position with
  | none => .next s
  | some p => if (s.cluster cluster).failed then .next s else .next (s.drain ctx cohort p)

/-- DRAIN_BOUND_EXCEEDED: a drain not complete after its bound is a fault of its cluster: its tile sets are rolled back
and the cluster is declared failed; a late fold replays its mask group (R147, R151, R182, R183, R444). While a die link is down the bound does not count (R446). -/
def execDrainBoundExceeded (cluster : Nat) (s : State) : Host.Outcome State Fault Refusal :=
  match (s.cluster cluster).position with
  | none => .next s
  | some p =>
    let late := s.rounds.filter fun r =>
      r.owners.any fun o => o.position == p && o.commit.state == 1 &&
        (((s.image r.ctx).map fun im => decide (im.drainDue r.planDigest r.template o ≤ s.hal.beatCount)).getD false)
    if late.isEmpty then .next s
    else
      let s := s.record 0x04110004 (srcCluster cluster) none []
      let s := s.rollbackPosition p
      let s := (late.filter fun r => r.state == .unmasking).foldl (fun s r => s.replayMaskAt r.ctx r.template p []) s
      .next (if s.lead.links.any DieLink.down then s else s.failCluster cluster)

-- PEERFWD (R156)

/-- The frozen ledger section of a leaf for a tile (R129). -/
def ledgerBytes (t : Template) (ledger : List (Nat × Nat)) (tile : Nat) : Bytes :=
  (List.range (ceilDiv t.slotCount 8)).map fun m =>
    BitVec.ofNat 8 (((List.range 8).map fun k =>
      if ledger.contains (t.slotBase + 8 * m + k, tile) then 2 ^ k else 0).sum)

/-- Elements of a tile as payload bytes, zeros standing for an empty list (R192, R133). -/
def tilePayload (t : Template) (l : List Nat) : Bytes :=
  padTo 65536 (l.flatMap fun v => beBytes (fmtWidth t.format) v)

/-- The PEER frame of one accumulator tile (R113 to R116, R156). -/
def Round.peerFrame (r : Round) (t : Template) (tile : Nat) : Bytes :=
  let n := max 1 t.setTiles
  let payload := tilePayload t (((r.set (tile / n)).copy).getD (tile % n) []) ++ ledgerBytes t r.intake.ledger tile
  let nonce := Frame.nonceOf kPeer 0 tile
  let hdr := beBytes 1 kPeer ++ beBytes 1 1 ++ beBytes 1 t.format ++ beBytes 1 2 ++ beBytes 4 r.cohortId ++
    beBytes 4 r.number ++ beBytes 3 t.slotBase ++ beBytes 3 tile ++ zeros 2 ++ beBytes 4 payload.length ++ nonce ++ zeros 28
  hdr ++ gcmSeal r.rootKey nonce hdr payload

/-- Connection over which a leaf reaches its root: the one named when the root was accepted. -/
def State.queueModuleMsg (s : State) (idx : Nat) (m : Bytes) : State :=
  s.updConn idx fun c => if c.state = .open then { c with sendArea := c.sendArea ++ [m] } else c

/-- PEERFWD: the leaf seals committed sums of up to 32 tiles, four per core (or the frames asked for again), with their
frozen ledger sections and queues the PEER frames to the root it has accepted (R56, R156). In ring mode a ring tile's
frames go together, also when they are asked for again (log entry 9). -/
def execPeerfwd (cluster : Nat) (s : State) : Host.Outcome State Fault Refusal :=
  .next (s.runSpan cluster 0x30 fun s p sp =>
    let t := sp.desc.cohort
    let i := sp.desc.cursor
    match s.image sp.ctx, s.round? sp.ctx t with
    | some im, some r =>
      match im.cursor p i, r.root with
      | some c, some _ =>
        -- the transfer over a link that is down is a tier 1 fault: the tiles are sent by a later execution (R446)
        if s.routeDown (im.route sp.desc.dstRoute) then s.countTier 1 else
        let tm := im.template t
        let n := max 1 tm.setTiles
        let again := (r.peerAgain.filter fun x => x.position == p && x.cursor == i).take (max 1 (32 / n))
        let tiles := if again.isEmpty then
            let at_ := (r.cursorAt p i).pos
            ((List.range (min (max 1 (32 / n)) (c.count - at_))).flatMap fun j =>
              (List.range n).map fun m => (c.first + at_ + j) * n + m)
          else again.flatMap fun x => (List.range n).map fun m => x.tile / n * n + m
        let s := tiles.foldl (fun s tile => s.queueModuleMsg r.rootConn (r.peerFrame tm tile)) s
        s.updRound sp.ctx t fun r =>
          if again.isEmpty then
            r.updCursor p i fun q => { q with pos := q.pos + min (max 1 (32 / n)) (c.count - q.pos) }
          else { r with peerAgain := r.peerAgain.filter fun x => !again.contains x }
      | _, _ => s
    | _, _ => s)

end Sys2Proof.Machine
end

