-- ==== Sys2Proof/Machine/Conns.lean ====
section
/-!
DEFINITION. Machine/Conns.lean: creation, opening, closing and destruction of connections, their residency, grants and
window keys (R280 to R296, R354, R355).
-/
namespace Sys2Proof.Machine

-- Regions of the context's plan that windows and queues may reach

/-- The range lies within one region of the kinds given of the context's plan (R299). -/
def State.inPlan (s : State) (ctx : Nat) (kinds : List Nat) (addr len : Nat) : Bool :=
  ((s.image ctx).map fun im => im.regions.any fun r =>
    kinds.contains r.kind && decide (r.base ≤ addr ∧ addr + len ≤ r.base + r.length)).getD false

/-- The same of a plan in state LOADED or RUNNING (R295, R315). -/
def State.inRegion (s : State) (ctx : Nat) (kinds : List Nat) (addr len : Nat) : Bool :=
  ((s.plan ctx).state == .loaded || (s.plan ctx).state == .running) && s.inPlan ctx kinds addr len

def kindEvalKey : Nat := 6
def kindOutput : Nat := 7

-- Grixo keys (R353 to R355)

/-- The slot of a context's current Grixo key on a Hoist. -/
def State.grixoSlot (s : State) (ctx hoist : Nat) : Option Nat :=
  (s.keys.grixo.find? fun k => k.ctx == ctx && k.hoist == hoist && k.current).map GrixoKey.slot

/-- Free every slot of a replaced Grixo key that no connection refers to (R355). -/
def State.dropOldGrixo (s : State) : State :=
  let users := s.grixo.conns ++ s.grixo.closing.map Closing.conn
  let old := s.keys.grixo.filter fun k =>
    !k.current && !(users.any fun c => c.ctx == k.ctx && connHoist c.index == k.hoist && c.keySlot == k.slot)
  let s := s.freeSlots (old.map fun k => (k.hoist, k.slot))
  { s with keys := { s.keys with grixo := s.keys.grixo.filter fun k => !old.contains k } }

-- Creation (R281, R287, R289, R292)

def commandIndex (e : Bytes) : Nat := leAt e 8 2

/-- The grants of a context keep R292 with `grant` for a connection on a Hoist, ROUND with its LANDING region or QUEUE;
`self` is a connection left out of the sums. -/
def State.grantOk (s : State) (ctx hoist kind landing grant self : Nat) : Bool :=
  let mine := s.grixo.conns.filter fun c => c.ctx == ctx && connHoist c.index == hoist && c.index != self
  let dieOf := fun (i : Nat) => ((s.image ctx).bind fun im => im.regions[i]?).map Region.die
  let share := decide ((mine.map Conn.grant).sum + grant ≤ (s.ctxSet ctx).portShare.get hoist)
  let landingOk := kind != 1 ||
    match dieOf landing with
    | none => false
    | some d =>
      let here := (mine.filter fun c => c.kind == 1 && dieOf c.landing == some d).map Conn.grant
      let rate := (((s.image ctx).map PlanImage.routes).getD []).foldl
        (fun m r => if r.kind = 1 ∧ r.src / 4096 = 4 + hoist ∧ r.dst / 4096 = d then max m r.rate else m) 0
      decide (2 * (here.sum + grant) ≤ 125 * rate)
  share && landingOk

/-- The conditions of R281 in order: the code of the first that fails. -/
def State.connChecks (s : State) (ctx : Nat) (e : Bytes) : Option Nat :=
  let h := leAt e 8 1
  let kind := leAt e 9 1
  let paths := leAt e 10 1
  let flags := leAt e 11 1
  let landing := leAt e 14 2
  let grant := leAt e 16 4
  let expiry := leAt e 20 1
  let set := s.ctxSet ctx
  let mine := s.grixo.conns.filter fun c => c.ctx == ctx && connHoist c.index == h
  let mapped := slice e 24 12 == zeros 10 ++ [0xFF, 0xFF]
  if 1 < h ∨ kind = 0 ∨ 2 < kind ∨ paths = 0 ∨ 16 < paths ∨ 7 < flags ∨ expiry < 2 ∨ 16 < expiry ∨
      (flags.testBit 2 ∧ !mapped) ∨ (flags.testBit 0 ∧ (s.grixoSlot ctx h).isNone) then some 0x01200020
  else if kind = 1 ∧ !(((s.plan ctx).state == .loaded || (s.plan ctx).state == .running) &&
      (((s.image ctx).bind fun im => im.regions[landing]?).any fun r => r.kind == 1)) then some 0x01200021
  else if !s.grantOk ctx h kind landing grant 0x10000 ∨
      (kind = 1 ∧ grant ≠ 0 ∧ set.resident.get h < (mine.filter fun c => c.kind == 1 && c.grant != 0).length + 17) ∨
      set.connLimit.get h ≤ mine.length ∨ (kind = 1 ∧ set.pkEngines.get h = 0) then some 0x01200024
  else none

/-- The lowest free index of a Hoist (R281). -/
def State.freeIndex (s : State) (hoist : Nat) : Nat :=
  0x8000 * hoist + ((List.range 32768).find? fun i => (s.conn? (0x8000 * hoist + i)).isNone).getD 0

/-- A generation is never 0. -/
def nextGen (g : Nat) : Nat := if g + 1 < 65536 then g + 1 else 1

/-- A connection as created: CLOSED, nothing set up (R282, R285). -/
def newConn (idx gen ctx : Nat) (e : Bytes) (resident : Bool) (us : Nat) : Conn :=
  let flags := leAt e 11 1
  let paths := leAt e 10 1
  { index := idx, gen := gen, state := .closed, kind := leAt e 9 1, ctx := ctx, enc := flags.testBit 0,
    passive := flags.testBit 1, ipv4 := flags.testBit 2, dir := flags.testBit 1, remoteAddr := slice e 24 16,
    remoteConn := leAt e 12 2, remoteGen := 0, remoteSport := 0, paths := paths, remotePaths := 0, txNext := 0,
    txOldest := 0, rxCum := 0, txSendSeq := 1, rxSendSeq := 1, txCtrl := 1, rxCtrl := 0, keySlot := 0xFFFF,
    landing := if leAt e 9 1 = 1 then leAt e 14 2 else 0xFFFF, grant := leAt e 16 4, expiry := leAt e 20 1,
    queue := 0xFF, outBase := 0, outBucket := List.replicate 16 0, inBase := 0, inBucket := List.replicate 16 0,
    lastUse := us, resident := resident, first := 0, remoteFirst := 0, accepted := [], intact := true,
    ctrlQueue := [], tx := [], rx := [], reads := [], waiting := [], past := [], txOrder := 0, lastPath := paths - 1,
    pathStates := List.replicate paths .new, ackDue := [], ackCount := 0, ackDueAt := none, reqSent := 0, reqDue := 0,
    sendArea := [], notices := [], missQueue := [] }

/-- CONN_CREATE (R281). -/
def execConnCreate (vf : Nat) (s : State) : Host.Outcome State Fault Refusal :=
  .next (s.command vf 0x10 fun s e =>
    let c := vfCtx vf
    match s.connChecks c e with
    | some code => s.complete vf e code 0 0
    | none =>
      let h := leAt e 8 1
      let idx := s.freeIndex h
      let gen := nextGen ((assocGet s.grixo.gens idx).getD 0)
      let free := decide ((s.residents c h).length < (s.ctxSet c).resident.get h)
      let s := { s with grixo := { s.grixo with
        conns := s.grixo.conns ++ [newConn idx gen c e free s.us], gens := assocSet s.grixo.gens idx gen } }
      s.complete vf e 0 (idx + 65536 * gen) 0)

/-- A connection of the context that a command names. -/
def State.connOf (s : State) (ctx idx : Nat) : Option Conn := (s.conn? idx).filter fun c => c.ctx == ctx

/-- Send a CONN_REQ and count it: the next is due RTO × 2^n after the n-th (R283). -/
def State.sendReq (s : State) (idx : Nat) : State :=
  let s := s.sendConnCtrl idx 1 0
  s.updConn idx fun c =>
    { c with reqSent := c.reqSent + 1, reqDue := s.aon + s.set.ports.rtoUs * 2 ^ (c.reqSent + 1) * tickUs }

/-- A CLOSED connection takes its key and first message ID and enters LISTEN or REQUESTING (R282, R283, R354). One that
was set up before takes a new generation, so that no message ID or CTRL_SEQ repeats within one (R264, R276; log entry
55). -/
def State.openConn (s : State) (c : Conn) : State :=
  let (d, s) := s.draw 4
  let slot := if c.enc then (s.grixoSlot c.ctx (connHoist c.index)).getD 0xFFFF else 0xFFFF
  let gen := if c.first = 0 then c.gen else nextGen c.gen
  let s := { s with grixo := { s.grixo with gens := assocSet s.grixo.gens c.index gen } }
  let s := s.updConn c.index fun c =>
    { c with state := if c.passive then .listen else .requesting, gen := gen, keySlot := slot, first := beNat d % 2 ^ 31 + 1,
             remoteGen := 0, remoteFirst := 0, remoteSport := 0, remotePaths := 0, accepted := [], txCtrl := 1, rxCtrl := 0,
             ctrlQueue := [], reqSent := 0, lastPath := c.paths - 1, lastUse := s.us
             pathStates := List.replicate c.paths .new }
  let s := s.dropOldGrixo
  if c.passive then s else s.sendReq c.index

/-- Decide a connection command on the record of the connection it names, which is fetched if it must be; the command
waits while no resident slot can take it (R288). -/
def State.onConn (s : State) (vf : Nat) (e : Bytes) (f : State → Conn → State) : State :=
  match s.connOf (vfCtx vf) (commandIndex e) with
  | none => s.complete vf e 0x0121001F 0 0
  | some c => match s.makeResident c.index with
    | none => s.updVf vf fun x => { x with fetched := e :: x.fetched }
    | some s => f s ((s.conn? c.index).getD c)

/-- CONN_OPEN: a CLOSED connection is set up (R282). -/
def execConnOpen (vf : Nat) (s : State) : Host.Outcome State Fault Refusal :=
  .next (s.command vf 0x11 fun s e => s.onConn vf e fun s c =>
    if c.state ≠ .closed then s.complete vf e 0x0121001F 0 0
    else if c.enc && (s.grixoSlot c.ctx (connHoist c.index)).isNone then s.complete vf e 0x01200020 0 0
    else (s.openConn c).complete vf e 0 0 0)

/-- CONN_CLOSE: any state goes to CLOSED, with REASON 0 (R282, R284). -/
def execConnClose (vf : Nat) (s : State) : Host.Outcome State Fault Refusal :=
  .next (s.command vf 0x12 fun s e => s.onConn vf e fun s c => (s.closeConn c.index 0 .closed).complete vf e 0 0 0)

/-- CONN_DESTROY: a CLOSED or FAILED connection without a queue is freed (R282, R315). -/
def execConnDestroy (vf : Nat) (s : State) : Host.Outcome State Fault Refusal :=
  .next (s.command vf 0x13 fun s e => s.onConn vf e fun s c =>
    if (c.state ≠ .closed ∧ c.state ≠ .failed) ∨ c.queue < 64 then s.complete vf e 0x0121001F 0 0
    else
      let s := { s with grixo := { s.grixo with conns := s.grixo.conns.filter fun x => x.index != c.index } }
      s.dropOldGrixo.complete vf e 0 0 0)

/-- CONN_SET_GRANT: GRANT and EXPIRY are reconfigured under the grant rules (R292). -/
def execConnSetGrant (vf : Nat) (s : State) : Host.Outcome State Fault Refusal :=
  .next (s.command vf 0x14 fun s e => s.onConn vf e fun s c =>
      let grant := leAt e 12 4
      let expiry := leAt e 16 1
      if expiry < 2 ∨ 16 < expiry then s.complete vf e 0x01200020 0 0
      else if !s.grantOk c.ctx (connHoist c.index) c.kind c.landing grant c.index then s.complete vf e 0x01200024 0 0
      else (s.updConn c.index fun c => { c with grant := grant, expiry := expiry }).complete vf e 0 0 0)

-- Window keys (R295, R296)

/-- A drawn key that is 0 or one of the last 16 is stepped on to the next value that is neither: at most 17 values are
barred. -/
def stepKey (barred : List Nat) : Nat → Nat → Nat
  | 0, k => k
  | n + 1, k => if k = 0 ∨ barred.contains k then stepKey barred n ((k + 1) % 2 ^ 32) else k

/-- Draw a window key for a context. -/
def State.drawWindowKey (s : State) (w : WindowKey) : Nat × State :=
  let (d, s) := s.draw 4
  (stepKey (w.previous ++ w.current.toList) 18 (beNat d), s)

def State.windowKey (s : State) (ctx : Nat) : WindowKey := s.grixo.windowKeys.getD ctx .none
def State.setWindowKey (s : State) (ctx : Nat) (w : WindowKey) : State :=
  { s with grixo := { s.grixo with windowKeys := updAt s.grixo.windowKeys ctx fun _ => w } }

/-- The old key drains: messages started under it are marked, and two window boundaries are left (R296). -/
def State.changeKey (s : State) (ctx : Nat) (new : Option Nat) : State :=
  let w := s.windowKey ctx
  let s := s.setWindowKey ctx
    { current := new, draining := w.current.map fun k => (k, 2),
      previous := (w.current.toList ++ w.previous).take 16 }
  let s := { s with grixo := { s.grixo with conns := s.grixo.conns.map fun (c : Conn) =>
    if c.ctx == ctx && c.kind == 2 then
      { c with rx := c.rx.map fun (m : RxMsg) =>
          if (m.type = 2 ∨ m.type = 3) ∧ some m.key = w.current ∧ !m.complete then { m with old := true } else m }
    else c } }
  s.record 0x05200026 (srcHoist (s.ctxSet ctx).endpoint) (some ctx) []

/-- Take a WINDOW_KEY command of one ACTION (R296, R314): an ACTION that is neither is malformed. -/
def State.windowCommand (s : State) (vf action : Nat) (f : State → Bytes → State) : State :=
  match (s.vf vf).fetched with
  | [] => s
  | e :: _ =>
    let a := leAt e 8 1
    if a ≠ action ∧ (a = 1 ∨ a = 2) then s
    else s.command vf 0x1A fun s e =>
      if a ≠ action then s.complete vf e 0x01210014 0 0
      else if (s.windowKey (vfCtx vf)).draining.isSome then s.complete vf e 0x01200028 0 0
      else f s e

/-- WINDOW_KEY_REPLACE: a new key is drawn and the old one drains (R296). -/
def execWindowKeyReplace (vf : Nat) (s : State) : Host.Outcome State Fault Refusal :=
  .next (s.windowCommand vf 1 fun s e =>
    let c := vfCtx vf
    let (k, s) := s.drawWindowKey (s.windowKey c)
    (s.changeKey c (some k)).complete vf e 0 k 0)

/-- WINDOW_KEY_REVOKE: the context has no key and the old one drains (R296). -/
def execWindowKeyRevoke (vf : Nat) (s : State) : Host.Outcome State Fault Refusal :=
  .next (s.windowCommand vf 2 fun s e => (s.changeKey (vfCtx vf) none).complete vf e 0 0 0)

/-- A connection has an incomplete message under the old key: a WRITE in progress, or a response that is not yet sent
whole. -/
def Conn.underOldKey (c : Conn) (key : Nat) : Bool :=
  c.rx.any (fun m => m.old && !m.complete) || (c.tx ++ c.waiting).any fun m => m.type == 4 && m.key == key

/-- KEY_DRAIN_LIMIT: at the second window boundary after the acceptance the connections that still have an incomplete
message under the old key close, and it stops draining (R296). -/
def execKeyDrainLimit (ctx : Nat) (s : State) : Host.Outcome State Fault Refusal :=
  let w := s.windowKey ctx
  match w.draining with
  | some (k, 0) =>
    let s := s.closeAll (fun c => c.ctx == ctx && c.kind == 2 && c.underOldKey k) 0x05200026
    .next (s.setWindowKey ctx { w with draining := none })
  | _ => .next s

end Sys2Proof.Machine
end

