-- ==== Sys2Proof/Machine/Queues.lean ====
section
/-!
DEFINITION. Machine/Queues.lean: work queues and their entries (R297 to R301, R315).
-/
namespace Sys2Proof.Machine

-- Creation and destruction (R315)

/-- QUEUE_CREATE. -/
def execQueueCreate (vf : Nat) (s : State) : Host.Outcome State Fault Refusal :=
  .next (s.command vf 0x18 fun s e =>
    let c := vfCtx vf
    let q := leAt e 8 1
    let vec := leAt e 9 1
    let conn := leAt e 10 2
    let lg := leAt e 12 1
    let lc := leAt e 13 1
    let usable := conn == 0xFFFF || (s.connOf c conn).any fun x => x.kind == 2 && decide (64 ≤ x.queue)
    if 63 < q ∨ vec < 2 ∨ 65 < vec ∨ lg < 4 ∨ 16 < lg ∨ lc < 4 ∨ 16 < lc ∨ (s.queue c q).state ≠ .none then
      s.complete vf e 0x01210019 0 0
    else if leAt e 16 8 % 4096 ≠ 0 ∨ leAt e 24 8 % 4096 ≠ 0 then s.complete vf e 0x01210017 0 0
    else if !usable then s.complete vf e 0x0121001F 0 0
    else
      let s := s.updQueue c q fun _ =>
        { WorkQueue.reset with
          state := .active, conn := if conn = 0xFFFF then none else some conn, ringBase := leAt e 16 8, ringLog := lg,
          cplBase := leAt e 24 8, cplLog := lc, vector := vec }
      (if conn = 0xFFFF then s else s.updConn conn fun x => { x with queue := q }).complete vf e 0 0 0)

/-- A queue becomes DESTROYING: entries that have not started go without completions (R315). -/
def State.destroyQueue (s : State) (c q : Nat) (cmd : Option Nat) : State :=
  s.updQueue c q fun w =>
    if w.state = .none then w else { w with state := .destroying, fetched := [], destroyCmd := cmd }

/-- A DESTROYING queue whose started entries have all finished returns to NONE, and its command completes (R315). -/
def State.endQueue (s : State) (c q : Nat) : State :=
  let w := s.queue c q
  if w.state = .destroying ∧ w.started.all (fun x => x.done) then
    let s := s.updQueue c q fun _ => .reset
    let s := match w.conn with
      | some i => s.updConn i fun x => { x with queue := 0xFF }
      | none => s
    if w.destroyCmd.isSome then s.completeRunning (s.vfOf c) 0x19 0 0 0 else s
  else s

/-- QUEUE_DESTROY: the queue is DESTROYING until its last started entry has finished (R315). -/
def execQueueDestroy (vf : Nat) (s : State) : Host.Outcome State Fault Refusal :=
  .next (s.command vf 0x19 fun s e =>
    let c := vfCtx vf
    let q := leAt e 8 1
    if 63 < q ∨ (s.queue c q).state ≠ .active then s.complete vf e 0x01210019 0 0
    else
      let s := s.updVf vf fun x => { x with running := some e }
      (s.destroyQueue c q (some (Cmd.id e))).endQueue c q)

/-- QUEUE_DESTROY_COMPLETE: the last started entry has finished (R315). -/
def execQueueDestroyComplete (ctx queue : Nat) (s : State) : Host.Outcome State Fault Refusal :=
  .next (s.endQueue ctx queue)

-- Entries: waits and checks (R298, R299)

namespace Wqe
/-- The wait target: its kind, and the queue or template. -/
def waitKind (e : Bytes) : Nat := target e / 4096
def waitIndex (e : Bytes) : Nat := target e % 256
/-- First condition of R299. -/
def malformed (e : Bytes) : Bool :=
  !reservedZero e || decide (4 < opcode e ∨ 1 < waitKind e) ||
  (if opcode e = 0 then length e != 0 else decide (length e = 0 ∨ 2097152 < length e)) ||
  (opcode e != 3 && opcode e != 4 && (remoteKey e != 0 || remoteAddr e != 0)) ||
  (wait e && waitKind e == 0 && decide (63 < waitIndex e))
end Wqe

/-- WAIT_TARGET names no template of the context's plan. -/
def State.badTarget (s : State) (ctx : Nat) (e : Bytes) : Bool :=
  Wqe.wait e && Wqe.waitKind e == 1 &&
    !(((s.image ctx).map fun im => decide (Wqe.waitIndex e < im.templates.length)).getD false)

/-- The count that a WAIT entry awaits has been reached (R298). -/
def State.waitReached (s : State) (ctx : Nat) (e : Bytes) : Bool :=
  let n := if Wqe.waitKind e = 0 then (s.queue ctx (Wqe.waitIndex e)).count
    else (assocGet s.grixo.releases (ctx, Wqe.waitIndex e)).getD 0
  decide ((n + 2 ^ 32 - Wqe.waitCount e) % 2 ^ 32 < 2 ^ 31)

/-- The wait names no count: a kind out of range, a queue above 63, or no template of the plan. -/
def State.noCount (s : State) (ctx : Nat) (e : Bytes) : Bool :=
  decide (1 < Wqe.waitKind e ∨ Wqe.waitKind e = 0 ∧ 63 < Wqe.waitIndex e) || s.badTarget ctx e

/-- The entry at the front may start: no wait, a satisfied wait, or one that names nothing to wait for, with which the
entry fails as it starts (log entry 56). -/
def State.mayStart (s : State) (ctx : Nat) (e : Bytes) : Bool :=
  !Wqe.wait e || s.noCount ctx e || s.waitReached ctx e

/-- The code of the first condition of R299 that an entry fails. -/
def State.entryCode (s : State) (ctx : Nat) (w : WorkQueue) (e : Bytes) : Option Nat :=
  let op := Wqe.opcode e
  let isOpen := ((w.conn.bind s.conn?).map fun c => c.state == .open).getD false
  if Wqe.malformed e then some 0x01200020
  else if op ≠ 0 ∧ !isOpen then some 0x01200021
  else if (op = 1 ∨ op = 3) ∧ !s.inPlan ctx [kindEvalKey, kindOutput] (Wqe.localAddr e) (Wqe.length e) then
    some 0x01200022
  else if (op = 2 ∨ op = 4) ∧ !s.inPlan ctx [kindEvalKey] (Wqe.localAddr e) (Wqe.length e) then some 0x01200022
  else if s.badTarget ctx e then some 0x01200023
  else none

/-- The front entry starts. -/
def State.startEntry (s : State) (ctx q n : Nat) (e : Bytes) (done : Bool) (status seq : Nat) : State :=
  s.updQueue ctx q fun w =>
    let x : StartedEntry := { entry := n, bytes := e, done := done, status := BitVec.ofNat 32 status, moved := 0, seq := seq }
    WorkQueue.drain q
      { w with fetched := w.fetched.drop 1, started := w.started ++ [x], startedCount := w.startedCount + 1,
               recvCount := if Wqe.opcode e = 2 ∧ !done then w.recvCount + 1 else w.recvCount }

/-- Start the front entry of a queue if its opcode is one of those given (R298 to R300). -/
def State.startFront (s : State) (ctx q : Nat) (p : Nat → Bool) : State :=
  let w := s.queue ctx q
  match w.fetched with
  | [] => s
  | (n, e) :: _ =>
    if w.state ≠ .active ∨ 64 ≤ w.held.length ∨ !p (Wqe.opcode e) ∨ !s.mayStart ctx e then s
    else match s.entryCode ctx w e with
      | some code => s.startEntry ctx q n e true code 0
      | none =>
        let idx := w.conn.getD 0
        match Wqe.opcode e with
        | 0 => s.startEntry ctx q n e true 0 0
        | 2 => s.startEntry ctx q n e false 0 (w.recvCount + 1)
        | op =>
          match s.readyToSend idx with
          | (false, s) => s
          | (true, s) =>
            let s := s.startEntry ctx q n e false 0 0
            let data := s.readMem ctx (Wqe.localAddr e) (Wqe.length e)
            if op = 1 then s.newMsg idx 1 data 0 0 (some (q, n))
            else if op = 3 then s.newMsg idx 2 data (Wqe.remoteKey e) (Wqe.remoteAddr e) (some (q, n))
            else
              let s := s.updConn idx fun c =>
                { c with reads := c.reads ++ [OutRead.mk c.txNext (Wqe.length e) (Wqe.localAddr e) q n [] false] }
              s.newMsg idx 3 (beBytes 4 (Wqe.length e) ++ zeros 12) (Wqe.remoteKey e) (Wqe.remoteAddr e) none

/-- WQE_NOP: a NOP entry starts and completes at once; an entry with no listed OPCODE fails (R299, R300). -/
def execWqeNop (ctx queue : Nat) (s : State) : Host.Outcome State Fault Refusal :=
  .next (s.startFront ctx queue fun op => op == 0 || decide (4 < op))

/-- WQE_SEND: the message goes out on the queue's connection (R299, R300). -/
def execWqeSend (ctx queue : Nat) (s : State) : Host.Outcome State Fault Refusal :=
  .next (s.startFront ctx queue fun op => op == 1)

/-- WQE_RECV: a buffer is posted for the next SEND_SEQ (R294). -/
def execWqeRecv (ctx queue : Nat) (s : State) : Host.Outcome State Fault Refusal :=
  .next (s.startFront ctx queue fun op => op == 2)

/-- WQE_WRITE: the bytes go out under the peer's window key (R299, R300). -/
def execWqeWrite (ctx queue : Nat) (s : State) : Host.Outcome State Fault Refusal :=
  .next (s.startFront ctx queue fun op => op == 3)

/-- WQE_READ: a READ_REQ goes out under the peer's window key (R299, R300). -/
def execWqeRead (ctx queue : Nat) (s : State) : Host.Outcome State Fault Refusal :=
  .next (s.startFront ctx queue fun op => op == 4)

/-- WQE_WAIT_SATISFIED: the count awaited by the front entry is reached, and the entry starts (R298). -/
def execWqeWaitSatisfied (ctx queue : Nat) (s : State) : Host.Outcome State Fault Refusal :=
  match (s.queue ctx queue).fetched with
  | [] => .next s
  | (_, e) :: _ => .next (if Wqe.wait e then s.startFront ctx queue fun _ => true else s)

/-- WQE_COMPLETE: a finished entry completes once it is the first of its queue (R300, R301). -/
def execWqeComplete (ctx queue entry : Nat) (s : State) : Host.Outcome State Fault Refusal :=
  .next (s.updQueue ctx queue fun w =>
    match w.started with
    | [] => w
    | x :: r =>
      if x.done && x.entry == entry then
        WorkQueue.drain queue ({ w with started := r }.post queue x.bytes x.status.toNat x.moved)
      else w)

end Sys2Proof.Machine
end

