-- ==== Sys2Proof/Machine/PublicKey.lean ====
section
/-!
DEFINITION. Machine/PublicKey.lean: X25519 (RFC 7748), HPKE in base mode with the suite of R117 (RFC 9180), and
ECDSA on P-384 with SHA-384 (FIPS 186-5). The spec names the standards (R15); their bodies are the published ones
(PRESUMED, log entry 4).
-/
namespace Sys2Proof.Machine

def p25519 : Nat := 2 ^ 255 - 19

/-- One ladder step on ((x2, z2), (x3, z3)) for the u-coordinate `u`. -/
def ladderStep (u : Nat) (s : (Nat × Nat) × (Nat × Nat)) : (Nat × Nat) × (Nat × Nat) :=
  let p := p25519
  let a := (s.1.1 + s.1.2) % p
  let b := (s.1.1 + p - s.1.2) % p
  let c := (s.2.1 + s.2.2) % p
  let d := (s.2.1 + p - s.2.2) % p
  let aa := a * a % p
  let bb := b * b % p
  let e := (aa + p - bb) % p
  let da := d * a % p
  let cb := c * b % p
  let s1 := (da + cb) % p
  let d1 := (da + p - cb) % p
  ((aa * bb % p, e * (aa + 121665 * e) % p), (s1 * s1 % p, u * (d1 * d1 % p) % p))

/-- The Montgomery ladder over the low `n` bits of `k`, most significant first. -/
def ladder (u k : Nat) : Nat → (Nat × Nat) × (Nat × Nat) → (Nat × Nat) × (Nat × Nat)
  | 0, s => s
  | n + 1, s =>
    let bit := k / 2 ^ n % 2
    let s' := ladderStep u (if bit = 1 then (s.2, s.1) else s)
    ladder u k n (if bit = 1 then (s'.2, s'.1) else s')

/-- Clamping of RFC 7748 (R342). -/
def clamp25519 (b : Bytes) : Bytes :=
  match b with
  | [] => []
  | x :: xs => (x &&& 0xF8) :: xs.take 30 ++ (xs.drop 30).map fun y => (y &&& 0x7F) ||| 0x40

/-- X25519 of a 32-byte scalar and a 32-byte u-coordinate. -/
def x25519 (scalar point : Bytes) : Bytes :=
  let k := leNat (clamp25519 (padTo 32 scalar))
  let u := leNat point % 2 ^ 255 % p25519
  let r := ladder u k 255 ((1, 0), (u, 1))
  leBytes 32 (r.1.1 * invMod r.1.2 p25519 % p25519)

/-- The public key of a private scalar. -/
def x25519Public (scalar : Bytes) : Bytes := x25519 scalar (leBytes 32 9)

/-- Suite identifiers of the profile of R117: DHKEM(X25519, HKDF-SHA256), HKDF-SHA256, AES-256-GCM. -/
def kemSuite : Bytes := ascii "KEM" ++ beBytes 2 0x0020
def hpkeSuite : Bytes := ascii "HPKE" ++ beBytes 2 0x0020 ++ beBytes 2 0x0001 ++ beBytes 2 0x0002

def labeledExtract (suite salt : Bytes) (label : String) (ikm : Bytes) : Bytes :=
  hkdfExtract salt (ascii "HPKE-v1" ++ suite ++ ascii label ++ ikm)

def labeledExpand (suite prk : Bytes) (label : String) (info : Bytes) (len : Nat) : Bytes :=
  hkdfExpand prk (beBytes 2 len ++ ascii "HPKE-v1" ++ suite ++ ascii label ++ info) len

/-- The KEM shared secret from the Diffie-Hellman value. -/
def kemShared (dh enc pkR : Bytes) : Bytes :=
  labeledExpand kemSuite (labeledExtract kemSuite [] "eae_prk" dh) "shared_secret" (enc ++ pkR) 32

/-- The HPKE context of base mode: key and base nonce. -/
structure HpkeCtx where
  key : Bytes
  nonce : Bytes
  /-- Exporter secret. -/
  exporter : Bytes

def hpkeSchedule (shared info : Bytes) : HpkeCtx :=
  let ctx := [0] ++ labeledExtract hpkeSuite [] "psk_id_hash" [] ++ labeledExtract hpkeSuite [] "info_hash" info
  let secret := labeledExtract hpkeSuite shared "secret" []
  ⟨labeledExpand hpkeSuite secret "key" ctx 32, labeledExpand hpkeSuite secret "base_nonce" ctx 12,
    labeledExpand hpkeSuite secret "exp" ctx 32⟩

/-- The exported secret of RFC 9180. -/
def hpkeExport (c : HpkeCtx) (ctx : Bytes) (len : Nat) : Bytes := labeledExpand hpkeSuite c.exporter "sec" ctx len

/-- A public key of small order: its X25519 value is zero under every clamped scalar, the one with no other bit set
among them, and RFC 9180 (7.1.4) has the key agreement fail. -/
def lowOrder (pk : Bytes) : Bool := (x25519 (zeros 32) pk).all (· == 0)

/-- Receiver's context from the encapsulated key; none where the key agreement fails. -/
def hpkeReceive (sk enc info : Bytes) : Option HpkeCtx :=
  if lowOrder enc then none
  else some (hpkeSchedule (kemShared (x25519 sk enc) enc (x25519Public sk)) info)

/-- Sender's context with the ephemeral private key `ske`: the encapsulated key and the context. -/
def hpkeSend (ske pkR info : Bytes) : Bytes × HpkeCtx :=
  let enc := x25519Public ske
  (enc, hpkeSchedule (kemShared (x25519 ske pkR) enc pkR) info)

/-- Single-shot open. -/
def hpkeOpen (sk enc info aad ct : Bytes) : Option Bytes :=
  (hpkeReceive sk enc info).bind fun c => gcmOpen c.key c.nonce aad ct

/-- The prime, coefficient b, order and base point of P-384. -/
def p384P : Nat := 2 ^ 384 - 2 ^ 128 - 2 ^ 96 + 2 ^ 32 - 1
def p384B : Nat := 0xb3312fa7e23ee7e4988e056be3f82d19181d9c6efe8141120314088f5013875ac656398d8a2ed19d2a85c8edd3ec2aef
def p384N : Nat := 0xffffffffffffffffffffffffffffffffffffffffffffffffc7634d81f4372ddf581a0db248b0a77aecec196accc52973
def p384G : Nat × Nat :=
  (0xaa87ca22be8b05378eb1c71ef320ad746e1d3b628ba79b9859f741e082542a385502f25dbf55296c3a545e3872760ab7,
   0x3617de4a96262c6f5d9e98bf9292dc29f8f41dbd289a147ce9da3113b5f0b8c00a60b1ce1d7e819d7a431d7c90ea0e5f)

/-- Point addition on P-384; none is the point at infinity. -/
def p384Add (a b : Option (Nat × Nat)) : Option (Nat × Nat) :=
  match a, b with
  | none, b => b
  | a, none => a
  | some (x1, y1), some (x2, y2) =>
    let p := p384P
    if x1 = x2 && (y1 + y2) % p == 0 then none
    else
      let l := if x1 = x2 then (3 * x1 * x1 + p - 3) * invMod (2 * y1 % p) p % p
        else (y2 + p - y1) * invMod ((x2 + p - x1) % p) p % p
      let x := (l * l + 2 * p - x1 - x2) % p
      some (x, (l * (x1 + p - x) + p - y1) % p)

def p384MulBits : Nat → Nat → Option (Nat × Nat) → Option (Nat × Nat)
  | 0, _, _ => none
  | n + 1, k, q =>
    let r := p384MulBits n (k / 2) (p384Add q q)
    if k % 2 = 1 then p384Add q r else r

def p384Mul (k : Nat) (q : Option (Nat × Nat)) : Option (Nat × Nat) := p384MulBits 384 k q

/-- A public key in 96 bytes, x then y, that lies on the curve. -/
def p384Point (pk : Bytes) : Option (Nat × Nat) :=
  let x := beNat (pk.take 48)
  let y := beNat ((pk.drop 48).take 48)
  if x < p384P && y < p384P && (y * y) % p384P == (x * x * x + (p384P - 3) * x + p384B) % p384P
  then some (x, y) else none

/-- The private scalar from 64 derived bytes (R342). -/
def p384Private (c : Bytes) : Nat := beNat c % (p384N - 1) + 1

/-- x then y of a point, 48 bytes each. -/
def p384Bytes (q : Option (Nat × Nat)) : Bytes :=
  match q with
  | some (x, y) => beBytes 48 x ++ beBytes 48 y
  | none => zeros 96

def p384Public (d : Nat) : Bytes := p384Bytes (p384Mul d (some p384G))

/-- ECDSA P-384 with SHA-384: r then s, with the per-signature secret `k`. -/
def ecdsaSign (d k : Nat) (m : Bytes) : Bytes :=
  let e := beNat (sha384 m)
  let r := match p384Mul k (some p384G) with
    | some (x, _) => x % p384N
    | none => 0
  let s := invMod (k % p384N) p384N * (e + r * d) % p384N
  beBytes 48 r ++ beBytes 48 s

/-- Verification of r ‖ s under a 96-byte public key. -/
def ecdsaVerify (pk m sig : Bytes) : Bool :=
  let r := beNat (sig.take 48)
  let s := beNat ((sig.drop 48).take 48)
  match p384Point pk with
  | none => false
  | some q =>
    if r = 0 || r ≥ p384N || s = 0 || s ≥ p384N then false
    else
      let w := invMod s p384N
      let u1 := beNat (sha384 m) * w % p384N
      let u2 := r * w % p384N
      match p384Add (p384Mul u1 (some p384G)) (p384Mul u2 (some q)) with
      | some (x, _) => x % p384N == r
      | none => false

end Sys2Proof.Machine
end

