-- ==== Sys2Proof/Machine/Secrets.lean ====
section
/-!
DEFINITION. Machine/Secrets.lean: the derivation tree (R340 to R345), key slots that are loaded or reserved (R330), and
wrapped blobs (R350 to R352).
-/
namespace Sys2Proof.Machine

/-- R_lc (R340). -/
def Lifecycle.root : Lifecycle → Bytes
  | .blank => Config.rootSecret 0
  | .test => Config.rootSecret 0
  | .develop => Config.rootSecret 1
  | .production => Config.rootSecret 2
  | .return => Config.rootSecret 3
  | .scrapped => []

def serialBytes : Bytes := beBytes 8 Config.serial

/-- A fixed key of the tree: bound to a root, a label and the serial (R343). -/
def State.fixedKey (s : State) (label : String) (len : Nat) : Bytes := derive s.lifecycle.root label serialBytes len
/-- A key bound to the measurement M as well. -/
def State.measuredKey (s : State) (label : String) (len : Nat) : Bytes :=
  derive s.lifecycle.root label (serialBytes ++ s.att.m) len

def State.roundFamily (s : State) : Bytes := s.measuredKey "TA32 round" 32
def State.importKey (s : State) : Bytes := clamp25519 (derive s.roundFamily "TA32 import" serialBytes 32)
def State.aliasKey (s : State) : Nat := p384Private (s.measuredKey "TA32 alias" 64)
def State.idKey (s : State) : Nat := p384Private (s.fixedKey "TA32 id" 64)
/-- Parent key of a context under its salt. -/
def State.parentKey (s : State) (c : Nat) : Bytes :=
  derive (s.fixedKey "TA32 parent" 32) "TA32 ctx" (beBytes 1 c ++ (s.ctx c).salt) 32
/-- Memory key of a context and generation. -/
def State.memKey (s : State) (c g : Nat) : Bytes :=
  derive (s.fixedKey "TA32 mem" 32) "TA32 xts" (beBytes 1 c ++ beBytes 4 g ++ (s.ctx c).salt) 64

/-- The generation that takes the place of `g`, with its key: one whose two halves are equal is passed over (R356). -/
def State.nextGeneration (s : State) (c g : Nat) : Nat × Bytes :=
  let key := s.memKey c g
  if key.take 32 = key.drop 32 then (g + 1, s.memKey c (g + 1)) else (g, key)

/-- The round private key (R345). -/
def State.roundPrivate (s : State) (c cohort round : Nat) (salt : Bytes) : Bytes :=
  clamp25519 (derive s.roundFamily "TA32 hpke" (beBytes 1 c ++ beBytes 4 cohort ++ beBytes 4 round ++ salt) 32)

/-- A blob of a context's world (R350). -/
def State.blobOf (s : State) (c : Nat) (attr : BitVec 32) (key : Bytes) : Bytes :=
  let hdr := ascii "TLKB" ++ beBytes 1 1 ++ beBytes 1 c ++ beBytes 1 key.length ++ zeros 1 ++ leBytes 4 attr.toNat ++
    leBytes 4 (s.ctx c).epoch
  hdr ++ kwpWrap (s.parentKey c) (hdr ++ padTo 48 key ++ zeros 40)

/-- The checks of R351 on a blob that is loaded for a context's world, before a slot is sought: the key, or the code of the
first failure. -/
def State.openBlob (s : State) (c : Nat) (b : Bytes) : Except Nat Bytes :=
  let attr := BitVec.ofNat 32 (leAt b 8 4)
  let len := leAt b 6 1
  let fields := b.length == 128 && slice b 0 4 == ascii "TLKB" && leAt b 4 1 == 1 && (len == 16 || len == 32 || len == 48) &&
    zeroAt b 7 1 && attr.getLsbD 0 && attr &&& 0x0080000E#32 == 0
  if !fields then .error 0x01400001
  else if leAt b 5 1 ≠ c then .error 0x01400002
  else if leAt b 12 4 ≠ (s.ctx c).epoch then .error 0x01400003
  else if !attr.getLsbD (13 + s.lifecycle.code) || s.lifecycle == .scrapped then .error 0x01400004
  else match kwpUnwrap (s.parentKey c) (b.drop 16) with
    | none => .error 0x01400005
    | some p =>
      if p.length = 104 ∧ p.take 16 = b.take 16 ∧ zeroAt p (16 + len) (88 - len) = true then .ok (slice p 16 len)
      else .error 0x01400005

/-- Give a reserved slot its value: VALID is set. -/
def State.loadSlot (s : State) (hoist slot : Nat) (value : Bytes) : State :=
  { s with keys := { s.keys with slots := updIf s.keys.slots (fun k => k.hoist == hoist && k.slot == slot) fun k =>
      { k with attr := k.attr ||| 1#32, value := value } } }

/-- Attribute words of a round's keys: store key (AU, KS and RG, STORE) and export key (AU, EXPORT_SEAL) (R162, R226). -/
def storeAttr (c : Nat) : BitVec 32 := slotAttr 0x38 c 3 2
def exportAttr (c : Nat) : BitVec 32 := slotAttr 0x08 c 4 2

/-- A round's slot on a Hoist for one of its keys: 0 store key, 1 export key (R330, R352). -/
def Round.slotOn (r : Round) (h i : Nat) : Option Nat := (r.slots.filter fun x => x.1 == h)[i]?.map Prod.snd

/-- Draw a round key: keep its blob in the journal and load it into the round's slot on the leader's Hoist (R345,
R352). -/
def State.drawRoundKey (s : State) (r : Round) (i : Nat) : State :=
  let (key, s) := s.draw 32
  let h := s.lead.holder.getD 0
  let blob := s.blobOf r.ctx (if i = 0 then storeAttr r.ctx else exportAttr r.ctx) key
  let s := { s with keys := { s.keys with blobs := s.keys.blobs ++ [Blob.mk r.ctx i r.cohortId r.number h blob] } }
  let s := s.journal1 11 (some r.ctx) blob
  match r.slotOn h i with
  | some x => s.loadSlot h x key
  | none => s

/-- A new leader loads a round's blob into the slot reserved for it on its Hoist, as far as the checks of R351 pass; a
failed load fills no slot (R352). -/
def State.loadRoundBlob (s : State) (r : Round) (h i : Nat) : State :=
  match s.keys.blobs.find? fun b => b.ctx == r.ctx && b.use == i && b.cohort == r.cohortId && b.round == r.number with
  | none => s
  | some b =>
    match s.openBlob r.ctx b.bytes, r.slotOn h i with
    | .ok key, some x => s.loadSlot h x key
    | .error 0x01400005, _ => s.record 0x01400005 (srcHoist h) (some r.ctx) []
    | _, _ => s

/-- The key of a round that a master reads from its slot, on the Hoist where it is loaded; none where the use is refused
(R348). -/
def State.roundKey? (s : State) (r : Round) (i : Nat) (master : Option Nat) : Option Bytes :=
  [0, 1].findSome? fun h => (r.slotOn h i).bind fun x => s.useSlot h x master (if i = 0 then 3 else 4) r.ctx

/-- Go on with a round's key, or report the refused use and take the recovery of the object it was for (R348). -/
def State.withRoundKey (s : State) (r : Round) (i : Nat) (master : Option Nat) (refused : State → State)
    (go : Bytes → State) : State :=
  match s.roundKey? r i master with
  | some key => go key
  | none =>
    let h := s.lead.holder.getD 0
    refused (s.refuseUse h ((r.slotOn h i).getD 0) master (some r.ctx))

/-- Reserve a round's slots on both Hoists (R330): store key, and export key in ring mode. -/
def State.reserveSlots (s : State) (c : Nat) (ring : Bool) : State × List (Nat × Nat) :=
  let attrs := if ring then [storeAttr c, exportAttr c] else [storeAttr c]
  [0, 1].foldl (fun (a : State × List (Nat × Nat)) h =>
    attrs.foldl (fun (a : State × List (Nat × Nat)) attr =>
      let (s, i) := a.1.fillSlot h attr []
      (s, a.2 ++ [(h, i)])) a) (s, [])

end Sys2Proof.Machine
end

