-- ==== Sys2Proof/Machine/Intake.lean ====
section
/-!
DEFINITION. Machine/Intake.lean: sessions, acceptance and placement of frames, notices and the storing of secrets (R113
to R134, R163, R226, R227, R230): FRAME_ARRIVAL, SESSION_ESTABLISH, BIN_COPY, NOTICE_BATCH_SEND and SECRETIN.
-/
namespace Sys2Proof.Machine

/-- The first failing check of a list, each with its code; 0 if none fails. -/
def firstFail : List (Bool × Nat) → Nat
  | [] => 0
  | (good, code) :: r => if good then firstFail r else code

/-- KIND and ROLE are accepted in the round's state and the template's mode and role (check 4, R121). -/
def kindAccepted (r : Round) (t : Template) (kind role : Nat) : Bool :=
  let open_ := r.state == .open
  let closed := r.state == .closed
  let period := closed && !r.periodOver t
  match kind with
  | 1 => open_ && (t.role == 0 || t.isLeaf) && role == 0
  | 2 => open_ && !t.isLeaf && role == 0 && t.isSum
  | 3 => period && !t.isLeaf && role == 0 && t.isPair
  | 4 => period && !t.isLeaf && role == 1 && t.isRing
  | 5 => open_ && t.isRoot && role == 2
  | 6 =>
    match role with
    | 0 => open_ && !(t.isRoot && t.isRing)
    | 1 => (open_ || closed) && t.isRing && !t.isLeaf
    | _ => open_ && t.isRoot
  | _ => false

/-- CLIENT_SLOT lies in range (check 5). -/
def slotInRange (t : Template) (ranges : List (Nat × Nat)) (role slot : Nat) : Bool :=
  match role with
  | 0 => decide (t.ledgerBase ≤ slot ∧ slot < t.ledgerBase + t.ledgerCount)
  | 1 => decide (slot < t.committee)
  | _ => ranges.any fun g => g.1 == slot

/-- TILE and SUBKIND lie in range, and a SHARE's holder is a neighbour of its owner (check 6, R230). -/
def tileInRange (im : PlanImage) (ti : Nat) (f : Bytes) : Bool :=
  let t := im.template ti
  let tile := Frame.tile f
  let sub := Frame.sub f
  match Frame.kind f with
  | 1 => decide (tile < t.tiles) && sub == 0
  | 5 => decide (tile < t.tiles) && sub == 0
  | 3 => (sub == 1 || sub == 2) && isNeighbour t t.offsets (Frame.slot f) tile
  | 4 =>
    let lx := im.exportLevel ti
    let j := max 1 t.setTiles
    decide (tile / j < t.sets ∧ tile % j < exportTiles lx t.degreeN ∧ sub < exportBlocks lx t.degreeN (tile % j))
  | _ => tile == 0 && sub == 0

/-- LENGTH of each kind (R114, R129). -/
def lengthOf (t : Template) (ranges : List (Nat × Nat)) (f : Bytes) : Nat :=
  match Frame.kind f with
  | 1 => 65536
  | 2 => 8 * t.lwrLambda
  | 3 => 64
  | 4 => 4096
  | 5 => 65536 + ceilDiv (((ranges.find? fun g => g.1 == Frame.slot f).map Prod.snd).getD 0) 8
  | _ => 32

/-- The session of a frame is stored, or its SESSION frame is being processed (check 10). -/
def Round.session? (r : Round) (role slot : Nat) : Option RoundSession :=
  r.intake.sessions.find? fun x => x.role == role && x.slot == slot

/-- Checks 11 to 13 of R120; a PEER frame is tested against the peer bit of its tile set of `n` tiles (R157). -/
def lateChecks (n : Nat) (r : Round) (f : Bytes) : Nat :=
  let slot := Frame.slot f
  let tile := Frame.tile f
  let queued := r.intake.secretQueue.any fun w =>
    Frame.kind w.bytes == Frame.kind f && Frame.slot w.bytes == slot && Frame.tile w.bytes == tile &&
    Frame.sub w.bytes == Frame.sub f
  match Frame.kind f with
  | 1 => if r.intake.pending.contains (slot, tile) || r.intake.ledger.contains (slot, tile) then 0x0110000B else 0
  | 5 => if r.intake.pending.contains (slot, tile) || r.intake.peerBits.contains (slot, tile / max 1 n) then 0x0110000B else 0
  | 2 => if queued || r.mask.seeds.any (fun x => x.1 == slot) then 0x0110000E else 0
  | 3 =>
    let req := (r.mask.secrets.getD slot .new).request
    if !(req.testBit (Frame.sub f - 1)) then 0x0110000D
    else if queued || r.mask.shares.any (fun x => x.owner == slot && x.holder == tile && x.sub == Frame.sub f) then
      0x0110000E
    else 0
  | 4 =>
    if queued || r.ring.shares.any (fun x => x.member == slot && x.tile == tile && x.block == Frame.sub f) then
      0x0110000E
    else 0
  | _ =>
    match r.session? (Frame.role f) slot with
    | none => 0
    | some x => if x.enc = Frame.payload f then 0x0110000E else 0x0110000F

/-- Checks 4 to 10 of R120 against the round. -/
def midChecks (im : PlanImage) (ti : Nat) (r : Round) (f : Bytes) : Nat :=
  let t := im.template ti
  let ranges := leafRanges r.planDigest ti
  let kind := Frame.kind f
  firstFail
    [(kindAccepted r t kind (Frame.role f), 0x01100003),
     (slotInRange t ranges (Frame.role f) (Frame.slot f), 0x01100008),
     (tileInRange im ti f, 0x01100009),
     (Frame.format f == (if kind = 1 ∨ kind = 5 then t.format else 0), 0x01100005),
     (Frame.length f == lengthOf t ranges f && f.length == 80 + Frame.length f, 0x01100006),
     (Frame.nonce f == Frame.nonceOf kind (Frame.sub f) (Frame.tile f), 0x01100007),
     (kind == 6 || (r.session? (Frame.role f) (Frame.slot f)).isSome, 0x0110000A)]

/-- Check 1 of R120. A message shorter than the header fails here (DEDUCED, log entry 89). -/
def frameShape (f : Bytes) : Bool :=
  decide (64 ≤ f.length ∧ Frame.version f = 1 ∧ 1 ≤ Frame.kind f ∧ Frame.kind f ≤ 6 ∧ Frame.role f ≤ 2) &&
    Frame.reservedZero f

/-- Discard a frame under R120: count its code and notify the connection that delivered it (R122). -/
def State.reject (s : State) (ctx idx code : Nat) (f : Bytes) : State :=
  let s := s.count ctx fun c => { c with intakeReject := updAt c.intakeReject (code % 0x10000) (· + 1) }
  let s := { s with stats := { s.stats with intakeRejects := s.stats.intakeRejects + 1 } }
  s.notice idx code f 2

/-- Place a frame that passed every check: a CHUNK or PEER waits for its bin with its pending bit set, a secret joins the
secret queue, a SESSION is processed (R118, R124, R125). -/
def State.acceptFrame (s : State) (ctx ti idx arrival : Nat) (f : Bytes) : State :=
  let s := s.count ctx fun c => { c with framesAccepted := c.framesAccepted + 1 }
  s.updRound ctx ti fun r =>
    let w : WaitFrame := { conn := idx, arrival := arrival, bytes := f, held := false }
    let q := r.intake
    match Frame.kind f with
    | 1 => { r with intake := { q with waiting := q.waiting ++ [w], pending := putPair (Frame.slot f, Frame.tile f) q.pending } }
    | 5 => { r with intake := { q with waiting := q.waiting ++ [w], pending := putPair (Frame.slot f, Frame.tile f) q.pending } }
    | 6 => { r with intake := { q with sessions := q.sessions ++
        [{ role := Frame.role f, slot := Frame.slot f, key := [], enc := Frame.payload f, stored := false, conn := idx,
           frame := f }] } }
    | _ => { r with intake := { q with secretQueue := q.secretQueue ++ [w] } }

/-- Judge a frame of a connection's context (R120). -/
def State.judgeFrame (s : State) (ctx idx : Nat) (f : Bytes) : State :=
  if !frameShape f then s.reject ctx idx 0x01100004 f
  else match s.image ctx, s.cohortOf ctx (Frame.cohort f) with
    | some im, some ti =>
      match s.round? ctx ti with
      | none => s.reject ctx idx 0x01100002 f
      | some r =>
        if r.number ≠ Frame.round f then s.reject ctx idx 0x01100002 f
        else
          let code := midChecks im ti r f
          if code ≠ 0 then s.reject ctx idx code f
          else if Frame.kind f ≠ 6 ∧ !(((r.session? (Frame.role f) (Frame.slot f)).map RoundSession.stored).getD false) then
            -- its session is still being processed: held in the landing buffer
            s.updRound ctx ti fun r =>
              { r with intake := { r.intake with waiting := r.intake.waiting ++ [⟨idx, s.hal.beatCount, f, true⟩] } }
          else
            let code := lateChecks (im.template ti).setTiles r f
            if code ≠ 0 then s.reject ctx idx code f else s.acceptFrame ctx ti idx s.hal.beatCount f
    | _, _ => s.reject ctx idx 0x01100001 f

/-- Bytes of a completed message in packet order. -/
def RxMsg.bytes (m : RxMsg) : Bytes :=
  (List.range (m.last + 1)).flatMap fun i => ((m.parts.find? fun p => p.1 == i).map Prod.snd).getD []

/-- The PEERFWD cursor of a tile set: block position and cursor (R156). -/
def PlanImage.forwarder (p : PlanImage) (t set : Nat) : Option (Nat × Nat) :=
  (p.blocks.zipIdx.flatMap fun (b, x) =>
    (b.cursors.zipIdx.filter fun (c, i) => c.covers t set && b.uses 0x30 i).map fun (_, i) => (x, i)).head?

/-- A notice message has the layout of R122, reserved bytes 0 (R11). -/
def noticeShape (m : Bytes) : Bool :=
  let n := beAt m 6 2
  slice m 0 4 == ascii "TLIN" && beAt m 4 2 == 1 && decide (1 ≤ n ∧ n ≤ 255) && m.length == 32 + 32 * n &&
  zeroAt m 16 16 && (List.range n).all fun k =>
    let e := slice m (32 + 32 * k) 32
    zeroAt e 16 1 && zeroAt e 20 1 && zeroAt e 24 8

/-- A notice message from the root to a leaf: each entry with ACTION 1 about a PEER frame of the round is an item for a
later PEERFWD execution of its cursor; in ring mode an item is the first tile of the whole group (R122, R131, R156; log
entry 22). -/
def State.peerNotices (s : State) (m : Bytes) (r : Round) : State :=
  match s.image r.ctx with
  | none => s
  | some im =>
    let n := max 1 (im.template r.template).setTiles
    let sends := (List.range (beAt m 6 2)).filterMap fun k =>
      let o := 32 + 32 * k
      let tile := beAt m (o + 20) 4
      if beAt m (o + 4) 1 = kPeer ∧ beAt m (o + 7) 1 = 1 ∧ beAt m (o + 8) 4 = r.cohortId ∧
          beAt m (o + 12) 4 = r.number ∧ tile < (im.template r.template).tiles then
        (im.forwarder r.template (tile / n)).map fun q => PeerSend.mk q.1 q.2 (tile / n * n)
      else none
    s.updRound r.ctx r.template fun r =>
      { r with peerAgain := sends.foldl (fun l x => if l.contains x then l else l ++ [x]) r.peerAgain }

/-- A message received whole on a ROUND connection passes to the intake engine of its Canton, which examines the frame
against the cohorts of the connection's context (R120, R294); a root's notices come the same way (R122). A message that is
no well-formed notice is judged as a frame (log entry 89). -/
def State.takeFrame (s : State) (conn message : Nat) : State :=
  match s.conn? conn with
  | none => s
  | some c =>
    match c.rx.find? fun m => m.id == message && m.complete && !m.parts.isEmpty with
    | none => s
    | some m =>
      if c.kind ≠ 1 then s
      else
        let s := s.updConn conn fun c =>
          Conn.freeTrackers { c with rx := updIf c.rx (fun x => x.id == message) fun (x : RxMsg) => { x with parts := [] } }
        match s.rounds.find? fun r => r.ctx == c.ctx && r.root.isSome && r.rootConn == conn &&
            noticeShape m.bytes with
        | some r => s.peerNotices m.bytes r
        | none => s.judgeFrame c.ctx conn m.bytes

/-- Every frame that has arrived in the beat that ends is judged in it, in the order of completion (R120, R271, R279). -/
def State.takeArrived (s : State) : State :=
  let s := s.grixo.arrived.foldl (fun s x => s.takeFrame x.1 x.2) s
  { s with grixo := { s.grixo with arrived := [] } }

/-- FRAME_ARRIVAL: intake judges a frame in the beat in which its message completed (R120). -/
def execFrameArrival (conn message : Nat) (s : State) : Host.Outcome State Fault Refusal :=
  let s := s.takeFrame conn message
  .next { s with grixo := { s.grixo with arrived := s.grixo.arrived.filter fun x => x != (conn, message) } }

-- Sessions (R117 to R119)

/-- INFO of R117 for a session of a round. -/
def sessionInfo (cohort round role slot : Nat) : Bytes :=
  ascii "TA32 round" ++ beBytes 4 cohort ++ beBytes 4 round ++ beBytes 1 role ++ beBytes 3 slot

/-- Header of an export message (R227). -/
def exportHeader (kind logN level cohort round member tile blocks len : Nat) : Bytes :=
  beBytes 1 kind ++ beBytes 1 1 ++ beBytes 1 logN ++ beBytes 1 level ++ beBytes 4 cohort ++ beBytes 4 round ++
  beBytes 3 member ++ beBytes 3 tile ++ beBytes 1 blocks ++ zeros 1 ++ beBytes 4 len ++
  (beBytes 1 kind ++ zeros 1 ++ beBytes 3 tile ++ zeros 7) ++ zeros 28

/-- A sealed export message. -/
def exportMessage (key hdr payload : Bytes) : Bytes := hdr ++ gcmSeal key (slice hdr 24 12) hdr payload

/-- The KEYX message for a member (R226, R227). -/
def Round.keyx (r : Round) (t : Template) (level member : Nat) (frameKey exportKey : Bytes) : Bytes :=
  exportMessage frameKey (exportHeader 0x81 t.logN level r.cohortId r.number member 0 0 32) exportKey

/-- Check the frames that were held for a session again from check 11, once it is stored (R120). -/
def State.recheckHeld (s : State) (ctx ti role slot : Nat) : State :=
  match s.image ctx, s.round? ctx ti with
  | some im, some r =>
    let mine := fun (w : WaitFrame) => w.held && Frame.role w.bytes == role && Frame.slot w.bytes == slot
    let held := r.intake.waiting.filter mine
    let s := s.updRound ctx ti fun r =>
      { r with intake := { r.intake with waiting := r.intake.waiting.filter fun w => !mine w } }
    held.foldl (fun s w =>
      match s.round? ctx ti with
      | none => s
      | some r =>
        let code := lateChecks (im.template ti).setTiles r w.bytes
        if code ≠ 0 then s.reject ctx w.conn code w.bytes else s.acceptFrame ctx ti w.conn w.arrival w.bytes) s
  | _, _ => s

/-- A member's session is stored: KEYX, then every C1 message sealed so far (R226). -/
def State.sendKeyx (s : State) (ctx ti : Nat) (x : RoundSession) : State :=
  match s.image ctx, s.round? ctx ti with
  | some im, some r =>
    let s := s.withRoundKey r 1 none id fun key =>
      s.queueModuleMsg x.conn (r.keyx (im.template ti) (im.exportLevel ti) x.slot x.key key)
    r.ring.exports.foldl (fun s e => s.queueModuleMsg x.conn e.2) s
  | _, _ => s

/-- SESSION_ESTABLISH: the decapsulation ends; if the tag verifies, the key and enc enter the session table, else the
frame is discarded and the frames held for it with it (R118). -/
def execSessionEstablish (ctx cohort role slot : Nat) (s : State) : Host.Outcome State Fault Refusal :=
  match s.image ctx, s.round? ctx cohort with
  | some im, some r =>
    match r.session? role slot with
    | none => .next s
    | some x =>
      if x.stored then .next s
      else
        let key? := (hpkeReceive r.roundKey x.enc (sessionInfo r.cohortId r.number role slot)).map fun h =>
          hpkeExport h (ascii "TA32 frame key") 32
        let hdr := Frame.header x.frame
        let mine := fun (y : RoundSession) => y.role == role && y.slot == slot
        match key?.filter fun key => (gcmOpen key (Frame.nonce hdr) (hdr ++ x.enc) (Frame.tag x.frame)).isSome with
        | some key =>
          let y : RoundSession := { x with key := key, stored := true, frame := [] }
          let s := s.updRound ctx cohort fun r =>
            { r with intake := { r.intake with sessions := updIf r.intake.sessions mine fun _ => y } }
          let s := s.count ctx fun c => { c with sessions := c.sessions + 1 }
          let s := if role = 1 ∧ (im.template cohort).isRing then s.sendKeyx ctx cohort y else s
          .next (s.recheckHeld ctx cohort role slot)
        | none =>
          let held := r.intake.waiting.filter fun w =>
            w.held && Frame.role w.bytes == role && Frame.slot w.bytes == slot
          let s := s.updRound ctx cohort fun r =>
            { r with intake := { r.intake with
                sessions := r.intake.sessions.filter fun y => !mine y
                waiting := r.intake.waiting.filter fun w => !held.contains w } }
          let s := s.count ctx fun c => { c with framesTagFailed := c.framesTagFailed + 1 }
          let s := s.notice x.conn 0x01100010 x.frame 2
          .next (held.foldl (fun s w => s.reject ctx w.conn 0x0110000A w.bytes) s)
  | _, _ => .next s

-- Bins (R125 to R127)

/-- Records of a frame: one for a CHUNK, one per 65,536 bytes of a PEER payload (R127, R129). -/
def frameRecords (w : WaitFrame) (first last : Bool) : List BinRecord :=
  let hdr := Frame.header w.bytes
  let p := Frame.payload w.bytes
  let n := max 1 (ceilDiv p.length 65536)
  (List.range n).map fun i =>
    { header := hdr, tag := Frame.tag w.bytes, conn := w.conn, arrival := w.arrival % 2 ^ 32, first := first && i == 0,
      last := last && i == n - 1, peer := Frame.kind hdr == kPeer, skip := false, cont := i != 0,
      records := if i = 0 then n else 0, payload := slice p (65536 * i) 65536 }

/-- Frames that go into a bin together with a waiting frame: itself, or in ring mode the frames of the client's ring tile
in tile order, once all have landed (R125). -/
def Round.binGroup (r : Round) (t : Template) (w : WaitFrame) : Option (List WaitFrame) :=
  if !t.isRing then some [w]
  else
    let j := max 1 t.setTiles
    let base := Frame.tile w.bytes / j * j
    let got := (List.range j).filterMap fun i => r.intake.waiting.find? fun x =>
      !x.held && Frame.kind x.bytes == Frame.kind w.bytes && Frame.slot x.bytes == Frame.slot w.bytes &&
      Frame.tile x.bytes == base + i
    if got.length = j then some got else none

/-- Records of a group with GROUP_FIRST and GROUP_LAST set. -/
def groupRecords (l : List WaitFrame) : List BinRecord :=
  l.zipIdx.flatMap fun (w, i) => frameRecords w (i == 0) (i + 1 == l.length)

/-- The copy of a frame from its landing buffer to the bins of a position has no route: the link that its KIND 2 route uses
is down (R126, R446). -/
def State.copyCut (s : State) (im : PlanImage) (w : WaitFrame) (position : Nat) : Bool :=
  match (s.conn? w.conn).bind fun c => im.regions[c.landing]? with
  | none => false
  | some g => im.routes.any fun r =>
      r.kind == 2 && r.src == srcCanton g.die && r.dst == srcCanton (positionCanton position) && s.routeDown r

/-- BIN_COPY: a frame that waits in the landing buffer (in ring mode the whole group) is copied into its bin when the bin
has room, its route carries it and its tile set is of the current residency group, and its pending bits are set (R125,
R126, R140). At a standalone sum-seed template the slot's seed must be held. -/
def execBinCopy (ctx cohort index : Nat) (s : State) : Host.Outcome State Fault Refusal :=
  match s.image ctx, s.round? ctx cohort with
  | some im, some r =>
    match r.intake.waiting[index]? with
    | none => .next s
    | some w =>
      let t := im.template cohort
      let kind := Frame.kind w.bytes
      let slot := Frame.slot w.bytes
      let set := Frame.tile w.bytes / max 1 t.setTiles
      let seedless := t.isSum && t.role == 0 && !(r.mask.seeds.any fun x => x.1 == slot)
      if w.held || !(kind == 1 || kind == 5) || r.state != .open || seedless then .next s
      else match im.ownerOf cohort set slot, r.binGroup t w with
        | some (p, i), some group =>
          match r.owner? p set with
          | none => .next s
          | some o =>
            let recs := groupRecords group
            let current := ((im.cursor p i).map fun c =>
              (set - c.first) / max 1 (im.residency cohort p).1 == (r.cursorAt p i).group).getD false
            if o.capacity < o.write - o.release + recs.length || !current || s.copyCut im w p then .next s
            else .next (s.updRound ctx cohort fun r =>
              let r := r.updOwner p set fun o => { o with bin := o.bin ++ recs, write := o.write + recs.length }
              { r with intake := { r.intake with
                  waiting := r.intake.waiting.filter fun x => !group.contains x
                  pending := group.foldl (fun l x => putPair (slot, Frame.tile x.bytes) l) r.intake.pending } })
        | _, _ => .next s
  | _, _ => .next s

-- Notices (R122)

/-- A notice message with up to 255 entries. -/
def noticeMessage (beat : Nat) (l : List Notice) : Bytes :=
  ascii "TLIN" ++ beBytes 2 1 ++ beBytes 2 l.length ++ beBytes 8 beat ++ zeros 16 ++ l.flatten

/-- Credits that a connection's unsent packets and waiting module messages will take. -/
def Conn.owedCredits (c : Conn) : Nat :=
  c.unsentCredits + (c.sendArea.map fun m => creditsFor m.length).sum

/-- The round of a notice accepts the frame's kind again now (R121). -/
def State.stillAccepts (s : State) (ctx : Nat) (n : Bytes) : Bool :=
  match s.cohortOf ctx (beAt n 8 4), s.image ctx with
  | some t, some im => (s.round? ctx t).any fun r =>
      r.number == beAt n 12 4 && r.resendAction (im.template t) (beAt n 4 1) (beAt n 5 1) == 1
  | _, _ => false

/-- A notice as it is sent: ACTION 1 only while the round still accepts the kind, else ACTION 2 (R122; log entry 89). -/
def State.noticeNow (s : State) (ctx : Nat) (n : Bytes) : Bytes :=
  if beAt n 7 1 = 1 ∧ !s.stillAccepts ctx n then n.take 7 ++ [2] ++ n.drop 8 else n

/-- Send notice messages, oldest notices first, while the live credit admits one more; messages queued before them in the
send area go first (R293). -/
def sendNotices (idx : Nat) : Nat → State → State
  | 0, s => s
  | n + 1, s =>
    match s.conn? idx with
    | none => s
    | some c =>
      let part := c.notices.take 255
      let m := noticeMessage s.hal.beatCount (part.map fun n => s.noticeNow c.ctx n)
      if part.isEmpty || !c.sendArea.isEmpty || decide ((c.inLive s.us).sum < c.owedCredits + creditsFor m.length) then s
      else match s.readyToSend idx with
      | (false, s) => s
      | (true, s) =>
        let s := s.updConn idx fun c => { c with notices := c.notices.drop 255 }
        let s := s.count c.ctx fun k => { k with noticesSent := k.noticesSent + part.length }
        sendNotices idx n (s.newMsg idx 1 m 0 0 none)

/-- NOTICE_BATCH_SEND: at a window boundary the notices of a connection go out as SEND messages, as many as the live
credit admits; the rest wait for the next boundary (R122). -/
def execNoticeBatchSend (conn : Nat) (s : State) : Host.Outcome State Fault Refusal :=
  match s.conn? conn with
  | none => .next s
  | some c =>
    if c.state ≠ .open ∨ !s.atWindow then .next s
    else .next (sendNotices conn (ceilDiv c.notices.length 255) s)

-- Secrets (R132, R163, R165, R230)

/-- 64-bit elements in network byte order (R114). -/
def words64 (b : Bytes) : List Nat := (chunks 8 b.length b).map beNat

/-- The reserved bytes of a SHARE's payload are not 0 (R11, R114). -/
def Staged.reservedSet (x : Staged) : Bool := Frame.kind x.header == kShare && !zeroAt x.plain 32 32

/-- Store one staged secret (R46, R165, R230): a SEED while the round is OPEN, a SHARE of a COLLECTING secret or a DSHARE
while it is CLOSED, and each only once. -/
def Round.storeSecret (r : Round) (x : Staged) : Round :=
  let slot := Frame.slot x.header
  let tile := Frame.tile x.header
  let sub := Frame.sub x.header
  let late := lateChecks 1 { r with intake := { r.intake with secretQueue := [] } } x.header
  if late ≠ 0 then r
  else match Frame.kind x.header with
    | 2 =>
      if r.state = .open then { r with mask := { r.mask with seeds := r.mask.seeds ++ [(slot, words64 x.plain)] } }
      else r
    | 3 =>
      let rec_ := r.mask.secrets.getD slot .new
      let st := if sub = 1 then rec_.stateSelf else rec_.stateKey
      if r.state ≠ .closed ∨ st ≠ 1 then r
      else { r with mask := { r.mask with
          shares := r.mask.shares ++ [⟨slot, tile, sub, x.plain.take 32⟩]
          secrets := updAt r.mask.secrets slot fun q =>
            if sub = 1 then { q with sharesSelf := q.sharesSelf + 1 } else { q with sharesKey := q.sharesKey + 1 } } }
    | 4 =>
      if r.state ≠ .closed then r
      else { r with ring := { r.ring with
          shares := r.ring.shares ++ [⟨slot, tile, sub, words64 x.plain⟩] } }
    | _ => r

end Sys2Proof.Machine
end

