-- ==== Sys2Proof/Machine/RingMath.lean ====
section
/-!
DEFINITION. Machine/RingMath.lean: the exact arithmetic of ring mode (R190 to R208, R220 to R225, R231, R232): roots,
transforms, automorphisms, key switching, modulus reduction, decoding and the noise ledger's functions.
-/
namespace Sys2Proof.Machine

-- Lanes (R195, R196)

/-- q' = −q⁻¹ mod 2^64, for odd q: the units modulo 2^64 have exponent 2^62. -/
def montInv (q : Nat) : Nat := (2 ^ 64 - powMod q (2 ^ 62 - 1) (2 ^ 64)) % 2 ^ 64

/-- redc(T) of R195. -/
def redc (q t : Nat) : Nat :=
  let m := t % 2 ^ 64 * montInv q % 2 ^ 64
  let u := (t + m * q) / 2 ^ 64
  if q ≤ u then u - q else u

/-- Montgomery form of a constant. -/
def montForm (q c : Nat) : Nat := c * 2 ^ 64 % q

-- Transforms (R197)

/-- The smallest quadratic non-residue from 2 on, by Euler's criterion (R196). -/
def nonResidue (q : Nat) : Nat :=
  ((List.range 65536).find? fun z => decide (2 ≤ z) && powMod z ((q - 1) / 2) q == q - 1).getD 2

/-- ψ_N. -/
def rootOf (q n : Nat) : Nat := powMod (nonResidue q) ((q - 1) / (2 * n)) q

/-- The constants that the CP computes for a prime at admission, with ψ_N and N⁻¹ (in Montgomery form) for each degree
2^n of the chain's templates (R196). -/
structure PrimeConstants where
  q : Nat
  qInv : Nat
  r2 : Nat
  z : Nat
  roots : List (Nat × Nat)
  invDegree : List (Nat × Nat)

def primeConstants (q : Nat) (degrees : List Nat) : PrimeConstants :=
  { q := q, qInv := montInv q, r2 := 2 ^ 128 % q, z := nonResidue q, roots := degrees.map fun n => (n, rootOf q (2 ^ n)),
    invDegree := degrees.map fun n => (n, montForm q (invMod (2 ^ n) q)) }

/-- Reversal of the low `n` bits. -/
def bitRev : Nat → Nat → Nat
  | 0, _ => 0
  | n + 1, v => v % 2 * 2 ^ n + bitRev n (v / 2)

/-- Value of a polynomial at `x` modulo `q`, coefficients from the constant one up. -/
def evalPoly (q x : Nat) (a : List Nat) : Nat := a.foldr (fun c acc => (c + x * acc) % q) 0

/-- NTT of a residue vector of degree 2^n. -/
def ntt (q n : Nat) (a : List Nat) : List Nat :=
  let psi := rootOf q (2 ^ n)
  (List.range (2 ^ n)).map fun j => evalPoly q (powMod psi (2 * bitRev n j + 1) q) (a.map (· % q))

/-- INTT: the sum over slots for each coefficient. -/
def intt (q n : Nat) (a : List Nat) : List Nat :=
  let big := 2 ^ n
  let psiInv := invMod (rootOf q big) q
  let ninv := invMod big q
  -- slot values in the order of the odd exponents 1, 3, 5, …
  let byExp := (List.range big).map fun k => a.getD (bitRev n k) 0 % q
  (List.range big).map fun i =>
    ninv * (powMod psiInv i q * evalPoly q (powMod psiInv (2 * i) q) byExp % q) % q

-- Polynomials residue by residue

def addPoly (q : Nat) (a b : List Nat) : List Nat := List.zipWith (fun x y => (x + y) % q) a b
def subPoly (q : Nat) (a b : List Nat) : List Nat := List.zipWith (fun x y => (x + q - y % q) % q) a b
def mulPoly (q : Nat) (a b : List Nat) : List Nat := List.zipWith (fun x y => x * (y % q) % q) a b
def scalePoly (q c : Nat) (a : List Nat) : List Nat := a.map fun x => x * c % q

/-- σ_g in NTT form (R204). -/
def galois (n g : Nat) (a : List Nat) : List Nat :=
  (List.range (2 ^ n)).map fun j => a.getD (bitRev n ((g * (2 * bitRev n j + 1) % 2 ^ (n + 1) - 1) / 2)) 0

-- Key switching (R205)

/-- Parameters of a switch: degree bits, data primes of the level, special primes, digit size. -/
structure RingParams where
  n : Nat
  data : List Nat
  special : List Nat
  alpha : Nat
  t : Nat

def RingParams.all (p : RingParams) : List Nat := p.data ++ p.special
def RingParams.digits (p : RingParams) : Nat := ceilDiv p.data.length (max 1 p.alpha)
/-- Limb indices of digit j. -/
def RingParams.digit (p : RingParams) (j : Nat) : List Nat :=
  (List.range p.data.length).filter fun i => i / max 1 p.alpha == j

/-- Product of primes modulo `q`, leaving one out. -/
def prodExcept (l : List Nat) (skip q : Nat) : Nat := (l.filter fun x => x != skip).foldl (fun a x => a * (x % q) % q) 1

/-- The basis constants of R196 at a level, in Montgomery form: per digit and limb of the digit, then per target limb. -/
structure BasisConstants where
  /-- [(Q_j/q_i)⁻¹] modulo q_i. -/
  digitInv : List (List Nat)
  /-- [Q_j/q_i] modulo each prime. -/
  digitTo : List (List (List Nat))
  /-- [t⁻¹ · (P/p_i)⁻¹] modulo p_i. -/
  specialInv : List Nat
  /-- [t · P/p_i] modulo each data prime. -/
  specialTo : List (List Nat)
  /-- [P⁻¹], [t⁻¹] and [q⁻¹] of the level's top prime, modulo each data prime; the last is 0 for that prime itself. -/
  pInv : List Nat
  tInv : List Nat
  topInv : List Nat

def RingParams.basis (p : RingParams) : BasisConstants :=
  let digits := (List.range p.digits).map fun j => (p.digit j).map fun i => p.data.getD i 1
  let top := (p.data.getLast?).getD 1
  { digitInv := digits.map fun d => d.map fun q => montForm q (invMod (prodExcept d q q) q)
    digitTo := digits.map fun d => d.map fun q => p.all.map fun m => montForm m (prodExcept d q m)
    specialInv := p.special.map fun q => montForm q (invMod (p.t % q * prodExcept p.special q q % q) q)
    specialTo := p.special.map fun q => p.data.map fun m => montForm m (p.t % m * prodExcept p.special q m % m)
    pInv := p.data.map fun m => montForm m (invMod (p.special.foldl (fun a x => a * (x % m) % m) 1) m)
    tInv := p.data.map fun m => montForm m (invMod (p.t % m) m)
    topInv := p.data.map fun m => if m = top then 0 else montForm m (invMod (top % m) m) }

/-- The extension e_m of digit j of a polynomial in NTT form `a` (limbs), for every limb of data and special primes. -/
def RingParams.extend (p : RingParams) (a : List (List Nat)) (j : Nat) : List (List Nat) :=
  let d := p.digit j
  let qs := d.map fun i => p.data.getD i 1
  let ys := d.map fun i =>
    let q := p.data.getD i 1
    scalePoly q (invMod (prodExcept qs q q) q) (intt q p.n (a.getD i []))
  p.all.zipIdx.map fun (q, m) =>
    if d.contains m then a.getD m []
    else
      let s := (List.zip d ys).foldl (fun acc (i, y) =>
        addPoly q acc (y.map fun v => v % q * (prodExcept qs (p.data.getD i 1) q) % q)) (List.replicate (2 ^ p.n) 0)
      ntt q p.n s

/-- moddown of one accumulator: limbs of data primes then of special primes (R205). -/
def RingParams.modDown (p : RingParams) (acc : List (List Nat)) : List (List Nat) :=
  let l := p.data.length
  let ys := p.special.zipIdx.map fun (pi, i) =>
    let x := intt pi p.n (acc.getD (l + i) [])
    scalePoly pi (invMod (p.t % pi * prodExcept p.special pi pi % pi) pi) x
  p.data.zipIdx.map fun (q, m) =>
    let d := (List.zip p.special ys).foldl (fun s (pi, y) =>
      addPoly q s (y.map fun v => v % q * (p.t % q * prodExcept p.special pi q % q) % q)) (List.replicate (2 ^ p.n) 0)
    let bigP := p.special.foldl (fun a x => a * (x % q) % q) 1
    scalePoly q (invMod bigP q) (subPoly q (acc.getD m []) (ntt q p.n d))

/-- (ks_0, ks_1) of a polynomial under an evaluation key: `key j c m` is the entry of digit j, component c and limb m
counted over data then special primes of the level. -/
def RingParams.switch (p : RingParams) (a : List (List Nat)) (key : Nat → Nat → Nat → List Nat) :
    List (List Nat) × List (List Nat) :=
  let accs := fun (c : Nat) => (List.range p.digits).foldl (fun acc j =>
    let e := p.extend a j
    p.all.zipIdx.map fun (q, m) => addPoly q (acc.getD m []) (mulPoly q (e.getD m []) (key j c m)))
    (p.all.map fun _ => List.replicate (2 ^ p.n) 0)
  (p.modDown (accs 0), p.modDown (accs 1))

-- Modulus reduction (R208)

/-- Centred lift of a residue. -/
def centred (q x : Nat) : Int := if 2 * x < q then (x : Int) else (x : Int) - q

/-- Residue of an integer. -/
def residue (q : Nat) (x : Int) : Nat := (x % (q : Int)).toNat

/-- One component loses its last limb. -/
def modReduce (n t : Nat) (primes : List Nat) (c : List (List Nat)) : List (List Nat) :=
  let l := primes.length
  let q := primes.getD (l - 1) 1
  let y := (intt q n (c.getD (l - 1) [])).map fun x => centred q (x * invMod (t % q) q % q)
  (primes.take (l - 1)).zipIdx.map fun (qm, m) =>
    let d := ntt qm n (y.map fun v => residue qm ((t : Int) * v))
    scalePoly qm (invMod (q % qm) qm) (subPoly qm (c.getD m []) d)

-- Decoding (R232)

/-- One coefficient from its combined residues w_m at the export level. -/
def decodeCoeff (primes : List Nat) (t factor : Nat) (w : List Nat) : Nat :=
  let ys := (List.zip primes w).map fun (q, x) => x * invMod (prodExcept primes q q) q % q
  let f := ((List.zip primes ys).map fun (q, y) => y * (2 ^ 126 / q) / 2 ^ 62 % 2 ^ 64).sum
  let u := (f + 2 ^ 63) / 2 ^ 64
  let s := ((List.zip primes ys).map fun (q, y) => y * ((primes.filter fun x => x != q).foldl (fun a x => a * (x % t) % t) (1 % t))).sum % t
  let bigQ := primes.foldl (fun a x => a * (x % t) % t) (1 % t)
  factor * ((s + t - u * bigQ % t) % t) % t

-- Noise (R220)

/-- `ceil(256 · log2 v)`, exact from `v^256`. -/
def log2Up (v : Nat) : Nat := Nat.clog 2 (v ^ 256)
/-- `floor(256 · log2 v)`. -/
def log2Down (v : Nat) : Nat := Nat.log 2 (v ^ 256)

/-- `floor(2^128 · 2^(e/256))` for an exponent given as `e + 256 · 128`. -/
def expRoot (e : Nat) : Nat := iroot 256 130 (2 ^ e)

/-- φ(d) = ceil(256 · log2(1 + 2^(−d/256))). The two roots are never equal for d > 0. -/
def phi (d : Nat) : Nat :=
  if d = 0 then 256
  else if 2183 ≤ d then 1
  else
    let x := 2 ^ 128 + expRoot (32768 - d)
    (((List.range 256).map (· + 1)).find? fun k => decide (x ≤ expRoot (32768 + k))).getD 256

/-- The log-sum. -/
def lse (a b : Nat) : Nat := max a b + phi (max a b - min a b)
def satNoise (v : Nat) : Nat := min v 0xFFFFFF

/-- CAP(ℓ) over the first ℓ data primes. -/
def noiseCap (primes : List Nat) (t level : Nat) : Nat :=
  ((primes.take level).map log2Down).sum - 256 - log2Up t

/-- RULE that each ring opcode's noise entry has, and the output noise of a rule (R223): input a, second operand b,
growth g, λ of the prime that a reduction drops. -/
def noiseRule (op : Nat) : Nat :=
  match op with
  | 0x10 => 1
  | 0x11 => 2
  | 0x14 => 3
  | 0x15 => 4
  | 0x16 => 4
  | 0x17 => 4
  | 0x18 => 5
  | 0x1A => 6
  | _ => 0

def noiseOut (rule a b g drop : Nat) : Nat :=
  satNoise (match rule with
    | 0 => a
    | 1 => lse a b
    | 2 => a + g
    | 3 => a + b + g
    | 4 => lse a g
    | 5 => lse (a - drop) g
    | _ => lse a g)

end Sys2Proof.Machine
end

