-- ==== Sys2Proof/Machine/Rounds.lean ====
section
/-!
DEFINITION. Machine/Rounds.lean: the life of a round (R36 to R64, R149, R165, R166, R213, R231, R251 to R256): its
opening, close, freeze, UNMASKING, finish phase, release, delivery and abandonment, and the queries about it.
-/
namespace Sys2Proof.Machine

-- Commands of the leader

/-- Complete a leader command whose outcome is decided: its COMMAND record is the commit point (R439, R442). -/
def State.leaderDone (s : State) (v : Nat) (e : Bytes) (status r0 r1 : Nat) : State :=
  let s := s.journal1 14 (some (vfCtx v)) (leBytes 1 v ++ leBytes 2 (Cmd.id e) ++ leBytes 4 status)
  s.complete v e status r0 r1

/-- The named round of a command (R315): its template index and the round, or the code of the rejection. -/
def State.namedRound (s : State) (c : Nat) (t round : Nat) : Except Nat Round :=
  if (s.opening? c t).any (fun r => r.number == round) then .error 0x0121001E
  else match s.round? c t with
    | some r => if r.number = round then .ok r else .error 0x0121001C
    | none => .error 0x0121001C

/-- Take a command that names a cohort and a round: `f` gets the template index and the round. -/
def State.roundCommand (s : State) (v op noCohort : Nat) (f : State → Bytes → Nat → Round → State) : State :=
  s.command v op fun s e =>
    let c := vfCtx v
    match s.cohortOf c (leAt e 8 4) with
    | none => s.complete v e noCohort 0 0
    | some t =>
      match s.namedRound c t (leAt e 12 4) with
      | .error code => s.complete v e code 0 0
      | .ok r => f s e t r

-- Opening

/-- Bin capacity and zeroed buffers of every owner of the cohort's tile sets (R124, R127, R139). -/
def PlanImage.ownerSets (p : PlanImage) (t : Nat) : List OwnerSet :=
  p.blocks.zipIdx.flatMap fun (b, x) => (b.ownedSets t).map fun (i, k) =>
    { position := x, cursor := i, set := k, active := [], activeCount := 0, taint := false, shadow := [],
      single := !(p.residency t x).2, sections := [], bin := [], capacity := p.binRecords t (positionCanton x),
      write := 0, read := 0, mark := 0, release := 0, commit := .free }

/-- A round accepted for its opening boundary (R315): its policy values are bound, nothing has arrived. -/
def PlanImage.newRound (p : PlanImage) (c t number inputKey beat : Nat) (planDigest : Bytes) (pol : Policy)
    (salt : Bytes) (slots : List (Nat × Nat)) : Round :=
  let tm := p.template t
  let outs := ((policySpec pol.object tm.cohortId).map FinishSpec.outTiles).getD 0
  { ctx := c, template := t, cohortId := tm.cohortId, number := number, state := .opening, acceptedBeat := beat,
    openBeat := 0, closeBeat := 0, closeAccepted := false, openWindows := 0, closedWindows := 0, kmin := pol.kmin,
    noiseRequired := policyNoise pol.object, planDigest := planDigest, policyDigest := pol.digest,
    policyObject := pol.object, inputKeyId := inputKey, saltR := salt, roundKey := [], slots := slots,
    frozen := false, frozenBeat := 0, root := none, rootKey := [], rootConn := 0, rootEnc := [], nextSeq := 1,
    chunks := 0, chunksShown := 0, intake := .empty, sets := List.replicate tm.sets .zero, owners := p.ownerSets t,
    cursors := [], mask := .empty, ring := .empty, peerAgain := [], finishPhase := false,
    finishRecs := List.replicate outs .none, finishItems := [], releaseBeat := 0, delivering := false,
    delivered := false, releaseCmd := none }

/-- The checks of ROUND_OPEN in order (R315). -/
def State.roundOpenChecks (s : State) (c : Nat) (e : Bytes) : Except Nat (PlanImage × Nat × Policy) :=
  let round := leAt e 12 4
  match (if (s.plan c).state = .running then s.cohortOf c (leAt e 8 4) else none), s.image c with
  | some t, some im =>
    let tm := im.template t
    let last := (assocGet (s.plan c).lastRound t).getD 0
    let live := (s.round? c t).any fun r => r.state != .released && r.state != .abandoned
    if round = 0 ∨ round ≤ last ∨ live ∨ (s.opening? c t).isSome then .error 0x0121001C
    else if !tm.isRing ∧ leAt e 16 8 ≠ 0 then .error 0x01210014
    else match s.set.policies.getD c none with
      | none => .error 0x01300051
      | some pol =>
        let n := if tm.isRing then 2 else 1
        let pk := (s.ctxSet c).pkEngines
        if pol.digest ≠ im.binding.policyDigest then .error 0x01300051
        else if pk.h0 + pk.h1 = 0 then .error 0x01300077
        else if !(s.slotFree c 0 n && s.slotFree c 1 n) then .error 0x01300075
        else .ok (im, t, pol)
  | _, _ => .error 0x01210016

/-- Key ID: the U64 read little-endian from bytes 0 to 7 of a digest (R214). -/
def keyIdOf (digest : Bytes) : Nat := leAt digest 0 8

/-- ROUND_OPEN: decided by its checks; accepted, it waits for the first window boundary, with its slots reserved, its
salt drawn and its values bound in the journal (R315, R330, R345). -/
def execRoundOpen (vf : Nat) (s : State) : Host.Outcome State Fault Refusal :=
  .next (s.command vf 0x03 fun s e =>
    let c := vfCtx vf
    match s.roundOpenChecks c e with
    | .error code => s.leaderDone vf e code 0 0
    | .ok (im, t, pol) =>
      let tm := im.template t
      let key := if tm.isRing ∧ leAt e 16 8 = 0 then keyIdOf im.binding.aggKeyDigest else leAt e 16 8
      let (salt, s) := s.draw 32
      let (s, slots) := s.reserveSlots c tm.isRing
      let r := im.newRound c t (leAt e 12 4) key s.hal.beatCount (s.plan c).digest pol salt slots
      let s := { s with rounds := s.rounds ++ [r] }
      let s := s.updVf vf fun x => { x with running := some e }
      s.journal1 3 (some c) (leBytes 4 r.cohortId ++ leBytes 4 r.number ++ salt ++ leBytes 8 key ++ leBytes 4 r.kmin ++
        leBytes 1 (if r.noiseRequired then 1 else 0) ++ r.planDigest ++ r.policyDigest ++ im.binding.aggKeyDigest))

-- Close (R41, R125, R149)

/-- The Canton of a cohort's LEDGER region, whose intake engine reports on its frames. -/
def PlanImage.ledgerCanton (p : PlanImage) (t : Nat) : Nat := ((p.regionsOf 4 t).head?.map Region.die).getD 0

/-- Frames that the close or the entry to UNMASKING discards: 0x0510_0011, a notice with ACTION 2 and the count. -/
def State.discardFrames (s : State) (ctx canton : Nat) (l : List (Nat × Bytes)) : State :=
  l.foldl (fun s x =>
    let s := s.count ctx fun c => { c with framesCloseDiscarded := c.framesCloseDiscarded + 1 }
    (s.record 0x05100011 (srcCanton canton) (some ctx) []).notice x.1 0x05100011 x.2 2) s

/-- First record that no prepared commit covers: CUT, or MARK. -/
def OwnerSet.keepTo (o : OwnerSet) : Nat := if o.commit.state = 1 then o.commit.cut else o.mark

/-- What the close does to the round: uncommitted records, waiting frames and seeds go, active buffers are discarded,
and the pending bits that no running commit will settle are cleared. -/
def Round.closed (r : Round) (beat : Nat) : Round :=
  let kept := r.owners.flatMap fun o => ((o.bin.take (o.keepTo - o.release)).filter fun x => !x.skip).map fun x =>
    (Frame.slot x.header, Frame.tile x.header)
  { r with
    state := .closed
    closeBeat := beat
    owners := r.owners.map fun o =>
      { o with active := if o.busy then o.active else [], activeCount := 0, taint := false,
               sections := o.sections.filter fun x => decide (x.1 < o.keepTo),
               bin := o.bin.take (o.keepTo - o.release), write := o.keepTo, read := o.keepTo }
    intake := { r.intake with
      waiting := []
      secretQueue := r.intake.secretQueue.filter fun w => Frame.kind w.bytes != kSeed
      pending := r.intake.pending.filter fun x => kept.contains x } }

/-- Frames that the close discards: connection and frame (header). -/
def Round.closeDiscards (r : Round) : List (Nat × Bytes) :=
  (r.owners.flatMap fun o => (o.bin.drop (o.keepTo - o.release)).filterMap fun x =>
    if x.cont || (x.skip && !(r.intake.pending.contains (Frame.slot x.header, Frame.tile x.header))) then none
    else some (x.conn, x.header)) ++
  (r.intake.waiting.map fun w => (w.conn, w.bytes)) ++
  ((r.intake.secretQueue.filter fun w => Frame.kind w.bytes == kSeed).map fun w => (w.conn, w.bytes))

/-- The round closes at this boundary. -/
def State.closeRound (s : State) (ctx t : Nat) : State :=
  match s.round? ctx t, s.image ctx with
  | some r, some im =>
    let s := s.updRound ctx t fun r => r.closed s.hal.beatCount
    let s := s.discardFrames ctx (im.ledgerCanton t) r.closeDiscards
    s.journal1 5 (some ctx) (leBytes 4 r.cohortId ++ leBytes 4 r.number ++ leBytes 1 1)
  | _, _ => s

/-- ROUND_CLOSE: accepted for an OPEN round and complete at once; the close falls due at the next window boundary
(R315). -/
def execRoundClose (vf : Nat) (s : State) : Host.Outcome State Fault Refusal :=
  .next (s.roundCommand vf 0x04 0x01210016 fun s e t r =>
    if r.state ≠ .open then s.leaderDone vf e 0x0121001D 0 0
    else
      let due := (s.window + 1) * 256
      let s := s.updRound (vfCtx vf) t fun r =>
        if r.closeAccepted then r else { r with closeAccepted := true, closeBeat := due }
      let s := s.journal1 4 (some (vfCtx vf)) (leBytes 4 r.cohortId ++ leBytes 4 r.number ++ leBytes 8 due)
      s.leaderDone vf e 0 (if r.closeAccepted then r.closeBeat else due) 0)

/-- ROUND_CLOSE_EFFECT: at the boundary of an accepted close the round becomes CLOSED (R41); HOLD delays it (R435). -/
def execRoundCloseEffect (ctx cohort : Nat) (s : State) : Host.Outcome State Fault Refusal :=
  match s.round? ctx cohort with
  | none => .next s
  | some r =>
    if r.state == .open && r.closeAccepted && s.atWindow && !s.inHold && decide (r.closeBeat ≤ s.hal.beatCount) then
      .next (s.closeRound ctx cohort)
    else .next s

/-- ROUND_DURATION_LIMIT: W_r counted windows after the opening boundary the round closes (R41). -/
def execRoundDurationLimit (ctx cohort : Nat) (s : State) : Host.Outcome State Fault Refusal :=
  match s.round? ctx cohort, s.image ctx with
  | some r, some im =>
    if r.state == .open && s.atWindow && !s.inHold && decide ((im.template cohort).wR ≤ r.openWindows) then
      .next (s.closeRound ctx cohort)
    else .next s
  | _, _ => .next s

-- Freeze (R149, R165, R47, R187, R213, R229)

/-- The request of a client slot (R52): bit 0 self seed, bit 1 private key. -/
def requestOf (t : Template) (offs : List Nat) (ledger : List (Nat × Nat)) (i : Nat) : Nat :=
  let has := fun (j k : Nat) => ledger.contains (j, k)
  let tiles := List.range t.tiles
  let nb := neighbours t offs i
  (if tiles.any fun k => has i k then 1 else 0) +
  (if tiles.any fun k => !has i k && nb.any fun j => has j k then 2 else 0)

/-- The secret records of a pair-masked round at the freeze. -/
def Round.secretRecords (r : Round) (t : Template) : List SecretRec :=
  let offs := t.offsets
  (List.range t.clientSlots).map fun i =>
    let q := requestOf t offs r.intake.ledger i
    { SecretRec.new with
      request := q
      stateSelf := if q.testBit 0 then 1 else 0
      stateKey := if q.testBit 1 then 1 else 0
      publicKey := ((r.session? 0 i).map fun x => if x.stored then x.enc else zeros 32).getD (zeros 32) }

/-- Make tile sets VOID with a code each, unless they are VOID or FOLDED already (R54, R180). -/
def State.voidTiles (s : State) (ctx t cause code source : Nat) (sets : List Nat) (extra : Bytes) : State :=
  sets.foldl (fun s k =>
    match s.round? ctx t with
    | none => s
    | some r =>
      if (r.set k).unmask ≠ 0 then s
      else
        let s := s.updRound ctx t fun r => r.voidSet k cause
        s.record code source (some ctx) (leBytes 4 r.cohortId ++ leBytes 4 k ++ extra)) s

/-- Positions whose block holds a descriptor of an opcode for a cohort. -/
def PlanImage.positionsWith (p : PlanImage) (op t : Nat) : List Nat :=
  p.blocks.zipIdx.filterMap fun (b, x) =>
    if b.entries.any fun e => e.2.opcode == op && e.2.cohort == t then some x else none

/-- Unmasking clusters of a cohort, by position. -/
def PlanImage.unmaskers (p : PlanImage) (t : Nat) : List Nat :=
  (List.range p.blocks.length).filter fun x => !(p.unmaskSets t x).isEmpty

def Item.null (tile : Nat) : Item := ⟨tile, 0, 0, 0, false, 0, 0⟩

/-- Pad a tile's items with NULL items to a multiple of `n` (R178). -/
def padItems (n tile : Nat) (l : List Item) : List Item :=
  l ++ List.replicate (roundUp l.length (max 1 n) - l.length) (.null tile)

/-- Put items behind a list's last one; `built` says that the builder has ended. -/
def Round.appendItems (r : Round) (position : Nat) (kind : ListKind) (items : List Item) (built : Bool) : Round :=
  let mine := fun (l : WorkList) => l.position == position && l.kind == kind
  let old := (r.mask.lists.find? mine).getD ⟨position, kind, [], 0, false⟩
  { r with mask := { r.mask with lists :=
      { old with items := old.items ++ items, built := built } :: r.mask.lists.filter fun l => !mine l } }

/-- Seed vectors that one SEEDACC execution takes: floor(32,768 / λ) on each of eight cores (R187). -/
def seedItems (t : Template) : Nat := 8 * (32768 / max 1 t.lwrLambda)

/-- The SEEDACC list of an unmasking cluster (R187). -/
def Round.seedList (r : Round) (im : PlanImage) (t : Nat) (position : Nat) : List Item :=
  let tm := im.template t
  let sets := (im.unmaskSets t position).map Prod.snd
  let has := fun (i k : Nat) => r.intake.ledger.contains (i, k)
  let slots := (List.range tm.clientSlots).filter fun i => sets.any fun k => has i k
  let full := slots.filter fun i => sets.all fun k => has i k
  let part := slots.filter fun i => !(sets.all fun k => has i k)
  let base := padItems (seedItems tm) 0 (full.map fun i => ⟨0, 4, i, 0, false, 0, 0⟩)
  base ++ sets.flatMap fun k =>
    if (r.set k).unmask ≠ 0 then []
    else padItems (seedItems tm) k ((part.filter fun i => has i k).map fun i => ⟨k, 5, i, 0, false, 0, 0⟩)

/-- INIT of R222. -/
def noiseInit (t : Template) : Nat := log2Up (41 * t.degreeN + 21) + log2Up t.clientSlots

/-- AGG of a ring tile at the freeze (R213). -/
def Round.aggHeader (r : Round) (t : Template) (k : Nat) : CtHeader :=
  let bad := (r.set k).dataFault
  { logN := t.logN, chain := t.chain, level := t.limbs, form := 0, status := if bad then 2 else 0,
    cause := if bad then 4 else 0, causeOpcode := 0, exported := false, decoded := false, keyId := r.inputKeyId,
    noise := noiseInit t, cohortId := r.cohortId, tile := k * max 1 t.setTiles, plaintextMod := t.plaintextMod }

/-- FREEZE of a ring round: headers, and the export block if a tile is below K_min (R213, R229). -/
def Round.freezeRing (r : Round) (t : Template) : Round :=
  { r with ring := { r.ring with
      tiles := (List.range t.sets).map fun k => ⟨r.aggHeader t k, none, [], 0, []⟩
      exportBlock := (List.range t.sets).any fun k => decide ((r.set k).count < r.kmin) } }

/-- Tile sets of a sum-seed root with a committed slot whose seed it does not hold, with the first such slot (R47). -/
def Round.seedless (r : Round) (t : Template) : List (Nat × Nat) :=
  (List.range t.sets).filterMap fun k =>
    ((List.range t.clientSlots).find? fun i =>
      r.intake.ledger.contains (i, k) && !(r.mask.seeds.any fun x => x.1 == i)).map fun i => (k, i)

/-- What the freeze derives from the ledger in the round's mode. A tile VOID for a missing seed bears CAUSE 1, the nearest
that R181 gives (R47; DESIGN CHOICE, log entry 89). -/
def State.freezeLists (s : State) (ctx t : Nat) (im : PlanImage) : State :=
  let tm := im.template t
  if tm.isLeaf then s
  else if tm.isPair then
    let s := s.updRound ctx t fun r => { r with mask := { r.mask with secrets := r.secretRecords tm, requestPublished := true } }
    s.record 0x05120001 s.srcLeader (some ctx) (leBytes 4 tm.cohortId)
  else if tm.isSum then
    let s := if tm.isRoot then
        match s.round? ctx t with
        | some r => (r.seedless tm).foldl (fun s x => s.voidTiles ctx t 1 0x05120012 s.srcLeader [x.1] (leBytes 4 x.2)) s
        | none => s
      else s
    s.updRound ctx t fun r =>
      let r := (im.unmaskers t).foldl (fun r x => r.appendItems x .seedAcc (r.seedList im t x) true) r
      { r with mask := { r.mask with seedStarted := true } }
  else
    let s := s.updRound ctx t fun r => r.freezeRing tm
    match s.round? ctx t with
    | some r => if r.ring.exportBlock then s.record 0x05130025 s.srcLeader (some ctx) (leBytes 4 tm.cohortId) else s
    | none => s

/-- FREEZE: when the last counted ledger application of a CLOSED round has ended, the ledger freezes and the lists
derived from it are built (R149). -/
def execFreeze (ctx cohort : Nat) (s : State) : Host.Outcome State Fault Refusal :=
  match s.round? ctx cohort, s.image ctx with
  | some r, some im =>
    if r.state ≠ .closed ∨ r.frozen ∨ (r.owners.any fun o => o.commit.state == 1) then .next s
    else
      let s := s.updRound ctx cohort fun r => { r with frozen := true, frozenBeat := s.hal.beatCount }
      let s := s.journal1 5 (some ctx) (leBytes 4 r.cohortId ++ leBytes 4 r.number ++ leBytes 1 0)
      .next (s.freezeLists ctx cohort im)
  | _, _ => .next s

-- Settling secrets (R166)

/-- Shares of owner `i`'s secret by holder: `sub` 1 self seed, 2 private key. -/
def Round.holders (r : Round) (i sub : Nat) : List Nat :=
  (r.mask.shares.filter fun x => x.owner == i && x.sub == sub).map Share.holder

/-- A secret is complete: every neighbour with a ledger bit has given its share. -/
def Round.secretComplete (r : Round) (t : Template) (offs : List Nat) (i sub : Nat) : Bool :=
  let h := r.holders i sub
  (neighbours t offs i).all fun j => h.contains j || !(r.intake.ledger.any fun x => x.1 == j)

/-- State of a secret at a boundary: a complete COLLECTING secret becomes READY; at the entry to UNMASKING the others
become READY with τ shares and FAILED without. -/
def settledState (st shares threshold : Nat) (complete entry : Bool) : Nat :=
  if st ≠ 1 then st
  else if complete then 2
  else if !entry then 1
  else if threshold ≤ shares then 2 else 4

def Round.settleSecrets (r : Round) (t : Template) (entry : Bool) : Round :=
  let offs := t.offsets
  { r with mask := { r.mask with secrets := r.mask.secrets.zipIdx.map fun (x, i) =>
      { x with
        stateSelf := settledState x.stateSelf x.sharesSelf t.threshold (r.secretComplete t offs i 1) entry
        stateKey := settledState x.stateKey x.sharesKey t.threshold (r.secretComplete t offs i 2) entry } } }

/-- READY secrets not yet listed join the SHAMIR lists, in ascending slot order, self seed first (R173). With several
SHAMIR cursors slot i goes to list i mod their number (log entry 13). -/
def Round.queueShamir (r : Round) (im : PlanImage) (t : Nat) : Round :=
  let ps := im.positionsWith 0x05 t
  if ps.isEmpty then r
  else
    let items := r.mask.secrets.zipIdx.flatMap fun (x, i) =>
      (if x.stateSelf == 2 && !x.queuedSelf then [Item.mk 0 3 i 0 false 0 0] else []) ++
      (if x.stateKey == 2 && !x.queuedKey then [Item.mk 0 3 i 0 true 0 0] else [])
    let r := ps.zipIdx.foldl (fun r (p, n) =>
      r.appendItems p .shamir (items.filter fun x => x.slot % ps.length == n) false) r
    { r with mask := { r.mask with secrets := r.mask.secrets.map fun x =>
        { x with queuedSelf := x.queuedSelf || x.stateSelf == 2, queuedKey := x.queuedKey || x.stateKey == 2 } } }

/-- The pairwise seed record of a dropped slot and a survivor. -/
def Round.pair? (r : Round) (j i : Nat) : Option PairRec :=
  r.mask.pairs.find? fun x => x.dropped == j && x.survivor == i

/-- Every requested secret is READY, HELD or FAILED (R166). -/
def Round.secretsSettled (r : Round) : Bool := r.mask.secrets.all fun x => x.stateSelf != 1 && x.stateKey != 1

/-- Tile sets that need the self seed of `i`, or the private key of `j`: some survivor's pairwise seed with `j` is not yet
recomputed (R54, R163). -/
def Round.needsSelf (r : Round) (t : Template) (i : Nat) : List Nat :=
  (List.range t.sets).filter fun k => r.intake.ledger.contains (i, k)
def Round.needsKey (r : Round) (t : Template) (offs : List Nat) (j : Nat) : List Nat :=
  let nb := neighbours t offs j
  (List.range t.sets).filter fun k =>
    !(r.intake.ledger.contains (j, k)) && nb.any fun i => r.intake.ledger.contains (i, k) && (r.pair? j i).isNone

/-- Tile sets that FAILED secrets leave VOID. -/
def Round.failedTiles (r : Round) (t : Template) : List Nat :=
  let offs := t.offsets
  (r.mask.secrets.zipIdx.flatMap fun (x, i) =>
    (if x.stateSelf = 4 then r.needsSelf t i else []) ++ (if x.stateKey = 4 then r.needsKey t offs i else [])).eraseDups

-- Decryption sets (R231)

/-- Member `k` holds every block of ring tile `n`. -/
def Round.memberComplete (r : Round) (im : PlanImage) (t n k : Nat) : Bool :=
  let tm := im.template t
  let lx := im.exportLevel t
  (List.range (exportTiles lx tm.degreeN)).all fun x =>
    (List.range (exportBlocks lx tm.degreeN x)).all fun b =>
      r.ring.shares.any fun d => d.member == k && d.tile == n * max 1 tm.setTiles + x && d.block == b

def Round.completeMembers (r : Round) (im : PlanImage) (t n : Nat) : List Nat :=
  (List.range (im.template t).committee).filter fun k => r.memberComplete im t n k

/-- Lagrange constants of a member set modulo a prime, in member order and standard form. -/
def lagrange (q : Nat) (s : List Nat) : List Nat :=
  s.map fun k => (s.filter fun j => j != k).foldl
    (fun acc j => acc * ((j + 1) % q) % q * invMod ((j + 1 + q - (k + 1) % q) % q) q % q) 1

/-- Members mask. -/
def memberMask (s : List Nat) : Nat := (s.map fun k => 2 ^ k).sum

/-- Close of a ring tile at the entry to UNMASKING: VOID with cause 6 if C1OUT never sealed it, with cause 5 if it has
fewer than θ complete members, else its decryption set. -/
def Round.ringVerdict (r : Round) (im : PlanImage) (t n : Nat) (x : RingTile) : Option Nat × List Nat :=
  let th := (im.template t).decThreshold
  match x.out with
  | none => (some 6, [])
  | some o =>
    if o.status ≠ 0 then (none, [])
    else if !o.exported then (some 6, [])
    else
      let m := r.completeMembers im t n
      if m.length < th then (some 5, []) else (none, m.take th)

def RingTile.voided (x : RingTile) (cause : Nat) : RingTile :=
  { x with out := some { (x.out.getD x.agg) with status := 2, cause := cause, causeOpcode := 0 } }

/-- Ring round at the entry to UNMASKING: verdicts, Lagrange blocks and DECRYPT items. -/
def Round.selectSets (r : Round) (im : PlanImage) (t : Nat) : Round :=
  let lx := im.exportLevel t
  let primes := (im.chainOf (im.template t)).data.take lx
  let v := r.ring.tiles.zipIdx.map fun (x, n) => (n, x, r.ringVerdict im t n x)
  let setsOf := ((v.map fun y => y.2.2.2).filter fun l => !l.isEmpty).eraseDups
  let blocks : List LagrangeBlock := setsOf.map fun m => ⟨memberMask m, primes.map fun q => (lagrange q m).map (montForm q)⟩
  let r := { r with ring := { r.ring with
      tiles := v.map fun y => match y.2.2.1 with
        | some c => y.2.1.voided c
        | none => y.2.1
      blocks := blocks, exports := [] } }
  let items := (v.filter fun y => !y.2.2.2.isEmpty).map fun y =>
    (y.1, Item.mk (y.1 * max 1 (im.template t).setTiles) 7 0 0 false (memberMask y.2.2.2) (setsOf.idxOf y.2.2.2))
  ((List.range im.blocks.length).filter fun p => items.any fun z => (im.unmasker t z.1).1 == p).foldl
    (fun r p => r.appendItems p .dsComb ((items.filter fun z => (im.unmasker t z.1).1 == p).map Prod.snd) true) r

/-- The round enters UNMASKING at this boundary (R43, R166, R231): secrets are settled, frames that still wait go, ring
tiles get their verdict. -/
def State.enterUnmasking (s : State) (ctx t : Nat) : State :=
  match s.round? ctx t, s.image ctx with
  | some r, some im =>
    let tm := im.template t
    let waiting := (r.intake.waiting ++ r.intake.secretQueue).map fun w => (w.conn, w.bytes)
    let s := s.updRound ctx t fun r =>
      { r with state := .unmasking, intake := { r.intake with waiting := [], secretQueue := [] } }
    let s := s.discardFrames ctx (im.ledgerCanton t) waiting
    let s := s.journal1 5 (some ctx) (leBytes 4 r.cohortId ++ leBytes 4 r.number ++ leBytes 1 2)
    if tm.isLeaf then s
    else if tm.isPair then
      let s := s.updRound ctx t fun r => (r.settleSecrets tm true).queueShamir im t
      match s.round? ctx t with
      | some r => s.voidTiles ctx t 1 0x05120011 s.srcLeader (r.failedTiles tm) []
      | none => s
    else if tm.isRing then
      let s := s.updRound ctx t fun r => r.selectSets im t
      let lost := (r.ring.tiles.zipIdx.filter fun (x, n) => (r.ringVerdict im t n x).1.isSome).map Prod.snd
      lost.foldl (fun s n => s.record 0x05130011 s.srcLeader (some ctx)
        (leBytes 4 r.cohortId ++ leBytes 4 (n * max 1 tm.setTiles))) s
    else s
  | _, _ => s

/-- The ring cursors of a round's sequences have passed their last ring tile (R231). -/
def Round.ringCursorsDone (r : Round) (im : PlanImage) (t : Nat) : Bool :=
  im.blocks.zipIdx.all fun (b, x) => b.cursors.zipIdx.all fun (c, i) =>
    !(c.kind == 3 && c.cohort == t && b.entries.any fun e => decide (0x10 ≤ e.2.opcode ∧ e.2.opcode ≤ 0x19) && e.2.cursor == i) ||
      decide (c.count ≤ (r.cursorAt x i).pos)

/-- The round may enter UNMASKING before the end of the period (R166, R231). -/
def Round.earlyUnmasking (r : Round) (im : PlanImage) (t : Nat) : Bool :=
  let tm := im.template t
  if tm.isSum then true
  else if tm.isLeaf then false
  else if tm.isPair then r.secretsSettled
  else r.ringCursorsDone im t && r.ring.tiles.zipIdx.all fun (x, n) =>
    match x.out with
    | none => false
    | some o => o.status != 0 || decide (tm.decThreshold ≤ (r.completeMembers im t n).length)

/-- SECRET_PERIOD_END: at the boundary W_s windows after the close a frozen round enters UNMASKING with what it holds; one
not yet frozen waits for the first boundary after its freeze (R43). -/
def execSecretPeriodEnd (ctx cohort : Nat) (s : State) : Host.Outcome State Fault Refusal :=
  match s.round? ctx cohort, s.image ctx with
  | some r, some im =>
    if r.state == .closed && s.atWindow && !s.inHold && r.periodOver (im.template cohort) && r.frozen &&
        decide (r.frozenBeat < s.hal.beatCount) then .next (s.enterUnmasking ctx cohort)
    else .next s
  | _, _ => .next s

/-- UNMASKING_ENTRY: at the first boundary after the freeze at which the period is over or everything requested is
settled, the round enters UNMASKING (R43, R166, R231). -/
def execUnmaskingEntry (ctx cohort : Nat) (s : State) : Host.Outcome State Fault Refusal :=
  match s.round? ctx cohort, s.image ctx with
  | some r, some im =>
    if r.state == .closed && s.atWindow && !s.inHold && r.frozen && decide (r.frozenBeat < s.hal.beatCount) &&
        (r.periodOver (im.template cohort) || r.earlyUnmasking im cohort) then .next (s.enterUnmasking ctx cohort)
    else .next s
  | _, _ => .next s

-- Removal lists (R179, R187)

/-- SELF items of a position: one per committed slot of each tile that is neither VOID nor FOLDED. -/
def Round.selfItems (r : Round) (im : PlanImage) (t position : Nat) : List Item :=
  (im.unmaskSets t position).flatMap fun (_, k) =>
    if (r.set k).unmask ≠ 0 then []
    else padItems 8 k (((List.range (im.template t).clientSlots).filter fun i => r.intake.ledger.contains (i, k)).map
      fun i => Item.mk k 1 i 0 false 0 0)

/-- PAIR items of a position: by tile, dropped slot and survivor. A pairwise seed that was recomputed stays in use when its
private key FAILED afterwards (R163). -/
def Round.pairItems (r : Round) (im : PlanImage) (t position : Nat) : List Item :=
  let tm := im.template t
  let offs := tm.offsets
  let held := fun (j i : Nat) => (r.mask.secrets.getD j .new).stateKey == 3 || (r.pair? j i).isSome
  (im.unmaskSets t position).flatMap fun (_, k) =>
    if (r.set k).unmask ≠ 0 then []
    else padItems 8 k (((List.range tm.clientSlots).filter fun j => !(r.intake.ledger.contains (j, k))).flatMap fun j =>
      ((neighbours tm offs j).filter fun i => r.intake.ledger.contains (i, k) && held j i).map fun i =>
        Item.mk k 2 i j (decide (j < i)) 0 0)

/-- LWR items of a position, padded at the end of each residency group so that no execution crosses groups (log entry
14). -/
def Round.lwrItems (r : Round) (im : PlanImage) (t position : Nat) : List Item :=
  let l := im.unmaskSets t position
  ((l.map Prod.fst).eraseDups).flatMap fun g =>
    let mine := (l.filter fun x => x.1 == g && (r.set x.2).unmask == 0).map Prod.snd
    padItems 8 ((mine.getLast?).getD 0) (mine.map fun k => Item.mk k 6 0 0 false 0 0)

/-- Build the lists of a kind at every unmasking cluster that has none. -/
def Round.buildLists (r : Round) (im : PlanImage) (t : Nat) (kind : ListKind) (items : Round → Nat → List Item)
    (ready : Nat → Bool) : Round :=
  ((im.unmaskers t).filter fun x => (r.list? x kind).isNone && ready x).foldl
    (fun r x => r.appendItems x kind (items r x) true) r

/-- REMOVAL_LIST_BUILD: in UNMASKING the builder starts the self list once no self seed is COLLECTING or READY, the pair
list once every recomputation has ended, and a cluster's LWR list once its SEEDACC list is consumed (R179, R187). First
starts fall on window boundaries; after a replay (R183) the lists are built again at once. -/
def execRemovalListBuild (ctx cohort : Nat) (s : State) : Host.Outcome State Fault Refusal :=
  match s.round? ctx cohort, s.image ctx with
  | some r, some im =>
    let tm := im.template cohort
    if r.state ≠ .unmasking ∨ tm.isLeaf then .next s
    else if tm.isPair then
      let selfOk := r.mask.secrets.all (fun x => x.stateSelf != 1 && x.stateSelf != 2) && (s.atWindow || r.mask.selfStarted)
      let pairOk := r.mask.secrets.all (fun x => x.stateKey != 1 && x.stateKey != 2) && r.mask.recompute.isEmpty &&
        (s.atWindow || r.mask.pairStarted)
      .next (s.updRound ctx cohort fun r =>
        let r := if selfOk then r.buildLists im cohort .self (fun r x => r.selfItems im cohort x) fun _ => true else r
        let r := if pairOk then r.buildLists im cohort .pair (fun r x => r.pairItems im cohort x) fun _ => true else r
        { r with mask := { r.mask with selfStarted := r.mask.selfStarted || selfOk
                                       pairStarted := r.mask.pairStarted || pairOk } })
    else if tm.isSum then
      .next (s.updRound ctx cohort fun r =>
        r.buildLists im cohort .lwr (fun r x => r.lwrItems im cohort x) fun x => !(r.hasItem x .seedAcc))
    else .next s
  | _, _ => .next s

-- Finish phase and FINISHED (R251)

/-- Every DSCOMB list is consumed, and every tile is folded, decoded, SPENT or VOID. -/
def Round.finishReady (r : Round) (t : Template) : Bool :=
  if t.isRing then
    (r.ring.tiles.zipIdx.all fun (x, n) =>
      (r.set n).unmask == 2 || (x.out.map fun o => o.status != 0 || o.decoded).getD false) &&
    r.mask.lists.all fun l => l.kind != .dsComb || decide (l.items.length ≤ l.consumed)
  else r.sets.all fun x => x.unmask != 0

/-- FINISH_PHASE_BEGIN (R251). -/
def execFinishPhaseBegin (ctx cohort : Nat) (s : State) : Host.Outcome State Fault Refusal :=
  match s.round? ctx cohort, s.image ctx with
  | some r, some im =>
    if r.state == .unmasking && !r.finishPhase && s.atWindow && !s.inHold && !(im.template cohort).isLeaf &&
        r.finishReady (im.template cohort) then
      let s := s.updRound ctx cohort fun r => { r with finishPhase := true }
      .next (s.journal1 5 (some ctx) (leBytes 4 r.cohortId ++ leBytes 4 r.number ++ leBytes 1 3))
    else .next s
  | _, _ => .next s

/-- ROUND_FINISHED: at the first window boundary at which no finish record is NONE (R251). -/
def execRoundFinished (ctx cohort : Nat) (s : State) : Host.Outcome State Fault Refusal :=
  match s.round? ctx cohort with
  | none => .next s
  | some r =>
    if r.state == .unmasking && r.finishPhase && s.atWindow && !s.inHold && r.finishRecs.all (fun f => f.state != 0) then
      let s := s.updRound ctx cohort fun r => { r with state := .finished }
      .next (s.journal1 5 (some ctx) (leBytes 4 r.cohortId ++ leBytes 4 r.number ++ leBytes 1 4))
    else .next s

-- Abandonment (R44)

/-- ROUND_ABANDON: a round that is not RELEASED or ABANDONED is abandoned (R44, R256, R315). -/
def execRoundAbandon (vf : Nat) (s : State) : Host.Outcome State Fault Refusal :=
  .next (s.roundCommand vf 0x05 0x01210016 fun s e t r =>
    if r.state.live then (s.abandonRound (vfCtx vf) t 1).leaderDone vf e 0 0 0
    else s.leaderDone vf e 0x0121001D 0 0)

-- Release (R63, R253 to R255)

def noTile : Nat := 0xFFFFFFFF

/-- First failing condition of the release gate and its tile number; 0 if it passes (R63). A finish record that a fault
has sent back to NONE fails condition 1 until its item has run again (R250; log entry 89). -/
def State.releaseGate (s : State) (ctx : Nat) (t : Template) (r : Round) : Nat × Nat :=
  let j := max 1 t.setTiles
  let firstSet := fun (p : TileSet → Bool) => r.sets.findIdx? p
  let firstOut := fun (p : FinishRec → Bool) => r.finishRecs.findIdx? p
  let voidTile := (List.range r.sets.length).find? fun k => (r.set k).unmask == 2 ||
    (((r.ring.tiles[k]?).bind RingTile.out).map fun o => o.status == 2).getD false
  let spentTile := if t.isRing then
      (r.ring.tiles.findIdx? fun x => (x.out.map fun o => o.status == 1).getD false).map (· * j)
    else none
  if r.state ≠ .finished ∨ r.finishRecs.any (fun f => f.state == 0) then (0x01140021, noTile)
  else match firstSet fun x => x.commits == 0 with
  | some k => (0x01140022, k * j)
  | none =>
  match firstSet fun x => decide (x.count < r.kmin) with
  | some k => (0x01140023, k * j)
  | none =>
  match voidTile.map (· * j) <|> firstOut fun f => f.state == 3 with
  | some k => (0x01140024, k)
  | none =>
  match spentTile <|> firstOut fun f => f.state == 4 with
  | some k => (0x01140025, k)
  | none =>
  match firstOut fun f => f.state == 2 with
  | some k => (0x01140026, k)
  | none =>
  match if r.noiseRequired then firstOut fun f => !f.noise else none with
  | some k => (0x01140027, k)
  | none =>
  let inForce := ((s.set.policies.getD ctx none).map Policy.digest).getD []
  if (s.plan ctx).digest ≠ r.planDigest ∨ inForce ≠ r.policyDigest then (0x01140028, noTile) else (0, 0)

/-- RELEASE: judged at the moment it is taken; when the gate passes, the release record is the release point and the
delivery begins (R253, R254). -/
def execRelease (vf : Nat) (s : State) : Host.Outcome State Fault Refusal :=
  .next (s.command vf 0x06 fun s e =>
    let c := vfCtx vf
    let turnAway := fun (s : State) (code tile : Nat) => s.leaderDone vf e code tile 0
    match s.cohortOf c (leAt e 8 4), s.image c with
    | some t, some im =>
      let tm := im.template t
      if tm.isLeaf then turnAway (s.record 0x0114002A s.srcLeader (some c) []) 0x0114002A 0
      else if s.inHold then (s.record 0x01140029 s.srcLeader (some c) []).complete vf e 0x01140029 0 0
      else if s.leaderAway vf then s.complete vf e 0x01210015 0 0
      else match s.namedRound c t (leAt e 12 4) with
        | .error code => turnAway s code 0
        | .ok r =>
          let (code, tile) := s.releaseGate c tm r
          if code ≠ 0 then turnAway s code tile
          else
            let s := s.updRound c t fun r =>
              { r with state := .released, releaseBeat := s.hal.beatCount, delivering := true,
                       releaseCmd := some vf }
            let s := s.journal1 7 (some c) (leBytes 4 r.cohortId ++ leBytes 4 r.number ++ leBytes 8 s.hal.beatCount)
            s.updVf vf fun x => { x with running := some e }
    | _, _ => turnAway (s.record 0x0114002A s.srcLeader (some c) []) 0x0114002A 0)

/-- ROUND_OPEN_EFFECT: at its opening boundary the accepted round becomes OPEN, with its keys drawn, and the command
completes (R36, R162, R226, R315). The SEQ of the cohort's commits goes on from its last round (R146). In HOLD it waits
(R435). -/
def execRoundOpenEffect (ctx cohort : Nat) (s : State) : Host.Outcome State Fault Refusal :=
  match s.opening? ctx cohort, s.image ctx with
  | some r, some im =>
    if !s.atWindow || s.inHold || decide (s.hal.beatCount ≤ r.acceptedBeat) then .next s
    else
      -- a delivery of the cohort's last round that is past its release point is finished first (R254; log entry 20)
      let s := if (s.round? ctx cohort).any Round.delivering then s.deliver ctx cohort else s
      let s := s.drawRoundKey r 0
      let s := if (im.template cohort).isRing then s.drawRoundKey r 1 else s
      let sk := s.roundPrivate ctx r.cohortId r.number r.saltR
      let r := { r with state := .open, openBeat := s.hal.beatCount, roundKey := sk,
                        nextSeq := ((s.round? ctx cohort).map Round.nextSeq).getD r.nextSeq }
      let others := s.rounds.filter fun x => !(x.ctx == ctx && x.template == cohort)
      let s := { s with rounds := others ++ [r] }
      let s := s.updPlan ctx fun p => { p with lastRound := assocSet p.lastRound cohort r.number }
      .next (s.completeRunning (s.vfOf ctx) 0x03 0 s.hal.beatCount 0)
  | _, _ => .next s

/-- DELIVERY_COMPLETE: the last byte of a delivery is written (R254); HOLD interrupts it (R435). -/
def execDeliveryComplete (ctx cohort : Nat) (s : State) : Host.Outcome State Fault Refusal :=
  match s.round? ctx cohort with
  | none => .next s
  | some r => if r.delivering && !s.inHold then .next (s.deliver ctx cohort) else .next s

-- Queries (R315)

/-- State code of ROUND_QUERY (R314). -/
def RoundState.queryCode : RoundState → Nat
  | .opening => 0
  | .open => 0
  | .closed => 1
  | .unmasking => 2
  | .finished => 3
  | .released => 4
  | .abandoned => 5

/-- ROUND_QUERY: the round's state and the chunks committed as of the last window boundary (R314). -/
def execRoundQuery (vf : Nat) (s : State) : Host.Outcome State Fault Refusal :=
  .next (s.roundCommand vf 0x07 0x01210016 fun s e _ r => s.leaderDone vf e 0 r.state.queryCode r.chunksShown)

/-- The request list object of R165. -/
def Round.requestObject (r : Round) (t : Template) : Bytes :=
  (List.range (ceilDiv t.clientSlots 4)).map fun m =>
    BitVec.ofNat 8 (((List.range 4).map fun k => (r.mask.secrets.getD (4 * m + k) .new).request % 4 * 4 ^ k).sum)

/-- REQUEST_LIST: the reconstruction request list goes to host memory (R165, R315). -/
def execRequestList (vf : Nat) (s : State) : Host.Outcome State Fault Refusal :=
  .next (s.roundCommand vf 0x08 0x01210016 fun s e t r =>
    let c := vfCtx vf
    let tm := ((s.image c).map fun im => im.template t).getD .default
    let n := ceilDiv tm.clientSlots 4
    if r.state = .released ∨ r.state = .abandoned then s.leaderDone vf e 0x0121001D 0 0
    else if !r.frozen || !tm.isPair then s.leaderDone vf e 0x0121001E 0 0
    else if leAt e 24 4 < n ∨ leAt e 16 8 % 64 ≠ 0 then s.leaderDone vf e 0x01210017 0 0
    else (s.toHost c (leAt e 16 8) (r.requestObject tm)).leaderDone vf e 0 n 0)

end Sys2Proof.Machine
end

