-- ==== Sys2Proof/Machine/Attest.lean ====
section
/-!
DEFINITION. Machine/Attest.lean: the attestation report, the alias statement and the acceptance of a root by a leaf
(R370 to R378).
-/
namespace Sys2Proof.Machine

/-- MR0 to MR5 of the Hoist that leads, joined (R370). -/
def State.registers (s : State) : Bytes :=
  (if s.lead.holder = some 1 then s.att.mr1 else s.att.mr0).flatten

/-- Bytes 0 to 927 of a report (R375). -/
def State.reportBody (s : State) (r : Round) (im : PlanImage) (nonce : Bytes) : Bytes :=
  let t := im.template r.template
  let head := ascii "TLRA" ++ leBytes 2 1 ++ leBytes 1 s.lifecycle.code ++ leBytes 1 r.ctx ++ leBytes 8 Config.serial ++
    leBytes 4 r.cohortId ++ leBytes 4 r.number ++ leBytes 1 t.mode ++ leBytes 1 t.role ++
    leBytes 1 (if r.noiseRequired then 1 else 0) ++ leBytes 1 r.state.queryCode ++ leBytes 4 r.kmin ++
    leBytes 8 s.hal.beatCount ++ leBytes 8 r.openBeat ++ padTo 48 s.att.m ++ padTo 288 s.registers
  let bound := padTo 48 r.planDigest ++ padTo 48 r.policyDigest ++ padTo 48 im.binding.aggKeyDigest ++
    padTo 32 (x25519Public r.roundKey) ++ leBytes 8 (if t.isLeaf then t.rootSerial else 0) ++
    leBytes 4 s.att.burgeeSvn ++ leBytes 4 s.att.cpSvn ++ leBytes 8 (if t.isRing then r.inputKeyId else 0)
  head ++ bound ++ zeros 8 ++ padTo 32 nonce ++ zeros 304

/-- Sign bytes under a private key with a fresh nonce. -/
def State.sign (s : State) (key : Nat) (m : Bytes) : Bytes × State :=
  let (k, s) := s.draw 64
  (padTo 96 (ecdsaSign key (p384Private k) m), s)

/-- ATTEST: the report of a round, written to host memory (R315, R375, R376). -/
def execAttest (vf : Nat) (s : State) : Host.Outcome State Fault Refusal :=
  .next (s.roundCommand vf 0x09 0x01210016 fun s e _ r =>
    let c := vfCtx vf
    if r.state = .released ∨ r.state = .abandoned then s.leaderDone vf e 0x0121001D 0 0
    else if leAt e 16 8 % 64 ≠ 0 then s.leaderDone vf e 0x01210017 0 0
    else match s.image c with
      | none => s.leaderDone vf e 0x01210016 0 0
      | some im =>
        let body := s.reportBody r im (slice e 24 32)
        let (sig, s) := s.sign s.aliasKey body
        (s.toHost c (leAt e 16 8) (body ++ sig)).leaderDone vf e 0 0 0)

/-- The checks of R378 on a root's report, alias statement and ID chain. -/
def State.rootChecks (s : State) (r : Round) (im : PlanImage) (buf : Bytes) (conn : Nat) : Bool :=
  let t := im.template r.template
  let lc := leAt buf 6 1
  let serial := leAt buf 8 8
  let al := slice buf 1024 320
  let isConn := (s.conn? conn).any fun c => c.state == .open && c.kind == 1 && c.ctx == r.ctx
  let idOk := match Config.idKeyOf (buf.drop 1344) lc serial with
    | some k => ecdsaVerify k (slice al 0 224) (slice al 224 96)
    | none => false
  let shape := slice buf 0 4 == ascii "TLRA" && leAt buf 4 2 == 1 && slice al 0 4 == ascii "TLAS" && leAt al 4 2 == 1
  let linked := leAt al 8 8 == serial && leAt al 6 1 == lc && slice al 16 48 == slice buf 48 48 &&
    ecdsaVerify (slice al 64 96) (slice buf 0 928) (slice buf 928 96)
  let mine := lc == s.lifecycle.code && slice buf 48 48 == padTo 48 s.att.m
  let named := serial == t.rootSerial && leAt buf 16 4 == r.cohortId && leAt buf 20 4 == r.number &&
    leAt buf 25 1 == 2 && leAt buf 27 1 == 0
  let bound := slice buf 432 48 == padTo 48 r.policyDigest && slice buf 384 48 == padTo 48 im.binding.rootPlanDigest &&
    leAt buf 24 1 == t.mode && leAt buf 28 4 == r.kmin && leAt buf 26 1 == (if r.noiseRequired then 1 else 0) &&
    (!t.isRing || (slice buf 480 48 == padTo 48 im.binding.aggKeyDigest && leAt buf 576 8 == r.inputKeyId))
  shape && idOk && linked && mine && named && bound && isConn

/-- The SESSION frame of a leaf to its root (R113 to R117). -/
def leafSession (r : Round) (slotBase : Nat) (key enc : Bytes) : Bytes :=
  let nonce := Frame.nonceOf kSession 0 0
  let hdr := beBytes 1 kSession ++ beBytes 1 1 ++ zeros 1 ++ beBytes 1 2 ++ beBytes 4 r.cohortId ++
    beBytes 4 r.number ++ beBytes 3 slotBase ++ zeros 5 ++ beBytes 4 32 ++ nonce ++ zeros 28
  hdr ++ enc ++ gcmSeal key nonce (hdr ++ enc) []

/-- The leaf accepts a root: its ROLE 2 session is formed and its SESSION frame sent (R378). -/
def State.acceptRoot (s : State) (r : Round) (t : Template) (rootKey : Bytes) (conn : Nat) : State :=
  let (d, s) := s.draw 32
  let (enc, h) := hpkeSend (clamp25519 d) rootKey (sessionInfo r.cohortId r.number 2 t.slotBase)
  let key := hpkeExport h (ascii "TA32 frame key") 32
  let s := s.updRound r.ctx r.template fun r =>
    { r with root := some rootKey, rootKey := key, rootConn := conn, rootEnc := enc }
  let s := s.journal1 3 (some r.ctx) (leBytes 4 r.cohortId ++ leBytes 4 r.number ++ rootKey)
  let s := s.queueModuleMsg conn (leafSession r t.slotBase key enc)
  s.record 0x05410023 s.srcLeader (some r.ctx) (leBytes 4 r.cohortId ++ leBytes 4 r.number)

/-- PEER_REPORT: the leaf's tenant passes in its root's report, alias statement and ID chain (R315, R378). The bytes are
what the buffer at HOST_ADDR holds: `report` its first 1,344 bytes, `chain` the rest up to LENGTH. -/
def execPeerReport (vf : Nat) (report chain : Bytes) (s : State) : Host.Outcome State Fault Refusal :=
  .next (s.command vf 0x0A fun s e =>
    let c := vfCtx vf
    let len := leAt e 24 4
    match (if (s.plan c).state = .running then s.cohortOf c (leAt e 8 4) else none), s.image c with
    | some t, some im =>
      if !(im.template t).isLeaf then s.leaderDone vf e 0x01210016 0 0
      else match s.namedRound c t (leAt e 12 4) with
        | .error code => s.leaderDone vf e code 0 0
        | .ok r =>
          if r.state ≠ .open then s.leaderDone vf e 0x0121001D 0 0
          else if len < 1345 ∨ 9536 < len ∨ leAt e 16 8 % 64 ≠ 0 then s.leaderDone vf e 0x01210017 0 0
          else
            let buf := padTo 1344 report ++ padTo (len - 1344) chain
            let s := s.count c fun k => { k with dmaFromHost := k.dmaFromHost + len }
            -- a root key with which no encapsulation can be formed is no root's key (log entry 33)
            if r.root.isNone && s.rootChecks r im buf (leAt e 28 2) && !lowOrder (slice buf 528 32) then
              (s.acceptRoot r (im.template t) (slice buf 528 32) (leAt e 28 2)).leaderDone vf e 0 0 0
            else (s.record 0x01410016 s.srcLeader (some c) (leBytes 4 r.cohortId ++ leBytes 4 r.number)).leaderDone vf e
              0x01410016 0 0
    | _, _ => s.leaderDone vf e 0x01210016 0 0)

end Sys2Proof.Machine
end

