-- ==== Sys2Proof/Machine/Recording.lean ====
section
/-!
DEFINITION. Machine/Recording.lean: the commands of the event recorder (R484 to R502).
-/
namespace Sys2Proof.Machine

/-- RECORD_WRITE: a subsystem hands the recorder a record (R487, R491). A code of detail 0x0000 is none that the module
reports, and nothing is recorded (R12). -/
def execRecordWrite (source code : Nat) (ctx : Option Nat) (payload : Bytes) (now : Nat) (s : State) :
    Host.Outcome State Fault Refusal :=
  .next (if code % 0x10000 = 0 then s.at now else (s.at now).record code source ctx payload)

/-- TOKEN_REFILL: each bucket gains one token, up to 64 (R497). -/
def execTokenRefill (now : Nat) (s : State) : Host.Outcome State Fault Refusal :=
  let s := s.at now
  .next { s with recorder := { s.recorder with
    buckets := (s.recorder.buckets.map fun b => { b with tokens := min 64 (b.tokens + 1) }).filter
      fun b => decide (b.tokens < 64) } }

/-- The source of a writer's summaries (R498). -/
def Writer.source : Writer → Nat
  | .h0 => 0x4FF0
  | .h1 => 0x5FF0
  | .aon => 0x6FF0

/-- The payload of a summary record (R498). -/
def Suppressed.payload (x : Suppressed) : Bytes :=
  leBytes 4 x.count ++ leBytes 2 x.contexts.toNat ++ leBytes 1 (if x.moduleRecord then 1 else 0) ++ zeros 1 ++
  leBytes 8 x.firstMs ++ leBytes 8 x.lastMs ++ leBytes 2 x.firstSource.toNat ++ zeros 2 ++ leBytes 4 x.total

/-- Store one summary, admitted like an ALARM of the general area (R498). -/
def State.summarise (s : State) (x : Suppressed) : State :=
  let r := s.formRecord x.severity true x.code.toNat x.writer.source none x.payload
  match x.writer with
  | .aon => { s with recorder := s.recorder.storeAon r s.ms }
  | w => s.storeHoist w r

/-- SUMMARY_TICK: one summary per code suppressed in the second; a subscription that refused records in it is reported
(R498, R500). -/
def execSummaryTick (now : Nat) (s : State) : Host.Outcome State Fault Refusal :=
  let s := s.at now
  let due := s.recorder.suppressed.filter fun x => decide (0 < x.count)
  let s : State := due.foldl (fun s x => s.summarise x) s
  let s := { s with recorder := { s.recorder with
    suppressed := s.recorder.suppressed.map fun (x : Suppressed) =>
      { x with count := 0, contexts := 0, moduleRecord := false } } }
  let refused := s.mgmt.sessions.any fun x => (x.map fun y => decide (0 < y.refused)).getD false
  let s := { s with mgmt := { s.mgmt with sessions := s.mgmt.sessions.map fun x => x.map fun (y : Session) => { y with refused := 0 } } }
  .next (if refused then s.record 0x05600007 s.srcLeader none [] else s)

/-- A flush of a buffer is called for: fill, ALARM or fault class, age of 60 s, or a request (R492). -/
def State.flushWanted (s : State) (b : RecBuffer) : Bool :=
  b.due || decide (3072 ≤ b.held.length) ||
    (match b.held with
     | [] => false
     | r :: _ => decide (r.stampMs + 60000 ≤ s.ms))

/-- The path from a Hoist's buffer to flash stands: H0 runs, and for H1 the H0–H1 link too (R492). -/
def State.flashPath (s : State) (hoist : Nat) : Bool :=
  !s.start.hoistReset.1 && (hoist == 0 || !s.hoistLinkDown)

/-- FLUSH_START: every record unflushed now is to be programmed (R492). -/
def execFlushStart (hoist now : Nat) (s : State) : Host.Outcome State Fault Refusal :=
  let s := s.at now
  let w := if hoist = 0 then Writer.h0 else Writer.h1
  let b := s.recorder.buffer w
  if !b.running && s.flushWanted b && s.flashPath hoist && !b.bufferOnly then
    .next (s.setBuffer w { b with running := true, due := false, flushing := b.held.map Record.seq })
  else .next s

/-- Keep what the ring retains: its blocks of 2,048 records, the block being written included (R495). -/
def ringKeep (blocks : Nat) (l : List Record) : List Record :=
  let full := blocks * 2048
  if l.length ≤ full then l else l.drop (ceilDiv (l.length - full) 2048 * 2048)

/-- Insert a record into a list kept in ascending SEQ. -/
def insertRecord (r : Record) : List Record → List Record
  | [] => [r]
  | x :: l => if r.seq < x.seq then r :: x :: l else x :: insertRecord r l

/-- Program records into flash: numbers up to 16,384 into the fixed area, later ones into the ring (R494, R495). -/
def Recorder.program (q : Recorder) (l : List Record) : Recorder :=
  { q with
    fixed := (l.filter fun r => decide (r.seq ≤ 16384)).foldl (fun acc r => insertRecord r acc) q.fixed
    circ := ringKeep q.ringBlocks
      ((l.filter fun r => decide (16384 < r.seq)).foldl (fun acc r => insertRecord r acc) q.circ) }

/-- Write the loss record owed by a buffer once a position has freed (R496). -/
def State.payLoss (s : State) (w : Writer) : State :=
  let b := s.recorder.buffer w
  if b.loss = .none ∨ 4032 ≤ b.general then s
  else
    let s := { s with recorder := { s.recorder.setBuffer w { b with loss := .none } with lostPending := false } }
    s.storeHoist w (s.formRecord .alarm false 0x04600002 w.source none b.loss.payload)

/-- Retire the flash block that the lowest number of a flush goes to: a spare of its area takes its place, or the ring is
one block shorter (R494, R496). -/
def Recorder.retire (q : Recorder) (first : Nat) : Recorder :=
  if first ≤ 16384 then { q with fixedSpares := q.fixedSpares - 1 }
  else if 0 < q.ringSpares then { q with ringSpares := q.ringSpares - 1 } else { q with ringBlocks := q.ringBlocks - 1 }

/-- FLUSH_COMPLETE: the flushed positions free and LAST_FLUSH and FLUSHES change; a block that failed is retired, and a
second failure in succession puts the buffer into buffer-only mode (R492, R496). -/
def execFlushComplete (hoist : Nat) (good : Bool) (now : Nat) (s : State) : Host.Outcome State Fault Refusal :=
  let s := s.at now
  let w := if hoist = 0 then Writer.h0 else Writer.h1
  let b := s.recorder.buffer w
  if !b.running then .next s
  else if good then
    let done := b.held.filter fun r => b.flushing.contains r.seq
    let rest := b.held.filter fun r => !b.flushing.contains r.seq
    let q := (s.recorder.program done).setBuffer w
      { b with held := rest, flushing := [], running := false, bufferOnly := false, badBlocks := 0 }
    let s := { s with recorder := { q with lastFlushMs := s.ms } }
    let s := s.persist fun p => { p with flushes := min (p.flushes + 1) 0xFFFFFFFF }
    .next (s.payLoss w)
  else
    let s := { s with recorder := s.recorder.retire (b.flushing.headD 0) }
    let s := s.record 0x04600004 srcBoard none []
    let b := s.recorder.buffer w
    if 1 ≤ b.badBlocks then
      let s := s.setBuffer w { b with badBlocks := b.badBlocks + 1, bufferOnly := true, running := false, flushing := [] }
      .next (s.record 0x04600005 srcBoard none [])
    else .next (s.setBuffer w { b with badBlocks := b.badBlocks + 1 })

/-- FLASH_RETRY: in buffer-only mode flushing is tried again (R496). -/
def execFlashRetry (hoist now : Nat) (s : State) : Host.Outcome State Fault Refusal :=
  let s := s.at now
  let w := if hoist = 0 then Writer.h0 else Writer.h1
  let b := s.recorder.buffer w
  if b.bufferOnly && !b.running && s.flashPath hoist then
    .next (s.setBuffer w { b with running := true, flushing := b.held.map Record.seq })
  else .next s

end Sys2Proof.Machine
end

