-- ==== Sys2Proof/Machine/FinishMath.lean ====
section
/-!
DEFINITION. Machine/FinishMath.lean: the exact arithmetic of the finish stage (R236, R240, R245), the CTR_DRBG of each core
(R241) and the Gaussian sampler (R242).
-/
namespace Sys2Proof.Machine

-- Rounding

/-- v / 2^d to the nearest integer, ties to even. -/
def roundShift (v : Int) (d : Nat) : Int :=
  let m := (2 : Int) ^ d
  let q := v / m
  let r := 2 * (v % m)
  if d = 0 then v else if r < m then q else if m < r then q + 1 else if q % 2 = 0 then q else q + 1

/-- v · 2^s for a signed s, rounded once where s is negative. -/
def scaleBy (v : Int) (s : Int) : Int := if 0 ≤ s then v * (2 : Int) ^ s.toNat else roundShift v (-s).toNat

/-- Centred lift of an element modulo `m`. -/
def centredLift (m s : Nat) : Int := if 2 * (s % m) < m then ((s % m : Nat) : Int) else ((s % m : Nat) : Int) - m

/-- Signed input value of a stored element (R236). -/
def Template.inputValue (t : Template) (s : Nat) : Int :=
  if t.isRing then
    -- the centred range of R236: −floor(t/2) to ceil(t/2) − 1
    let m := max 1 t.plaintextMod
    if s % m < (m + 1) / 2 then ((s % m : Nat) : Int) else ((s % m : Nat) : Int) - m
  else
    let c := centredLift (2 ^ fmtBits t.format) s
    if t.isSum then roundShift c t.headroom else c

/-- V of one element at scale `f`: inputs in term order, and the noise sample (R240). -/
def accumulateTerms (spec : FinishSpec) (f : Int) (a : List Int) (z : Int) : Int :=
  (List.zip spec.terms a).foldl (fun acc x => acc + scaleBy (x.1.weight * x.2) (f - x.1.exp))
    (if spec.sigma = 0 then 0 else scaleBy z (f - spec.noiseFrac))

/-- An element is in range of its output format (R245). -/
def inOutRange (fmt : Nat) (v : Int) : Bool :=
  match fmt with
  | 1 => decide (-(2 : Int) ^ 31 ≤ v ∧ v < 2 ^ 31)
  | 2 => decide (-(2 : Int) ^ 63 ≤ v ∧ v < 2 ^ 63)
  | _ => true

/-- V · 2^(−f) rounded once, ties to even, to a binary format of `p` significant bits with 8 exponent bits; zero is +0. -/
def floatBits (p : Nat) (v f : Int) : Nat :=
  if v = 0 then 0
  else
    let m := v.natAbs
    let l := Nat.log2 m
    let r := if l < p then m * 2 ^ (p - 1 - l) else (roundShift m (l + 1 - p)).toNat
    let e := (l : Int) - f + 127
    let body := (e * (2 : Int) ^ (p - 1) + ((r : Int) - (2 : Int) ^ (p - 1))).toNat
    body + (if v < 0 then 2 ^ (p + 7) else 0)

/-- Output bytes of an element (R245). -/
def outElement (fmt : Nat) (v f : Int) : Bytes :=
  match fmt with
  | 1 => leBytes 4 (unsignedOf 32 v)
  | 2 => leBytes 8 (unsignedOf 64 v)
  | 3 => leBytes 4 (floatBits 24 v f)
  | _ => leBytes 2 (floatBits 8 v f)

-- CTR_DRBG with AES-256 and derivation function (R241; SP 800-90A)

/-- Chained encryption BCC of the derivation function. -/
def drbgBcc (k : AesKey) (data : Bytes) : Bytes :=
  (chunks 16 data.length data).foldl (fun chain b => aesBlock k (xorBytes chain b)) (zeros 16)

/-- Blocks x, E(x), E(E(x)), … without the first. -/
def chainBlocks (k : AesKey) : Nat → Bytes → Bytes
  | 0, _ => []
  | n + 1, x => let y := aesBlock k x; y ++ chainBlocks k n y

/-- Block_Cipher_df to 48 bytes. -/
def drbgDf (data : Bytes) : Bytes :=
  let s0 := beBytes 4 data.length ++ beBytes 4 48 ++ data ++ [0x80]
  let s := s0 ++ zeros (roundUp s0.length 16 - s0.length)
  let k := aesKey ((List.range 32).map fun i => BitVec.ofNat 8 i)
  let temp := (List.range 3).flatMap fun i => drbgBcc k (beBytes 4 i ++ zeros 12 ++ s)
  chainBlocks (aesKey (temp.take 32)) 3 (temp.drop 32)

/-- `n` output blocks under the present key; V counts on. -/
def Drbg.blocks (d : Drbg) (n : Nat) : Bytes × Drbg :=
  (aesCtrStream (aesKey d.key) 128 n ((beNat d.v + 1) % 2 ^ 128),
   { d with v := beBytes 16 (beNat d.v + n) })

/-- CTR_DRBG_Update. -/
def Drbg.update (d : Drbg) (data : Bytes) : Drbg :=
  let (o, d) := d.blocks 3
  let o := xorBytes o data
  { d with key := o.take 32, v := o.drop 32 }

/-- Instantiation from entropy and nonce. -/
def Drbg.instantiate (seed : Bytes) : Drbg :=
  Drbg.update { Drbg.reset with key := zeros 32, v := zeros 16, instantiated := true } (drbgDf seed)

/-- Reseed: the request count starts again. -/
def Drbg.reseed (d : Drbg) (entropy : Bytes) : Drbg := { d.update (drbgDf entropy) with requests := 0 }

/-- One generate request of 65,536 bytes. -/
def Drbg.generate (d : Drbg) : Bytes × Drbg :=
  let (o, d) := d.blocks 4096
  (o, { d.update (zeros 48) with requests := d.requests + 1 })

-- The sampler (R242)

/-- Fixed-point one of the table's arithmetic. -/
def fixOne : Nat := 2 ^ 320

/-- Taylor series of e^x from term `k` on, with `x` and the term in fixed point. -/
def expSeries : Nat → Nat → Nat → Nat → Nat
  | 0, _, _, _ => 0
  | n + 1, k, x, term => term + expSeries n (k + 1) x (term * x / fixOne / k)

/-- e^(−num/den) in fixed point: the argument is halved until it is below 1, and the value squared back. -/
def expNeg (num den : Nat) : Nat :=
  let m := Nat.log2 (num / den + 1) + 1
  let x := num * fixOne / (den * 2 ^ m)
  Nat.repeat (fun y => y * y / fixOne) m (fixOne * fixOne / expSeries 100 1 x fixOne)

/-- Weights e^(−j²/2σ_0²) for j = 0, 1, …: `b` is a^(2j+1) and `a2` is a². -/
def gaussWeights (a2 : Nat) : Nat → Nat → Nat → List Nat
  | 0, _, _ => []
  | n + 1, w, b => w :: gaussWeights a2 n (w * b / fixOne) (b * a2 / fixOne)

/-- K of the two-level sampler; 0 for one level. SIGMA is U24.8. -/
def samplerK (sigma : Nat) : Nat := if sigma ≤ 64 * 256 then 0 else ceilDiv sigma (64 * 256)

/-- Least n with n² ≥ num/den. -/
def ceilSqrt (num den : Nat) : Nat :=
  let r := Nat.sqrt (num / den)
  if r * r * den < num then r + 1 else r

/-- Running sums. -/
def runSums : Nat → List Nat → List Nat
  | _, [] => []
  | acc, x :: l => (acc + x) :: runSums (acc + x) l

/-- The cumulative table T_0 to T_{K_T} of D_{Z,σ_0} (R242), to 320 fractional bits (log entry 16). -/
def samplerTable (sigma : Nat) : List Nat :=
  let k := samplerK sigma
  let num := sigma * sigma
  let den := 65536 * (1 + k * k)
  let kt := ceilSqrt (169 * num) den
  let a := expNeg den (2 * num)
  let ws := gaussWeights (a * a / fixOne) (4 * kt + 8) fixOne a
  let sums := runSums 0 (ws.zipIdx.map fun (w, j) => if j = 0 then w else 2 * w)
  let total := sums.getLastD fixOne
  ((sums.take kt).map fun c => min (2 ^ 63 - 1) (2 ^ 63 * c / total)) ++ [2 ^ 63]

/-- One base draw from a word: the magnitude is the number of entries not above the low 63 bits, bit 63 the sign. -/
def baseDraw (table : List Nat) (w : Nat) : Int :=
  let u := w % 2 ^ 63
  let m := (table.filter fun t => decide (t ≤ u)).length
  if w < 2 ^ 63 then m else -(m : Int)

/-- Samples from the bytes of a noise pass, 16 bytes each. -/
def noiseSamples (sigma : Nat) (bytes : Bytes) : List Int :=
  let table := samplerTable sigma
  let k := samplerK sigma
  (chunks 16 bytes.length bytes).map fun b =>
    let x0 := baseDraw table (beAt b 0 8)
    if k = 0 then x0 else x0 + k * baseDraw table (beAt b 8 8)

end Sys2Proof.Machine
end

