-- ==== Sys2Proof/Machine/Finish.lean ====
section
/-!
DEFINITION. Machine/Finish.lean: the finish stage (R236 to R252): FINISH, its fills and write-backs, and the noise
generators of the cores.
-/
namespace Sys2Proof.Machine

/-- The generator of core `n` of cluster `k`. -/
def State.drbg (s : State) (k n : Nat) : Drbg := s.drbgs.getD (8 * k + n) .reset
def State.updDrbg (s : State) (k n : Nat) (f : Drbg → Drbg) : State := { s with drbgs := updAt s.drbgs (8 * k + n) f }

/-- Instantiate the eight generators of a cluster that becomes SERVICE (R241): entropy and nonce are draws. -/
def State.instantiateDrbgs (s : State) (k : Nat) : State :=
  (List.range 8).foldl (fun s n =>
    let (seed, s) := s.draw 64
    s.updDrbg k n fun _ => .instantiate seed) s

/-- Reseed a generator whose interval has ended (R241). -/
def State.reseedDue (s : State) (k n : Nat) : State :=
  let d := s.drbg k n
  if d.instantiated && !d.error && decide (2 ^ 20 ≤ d.requests) then
    let (seed, s) := s.draw 48
    s.updDrbg k n fun d => d.reseed seed
  else s

/-- `count` generate requests of a core, with the reseeds that fall due between them. -/
def State.generate (k n : Nat) : Nat → State → Bytes × State
  | 0, s => ([], s)
  | c + 1, s =>
    let s := s.reseedDue k n
    let (o, d) := (s.drbg k n).generate
    let (r, s) := State.generate k n c (s.updDrbg k n fun _ => d)
    (o ++ r, s)

/-- DRBG_RESEED: a core's generator is reseeded after 2^20 requests (R241). -/
def execDrbgReseed (cluster core : Nat) (s : State) : Host.Outcome State Fault Refusal :=
  .next (s.reseedDue cluster core)

-- Items

def emptySpec : FinishSpec := ⟨0, 3, 0, 0, 1, 0, 0, []⟩

/-- Decoded tiles of a ring tile, D; 1 in the other modes (R236). -/
def Template.decodedTiles (t : Template) : Nat := if t.isRing then max 1 (t.degreeN / 8192) else 1

/-- Tile set and accumulator tile within it of an input tile. -/
def Template.inputTile (t : Template) (i : Nat) : Nat × Nat := (i / t.decodedTiles, i % t.decodedTiles)

/-- Stored elements of an input tile, from copy SEL. -/
def Round.inputElements (r : Round) (t : Template) (i : Nat) : List Nat :=
  let (k, m) := t.inputTile i
  let l := (r.set k).copy.getD m []
  let e := fmtElems t.format
  l ++ List.replicate (e - l.length) 0

/-- Why an input tile stops an item (R252): 3 VOID or not decoded, 4 SPENT, 0 neither. -/
def Round.inputState (r : Round) (t : Template) (i : Nat) : Nat :=
  let (k, _) := t.inputTile i
  if (r.set k).unmask = 2 then 3
  else if t.isRing then
    match ((r.ring.tiles[k]?).bind RingTile.out) with
    | none => 3
    | some o => if o.status = 1 then 4 else if o.status = 2 || !o.decoded then 3 else 0
  else 0

/-- Input tiles of an output tile, in term order (R237). -/
def FinishSpec.inputs (f : FinishSpec) (o : Nat) : List Nat := f.terms.map fun t => o * f.stride + t.offset

/-- V of every element of an item at a scale. -/
def itemValues (t : Template) (spec : FinishSpec) (f : Int) (terms : List (List Nat)) (noise : List Int) : List Int :=
  (List.range (fmtElems t.format)).map fun e =>
    accumulateTerms spec f (terms.map fun l => t.inputValue (l.getD e 0)) (noise.getD e 0)

/-- The attempts of an item from number `k` on, each with its noise: the record when one stands or the fourth fails, and
the repeats made (R246). -/
def attempts (t : Template) (spec : FinishSpec) (terms : List (List Nat)) (noise : Nat → List Int) (applied : Bool) :
    Nat → Nat → FinishRec × Nat
  | 0, k => (⟨2, spec.f0 - 24, 4, applied, [], 0⟩, k)
  | n + 1, k =>
    let f := spec.f0 - 8 * (k : Int)
    let vs := itemValues t spec f terms (noise k)
    if vs.all fun v => inOutRange spec.outFormat v then
      (⟨1, f, k + 1, applied, vs.flatMap fun v => outElement spec.outFormat v f, 0⟩, k)
    else attempts t spec terms noise applied n (k + 1)

-- Heads of the term FIFO (R248)

/-- Each term pass advances READ by one record. -/
def FinishItem.passes (x : FinishItem) : FinishItem := { x with read := x.read + x.terms.length }
/-- A repeat sets READ to MARK. -/
def FinishItem.again (x : FinishItem) : FinishItem := { x with read := x.mark }
/-- The passes of an item's attempts; after the last one MARK moves past its records too. -/
def FinishItem.walk (x : FinishItem) : Nat → FinishItem
  | 0 => let y := x.passes; { y with mark := y.read }
  | n + 1 => x.passes.again.walk n
/-- An item runs: MARK is set to READ before the first attempt. -/
def FinishItem.run (x : FinishItem) (repeats : Nat) : FinishItem := { x with mark := x.read }.walk repeats

/-- Items that the next execution of a cursor takes: eight, one per core. -/
def Round.nextItems (r : Round) (position cursor : Nat) : List FinishItem :=
  (r.finishItems.filter fun x => x.position == position && x.cursor == cursor && x.result.isNone).take 8

/-- Run one filled item on core `core` (R240 to R246, R252). -/
def State.finishItem (s : State) (k ctx t core : Nat) (tm : Template) (spec : FinishSpec) (x : FinishItem) : State :=
  match s.round? ctx t with
  | none => s
  | some r =>
    let faults := ((r.finishRecs[x.tile]?).map FinishRec.faults).getD 0
    let store := fun (s : State) (rec' : FinishRec) (noise : List Int) (repeats : Nat) =>
      let put := fun (y : FinishItem) => { y.run repeats with noise := noise, result := some { rec' with faults := faults } }
      s.updRound ctx t fun r => { r with finishItems := updIf r.finishItems (fun y => y.tile == x.tile) put }
    let why := (spec.inputs x.tile).map fun i => r.inputState tm i
    let pay := leBytes 4 r.cohortId ++ leBytes 4 r.number ++ leBytes 4 x.tile
    if why.contains 3 then store s ⟨3, 0, 0, false, [], 0⟩ [] 0
    else if why.contains 4 then store s ⟨4, 0, 0, false, [], 0⟩ [] 0
    else
      let applied := spec.sigma != 0 && (s.drbg k core).instantiated && !(s.drbg k core).error
      let reqs := fmtElems tm.format / 4096
      let (bytes, s) := if applied then State.generate k core reqs s else ([], s)
      let noise := if applied then noiseSamples spec.sigma bytes else x.noise
      let from_ := x.cut.getD 4
      let (rec', repeats) := attempts tm spec x.terms (fun k => if k < from_ then noise else []) applied 4 0
      -- the sampler draws of later attempts run and are discarded (R243)
      let s := if applied then (State.generate k core (reqs * (min 3 repeats)) s).2 else s
      let s := (List.range (min 3 repeats)).foldl (fun (s : State) _ =>
        (s.record 0x05140031 (srcCluster k) (some ctx) pay).count ctx fun c =>
          { c with finishRepeats := c.finishRepeats + 1 }) s
      let s := if rec'.state = 2 then s.record 0x05140032 (srcCluster k) (some ctx) pay else s
      store s rec' noise (min 3 repeats)

/-- FINISH: eight filled items run, one per core, each over up to four scale attempts (R246, R247). -/
def execFinish (cluster : Nat) (s : State) : Host.Outcome State Fault Refusal :=
  .next (s.runSpan cluster 0x20 fun s p sp =>
    let t := sp.desc.cohort
    match s.image sp.ctx, s.round? sp.ctx t with
    | some im, some r =>
      let tm := im.template t
      let spec := (policySpec r.policyObject r.cohortId).getD emptySpec
      let mine := r.nextItems p sp.desc.cursor
      let s := mine.foldl (fun s x => s.finishItem cluster sp.ctx t x.core tm spec x) s
      s.updRound sp.ctx t fun r => r.updCursor p sp.desc.cursor fun q => { q with pos := q.pos + mine.length }
    | _, _ => s)

-- Fills and write-backs (R249, R250)

/-- Outputs of finished items of a position reach the finish area, each with its finish record: its commit point. -/
def Round.writeBack (r : Round) (position : Nat) : Round :=
  let done := r.finishItems.filter fun x => x.position == position && x.result.isSome
  { r with
    finishRecs := done.foldl (fun l x => updAt l x.tile fun f => x.result.getD f) r.finishRecs
    finishItems := r.finishItems.filter fun x => !(x.position == position && x.result.isSome) }

/-- Fill the term records of the next execution of a cursor: its next eight output tiles with no record, in cursor
order. -/
def Round.fillCursor (r : Round) (t : Template) (spec : FinishSpec) (position cursor : Nat) (c : CursorDef) : Round :=
  if r.finishItems.any fun x => x.position == position && x.cursor == cursor && x.result.isNone then r
  else
    let tiles := ((List.range c.count).map (· + c.first)).filter fun o =>
      ((r.finishRecs[o]?).map fun f => f.state == 0).getD false && !(r.finishItems.any fun x => x.tile == o)
    let items := (tiles.take 8).zipIdx.map fun (o, n) =>
      FinishItem.mk position cursor n o ((spec.inputs o).map fun i => r.inputElements t i) [] 0 0 none none
    { r with finishItems := r.finishItems ++ items }

/-- FINISH_FILL_WRITEBACK: the drain of a cluster writes the outputs of the last execution and fills the term records of
the next one (R249, R250). In FINISHED it does so for an item that a data fault of its record sends back (R250; log entry
89). -/
def execFinishFillWriteback (cluster ctx cohort : Nat) (s : State) : Host.Outcome State Fault Refusal :=
  match (s.cluster cluster).position, s.image ctx, s.round? ctx cohort with
  | some p, some im, some r =>
    if !(r.state == .unmasking || r.state == .finished) ∨ !r.finishPhase then .next s
    else
      let spec := (policySpec r.policyObject r.cohortId).getD emptySpec
      let cursors := ((im.block p).map fun b =>
        (b.cursors.zipIdx.filter fun (c, i) => c.cohort == cohort && b.uses 0x20 i)).getD []
      .next (s.updRound ctx cohort fun r =>
        cursors.foldl (fun r x => r.fillCursor (im.template cohort) spec p x.2 x.1) (r.writeBack p))
  | _, _, _ => .next s

/-- A fault before the commit point discards the items of a position that are filled or finished: each runs again from
its first attempt, with a record for one that had run or was running, and the cursor returns to them (R250). -/
def State.dropFinishItems (s : State) (k ctx t position : Nat) : State :=
  match s.round? ctx t with
  | none => s
  | some r =>
    let done := r.finishItems.filter fun x => x.position == position && x.result.isSome
    let running := match (s.cluster k).span with
      | some sp => if sp.desc.opcode = 0x20 ∧ !sp.done ∧ !sp.dummy ∧ sp.ctx = ctx ∧ sp.desc.cohort = t then
          r.nextItems position sp.desc.cursor else []
      | none => []
    let s := s.updRound ctx t fun r => (done.map FinishItem.cursor).foldl
      (fun r i => r.updCursor position i fun q => { q with pos := q.pos - 1 })
      { r with finishItems := r.finishItems.filter fun x => x.position != position }
    (done ++ running).foldl (fun s x => s.record 0x02140035 (srcCluster k) (some ctx)
      (leBytes 4 r.cohortId ++ leBytes 4 r.number ++ leBytes 4 x.tile)) s

-- Entropy failures (R244, R256)

/-- The item that a core is running when its generator fails: attempts from the running one on add no noise. The noise of
the attempts before was drawn in the first (R243, R256). -/
def State.cutItem (s : State) (k core : Nat) : State :=
  match (s.cluster k).span, (s.cluster k).position with
  | some sp, some p =>
    let t := sp.desc.cohort
    match s.image sp.ctx, s.round? sp.ctx t with
    | some im, some r =>
      match (r.nextItems p sp.desc.cursor).find? fun x => x.core == core with
      | none => s
      | some x =>
        let spec := (policySpec r.policyObject r.cohortId).getD emptySpec
        if sp.desc.opcode ≠ 0x20 ∨ sp.done ∨ sp.dummy ∨ spec.sigma = 0 ∨ x.cut.isSome then s
        else
          let attempt := min 3 (4 * (sp.beats - 1) / max 1 (s.spanCost sp))
          let tm := im.template t
          let (bytes, s) := if attempt = 0 then ([], s) else State.generate k core (fmtElems tm.format / 4096) s
          let noise := if attempt = 0 then [] else noiseSamples spec.sigma bytes
          s.updRound sp.ctx t fun r =>
            { r with finishItems := updIf r.finishItems (fun y => y.tile == x.tile) fun (y : FinishItem) =>
              { y with noise := noise, cut := some attempt } }
    | _, _ => s
  | _, _ => s

/-- DRBG_ERROR: the generator enters its error state until its cluster is next set SERVICE; one ALARM per instance
(R244). An item in progress goes on with no noise from here (R256). -/
def execDrbgError (cluster core : Nat) (s : State) : Host.Outcome State Fault Refusal :=
  let d := s.drbg cluster core
  if !d.instantiated || d.error then .next s
  else .next (((s.cutItem cluster core).updDrbg cluster core fun d => { d with error := true }).record 0x04140033
    (srcCore cluster core + 7) none [])

end Sys2Proof.Machine
end

