-- ==== Sys2Proof/Machine/Faults.lean ====
section
/-!
DEFINITION. Machine/Faults.lean: what a data fault beyond replay does to the tile sets, secrets and ring tiles of a round
(R163, R210, R213, R445).
-/
namespace Sys2Proof.Machine

def Round.ringTile (r : Round) (n : Nat) : Option RingTile := r.ring.tiles[n]?
def Round.updTile (r : Round) (n : Nat) (f : RingTile → RingTile) : Round :=
  { r with ring := { r.ring with tiles := updAt r.ring.tiles n f } }
def Round.updWorking (r : Round) (position cursor : Nat) (f : WorkingCopy → WorkingCopy) : Round :=
  let l := updIf r.ring.working (fun w => w.position == position && w.cursor == cursor) f
  { r with ring := { r.ring with working := l } }

/-- A span of the round that works on real operands runs at a cluster, with one of the opcodes. -/
def Cluster.runs (c : Cluster) (r : Round) (op : Nat → Bool) : Bool :=
  c.span.any fun sp => sp.ctx == r.ctx && sp.desc.cohort == r.template && op sp.desc.opcode && !sp.dummy

/-- A ring tile becomes VOID with cause 4 in opcode `op`: AGG, OUT and the working copies of it (R212, R213). -/
def Round.voidRing (r : Round) (n op : Nat) : Round :=
  let void := fun (h : CtHeader) => { h with status := 2, cause := 4, causeOpcode := op }
  let r := r.updTile n fun x => { x with agg := void x.agg, out := x.out.map void }
  { r with ring := { r.ring with
      working := r.ring.working.map fun w => if w.tile = n then { w with header := void w.header } else w } }

/-- The ring opcode that runs on a tile at a cluster; 0 none. -/
def State.ringOpcode (s : State) (k : Nat) (r : Round) (n : Nat) : Nat :=
  let c := s.cluster k
  match c.span, c.position with
  | some sp, some p =>
    if c.runs r (fun op => decide (0x10 ≤ op ∧ op ≤ 0x19)) && ((r.working? p sp.desc.cursor).any fun w => w.tile == n) then
      sp.desc.opcode
    else 0
  | _, _ => 0

/-- The cluster that works on the ring tiles or folds of a set. -/
def State.unmaskCluster (s : State) (im : PlanImage) (t n : Nat) : Nat := s.clusterAt (im.unmasker t n).1

/-- Tile sets become VOID after a data fault beyond replay (tier 2): unmask CAUSE 3, and cause 4 of a ring tile, now or at
the freeze; one record for each accumulator tile (R163, R213, R445). -/
def State.voidSets (s : State) (ctx t : Nat) (sets : List Nat) : State :=
  match s.round? ctx t, s.image ctx with
  | some r, some im =>
    let n := max 1 (im.template t).setTiles
    let opOf := fun (k : Nat) => s.ringOpcode (s.unmaskCluster im t k) r k
    let s := s.updRound ctx t fun r => sets.foldl (fun r k =>
      ((r.voidSet k 3).updSet k fun x => { x with dataFault := true }).voidRing k (opOf k)) r
    let tiles := sets.flatMap fun k => (List.range n).map fun m => k * n + m
    tiles.foldl (fun s k => s.record 0x0450000D s.srcLeader (some ctx) (leBytes 4 r.cohortId ++ leBytes 4 k))
      (s.countTier 2)
  | _, _ => s

/-- Tiles not yet folded that an item not yet run would take from a secret of owner `i`: a SELF item, or a pairwise seed
not yet recomputed (R163). -/
def Round.needing (r : Round) (im : PlanImage) (t i : Nat) : List Nat :=
  let tm := im.template t
  let ran := fun (k : Nat) => r.mask.lists.any fun l =>
    l.kind == .self && (l.items.take l.consumed).any fun x => x.kind == 1 && x.tile == k && x.slot == i
  let keys := r.needsKey tm tm.offsets i
  (List.range tm.sets).filter fun k => (r.set k).unmask == 0 &&
    ((r.intake.ledger.contains (i, k) && !ran k) || keys.contains k)

/-- A secret record with a data fault: every secret of it that is not NONE is FAILED, its recomputations end, and the
tiles that still need one of them are VOID (R163). -/
def State.failSecret (s : State) (ctx t i : Nat) : State :=
  match s.image ctx, s.round? ctx t with
  | some im, some r =>
    let bad := fun (x : SecretRec) =>
      { x with stateSelf := if x.stateSelf = 0 then 0 else 4, stateKey := if x.stateKey = 0 then 0 else 4,
               selfSeed := [], privateKey := [] }
    let s := s.updRound ctx t fun r => { r with mask := { r.mask with
      secrets := updAt r.mask.secrets i bad, recompute := r.mask.recompute.filter fun x => x.1 != i } }
    let tiles := if r.frozen then r.needing im t i else []
    if tiles.isEmpty then s.countTier 2 else s.voidSets ctx t tiles
  | _, _ => s

/-- The item of a ring tile is replayed: it is staged in again from its committed copy, and the span that worked on it
ends (R210). -/
def State.replayTile (s : State) (ctx t n k op : Nat) (payload : Bytes) : State :=
  let s := s.updRound ctx t fun r => { r with ring := { r.ring with
    working := r.ring.working.filter fun w => w.tile != n } }
  let s := if op = 0 then s else s.updCluster k fun c => { c with span := none }
  s.record 0x02130001 (srcCluster k) (some ctx) payload

/-- A repeated data fault of a ring tile makes it VOID; the first replays its item (R210). -/
def State.ringFault (s : State) (ctx t n : Nat) : State :=
  match s.image ctx, s.round? ctx t with
  | some im, some r =>
    match r.ring.tiles[n]? with
    | none => s
    | some x =>
      let k := s.unmaskCluster im t n
      let op := s.ringOpcode k r n
      let payload := leBytes 4 r.cohortId ++ leBytes 4 (n * max 1 (im.template t).setTiles)
      let s := s.updRound ctx t fun r => r.updTile n fun x => { x with faults := x.faults + 1 }
      if x.faults = 0 then s.replayTile ctx t n k op payload
      else
        let s := s.updRound ctx t fun r => (r.voidRing n op).updSet n fun x => { x with dataFault := true }
        (s.countTier 2).record 0x04130002 (srcCluster k) (some ctx) payload
  | _, _ => s

end Sys2Proof.Machine
end

