-- ==== Sys2Proof/Machine/Mask.lean ====
section
/-!
DEFINITION. Machine/Mask.lean: mask removal (R161 to R189): SHAMIR, PAIRWISE_RECOMPUTE, SELFMASK, PAIRCORR, SEEDACC,
LWRMASK and FOLD.
-/
namespace Sys2Proof.Machine

-- Secrets enter the store (R132, R161, R163)

/-- Take a staged frame out of the secret queue and store its secret, if it still waits there. AU has it
sealed under the store key; where that use is refused a SHARE's record takes a data fault, and a SEED or DSHARE is not
stored (R161, R348; log entry 85). A SHARE whose reserved bytes are not 0 is discarded with the code of check 1 instead
(R11, R114; DESIGN CHOICE, log entry 89). -/
def State.takeSecret (s : State) (ctx t : Nat) (x : Staged) : State :=
  match s.round? ctx t with
  | none => s
  | some r =>
    let here := fun (w : WaitFrame) => Frame.header w.bytes == x.header
    if !r.intake.secretQueue.any here then s
    else
      let s := s.updRound ctx t fun r =>
        { r with intake := { r.intake with secretQueue := r.intake.secretQueue.filter fun w => !here w } }
      if x.reservedSet then s.reject ctx x.record 0x01100004 x.header
      else s.withRoundKey r 0 (some masterAu)
        (fun s => if Frame.kind x.header = kShare then s.failSecret ctx t (Frame.slot x.header) else s)
        fun _ => s.updRound ctx t fun r => r.storeSecret x

/-- SECRETIN: the staged frames of the secret queue are decrypted and written to the round's secret store (R132, R163). -/
def execSecretin (cluster : Nat) (s : State) : Host.Outcome State Fault Refusal :=
  .next (s.runSpan cluster 0x06 fun s _ sp =>
    let bank := (s.cluster cluster).banks.find? fun b => b.entry == sp.lead && b.ctx == sp.ctx && b.secret
    let s := s.updCluster cluster fun c => { c with banks := c.banks.filter fun b => b.entry != sp.lead }
    match bank with
    | none => s
    | some b => (b.buffers.filterMap id).foldl (fun s x => s.takeSecret sp.ctx sp.desc.cohort x) s)

-- Keystreams (R169, R170)

/-- PRG(s, t): 65,536 bytes in the template's keystream mode; domain 1 self seed, 2 pairwise seed. -/
def keystream (prg : Nat) (seed : Bytes) (tile domain : Nat) : Bytes :=
  let pre := beBytes 4 tile ++ beBytes 2 domain
  match prg with
  | 1 => aesCtr (seed.take 16) (pre ++ zeros 10) 65536
  | 2 => aesCtr seed (pre ++ zeros 10) 65536
  | _ => chacha20 seed (pre ++ zeros 6) 0 65536

-- The field of Shamir shares (R172)

/-- Product in GF(2^128) under the convention of SP 800-38D. -/
def fieldMul (a b : BitVec 128) : BitVec 128 := ghashMul a 128 b 0
/-- The one of the field: the leftmost bit is the coefficient of x^0. -/
def fieldOne : BitVec 128 := 1#128 <<< 127
/-- Inverse: the product of x^(2^i) for i from 1 to 127. -/
def fieldInvFrom : Nat → BitVec 128 → BitVec 128 → BitVec 128
  | 0, _, acc => acc
  | n + 1, x, acc => let x := fieldMul x x; fieldInvFrom n x (fieldMul acc x)
def fieldInv (x : BitVec 128) : BitVec 128 := fieldInvFrom 127 x fieldOne
def fieldOf (b : Bytes) : BitVec 128 := BitVec.ofNat 128 (beNat (b.take 16))

/-- The value at `x` of the polynomial through the points. -/
def interpolate (pts : List (BitVec 128 × BitVec 128)) (x : BitVec 128) : BitVec 128 :=
  pts.foldl (fun acc p =>
    let l := (pts.filter fun m => m.1 != p.1).foldl
      (fun l m => fieldMul l (fieldMul (x ^^^ m.1) (fieldInv (p.1 ^^^ m.1)))) fieldOne
    acc ^^^ fieldMul l p.2) 0

/-- Reconstruction of a secret from its shares in ascending holder order: the secret when it becomes HELD (R173). -/
def reconstruct (threshold : Nat) (shares : List (Nat × Bytes)) : Option Bytes :=
  let half := fun (u : Nat) => shares.map fun s => (BitVec.ofNat 128 (s.1 + 1), fieldOf (s.2.drop (16 * u)))
  let first := fun u => (half u).take threshold
  let further := (shares.drop threshold).zipIdx
  let lies := fun (i : Nat) => [0, 1].all fun u =>
    match (half u)[threshold + i]? with
    | some p => interpolate (first u) p.1 == p.2
    | none => false
  if shares.length < threshold then none
  else if further.isEmpty || further.any (fun x => lies x.2) then
    some ([0, 1].flatMap fun u => beBytes 16 (interpolate (first u) 0).toNat)
  else none

-- Items

/-- Consume up to `n` items of a list. -/
def Round.takeItems (r : Round) (position : Nat) (kind : ListKind) (n : Nat) : List Item × Round :=
  match r.list? position kind with
  | none => ([], r)
  | some l =>
    let items := (l.items.drop l.consumed).take n
    let lists := updIf r.mask.lists (fun x => x.position == position && x.kind == kind)
      fun x => { x with consumed := x.consumed + items.length }
    (items, { r with mask := { r.mask with lists := lists } })

/-- Order of R178: residency group, tile, dropped slot, slot; a seed list's base items come first. -/
def Item.key (group : Nat) (x : Item) : List Nat := [if x.kind = 4 then 0 else 1, group, x.tile, x.peer, x.slot]

/-- Lexicographic comparison. -/
def lexLt : List Nat → List Nat → Bool
  | a :: l, b :: m => decide (a < b) || (a == b && lexLt l m)
  | _, _ => false

/-- The item's place in its list lies after its predecessor's. -/
def Round.inOrder (r : Round) (im : PlanImage) (t position : Nat) (kind : ListKind) (x : Item) : Bool :=
  let grp := fun (k : Nat) => (((im.unmaskSets t position).find? fun y => y.2 == k).map Prod.fst).getD 0
  match r.mask.lastItem.find? fun l => l.1 == position && l.2.1 == kind with
  | none => true
  | some l => lexLt (l.2.2.key (grp l.2.2.tile)) (x.key (grp x.tile))

def Round.noteItem (r : Round) (position : Nat) (kind : ListKind) (x : Item) : Round :=
  let rest := r.mask.lastItem.filter fun l => !(l.1 == position && l.2.1 == kind)
  { r with mask := { r.mask with lastItem := (position, kind, x) :: rest } }

/-- The tests of R180 that every list shares, after `own`, the condition of the item's kind: the code of the refusal, 0 if
none. -/
def Round.refusal (r : Round) (im : PlanImage) (t position : Nat) (kind : ListKind) (kindOk own : Bool) (x : Item) :
    Nat :=
  let mine := (im.unmaskSets t position).any fun y => y.2 == x.tile
  if !kindOk || !own || (x.kind != 4 && !mine) then 0x04120020
  else if x.kind != 4 && (r.set x.tile).unmask == 1 then 0x04120020
  else if !r.inOrder im t position kind x then 0x04120021
  else 0

/-- Run the items of one execution in order: a NULL item does nothing, a refused one makes its tiles VOID (unless FOLDED)
and contributes nothing, an item of a VOID tile contributes nothing. `marks` names the tiles that a refusal marks. The
secret of an item is unsealed under the store key for `master`; where that use is refused the item contributes nothing and
`lost` is the recovery of its secret (R161, R348). -/
def State.runItems (s : State) (k ctx t position master : Nat) (kind : ListKind) (test : Round → Item → Nat)
    (marks : Item → List Nat) (lost : Item → State → State) (add : Round → Item → Round) (items : List Item) : State :=
  items.foldl (fun s x =>
    if x.kind = 0 then s
    else match s.round? ctx t with
      | none => s
      | some r =>
        let code := test r x
        let s := s.updRound ctx t fun r => r.noteItem position kind x
        if code ≠ 0 then
          let s := s.updRound ctx t fun r => (marks x).foldl (fun r j => r.voidSet j 2) r
          s.record code (srcCluster k) (some ctx) (leBytes 4 r.cohortId ++ leBytes 4 x.tile)
        else if x.kind ≠ 4 ∧ (r.set x.tile).unmask = 2 then s
        else s.withRoundKey r 0 (some master) (lost x) fun _ => s.updRound ctx t fun r => add r x) s

/-- Add a signed keystream into the mask buffer of a tile at its unmasking cluster. -/
def Round.addMask (r : Round) (im : PlanImage) (t position tile : Nat) (add : Bool) (elems : List Nat) : Round :=
  let q := im.modulus (im.template t) 0
  r.updOwner position tile fun o =>
    { o with active := [if add then addTile q ((o.active[0]?).getD []) elems
                        else subTile q (if ((o.active[0]?).getD []).isEmpty then elems.map fun _ => 0
                                        else (o.active[0]?).getD []) elems] }

/-- SELFMASK: eight SELF items of one tile, one per core; each subtracts PRG(s_i, t) (R51, R179, R180). -/
def execSelfmask (cluster : Nat) (s : State) : Host.Outcome State Fault Refusal :=
  .next (s.runSpan cluster 0x03 fun s p sp =>
    let t := sp.desc.cohort
    match s.image sp.ctx, s.round? sp.ctx t with
    | some im, some r =>
      let tm := im.template t
      let (items, r') := r.takeItems p .self 8
      let s := s.updRound sp.ctx t fun _ => r'
      s.runItems cluster sp.ctx t p masterKs .self
        (fun r x => r.refusal im t p .self (x.kind == 1)
          (r.intake.ledger.contains (x.slot, x.tile) && (r.mask.secrets.getD x.slot .new).stateSelf == 3) x)
        (fun x => [x.tile]) (fun x s => s.failSecret sp.ctx t x.slot)
        (fun r x => r.addMask im t p x.tile false
          (elemsOf tm.format (keystream tm.prg (r.mask.secrets.getD x.slot .new).selfSeed x.tile 1)))
        items
    | _, _ => s)

/-- PAIRCORR: eight PAIR items of one tile; each subtracts σ_ij · PRG(s_ij, t) (R51, R179, R180). -/
def execPaircorr (cluster : Nat) (s : State) : Host.Outcome State Fault Refusal :=
  .next (s.runSpan cluster 0x04 fun s p sp =>
    let t := sp.desc.cohort
    match s.image sp.ctx, s.round? sp.ctx t with
    | some im, some r =>
      let tm := im.template t
      let offs := tm.offsets
      let (items, r') := r.takeItems p .pair 8
      let s := s.updRound sp.ctx t fun _ => r'
      s.runItems cluster sp.ctx t p masterKs .pair
        (fun r x => r.refusal im t p .pair (x.kind == 2)
          (!(r.intake.ledger.contains (x.peer, x.tile)) && r.intake.ledger.contains (x.slot, x.tile) &&
            isNeighbour tm offs x.slot x.peer && x.flag == decide (x.peer < x.slot) && (r.pair? x.peer x.slot).isSome) x)
        (fun x => [x.tile]) (fun x s => s.voidSets sp.ctx t [x.tile])
        (fun r x => r.addMask im t p x.tile x.flag
          (elemsOf tm.format (keystream tm.prg (((r.pair? x.peer x.slot).map PairRec.seed).getD []) x.tile 2)))
        items
    | _, _ => s)

-- Reconstruction (R173, R176, R177)

/-- Shares of a secret in ascending holder order. -/
def Round.sharesOf (r : Round) (i sub : Nat) : List (Nat × Bytes) :=
  (((r.mask.shares.filter fun x => x.owner == i && x.sub == sub).map fun x => (x.holder, x.value))).mergeSort
    fun a b => decide (a.1 ≤ b.1)

/-- Survivors whose pairwise seed with `j` is needed (R177). -/
def Round.recomputeFor (r : Round) (t : Template) (j : Nat) : List Nat :=
  (neighbours t t.offsets j).filter fun i =>
    (List.range t.sets).any fun k => !(r.intake.ledger.contains (j, k)) && r.intake.ledger.contains (i, k)

/-- One SHAMIR item: the secret becomes HELD, or FAILED. The tiles that need a FAILED one become VOID: in UNMASKING at
once, in a CLOSED round at the end of its period (R54, R100). -/
def State.shamirItem (s : State) (k ctx t : Nat) (tm : Template) (x : Item) : State :=
  match s.round? ctx t with
  | none => s
  | some r =>
    let rec_ := r.mask.secrets.getD x.slot .new
    let st := if x.flag then rec_.stateKey else rec_.stateSelf
    if x.kind ≠ 3 ∨ st ≠ 2 then s.record 0x04120024 (srcCluster k) (some ctx) (leBytes 4 r.cohortId)
    else s.withRoundKey r 0 (some masterAu) (fun s => s.failSecret ctx t x.slot) fun _ =>
      match reconstruct tm.threshold (r.sharesOf x.slot (if x.flag then 2 else 1)) with
      | some v =>
        s.updRound ctx t fun r =>
          let more := if x.flag then (r.recomputeFor tm x.slot).map fun i => (x.slot, i) else []
          { r with mask := { r.mask with
              recompute := r.mask.recompute ++ more
              secrets := updAt r.mask.secrets x.slot fun q =>
                if x.flag then { q with stateKey := 3, privateKey := v } else { q with stateSelf := 3, selfSeed := v } } }
      | none =>
        let s := s.updRound ctx t fun r => { r with mask := { r.mask with
          secrets := updAt r.mask.secrets x.slot fun q =>
            if x.flag then { q with stateKey := 4 } else { q with stateSelf := 4 } } }
        let tiles := if r.state ≠ .unmasking then []
          else if x.flag then r.needsKey tm tm.offsets x.slot else r.needsSelf tm x.slot
        s.voidTiles ctx t 1 0x05120011 (srcCluster k) tiles []

/-- SHAMIR: each core reconstructs one READY secret (R173). -/
def execShamir (cluster : Nat) (s : State) : Host.Outcome State Fault Refusal :=
  .next (s.runSpan cluster 0x05 fun s p sp =>
    let t := sp.desc.cohort
    match s.image sp.ctx, s.round? sp.ctx t with
    | some im, some r =>
      let (items, r') := r.takeItems p .shamir 8
      let s := s.updRound sp.ctx t fun _ => r'
      (items.filter fun x => x.kind != 0).foldl (fun s x => s.shamirItem cluster sp.ctx t (im.template t) x) s
    | _, _ => s)

/-- The pairwise seed s_ij (R176). -/
def pairwiseSeed (sk pk : Bytes) (cohort round i j : Nat) : Bytes :=
  kmac256 (x25519 sk pk)
    (ascii "TA32 pair" ++ beBytes 4 cohort ++ beBytes 4 round ++ beBytes 4 (min i j) ++ beBytes 4 (max i j)) 32 (ascii "TA32")

/-- Put a record into the list sorted by (j, i). -/
def putPairRec (x : PairRec) : List PairRec → List PairRec
  | [] => [x]
  | y :: l => if x.dropped < y.dropped ∨ (x.dropped = y.dropped ∧ x.survivor < y.survivor) then x :: y :: l
    else y :: putPairRec x l

/-- PAIRWISE_RECOMPUTE: an engine ends the recomputation of s_ij; a fault in the engine discards the result, and the pair is
computed again (R177). -/
def execPairwiseRecompute (ctx cohort dropped survivor : Nat) (engineFault : Bool) (s : State) :
    Host.Outcome State Fault Refusal :=
  match s.round? ctx cohort with
  | none => .next s
  | some r =>
    if !r.mask.recompute.contains (dropped, survivor) || (r.state != .closed && r.state != .unmasking) then .next s
    else if engineFault then .next (s.record 0x02120022 s.srcLeader (some ctx) (leBytes 4 r.cohortId))
    else .next (s.withRoundKey r 0 none (fun s => s.failSecret ctx cohort dropped) fun _ =>
      let sk := (r.mask.secrets.getD dropped .new).privateKey
      let pk := (r.mask.secrets.getD survivor .new).publicKey
      let rec_ : PairRec := ⟨dropped, survivor, pairwiseSeed sk pk r.cohortId r.number survivor dropped⟩
      s.updRound ctx cohort fun r => { r with mask := { r.mask with
        recompute := r.mask.recompute.filter fun x => decide (x ≠ (dropped, survivor))
        pairs := if (r.mask.secrets.getD dropped .new).stateKey = 3 then putPairRec rec_ r.mask.pairs
          else r.mask.pairs } })

-- Sum-seed mode (R184 to R188)

/-- q = 2^(b+r). -/
def Template.seedMod (t : Template) : Nat := 2 ^ (fmtBits t.format + t.lwrR)

/-- Add a seed vector into an association of sums. -/
def addSeed (q key : Nat) (v : List Nat) (l : List (Nat × List Nat)) : List (Nat × List Nat) :=
  assocSet l key (addTile q ((assocGet l key).getD []) v)

/-- SEEDACC: the seed vectors of one execution are added into the base sum or one tile's partial sum (R187). -/
def execSeedacc (cluster : Nat) (s : State) : Host.Outcome State Fault Refusal :=
  .next (s.runSpan cluster 0x07 fun s p sp =>
    let t := sp.desc.cohort
    match s.image sp.ctx, s.round? sp.ctx t with
    | some im, some r =>
      let tm := im.template t
      let sets := (im.unmaskSets t p).map Prod.snd
      let (items, r') := r.takeItems p .seedAcc (seedItems tm)
      let s := s.updRound sp.ctx t fun _ => r'
      let full := fun (r : Round) (i : Nat) => sets.all fun k => r.intake.ledger.contains (i, k)
      let marks := fun (x : Item) => if x.kind = 4 || !sets.contains x.tile then sets else [x.tile]
      let seed := fun (r : Round) (i : Nat) => (assocGet r.mask.seeds i).getD []
      s.runItems cluster sp.ctx t p masterAu .seedAcc
        (fun r x => r.refusal im t p .seedAcc (x.kind == 4 || x.kind == 5)
          (if x.kind = 4 then full r x.slot else r.intake.ledger.contains (x.slot, x.tile) && !(full r x.slot)) x)
        marks (fun x s => s.voidSets sp.ctx t (marks x))
        (fun r x =>
          if x.kind = 4 then { r with mask := { r.mask with baseSums := addSeed tm.seedMod p (seed r x.slot) r.mask.baseSums } }
          else { r with mask := { r.mask with partSums := addSeed tm.seedMod x.tile (seed r x.slot) r.mask.partSums } })
        items
    | _, _ => s)

/-- Row elements of A_t from the stream of its unit: consecutive integers of w_A bytes, their low b + r bits (R185). -/
def matrixStream (t : Template) (tile u : Nat) : List Nat :=
  let w := ceilDiv (fmtBits t.format + t.lwrR) 8
  let n := fmtElems t.format / 2 * t.lwrLambda
  let b := shake128 (ascii "TA32 lwr" ++ t.publicSeed ++ beBytes 4 tile ++ beBytes 1 u) (n * w)
  (chunks w b.length b).map fun x => beNat x % t.seedMod

/-- Rounded element of M_t from a row and a seed vector. -/
def lwrElement (t : Template) (row s : List Nat) : Nat :=
  let z := (List.zipWith (· * ·) row s).sum % t.seedMod
  (z + 2 ^ (t.lwrR - 1)) / 2 ^ t.lwrR % 2 ^ fmtBits t.format

/-- M_t(s) (R185): row e comes from the stream of unit e mod 2. -/
def lwrMaskTile (t : Template) (tile : Nat) (s : List Nat) : List Nat :=
  let rows := fun u => let m := matrixStream t tile u; chunks t.lwrLambda m.length m
  let r0 := rows 0
  let r1 := rows 1
  (List.range (fmtElems t.format)).map fun e => lwrElement t ((if e % 2 = 0 then r0 else r1).getD (e / 2) []) s

/-- LWRMASK: each core subtracts M_t(σ_t) into its own item's tile (R188). -/
def execLwrmask (cluster : Nat) (s : State) : Host.Outcome State Fault Refusal :=
  .next (s.runSpan cluster 0x08 fun s p sp =>
    let t := sp.desc.cohort
    match s.image sp.ctx, s.round? sp.ctx t with
    | some im, some r =>
      let tm := im.template t
      let (items, r') := r.takeItems p .lwr 8
      let s := s.updRound sp.ctx t fun _ => r'
      s.runItems cluster sp.ctx t p masterRg .lwr
        (fun r x => r.refusal im t p .lwr (x.kind == 6) true x)
        (fun x => [x.tile]) (fun x s => s.voidSets sp.ctx t [x.tile])
        (fun r x =>
          let b := (assocGet r.mask.baseSums p).getD (List.replicate tm.lwrLambda 0)
          let pt := (assocGet r.mask.partSums x.tile).getD []
          let sigma := addTile tm.seedMod b pt
          r.addMask im t p x.tile false (lwrMaskTile tm x.tile sigma))
        items
    | _, _ => s)

-- The fold (R182)

/-- Every removal list of a position is built and consumed up to and including a group. -/
def Round.groupComplete (r : Round) (im : PlanImage) (t position g : Nat) : Bool :=
  let tm := im.template t
  let kinds : List ListKind := if tm.isPair then [.self, .pair] else [.seedAcc, .lwr]
  let sets := im.unmaskSets t position
  kinds.all fun k => match r.list? position k with
    | none => false
    | some l => l.built && (l.items.drop l.consumed).all fun x =>
        k != .seedAcc && (((sets.find? fun y => y.2 == x.tile).map fun y => decide (g < y.1)).getD true)

/-- The lowest group of a position that holds a MASKED tile, with its tile sets. -/
def Round.foldGroup (r : Round) (im : PlanImage) (t position : Nat) : Option (Nat × List Nat) :=
  let sets := im.unmaskSets t position
  (sets.find? fun x => (r.set x.2).unmask == 0).map fun x => (x.1, (sets.filter fun y => y.1 == x.1).map Prod.snd)

/-- A fold of a tile set is PREPARED. -/
def Round.folding (r : Round) (position k : Nat) : Bool :=
  (r.owner? position k).any fun o => o.commit.fold && o.commit.state == 1

/-- The buffers of one tile swap for its fold, with a commit record of ADDED 0; those of a VOID tile are zeroed (R182). -/
def Round.foldSwapSet (r : Round) (cluster beat position g k : Nat) : Round :=
  if (r.set k).unmask ≠ 0 then r.updOwner position k fun o => { o with active := [], shadow := [] }
  else
    let rec_ : CommitRec :=
      { seq := r.nextSeq, tile := k, cluster := srcCluster cluster, state := 1, newSel := 1 - (r.set k).sel,
        markFrom := 0, cut := 0, added := 0, nextGroup := g + 1, fold := true, beat := beat, entry := 0 }
    ({ r with nextSeq := r.nextSeq + 1 }).updOwner position k fun o => o.swapped rec_

/-- At the first beat boundary after its completion, the lowest group that still has to be folded swaps its buffers
(R182). -/
def Round.foldSwap (r : Round) (im : PlanImage) (t cluster beat position : Nat) : Round :=
  match r.foldGroup im t position with
  | none => r
  | some (g, ks) =>
    if r.state ≠ .unmasking ∨ (im.template t).isRing ∨ (im.template t).isLeaf ∨ ks.any (r.folding position) ∨
        !(r.groupComplete im t position g) then r
    else ks.foldl (fun r k => r.foldSwapSet cluster beat position g k) r

/-- The drain of a position's folds: commit point, FOLD_SEQ and STATE FOLDED, buffers zeroed; a fold whose routes a down
link cuts waits (R143, R182, R446). -/
def Round.foldDrain (r : Round) (im : PlanImage) (t position : Nat) (cut : Route → Bool) : Round :=
  let mine := r.owners.filter fun o =>
    o.position == position && o.commit.state == 1 && o.commit.fold && !(r.set o.set).lock && !((im.commitRoutes o).any cut)
  mine.foldl (fun r o =>
    (r.commitPoint (im.modulus (im.template t)) 1 position o.set).foldApplied position o.set o.commit.seq) r

/-- Every beat boundary: complete groups swap for their folds (R182). -/
def State.foldSwaps (s : State) : State :=
  { s with rounds := s.rounds.map fun (r : Round) =>
      match s.image r.ctx with
      | none => r
      | some im => if r.state ≠ .unmasking then r
        else (im.unmaskers r.template).foldl (fun r p =>
          let k := s.clusterAt p
          if (s.cluster k).failed then r else r.foldSwap im r.template k s.hal.beatCount p) r }

/-- FOLD: the buffers of a complete group swap, unless a beat boundary has swapped them, and the drain folds each MASKED
tile (R182; log entry 89). A failed cluster folds nothing (R95). -/
def execFold (cluster ctx cohort : Nat) (s : State) : Host.Outcome State Fault Refusal :=
  match (s.cluster cluster).position, s.image ctx with
  | some p, some im =>
    if (s.cluster cluster).failed then .next s
    else .next (s.updRound ctx cohort fun r =>
      (r.foldSwap im cohort cluster s.hal.beatCount p).foldDrain im cohort p s.routeDown)
  | _, _ => .next s

end Sys2Proof.Machine
end

