-- ==== Sys2Proof/Machine/Ring.lean ====
section
/-!
DEFINITION. Machine/Ring.lean: ring sequences and decryption (R190 to R235): CTADD, PTMUL, NTT, INTT, TENSOR, KEYSW,
ROTATE, RELIN, MODRED, C1OUT, RING_STAGE_IN_OUT and DSCOMB.
-/
namespace Sys2Proof.Machine

-- Ciphertexts as limbs, components and residues (R192)

/-- Regroup a committed copy: accumulator tiles of 8,192 residues, limb-major. -/
def limbsOf (t : Template) (copy : List (List Nat)) : List (List (List Nat)) :=
  let n := t.degreeN
  let flat := (List.range (max 1 t.setTiles)).flatMap fun m =>
    let l := copy.getD m []
    l ++ List.replicate (8192 - l.length) 0
  let comps := chunks n flat.length flat
  (List.range t.limbs).map fun m => [comps.getD (2 * m) [], comps.getD (2 * m + 1) []]

/-- Component `c` of every limb. -/
def component (l : List (List (List Nat))) (c : Nat) : List (List Nat) := l.map fun x => x.getD c []

/-- Put components together again, limb by limb. -/
def joinComponents (cs : List (List (List Nat))) : List (List (List Nat)) :=
  (List.range ((cs.head?.map List.length).getD 0)).map fun m => cs.map fun c => c.getD m []

-- Evaluation keys (R215 to R218)

/-- Region that a descriptor's EVAL_KEY names. -/
def PlanImage.evalRegion (im : PlanImage) (d : Descriptor) : Region := im.regions.getD d.evalKey ⟨0, 0, 0, 0, 0, 0⟩

/-- CHAIN_ID of a chain: its 64 prime positions, little-endian (R215). -/
def chainId (c : Chain) : Nat :=
  let l := c.data ++ c.special
  keyIdOf (sha384 ((List.range 64).flatMap fun i => leBytes 8 (l.getD i 0)))

/-- Fields of a key header. -/
structure KeyHeader where
  bytes : Bytes
  kind : Nat
  logN : Nat
  keyId : Nat
  source : Nat
  target : Nat
  chain : Nat
  levelMin : Nat
  levelMax : Nat
  dnum : Nat
  special : Nat
  limbs : Nat
  galois : Nat
  bodyOffset : Nat
  bodyLength : Nat
  digest : Bytes
  deriving DecidableEq, Repr

/-- Fields of the 128 bytes that a slot start latched (R215, R216). -/
def readKeyHeader (b : Bytes) : KeyHeader :=
  { bytes := b, kind := leAt b 5 1, logN := leAt b 6 1, keyId := leAt b 8 8, source := leAt b 16 8,
    target := leAt b 24 8, chain := leAt b 32 8, levelMin := leAt b 40 1, levelMax := leAt b 41 1, dnum := leAt b 42 1,
    special := leAt b 43 1, limbs := leAt b 44 1, galois := leAt b 48 4, bodyOffset := leAt b 56 8,
    bodyLength := leAt b 64 8, digest := slice b 72 48 }

/-- Entries of the leaf table. -/
def Template.leaves (t : Template) : Nat := t.dnum * 2 * (t.limbs + t.special)

/-- The key belongs to the operation (R216). -/
def KeyHeader.belongs (h : KeyHeader) (im : PlanImage) (t : Template) (d : Descriptor) (wh : CtHeader) (reg : Region) :
    Bool :=
  let b := h.bytes
  let kindOf := if d.opcode = 0x15 then 3 else if d.opcode = 0x16 then 2 else 1
  let agg := keyIdOf im.binding.aggKeyDigest
  slice b 0 4 == ascii "TLEK" && leAt b 4 1 == 1 && zeroAt b 7 1 && zeroAt b 45 3 && zeroAt b 52 4 && zeroAt b 120 4 &&
  leAt b 124 4 == (crc32 (b.take 124)).toNat && h.keyId != 0 && h.keyId == leAt h.digest 0 8 && h.kind == kindOf &&
  h.logN == t.logN && h.limbs == t.limbs && h.special == t.special && h.dnum == t.dnum &&
  h.chain == chainId (im.chainOf t) && decide (h.levelMin ≤ wh.level ∧ wh.level ≤ h.levelMax ∧ h.levelMax ≤ t.limbs) &&
  (if d.opcode = 0x15 then h.source == wh.keyId && h.target == agg && agg != 0 && wh.keyId != 0
   else h.source == wh.keyId && h.target == wh.keyId && wh.keyId != 0) &&
  (if d.opcode = 0x16 then h.galois == d.param1 else h.galois == 0) &&
  h.bodyLength == t.leaves * 8 * t.degreeN && h.bodyOffset % 65536 == 0 &&
  decide (128 + 48 * t.leaves ≤ h.bodyOffset ∧ h.bodyOffset + h.bodyLength ≤ reg.length)

/-- Entry of digit j, component c and stored limb m of a key body, as bytes. -/
def State.keyEntry (s : State) (ctx : Nat) (t : Template) (reg : Region) (h : KeyHeader) (j c m : Nat) : Bytes :=
  s.readMem ctx (reg.base + h.bodyOffset + ((j * 2 + c) * (t.limbs + t.special) + m) * 8 * t.degreeN) (8 * t.degreeN)

/-- Stored limbs that an operation at a level streams: data limbs below it, then the special limbs (R206). -/
def streamedLimbs (t : Template) (level : Nat) : List Nat :=
  List.range level ++ (List.range t.special).map (· + t.limbs)

/-- The digest check at stream end (R218). -/
def State.keyDigestOk (s : State) (ctx : Nat) (t : Template) (reg : Region) (h : KeyHeader) (level digits : Nat) : Bool :=
  let leafTable := s.readMem ctx (reg.base + 128) (48 * t.leaves)
  sha384 leafTable == h.digest &&
  (List.range digits).all fun j => [0, 1].all fun c => (streamedLimbs t level).all fun m =>
    sha384 (s.keyEntry ctx t reg h j c m) == slice leafTable (48 * ((j * 2 + c) * (t.limbs + t.special) + m)) 48

/-- Key entries as residues, by digit, component and limb of the level. -/
def State.keyPolys (s : State) (ctx : Nat) (t : Template) (reg : Region) (h : KeyHeader) (level : Nat) (j c m : Nat) :
    List Nat :=
  let b := s.keyEntry ctx t reg h j c ((streamedLimbs t level).getD m 0)
  (chunks 8 b.length b).map leNat

-- Noise and the slot-start check (R219 to R225)

def PlanImage.growth (im : PlanImage) (op logN level : Nat) : Nat :=
  ((im.noise.find? fun e => e.opcode == op && e.logN == logN && e.level == level).map NoiseEntry.growth).getD 0

def PlanImage.noiseLimit (im : PlanImage) (t : Template) (level : Nat) : Nat :=
  noiseCap (im.chainOf t).data t.plaintextMod level - (if im.noiseMargin = 0 then 512 else im.noiseMargin)

/-- Output level, form and noise that an opcode would give. -/
def outHeader (im : PlanImage) (t : Template) (op : Nat) (agg wh : CtHeader) : CtHeader :=
  let level := if op = 0x18 then wh.level - 1 else wh.level
  let form := if op = 0x12 then 0 else if op = 0x13 then 1 else if op = 0x14 then 2 else if op = 0x17 then 0 else wh.form
  let drop := log2Down ((im.chainOf t).data.getD (wh.level - 1) 1)
  { wh with level := level, form := form,
            noise := noiseOut (noiseRule op) wh.noise agg.noise (im.growth op wh.logN wh.level) drop }

/-- FORM that an opcode accepts (R203, R205). -/
def formAccepted (op form : Nat) : Bool :=
  match op with
  | 0x12 => form == 1
  | 0x19 => form == 1
  | 0x17 => form == 2
  | 0x1A => form == 1
  | _ => form == 0

/-- The verdict of R219 on an operation: status, cause and code; (0, 0, 0) runs. Key ID 0 fails every binding check (R214). -/
def slotStart (im : PlanImage) (t : Template) (d : Descriptor) (agg wh : CtHeader) (keyOk : Bool) : Nat × Nat × Nat :=
  let op := d.opcode
  let second := op = 0x10 ∨ op = 0x14
  let out := outHeader im t op agg wh
  if wh.status = 2 ∨ (second ∧ agg.status = 2) then (2, wh.cause, 0)
  else if wh.status = 1 ∨ (second ∧ agg.status = 1) then (1, wh.cause, 0)
  else if wh.logN ≠ d.param0 % 256 ∨ wh.level ≠ d.param0 / 256 % 256 ∨ wh.chain ≠ t.chain ∨
      wh.plaintextMod ≠ t.plaintextMod ∨ !(formAccepted op wh.form) ∨
      (second ∧ (agg.level ≠ t.limbs ∨ agg.form ≠ 0 ∨ agg.keyId ≠ wh.keyId ∨ agg.keyId = 0)) then (2, 1, 0x05130020)
  else if !keyOk then (2, 2, 0x04130021)
  else if im.noiseLimit t out.level < out.noise then (1, if op = 0x1A then 17 else 16, 0x05130024)
  else (0, 0, 0)

-- Working copies

/-- Write a VOID or SPENT code once per ring tile and descriptor entry (R219). -/
def State.reportRing (s : State) (k ctx t n entry code : Nat) (tm : Template) : State :=
  match (s.round? ctx t).bind fun r => r.ringTile n with
  | none => s
  | some x =>
    if code = 0 ∨ x.reported.contains entry then s
    else
      let s := s.updRound ctx t fun r => r.updTile n fun x => { x with reported := entry :: x.reported }
      s.record code (srcCluster k) (some ctx) (leBytes 4 tm.cohortId ++ leBytes 4 (n * max 1 tm.setTiles))

/-- Parameters of the working copy's level. -/
def PlanImage.ringParams (im : PlanImage) (t : Template) (level : Nat) : RingParams :=
  let c := im.chainOf t
  { n := t.logN, data := c.data.take level, special := c.special, alpha := ceilDiv t.limbs (max 1 t.dnum),
    t := t.plaintextMod }

/-- The key header latched at the slot start of a span (R216, R235). -/
def RunningSpan.keyHeader (sp : RunningSpan) : KeyHeader := readKeyHeader sp.key

/-- One descriptor of a repetition: the check of R219, the operation `run` on the working copy (none: the digest of its
key failed, and the contents have no meaning: a free value, R218, log entry 86), and the header's new values. -/
def State.ringStep (s : State) (k op : Nat) (usesKey : Bool)
    (run : State → Nat → PlanImage → Template → Descriptor → KeyHeader → WorkingCopy →
      Option (List (List (List Nat)))) : State :=
  s.runSpan k op fun s p sp =>
    let t := sp.desc.cohort
    let d := sp.desc
    match s.image sp.ctx, s.round? sp.ctx t with
    | some im, some r =>
      match r.working? p d.cursor with
      | none => s
      | some w =>
        let tm := im.template t
        match r.ringTile w.tile with
        | none => s
        | some x =>
          let reg := im.evalRegion d
          let h := sp.keyHeader
          let keyOk := !usesKey || h.belongs im tm d w.header reg
          let v := slotStart im tm d x.agg w.header keyOk
          let out := outHeader im tm op x.agg w.header
          let settle := fun (s : State) (st cause code : Nat) (limbs : List (List (List Nat))) (key : Nat) =>
            let hd := { out with status := st, cause := cause, causeOpcode := if code = 0 then out.causeOpcode else op, keyId := key }
            let s := s.updRound sp.ctx t fun r => r.updWorking p d.cursor fun w =>
              { w with header := hd, limbs := limbs, step := w.step + 1 }
            s.reportRing k sp.ctx t w.tile sp.lead code tm
          if v.1 ≠ 0 then settle s v.1 v.2.1 v.2.2 w.limbs w.header.keyId
          else
            let key := if op = 0x15 then h.target else w.header.keyId
            match run s sp.ctx im tm d h w with
            | some l => settle s 0 0 0 l key
            | none => settle s 2 3 0x04130023 (Config.spoiledCopy s.hal.beatCount w.limbs) key
    | _, _ => s

/-- Apply an operation limb by limb: prime, components. -/
def perLimb (primes : List Nat) (l : List (List (List Nat))) (f : Nat → List (List Nat) → List (List Nat)) :
    List (List (List Nat)) :=
  (List.zip primes l).map fun (q, cs) => f q cs

/-- The committed copy of a ring tile, as limbs. -/
def State.aggLimbs (s : State) (ctx t n : Nat) (tm : Template) : List (List (List Nat)) :=
  limbsOf tm (((s.round? ctx t).map fun r => (r.set n).copy).getD [])

/-- CTADD: the committed aggregate is added component by component (R203). -/
def execCtadd (cluster : Nat) (s : State) : Host.Outcome State Fault Refusal :=
  .next (s.ringStep cluster 0x10 false fun s ctx im t d _ w =>
    let a := s.aggLimbs ctx d.cohort w.tile t
    some ((List.zip (im.chainOf t).data (List.zip w.limbs a)).map fun (q, x, y) => List.zipWith (addPoly q) x y))

/-- PTMUL: the working copy is multiplied by a format 0x04 operand of the EVAL_KEY region (R203). -/
def execPtmul (cluster : Nat) (s : State) : Host.Outcome State Fault Refusal :=
  .next (s.ringStep cluster 0x11 false fun s ctx im t d _ w =>
    let reg := im.evalRegion d
    let n := t.degreeN
    some (((List.zip (im.chainOf t).data w.limbs).zipIdx).map fun (z, m) =>
      let b := s.readMem ctx (reg.base + (w.tile * t.limbs + m) * 8 * n) (8 * n)
      z.2.map fun c => mulPoly z.1 c ((chunks 8 b.length b).map leNat)))

/-- NTT: both components to NTT form (R197). -/
def execNtt (cluster : Nat) (s : State) : Host.Outcome State Fault Refusal :=
  .next (s.ringStep cluster 0x12 false fun _ _ im t _ _ w =>
    some (perLimb (im.chainOf t).data w.limbs fun q cs => cs.map (ntt q t.logN)))

/-- INTT: both components to coefficient form (R197). -/
def execIntt (cluster : Nat) (s : State) : Host.Outcome State Fault Refusal :=
  .next (s.ringStep cluster 0x13 false fun _ _ im t _ _ w =>
    some (perLimb (im.chainOf t).data w.limbs fun q cs => cs.map (intt q t.logN)))

/-- TENSOR: the product with the aggregate, three components (R203). -/
def execTensor (cluster : Nat) (s : State) : Host.Outcome State Fault Refusal :=
  .next (s.ringStep cluster 0x14 false fun s ctx im t d _ w =>
    let a := s.aggLimbs ctx d.cohort w.tile t
    some ((List.zip (im.chainOf t).data (List.zip w.limbs a)).map fun (q, x, y) =>
      let c := fun (l : List (List Nat)) i => l.getD i []
      [mulPoly q (c x 0) (c y 0), addPoly q (mulPoly q (c x 0) (c y 1)) (mulPoly q (c x 1) (c y 0)),
       mulPoly q (c x 1) (c y 1)]))

/-- Key-switch a polynomial of the working copy; none when the key's digest fails: the body and the leaf table are those
streamed now, the DIGEST is that read at slot start (R218, R235). -/
def State.switchPoly (s : State) (ctx : Nat) (im : PlanImage) (t : Template) (d : Descriptor) (h : KeyHeader)
    (level : Nat) (a : List (List Nat)) : Option (List (List Nat) × List (List Nat)) :=
  let reg := im.evalRegion d
  let p := im.ringParams t level
  if s.keyDigestOk ctx t reg h level p.digits then some (p.switch a (s.keyPolys ctx t reg h level)) else none

/-- Add two polynomials limb by limb. -/
def addLimbs (primes : List Nat) (a b : List (List Nat)) : List (List Nat) :=
  (List.zip primes (List.zip a b)).map fun (q, x, y) => addPoly q x y

/-- KEYSW: c1 is switched to the aggregation key (R207). -/
def execKeysw (cluster : Nat) (s : State) : Host.Outcome State Fault Refusal :=
  .next (s.ringStep cluster 0x15 true fun s ctx im t d h w =>
    (s.switchPoly ctx im t d h w.header.level (component w.limbs 1)).map fun ks =>
      joinComponents [addLimbs (im.chainOf t).data (component w.limbs 0) ks.1, ks.2])

/-- ROTATE: the automorphism σ_g, then the switch back (R204, R207). -/
def execRotate (cluster : Nat) (s : State) : Host.Outcome State Fault Refusal :=
  .next (s.ringStep cluster 0x16 true fun s ctx im t d h w =>
    let c0 := (component w.limbs 0).map (galois t.logN d.param1)
    let c1 := (component w.limbs 1).map (galois t.logN d.param1)
    (s.switchPoly ctx im t d h w.header.level c1).map fun ks =>
      joinComponents [addLimbs (im.chainOf t).data c0 ks.1, ks.2])

/-- RELIN: a three-component ciphertext becomes one of two (R207). -/
def execRelin (cluster : Nat) (s : State) : Host.Outcome State Fault Refusal :=
  .next (s.ringStep cluster 0x17 true fun s ctx im t d h w =>
    (s.switchPoly ctx im t d h w.header.level (component w.limbs 2)).map fun ks =>
      let q := (im.chainOf t).data
      joinComponents [addLimbs q (component w.limbs 0) ks.1, addLimbs q (component w.limbs 1) ks.2])

/-- MODRED: the top data prime is dropped (R208). -/
def execModred (cluster : Nat) (s : State) : Host.Outcome State Fault Refusal :=
  .next (s.ringStep cluster 0x18 false fun _ _ im t _ _ w =>
    let primes := (im.chainOf t).data.take w.header.level
    some (joinComponents [modReduce t.logN t.plaintextMod primes (component w.limbs 0),
      modReduce t.logN t.plaintextMod primes (component w.limbs 1)]))

-- Export (R227 to R229)

/-- C1 messages of a working copy at the export level: export tile index and message. -/
def Round.c1Messages (r : Round) (t : Template) (n level : Nat) (c1 : List (List Nat)) (key : Bytes) :
    List (Nat × Bytes) :=
  let residues := (c1.take level).flatten
  (List.range (exportTiles level t.degreeN)).map fun x =>
    let part := (residues.drop (8192 * x)).take 8192
    let blocks := exportBlocks level t.degreeN x
    let tile := n * max 1 t.setTiles + x
    (tile, exportMessage key
      (exportHeader 0x82 t.logN level r.cohortId r.number 0xFFFFFF tile blocks (4096 * blocks))
      (part.flatMap fun v => beBytes 8 v))

/-- C1OUT: c1 of the working copy is sealed under X_r into C1 messages, kept in the export area and sent to every member
whose session is stored; nothing is sealed for a VOID or SPENT input, outside CLOSED or under the export block (R228,
R229). -/
def execC1out (cluster : Nat) (s : State) : Host.Outcome State Fault Refusal :=
  let before := (s.cluster cluster).span
  let position := (s.cluster cluster).position.getD 0
  let s' := s.ringStep cluster 0x19 false fun _ _ _ _ _ _ w => some w.limbs
  match before with
  | none => .next s'
  | some sp =>
    let ctx := sp.ctx
    let t := sp.desc.cohort
    match s'.image ctx, s'.round? ctx t with
    | some im, some r =>
      match r.working? position sp.desc.cursor with
      | none => .next s'
      | some w =>
        let ran := !sp.done && (s'.cluster cluster).span.any RunningSpan.done
        if sp.desc.opcode ≠ 0x19 ∨ !ran ∨ sp.dummy ∨ w.header.status ≠ 0 ∨ r.state ≠ .closed ∨ r.ring.exportBlock then
          .next s'
        else if s.routeDown (im.route sp.desc.dstRoute) then
          .next (s.replayTile ctx t w.tile cluster 0x19
            (leBytes 4 r.cohortId ++ leBytes 4 (w.tile * max 1 (im.template t).setTiles)))
        else .next (s'.withRoundKey r 1 (some masterAu) (fun s => s.ringFault ctx t w.tile) fun key =>
          let msgs := r.c1Messages (im.template t) w.tile w.header.level (component w.limbs 1) key
          let fresh := msgs.filter fun m => !(r.ring.exports.any fun e => e.1 == m.1)
          let s' := s'.updRound ctx t fun r =>
            let r := r.updWorking position sp.desc.cursor fun w => { w with sealed := true }
            { r with ring := { r.ring with exports := r.ring.exports ++ fresh } }
          let members := r.intake.sessions.filter fun x => x.role == 1 && x.stored
          members.foldl (fun s x => msgs.foldl (fun s m => s.queueModuleMsg x.conn m.2) s) s')
    | _, _ => .next s'

-- Staging (R201)

/-- The CT_STORE region of a ring-tile cursor: the k-th such cursor of the cohort at a cluster uses the k-th CT_STORE
region of the cohort on the cluster's Canton (R201). -/
def PlanImage.ctStore (im : PlanImage) (t position cursor : Nat) : Option Region :=
  let cursors := ((im.block position).map Block.cursors).getD []
  let k := ((cursors.take cursor).filter fun c => c.kind == 3 && c.cohort == t).length
  ((im.regionsOf 5 t).filter fun g => g.die == positionCanton position)[k]?

/-- OUT of a ring tile after a stage-out: what the working header holds; once the round has left CLOSED a tile that is
VOID stays so (R213, R235). -/
def RingTile.stagedOut (x : RingTile) (w : WorkingCopy) (closed : Bool) : RingTile :=
  let hd := { w.header with exported := w.sealed || w.header.exported }
  let keep := !closed && (x.out.any fun o => o.status == 2)
  { x with out := if keep then x.out else some hd, store := w.limbs }

/-- Stage the current ring tile of a cursor out once its repetition has ended, and the next one in. A tile staged in takes
part on real operands if its whole gap lies after the freeze; one staged in earlier does from a later gap on (R201). -/
def Round.stageCursor (r : Round) (im : PlanImage) (t position cursor : Nat) (b : Block) (c : CursorDef) (whole : Bool) :
    Round :=
  let tm := im.template t
  let m := b.baseLength cursor
  let ended := (r.working? position cursor).map fun w => decide (m ≤ w.step)
  let r := match r.working? position cursor with
    | some w =>
      if m ≤ w.step then
        let r := r.updTile w.tile fun x => x.stagedOut w (r.state == .closed)
        let r := r.updCursor position cursor fun q => { q with pos := q.pos + 1 }
        { r with ring := { r.ring with working := r.ring.working.filter fun w => !(w.position == position && w.cursor == cursor) } }
      else if w.step = 0 ∧ whole then r.updWorking position cursor fun w => { w with real := true }
      else r
    | none => r
  let pos := (r.cursorAt position cursor).pos
  if (ended = some false) || decide (c.count ≤ pos) then r
  else
    let n := c.first + pos
    match r.ringTile n with
    | none => r
    | some x =>
      let w : WorkingCopy :=
        { position := position, cursor := cursor, tile := n, header := x.agg, limbs := limbsOf tm (r.set n).copy,
          step := 0, sealed := false, real := whole }
      { r with ring := { r.ring with working := r.ring.working ++ [w] } }

/-- RING_STAGE_IN_OUT: in the gap between repetitions the drain of a cluster writes the working copy of each ring cursor
of the cohort to CT_STORE, the cursor advances, and the next ring tile is staged in (R200, R201). Nothing is staged in
before the freeze, nor once the round has left CLOSED. -/
def execRingStageInOut (cluster ctx cohort : Nat) (s : State) : Host.Outcome State Fault Refusal :=
  match (s.cluster cluster).position, s.image ctx, s.round? ctx cohort with
  | some p, some im, some r =>
    match im.block p with
    | none => .next s
    | some b =>
      if !r.frozen ∨ !(r.state == .closed || r.state == .unmasking) ∨ !(im.template cohort).isRing then .next s
      else .next (s.updRound ctx cohort fun r =>
        b.cursors.zipIdx.foldl (fun r x =>
          match b.gapSince x.2 s.entry with
          | none => r
          | some since =>
          if x.1.kind == 3 && x.1.cohort == cohort && !(b.ringDescs x.2).isEmpty &&
              (r.state == .closed || (r.working? p x.2).isSome) then
            let r' := r.stageCursor im cohort p x.2 b x.1 (decide (r.frozenBeat + since ≤ s.hal.beatCount))
            if r.state == .closed then r'
            else
              let left := r'.ring.working.filter fun w => !(w.position == p && w.cursor == x.2 && w.step == 0)
              { r' with ring := { r'.ring with working := left } }
          else r) r)
  | _, _, _ => .next s

-- Decryption (R232 to R234)

/-- w_m: c0 plus the shares of the decryption set, weighted by its constants in Montgomery form, coefficient by coefficient,
for limb m of prime q (R195, R232). -/
def Round.combineLimb (r : Round) (t : Template) (n m q : Nat) (c0 : List Nat) (members : List Nat) (lams : List Nat) :
    List Nat :=
  let deg := t.degreeN
  let shareOf := fun (k : Nat) =>
    -- residues of member k for limb m: export tiles and blocks in order
    let first := m * deg
    (List.range (deg / 512)).flatMap fun b =>
      let at_ := first + 512 * b
      ((r.ring.shares.find? fun d => d.member == k && d.tile == n * max 1 t.setTiles + at_ / 8192 &&
        d.block == at_ % 8192 / 512).map DShare.residues).getD (List.replicate 512 0)
  (List.zip members lams).foldl (fun acc x => addPoly q acc ((shareOf x.1).map fun v => redc q (v % q * x.2))) c0

/-- Decoded coefficients of a ring tile (R232). -/
def Round.decodeTile (r : Round) (im : PlanImage) (t : Template) (n level : Nat) (x : RingTile) (item : Item) :
    List Nat :=
  let primes := (im.chainOf t).data.take level
  let members := (List.range 64).filter fun k => item.members.testBit k
  let block := r.ring.blocks.getD item.block ⟨0, []⟩
  let ws := primes.zipIdx.map fun (q, m) =>
    r.combineLimb t n m q ((x.store.getD m []).getD 0 []) members (block.constants.getD m [])
  let f := ((im.chainOf t).data.take t.limbs |>.drop level).foldl (fun a q => a * (q % t.plaintextMod) % t.plaintextMod)
    (1 % t.plaintextMod)
  (List.range t.degreeN).map fun i => decodeCoeff primes t.plaintextMod f (ws.map fun w => w.getD i 0)

/-- Write the decoded tiles to copy 1 − SEL and flip it: the commit point; then DECODED is set and OUT takes the noise of
RULE 6 (R219, R234). -/
def Round.storeDecoded (r : Round) (t : Template) (n : Nat) (out : CtHeader) (coeffs : List Nat) : Round :=
  let dTiles := max 1 (t.degreeN / 8192)
  let tiles : List (List Nat) := Sys2Proof.Machine.chunks 8192 coeffs.length coeffs
  let seq := r.nextSeq
  let r := { r with nextSeq := seq + 1 }
  let r := r.updSet n fun x =>
    let other := if x.sel = 0 then x.copyB else x.copyA
    let new := (List.range (max 1 t.setTiles)).map fun m =>
      if m < dTiles then let l := tiles.getD m []; l ++ List.replicate (8192 - l.length) 0 else other.getD m []
    { x with commits := x.commits + 1, lastSeq := seq }.flip new
  r.updTile n fun x => { x with out := some { out with decoded := true } }

/-- The code under which R180 refuses a DECRYPT item, 0 if none. -/
def Round.decryptRefusal (r : Round) (im : PlanImage) (t position : Nat) (x : Item) : Nat :=
  let n := x.tile / max 1 (im.template t).setTiles
  let mine := (im.unmasker t n).1 == position && decide (n < r.ring.tiles.length)
  let decoded := ((r.ringTile n).bind RingTile.out).any CtHeader.decoded
  let last := (r.mask.lastItem.find? fun l => l.1 == position && l.2.1 == .dsComb).map fun l => l.2.2.tile
  if x.kind ≠ 7 || !mine || decoded then 0x04120020
  else if last.any fun l => decide (x.tile ≤ l) then 0x04120021
  else 0

/-- One DECRYPT item that is not refused: the check of R219, then combination and decoding (R232 to R234). -/
def State.decryptItem (s : State) (k : Nat) (im : PlanImage) (sp : RunningSpan) (r : Round) (item : Item) : State :=
  let t := sp.desc.cohort
  let tm := im.template t
  let n := item.tile / max 1 tm.setTiles
  match (r.ringTile n).bind fun x => x.out.map fun o => (x, o) with
  | none => s
  | some (x, o) =>
    let v := slotStart im tm sp.desc x.agg o true
    let out := outHeader im tm 0x1A x.agg o
    if v.1 ≠ 0 then
      let hd := { out with status := v.1, cause := v.2.1, causeOpcode := if v.2.2 = 0 then o.causeOpcode else 0x1A }
      (s.updRound sp.ctx t fun r => r.updTile n fun x => { x with out := some hd }).reportRing k sp.ctx t n sp.lead
        v.2.2 tm
    else s.updRound sp.ctx t fun r => r.storeDecoded tm n out (r.decodeTile im tm n o.level x item)

/-- DSCOMB: one DECRYPT item is combined and decoded (R232 to R234), after the tests of R180; a refused item makes its
tile VOID in the unmask record, unless it is decoded (log entry 89). A NULL item does nothing. -/
def execDscomb (cluster : Nat) (s : State) : Host.Outcome State Fault Refusal :=
  .next (s.runSpan cluster 0x1A fun s p sp =>
    let t := sp.desc.cohort
    match s.image sp.ctx, s.round? sp.ctx t with
    | some im, some r =>
      let (items, r') := r.takeItems p .dsComb 1
      let s := s.updRound sp.ctx t fun _ => r'
      match items.filter fun x => x.kind != 0 with
      | [] => s
      | item :: _ =>
        let code := r'.decryptRefusal im t p item
        let s := s.updRound sp.ctx t fun r => r.noteItem p .dsComb item
        if code = 0 then
          s.withRoundKey r' 0 (some masterRg) (fun s => s.ringFault sp.ctx t (item.tile / max 1 (im.template t).setTiles))
            fun _ => s.decryptItem cluster im sp r' item
        else
          let n := item.tile / max 1 (im.template t).setTiles
          let decoded := ((r'.ringTile n).bind RingTile.out).any CtHeader.decoded
          let s := if decoded then s else s.updRound sp.ctx t fun r => r.voidSet n 2
          s.record code (srcCluster cluster) (some sp.ctx) (leBytes 4 r'.cohortId ++ leBytes 4 item.tile)
    | _, _ => s)

end Sys2Proof.Machine
end

