-- ==== Sys2Proof/Machine/Admission.lean ====
section
/-!
DEFINITION. Machine/Admission.lean: checks 4 to 25 of plan admission (R109). Each check lists the byte offsets of the
fields that fail it; the first in the image is reported (log entry 17).
-/
namespace Sys2Proof.Machine

/-- What the checks look at: the image as transferred with its stated length, and the module's state. -/
structure Adm where
  s : State
  c : Nat
  b : Bytes
  len : Nat
  im : PlanImage
  digest : Bytes

def bad (p : Bool) (o : Nat) : List Nat := if p then [o] else []

/-- Address of the first nonzero byte of a range. -/
def firstNonzero (b : Bytes) (a n : Nat) : List Nat :=
  match (slice b a n).findIdx? fun x => x != 0 with
  | some i => [a + i]
  | none => []

/-- Plans of the other contexts (R36, R106). -/
def Adm.others (x : Adm) : List PlanImage :=
  ((List.range 16).filter fun k => k != x.c).filterMap fun k => x.s.image k

def Adm.templates (x : Adm) : List (Template × Nat) := x.im.templates.zipIdx
def Adm.blocks (x : Adm) : List (Block × Nat) := x.im.blocks.zipIdx

-- Checks 4 to 10

def Adm.check4 (x : Adm) : List Nat :=
  bad (decide (67108864 < x.len ∨ x.len < 256) || leAt x.b 8 4 != x.len) (if x.len < 12 then noField else 8)

def Adm.check5 (x : Adm) : List Nat :=
  bad (slice x.b 0 4 != ascii "TLRP") 0 ++ bad (leAt x.b 4 2 != 1) 4 ++ bad (leAt x.b 6 2 != 9) 6

def Adm.check6 (x : Adm) : List Nat := bad (leAt x.b 252 4 != (crc32 (x.b.take 252)).toNat) 252

def Adm.check7 (x : Adm) : List Nat := bad (leAt x.b 12 1 != x.c) 12

/-- Length that R104 allows a section. -/
def sectionLengthOk (b : Bytes) (k : Nat) : Bool :=
  let n := secLen b k
  match k with
  | 1 => n % 16 == 0 && decide (16 ≤ n ∧ n ≤ 65536)
  | 2 => n == 60 * blockBytes
  | 3 => n % 16 == 0 && decide (n ≤ 65536)
  | 4 => n % 32 == 0 && decide (32 ≤ n ∧ n ≤ 131072)
  | 5 => n == 16 + 128 * templateCount b + 520 * chainCount b
  | 6 => n == 176
  | 7 => n == 8 + 16 * noiseCount b && decide (noiseCount b ≤ 16384)
  | 8 => n == 64
  | _ => n == 32

/-- End of the part of the image before section `k`. -/
def sectionStart (b : Bytes) (k : Nat) : Nat := if k ≤ 1 then 256 else secOff b (k - 1) + secLen b (k - 1)

def Adm.check8 (x : Adm) : List Nat :=
  let b := x.b
  ((List.range 9).flatMap fun i =>
    let k := i + 1
    let e := dirEntry k
    bad (leAt b e 2 != k) e ++ bad (secOff b k % 64 != 0 || decide (secOff b k < sectionStart b k)) (e + 4) ++
    bad (decide (x.len < secOff b k + secLen b k) || !sectionLengthOk b k) (e + 8) ++
    firstNonzero b (sectionStart b k) (secOff b k - sectionStart b k)) ++
  firstNonzero b (sectionStart b 10) (x.len - sectionStart b 10) ++
  (List.range 60).flatMap fun p =>
    bad (leAt b (blockOff b p) 2 != srcCluster (positionCluster p)) (blockOff b p)

def Adm.check9 (x : Adm) : List Nat :=
  (List.range 9).flatMap fun i =>
    let k := i + 1
    bad (leAt x.b (dirEntry k + 12) 4 != (crc32 (slice x.b (secOff x.b k) (secLen x.b k))).toNat) (dirEntry k + 12)

/-- Reserved bytes and bits of one slot-table entry (R93, slot descriptor). -/
def entryReserved (r : Bytes) (o : Nat) : List Nat :=
  let op := leAt r 0 1
  let p0 := leAt r 20 4
  let limit := if op = 0x20 then 2 ^ 8 else if op = 7 ∨ op = 8 then 2 ^ 16 else if 0x10 ≤ op ∧ op ≤ 0x1A then 2 ^ 24
    else 2 ^ 32
  bad (decide (16 ≤ leAt r 1 1)) (o + 1) ++ bad (decide (16 ≤ leAt r 9 1)) (o + 9) ++ bad (leAt r 11 1 != 0) (o + 11) ++
  bad (decide (limit ≤ p0)) (o + 20) ++ bad (decide (8192 ≤ leAt r 24 4)) (o + 24)

def Adm.check10 (x : Adm) : List Nat :=
  let b := x.b
  let zero := fun (o n : Nat) => bad (!zeroAt b o n) o
  let o4 := secOff b 4
  let o5 := secOff b 5
  let o7 := secOff b 7
  let o9 := secOff b 9
  zero 13 3 ++ zero 28 4 ++ ((List.range 9).flatMap fun i => zero (dirEntry (i + 1) + 2) 2) ++ zero 176 76 ++
  ((List.range (secLen b 1 / 16)).flatMap fun i =>
    let o := secOff b 1 + 16 * i
    bad (decide (128 ≤ leAt b o 1)) o ++ bad (decide (4 ≤ leAt b (o + 4) 1)) (o + 4) ++ zero (o + 9) 7) ++
  ((List.range 60).flatMap fun p =>
    zero (blockOff b p + 4) 12 ++
    ((List.range 64).flatMap fun i =>
      let o := cursorOff b p i
      if leAt b (blockOff b p + 2) 2 ≤ i then zero o 16
      else zero (o + 1) 1 ++ bad (leAt b o 1 != 2 && decide (2 ^ 24 ≤ leAt b (o + 4) 4)) (o + 4) ++ zero (o + 12) 4) ++
    (List.range 4096).flatMap fun e => entryReserved (slice b (entryOff b p e) 32) (entryOff b p e)) ++
  ((List.range (secLen b 3 / 16)).flatMap fun i =>
    let o := secOff b 3 + 16 * i
    zero (o + 7) 1 ++ zero (o + 10) 6) ++
  ((List.range (secLen b 4 / 32)).flatMap fun i =>
    let o := o4 + 32 * i
    zero (o + 3) 1 ++ zero (o + 6) 2 ++
    bad (decide (1 ≤ leAt b o 1 ∧ leAt b o 1 ≤ 8) && !zeroAt b (o + 14) 2) (o + 8) ++ zero (o + 24) 8) ++
  zero (o5 + 4) 12 ++
  ((List.range (templateCount b)).flatMap fun i => zero (templateOff b i + 45) 3) ++
  ((List.range (chainCount b)).flatMap fun k => zero (chainOff b k + 2) 6) ++
  zero (secOff b 6 + 101) 27 ++ zero (o7 + 7) 1 ++
  ((List.range (noiseCount b)).flatMap fun i => zero (o7 + 8 + 16 * i + 7) 1 ++ zero (o7 + 8 + 16 * i + 8) 8) ++
  ((List.range 4).flatMap fun i =>
    let o := secOff b 8 + 16 * i
    zero (o + 1) 1 ++ bad (decide (2 ^ 15 ≤ leAt b (o + 2) 2)) (o + 2) ++ zero (o + 4) 12) ++
  zero (o9 + 2) 2 ++ zero (o9 + 16) 16

-- Checks 11 to 13

/-- Fields that the mode or role does not use, by offset and length (R106). -/
def unusedFields (t : Template) : List (Nat × Nat) :=
  (match t.mode with
   | 1 => [(28, 1), (29, 7), (38, 2), (44, 1), (48, 8), (56, 32)]
   | 2 => [(6, 1), (24, 4), (29, 7), (48, 8), (88, 32)]
   | _ => [(6, 1), (24, 4), (28, 1), (38, 2), (44, 1), (56, 32), (88, 32)]) ++
  (if t.role = 1 then [] else [(120, 8)])

/-- Offsets within a template of the fields that check 11 refuses (R31, R39, R40, R45, R106, R129, R168, R184, R191). -/
def Template.refused (t : Template) (raw : Bytes) (chains : List Chain) : List Nat :=
  let w := fmtBits t.format
  let c := t.clientSlots
  let d := t.degree
  let ring := t.isRing
  let l := chains.getD t.chain ⟨[], []⟩
  bad (decide (t.mode < 1 ∨ 3 < t.mode)) 4 ++
  bad (if ring then t.format != 5 else decide (t.format < 1 ∨ 3 < t.format)) 5 ++
  bad (t.isPair && decide (t.prg < 1 ∨ 3 < t.prg)) 6 ++ bad (decide (2 < t.role)) 7 ++
  bad (decide (c < 2 ∨ 2 ^ 24 < c)) 8 ++
  bad (decide (t.tiles < 1 ∨ 2 ^ 24 < t.tiles ∨ 2 ^ 40 < c * t.tiles)) 12 ++
  bad (decide (c < t.slotBase + t.slotCount) || (t.isLeaf && decide (1572864 < t.slotCount))) 20 ++
  bad (t.isPair && (decide (d < 2 ∨ 256 < d ∨ c - 1 < d) || (d % 2 == 1 && c % 2 == 1))) 24 ++
  bad (t.isPair && decide (t.threshold < 2 ∨ d < t.threshold)) 26 ++
  bad (t.isSum && decide (t.headroom < Nat.clog 2 (2 * c + 1) ∨ w ≤ t.headroom)) 28 ++
  bad (ring && decide (t.logN < 12 ∨ 16 < t.logN)) 29 ++
  bad (ring && decide (t.limbs < 1 ∨ 48 < t.limbs)) 30 ++
  bad (ring && decide (16 < t.special)) 31 ++
  bad (ring && decide (t.dnum < 1 ∨ t.limbs < t.dnum ∨ t.special < ceilDiv t.limbs t.dnum)) 32 ++
  bad (ring && decide (t.committee < 1 ∨ 64 < t.committee)) 33 ++
  bad (ring && decide (t.decThreshold < 1 ∨ t.committee < t.decThreshold)) 34 ++
  bad (ring && decide (chains.length ≤ t.chain)) 35 ++
  bad (t.wS == 0) 36 ++
  bad (t.isSum && (t.lwrLambda % 16 != 0 || decide (t.lwrLambda < 256 ∨ 1008 < t.lwrLambda))) 38 ++
  bad (t.wR == 0) 40 ++
  bad (t.isSum && decide (t.lwrR < 8 ∨ (if t.format = 3 then 16 else 64 - w) < t.lwrR)) 44 ++
  bad (ring && (decide (t.plaintextMod < 2 ∨ 2 ^ 60 < t.plaintextMod) ||
    (l.data ++ l.special).any fun q => q != 0 && t.plaintextMod % q == 0)) 48 ++
  ((unusedFields t).filter fun f => !zeroAt raw f.1 f.2).map Prod.fst

/-- Largest ciphertext of a template's ring descriptors, in bytes (R40, R202). -/
def PlanImage.ringPeak (im : PlanImage) (i : Nat) : Nat :=
  let t := im.template i
  ((im.blocks.flatMap Block.leads).filter fun e => decide (0x10 ≤ e.2.opcode ∧ e.2.opcode ≤ 0x1A) && e.2.cohort == i).foldl
    (fun m e => max m (8 * t.degreeN * workingSet t e.2.opcode e.2.level)) 0

def Adm.check11 (x : Adm) : List Nat :=
  let b := x.b
  bad (decide (templateCount b < 1 ∨ 256 < templateCount b)) (secOff b 5) ++
  bad (decide (16 < chainCount b)) (secOff b 5 + 2) ++
  x.templates.flatMap fun (t, i) =>
    ((t.refused (slice b (templateOff b i) 128) x.im.chains).map (· + templateOff b i)) ++
    bad (t.isRing && decide (2 ^ 25 < x.im.ringPeak i)) noField

def Adm.check12 (x : Adm) : List Nat :=
  let seen := x.others.flatMap fun p => p.templates.map Template.cohortId
  bad (decide (256 < seen.length + x.im.templates.length)) (secOff x.b 5) ++
  x.templates.flatMap fun (t, i) =>
    bad (seen.contains t.cohortId || ((x.im.templates.take i).any fun u => u.cohortId == t.cohortId)) (templateOff x.b i)

/-- Odd part and exponent of two, over `n` steps. -/
def splitTwos : Nat → Nat → Nat → Nat × Nat
  | 0, d, e => (d, e)
  | n + 1, d, e => if d % 2 = 0 ∧ 0 < d then splitTwos n (d / 2) (e + 1) else (d, e)

/-- `x` squared up to `n` times meets n − 1. -/
def squaresMeet (m : Nat) : Nat → Nat → Bool
  | 0, _ => false
  | n + 1, v => v == m - 1 || squaresMeet m n (v * v % m)

/-- The Miller–Rabin test with the bases of R107. -/
def isPrime64 (n : Nat) : Bool :=
  let bases := [2, 3, 5, 7, 11, 13, 17, 19, 23, 29, 31, 37]
  if n < 2 then false
  else if bases.contains n then true
  else if bases.any fun p => n % p == 0 then false
  else
    let (d, e) := splitTwos 64 (n - 1) 0
    bases.all fun a => powMod a d n == 1 || squaresMeet n e (powMod a d n)

/-- 2N for the largest N of the templates that use a chain. -/
def PlanImage.chainOrder (im : PlanImage) (k : Nat) : Nat :=
  (im.templates.filter fun t => t.isRing && t.chain == k).foldl (fun m t => max m (2 * t.degreeN)) 1

def Adm.check13 (x : Adm) : List Nat :=
  let b := x.b
  (x.templates.flatMap fun (t, i) =>
    let ch := x.im.chainOf t
    bad (t.isRing && decide (ch.data.length < t.limbs)) (templateOff b i + 30) ++
    bad (t.isRing && t.special != ch.special.length) (templateOff b i + 31)) ++
  (List.range (chainCount b)).flatMap fun k =>
    let o := chainOff b k
    let n := leAt b o 1 + leAt b (o + 1) 1
    let primes := (List.range 64).map fun j => leAt b (o + 8 + 8 * j) 8
    let order := x.im.chainOrder k
    bad (decide (leAt b o 1 < 1 ∨ 48 < leAt b o 1)) o ++ bad (decide (16 < leAt b (o + 1) 1)) (o + 1) ++
    primes.zipIdx.flatMap fun (q, j) =>
      bad (if n ≤ j then q != 0 else decide (2 ^ 62 ≤ q) || (primes.take j).contains q || q % order != 1 % order || !isPrime64 q)
        (o + 8 + 8 * j)

-- Check 14 (R239, R466)

def Template.magnitude (t : Template) : Nat :=
  if t.isRing then Nat.clog 2 t.plaintextMod else if t.isSum then fmtBits t.format - t.headroom else fmtBits t.format

/-- Items 1 to 4 of R239 hold for a template. -/
def Template.specFits (t : Template) (spec : Option FinishSpec) : Bool :=
  match spec with
  | none => false
  | some f =>
    f.outTiles * f.stride == t.sets * t.decodedTiles &&
    f.terms.all (fun y => decide (30 + (t.magnitude : Int) + f.f0 - y.exp ≤ 64)) &&
    (f.sigma == 0 || decide (26 + f.f0 - f.noiseFrac ≤ 64))

def Adm.check14 (x : Adm) : List Nat :=
  let o := secOff x.b 6
  let bind := x.im.binding
  let ring := x.im.templates.any Template.isRing
  let leaf := x.im.templates.any Template.isLeaf
  match x.s.set.policies.getD x.c none with
  | none => [o]
  | some pol =>
    bad (pol.digest != bind.policyDigest) o ++ bad (pol.kmin != bind.kmin) (o + 96) ++
    bad (leAt x.b (o + 100) 1 != (if policyNoise pol.object then 1 else 0)) (o + 100) ++
    bad ((bind.aggKeyDigest.all (· == 0)) == ring) (o + 48) ++
    bad ((bind.rootPlanDigest.all (· == 0)) == leaf) (o + 128) ++
    x.templates.flatMap fun (t, i) =>
      let spec := policySpec pol.object t.cohortId
      bad (!t.isLeaf && !t.specFits spec) noField ++
      x.blocks.flatMap fun (bl, p) => (bl.leads.filter fun e => e.2.opcode == 0x20 && e.2.cohort == i).flatMap fun e =>
        if t.isLeaf then [entryOff x.b p e.1]
        else bad ((spec.map fun f => f.terms.length) != some (e.2.param0 % 256)) (entryOff x.b p e.1 + 20)

-- Checks 15 and 16

/-- Mode bytes of a stage-map entry: offset, enable bit, value, and whether the value is one that R87 lists. -/
def StageEntry.modes (m : StageEntry) : List (Nat × Nat × Nat × Bool) :=
  [(1, 0, m.auMode, decide (m.auMode ≤ 3)), (2, 1, m.upMode, decide (m.upMode ≤ 5) || m.upMode == 0x80),
   (3, 2, m.ksMode, decide (m.ksMode ≤ 5)), (5, 3, m.rgMode, decide (m.rgMode ≤ 7)),
   (6, 4, m.tfMode, decide (m.tfMode ≤ 3)), (7, 5, m.acMode, decide (m.acMode ≤ 3)),
   (8, 6, m.fnMode, decide (m.fnMode ≤ 2))]

/-- Check 15 (R86 to R88). An entry whose stages enable KS names both KS units even where no descriptor uses the entry
(DESIGN CHOICE, log entry 91). -/
def Adm.check15 (x : Adm) : List Nat :=
  x.im.stages.zipIdx.flatMap fun (m, i) =>
    let o := secOff x.b 1 + 16 * i
    (m.modes.flatMap fun f => bad ((f.2.2.1 != 0) != m.enable.getLsbD f.2.1 || !f.2.2.2) (o + f.1)) ++
    bad (if m.enable.getLsbD 2 then m.ksUnits != 3 else m.ksUnits != 0) (o + 4)

/-- ENABLE and the modes of AU, UP, KS, RG, TF, AC and FN that an opcode takes (R97). -/
def opStages (op fmt prg : Nat) : Option (List Nat) :=
  match op with
  | 0x01 => some [0x23, 1, 0x80, 0, 0, 0, 1, 0]
  | 0x02 => some [0, 0, 0, 0, 0, 0, 0, 0]
  | 0x03 => some [0x24, 0, 0, prg, 0, 0, 2, 0]
  | 0x04 => some [0x24, 0, 0, prg, 0, 0, 3, 0]
  | 0x05 => some [0x01, 3, 0, 0, 0, 0, 0, 0]
  | 0x06 => some [0x01, 1, 0, 0, 0, 0, 0, 0]
  | 0x07 => some [0x22, 0, 0x80, 0, 0, 0, 1, 0]
  | 0x08 => some [0x2C, 0, 0, 4, 7, 0, 2, 0]
  | 0x10 => some [0x08, 0, 0, 0, 1, 0, 0, 0]
  | 0x11 => some [0x08, 0, 0, 0, 3, 0, 0, 0]
  | 0x12 => some [0x10, 0, 0, 0, 0, 1, 0, 0]
  | 0x13 => some [0x10, 0, 0, 0, 0, 2, 0, 0]
  | 0x14 => some [0x08, 0, 0, 0, 4, 0, 0, 0]
  | 0x15 => some [0x18, 0, 0, 0, 6, 1, 0, 0]
  | 0x16 => some [0x18, 0, 0, 0, 6, 3, 0, 0]
  | 0x17 => some [0x18, 0, 0, 0, 6, 1, 0, 0]
  | 0x18 => some [0x18, 0, 0, 0, 6, 1, 0, 0]
  | 0x19 => some [0x01, 2, 0, 0, 0, 0, 0, 0]
  | 0x1A => some [0x48, 0, 0, 0, 4, 0, 0, 2]
  | 0x20 => some [0x42, 0, fmt, 0, 0, 0, 0, 1]
  | 0x30 => some [0x01, 2, 0, 0, 0, 0, 0, 0]
  | _ => none

def StageEntry.words (m : StageEntry) : List Nat :=
  [m.enable.toNat, m.auMode, m.upMode, m.ksMode, m.rgMode, m.tfMode, m.acMode, m.fnMode]

/-- FORMAT codes that an opcode's column lists; none where it takes no format (R97). -/
def opFormats (op : Nat) : List Nat :=
  if op = 5 ∨ op = 6 then []
  else if op = 3 ∨ op = 4 ∨ op = 7 ∨ op = 8 then [1, 2, 3]
  else if 0x10 ≤ op ∧ op ≤ 0x1A then [5]
  else [1, 2, 3, 5]

/-- Opcodes whose KEY_GROUP carries the cohort (R162), and those that name an EVAL_KEY region (R203, R207). -/
def keyGroupOp (op : Nat) : Bool := [3, 4, 5, 7, 8].contains op
def evalKeyOp (op : Nat) : Bool := [0x11, 0x15, 0x16, 0x17].contains op

/-- Fields of a lead that check 16 refuses, as offsets in the descriptor (R87, R97, R162, R184, R191, R204, R208, R538). -/
def Adm.leadRefused (x : Adm) (d : Descriptor) : List Nat :=
  let t := x.im.template d.cohort
  let op := d.opcode
  let fmts := opFormats op
  let p0 := d.param0
  bad (opStages op d.format t.prg).isNone 0 ++ bad (decide (x.im.templates.length ≤ d.cohort)) 6 ++
  bad ((x.im.stages[d.stageMap]?).map StageEntry.words != opStages op d.format t.prg) 4 ++
  bad (if fmts.isEmpty then d.format != 0 else d.format != t.format || !fmts.contains d.format) 8 ++
  bad (d.keyGroup != if keyGroupOp op then d.cohort else 0xFFFF) 16 ++
  bad (if evalKeyOp op then ((x.im.regions[d.evalKey]?).map Region.kind) != some 6 else d.evalKey != 0xFFFF) 18 ++
  bad (if op = 0x20 then decide (p0 < 1 ∨ 64 < p0)
    else if op = 7 ∨ op = 8 then p0 != t.lwrLambda || decide (p0 < 256 ∨ 1008 < p0) || p0 % 16 != 0
    else if 0x10 ≤ op ∧ op ≤ 0x1A then
      p0 % 256 != t.logN || decide (d.level < 1 ∨ t.limbs < d.level) || (op == 0x18 && d.level == 1) ||
        p0 / 65536 % 256 != (if op = 0x15 ∨ op = 0x16 ∨ op = 0x17 then t.dnum else 0)
    else p0 != 0) 20 ++
  bad (if op = 0x16 then d.param1 % 2 == 0 || decide (d.param1 < 3 ∨ 2 * t.degreeN ≤ d.param1) else d.param1 != 0) 28

/-- Walk a base sequence: entries whose level, form or neighbour R200 refuses, with the field's offset. -/
def walkSequence (t : Template) : List (Nat × Descriptor) → Nat → Nat → Bool → List (Nat × Nat)
  | [], _, _, _ => []
  | (e, d) :: rest, level, form, afterTensor =>
    let op := d.opcode
    let next := (rest.head?.map fun z => z.2.opcode).getD 0
    let wrong :=
      (if d.level ≠ level then [(e, 20)] else []) ++
      (if (op = 0x10 ∨ op = 0x14) ∧ level < t.limbs then [(e, 0)] else []) ++
      (if op = 0x14 ∧ next ≠ 0x17 then [(e, 0)] else []) ++
      (if op = 0x17 ∧ !afterTensor then [(e, 0)] else []) ++
      (if formAccepted op form then [] else [(e, 0)])
    let form' := if op = 0x12 then 0 else if op = 0x13 then 1 else if op = 0x14 then 2 else if op = 0x17 then 0 else form
    wrong ++ walkSequence t rest (if op = 0x18 then level - 1 else level) form' (op == 0x14)

/-- Ring sequences of a block: cursor index and base sequence. -/
def Block.sequences (b : Block) : List (Nat × List (Nat × Descriptor)) :=
  (List.range b.cursors.length).filterMap fun i =>
    let l := b.ringDescs i
    if l.isEmpty then none else some (i, l.take (b.baseLength i))

/-- An entry of OPCODE 0 in other than the IDLE form, whose CONTEXT is the owner's number, or 0 for an unowned entry:
the first byte that differs. -/
def idleDiffers (owner : Option Nat) (r : Bytes) : Option Nat :=
  if leAt r 0 1 ≠ 0 then none
  else
    let form : Bytes := [0, BitVec.ofNat 8 (owner.getD 0), 1] ++ zeros 29
    (r.zip form).findIdx? fun y => y.1 != y.2

def Adm.check16 (x : Adm) : List Nat :=
  x.blocks.flatMap fun (bl, p) =>
    ((List.range 4096).flatMap fun e =>
      match idleDiffers (x.s.beatOwner (e % 256)) (slice x.b (entryOff x.b p e) 32) with
      | some i => [entryOff x.b p e + i]
      | none => []) ++
    (bl.leads.flatMap fun e => (x.leadRefused e.2).map (· + entryOff x.b p e.1)) ++
    bl.sequences.flatMap fun s =>
      let t := x.im.template ((s.2.head?.map fun e => e.2.cohort).getD 0)
      (walkSequence t s.2 t.limbs 0 false).map fun w => entryOff x.b p w.1 + w.2

-- Routes of descriptors (checks 17 and 21)

/-- Routes that a lead must name: kind of SRC_ROUTE and of DST_ROUTE; 0 where 0xFFFF is required, none where the rules
say nothing. `first` marks the first descriptor of a base sequence (R126, R143, R156, R201, R203, R228, R233, R247). -/
def routeKinds (op : Nat) (first : Bool) : Option Nat × Option Nat :=
  if op = 1 then (some 5, none)
  else if op = 2 ∨ op = 0x20 ∨ op = 0x1A then (some 5, some 4)
  else if op = 0x30 then (some 5, some 6)
  else if ringSeqOp op then
    if first then (some 5, some 4)
    else (some (if evalKeyOp op ∨ op = 0x10 ∨ op = 0x14 then 5 else 0), some (if op = 0x19 then 6 else 0))
  else (none, none)

/-- A descriptor's route index fits the kind asked for and ends at the cluster; the other end of KIND 4 and 5 is the HBM
of a whole die, and `own` asks for the cluster's own Canton (R102, R143, R201, R247). -/
def Adm.routeOk (x : Adm) (p idx : Nat) (kind : Option Nat) (source own : Bool) : Bool :=
  let here := srcCluster (positionCluster p)
  match kind with
  | none => idx == 0xFFFF || decide (idx < x.im.routes.length)
  | some 0 => idx == 0xFFFF
  | some k => match x.im.routes[idx]? with
    | none => false
    | some r =>
      let far := if source then r.src else r.dst
      r.kind == k && (if source then r.dst else r.src) == here &&
        (k == 6 || (far % 4096 == 0xFF0 && (!own || far == srcCanton (positionCanton p))))

def Adm.leadRoutes (x : Adm) (bl : Block) (p : Nat) (e : Nat × Descriptor) : List Nat :=
  let d := e.2
  let ks := routeKinds d.opcode (ringSeqOp d.opcode && bl.ringPlace d.cursor e.1 == 0)
  bad (!x.routeOk p d.srcRoute ks.1 true (d.opcode != 2)) 12 ++ bad (!x.routeOk p d.dstRoute ks.2 false (d.opcode != 2)) 14

-- Check 17

/-- Kinds of cursor that an opcode may name; none where CURSOR may be 0xFF. -/
def cursorKinds (t : Template) (op : Nat) : List Nat :=
  let range := if t.isRing then [3] else [1]
  match op with
  | 0x01 => range
  | 0x02 => range
  | 0x06 => []
  | 0x20 => [1]
  | 0x30 => range
  | 0x1A => [2]
  | _ => if ringSeqOp op then [3] else [2]

/-- PHASE that an opcode must carry, where a rule fixes it (R141, R156, R200, R233, R247). -/
def fixedPhase (op : Nat) : Option Nat :=
  if op = 1 ∨ op = 2 then some 1
  else if ringSeqOp op ∨ op = 0x30 then some 2
  else if op = 0x1A then some 4
  else if op = 0x20 then some 8
  else none

/-- Tile sets, or output tiles for a FINISH cursor, that a range cursor may cover. -/
def Adm.cursorRange (x : Adm) (bl : Block) (i : Nat) (c : CursorDef) : Nat :=
  let t := x.im.template c.cohort
  if bl.uses 0x20 i then
    (((x.s.set.policies.getD x.c none).bind fun p => policySpec p.object t.cohortId).map FinishSpec.outTiles).getD 0
  else t.sets

def Adm.cursorRefused (x : Adm) (bl : Block) (p i : Nat) (c : CursorDef) : List Nat :=
  let o := cursorOff x.b p i
  bad (decide (c.kind < 1 ∨ 3 < c.kind)) o ++ bad (decide (x.im.templates.length ≤ c.cohort)) (o + 2) ++
  if c.kind = 2 then
    bad (leAt x.b (o + 4) 4 != 0) (o + 4) ++
    bad (!((x.im.regions[c.count]?).map fun g => g.kind == 8 && g.cohort == c.cohort && g.die == positionCanton p).getD false)
      (o + 8)
  else
    bad (decide (c.count < 1 ∨ 2 ^ 24 < c.count ∨ x.cursorRange bl i c < c.first + c.count)) (o + 8)

def Adm.leadCursor (x : Adm) (bl : Block) (d : Descriptor) : List Nat :=
  let kinds := cursorKinds (x.im.template d.cohort) d.opcode
  let c := bl.cursors[d.cursor]?
  bad (match c with
    | none => d.cursor != 0xFF || !kinds.isEmpty
    | some c => c.cohort != d.cohort || !(kinds.isEmpty || kinds.contains c.kind)) 10 ++
  bad (match fixedPhase d.opcode with
    | some f => d.phase != f
    | none => false) 9

/-- Drain bound of a COMMIT lead. -/
def Adm.bound (x : Adm) (p i : Nat) (d : Descriptor) : Nat :=
  x.im.drainBound x.digest d.cohort p i d.srcRoute d.dstRoute

/-- Distances of R148 for one cursor of a block, and the ACCUM counts of R152. -/
def Adm.cursorDistances (x : Adm) (bl : Block) (p i : Nat) (c : CursorDef) : Bool :=
  let commits := bl.leadsOf 2 i
  let accums := bl.leadsOf 1 i
  let t := x.im.template c.cohort
  let single := !(x.im.residency c.cohort p).2
  commits.isEmpty ||
  ((cyclicPairs commits).any fun (a, b) => decide (cyclic a.1 b.1 < x.bound p i a.2)) ||
  (single && commits.any fun a => accums.any fun e => decide (cyclic a.1 e.1 < x.bound p i a.2)) ||
  (t.isRing && (bl.commitGaps i).any fun n => decide (n < ceilDiv (4 * t.setTiles) 32))

/-- Two owners of one tile set commit far enough apart (R148). -/
def Adm.ownerDistances (x : Adm) (own : List (Nat × Nat)) : Bool :=
  let commits := own.flatMap fun (p, i) =>
    (((x.im.block p).map fun b => b.leadsOf 2 i).getD []).map fun e => (p, i, e.1, x.bound p i e.2)
  commits.any fun a => commits.any fun b =>
    (a.1, a.2.1) != (b.1, b.2.1) && decide ((b.2.2.1 + 4096 - a.2.2.1) % 4096 < a.2.2.2)

/-- The gap of a ring sequence between repetitions (R201). -/
def Adm.gapShort (x : Adm) (bl : Block) (i : Nat) (base : List (Nat × Descriptor)) : Bool :=
  let all := bl.ringDescs i
  match base.head? with
  | none => false
  | some first =>
    let t := x.im.template first.2.cohort
    let rate := max 1 (min (x.im.route first.2.srcRoute).rate (x.im.route first.2.dstRoute).rate)
    let need := 2 + 2 * ceilDiv (16 * t.degreeN * t.limbs) (1000 * rate)
    let n := max 1 base.length
    (cyclicPairs all).zipIdx.any fun ((a, b), k) =>
      (k + 1) % n == 0 && decide (cyclic a.1 b.1 < a.2.span + need)

/-- The distance of R249 between FINISH leads of a cursor. -/
def Adm.finishShort (x : Adm) (bl : Block) (i : Nat) (spec : FinishSpec) (e : Nat) : Bool :=
  (cyclicPairs (bl.leadsOf 0x20 i)).any fun (a, b) =>
    let src := max 1 (x.im.route a.2.srcRoute).rate
    let dst := max 1 (x.im.route a.2.dstRoute).rate
    let g := 2 + ceilDiv (8 * spec.terms.length * 65536) (1000 * src) +
      ceilDiv (8 * e * outWidth spec.outFormat) (1000 * dst)
    decide (cyclic a.1 b.1 < a.2.span + g)

/-- What check 17 asks of a template as a whole (R124, R148, R174, R200, R233, R247). -/
def Adm.cohortCursors (x : Adm) (t : Template) (i : Nat) : Bool :=
  let own := (List.range t.sets).map fun k => x.im.owners i k
  let countOk := fun (n : Nat) => n == 1 || n == 2 || n == 4 || n == 8
  let leads := (x.im.blocks.flatMap Block.leads).filter fun e => e.2.cohort == i
  let spec := ((x.s.set.policies.getD x.c none).bind fun p => policySpec p.object t.cohortId).getD emptySpec
  let fin := x.blocks.flatMap fun (b, p) => (b.cursors.zipIdx.filter fun (c, j) => c.cohort == i && b.uses 0x20 j).map
    fun (c, j) => (b, p, j, c)
  (t.isRing && t.tiles % max 1 t.setTiles != 0) ||
  own.any (fun l => !(countOk l.length || (t.isRoot && l.isEmpty))) ||
  own.any (fun l => x.ownerDistances l) ||
  (t.needsSecrets && !(leads.any fun e => e.2.opcode == 6)) ||
  (t.isPair && t.needsSecrets && !(leads.any fun e => e.2.opcode == 5 && e.2.phase.testBit 2)) ||
  (!t.isLeaf && (List.range spec.outTiles).any fun o =>
    (fin.filter fun f => decide (f.2.2.2.first ≤ o ∧ o < f.2.2.2.first + f.2.2.2.count)).length != 1) ||
  fin.any (fun f => x.finishShort f.1 f.2.2.1 spec (fmtElems t.format)) ||
  x.blocks.any fun (b, p) => b.cursors.zipIdx.any fun (c, j) =>
    c.cohort == i && c.kind == 3 && (b.leads.any fun e => ringSeqOp e.2.opcode && e.2.cursor == j) &&
      (List.range c.count).any fun k => (x.im.owner0 i (c.first + k)).map Prod.fst != some p

/-- DSCOMB leads that break R233: the cluster is owner 0 of none of the cohort's ring tiles, or a route is not one of
KIND 5 and KIND 4 on its Canton. -/
def Adm.decryptRefused (x : Adm) (bl : Block) (p : Nat) : List Nat :=
  (bl.leads.filter fun e => e.2.opcode == 0x1A).flatMap fun e =>
    let t := e.2.cohort
    bad (!((List.range (x.im.template t).sets).any fun k => (x.im.owner0 t k).map Prod.fst == some p)) noField ++
    (x.leadRoutes bl p e).map (· + entryOff x.b p e.1)

def Adm.check17 (x : Adm) : List Nat :=
  (x.blocks.flatMap fun (bl, p) =>
    bad (decide (64 < leAt x.b (blockOff x.b p + 2) 2)) (blockOff x.b p + 2) ++
    (bl.cursors.zipIdx.flatMap fun (c, i) =>
      x.cursorRefused bl p i c ++ bad (x.cursorDistances bl p i c) noField) ++
    (bl.leads.flatMap fun e => (x.leadCursor bl e.2).map (· + entryOff x.b p e.1)) ++
    (bl.sequences.flatMap fun q => bad (!bl.wholeRepetitions q.1 || x.gapShort bl q.1 q.2) noField) ++
    x.decryptRefused bl p) ++
  x.templates.flatMap fun (t, i) => bad (x.cohortCursors t i) noField

-- Checks 18 to 20

/-- Bytes of the CONT entry at offset `k` of a lead. -/
def contBytes (ctx k : Nat) : Bytes := [0xF0, BitVec.ofNat 8 ctx] ++ leBytes 2 k ++ zeros 28

def Adm.check18 (x : Adm) : List Nat :=
  x.blocks.flatMap fun (bl, p) =>
    (bl.leads.flatMap fun e =>
      let n := e.2.span
      let o := entryOff x.b p e.1
      if n < 1 ∨ 4096 < e.1 + n then [o + 2]
      else (List.range (n - 1)).flatMap fun k =>
        bad (slice x.b (o + 32 * (k + 1)) 32 != contBytes e.2.context (k + 1)) (o + 32 * (k + 1))) ++
    (bl.entries.filter fun e => e.2.opcode == 0xF0).flatMap fun e =>
      bad (!(bl.leads.any fun l => decide (l.1 < e.1 ∧ e.1 < l.1 + l.2.span))) (entryOff x.b p e.1)

def Adm.check19 (x : Adm) : List Nat :=
  x.blocks.flatMap fun (bl, p) => bl.leads.flatMap fun e =>
    bad (decide (e.2.span < x.im.cost? e.2)) (entryOff x.b p e.1 + 2)

def Adm.check20 (x : Adm) : List Nat :=
  let mask := (x.s.ctxSet x.c).mask
  x.blocks.flatMap fun (bl, p) => bl.entries.flatMap fun e =>
    bad (e.2.context != x.c) (entryOff x.b p e.1 + 1) ++ bad (!mask.getLsbD (e.1 % 256)) (entryOff x.b p e.1)

-- Check 21

/-- Canton of a route end that is a whole Canton or one of its first fifteen clusters. The spare cluster K15 is no end of
a route (DESIGN CHOICE, log entry 91). -/
def cantonEnd (v : Nat) : Option Nat :=
  if v / 4096 ≤ 3 ∧ (v % 4096 = 0xFF0 ∨ (v / 256 % 16 ≤ 14 ∧ v % 256 = 0xF0)) then some (v / 4096) else none
def hoistEnd (v : Nat) : Bool := v == 0x4FF0 || v == 0x5FF0

/-- HOPS and VIA between Cantons (R24, R102). -/
def hopsVia (a b : Nat) : Nat × Nat :=
  if a = b then (0, 0xFF)
  else match a, b with
    | 0, 3 => (2, 1)
    | 3, 0 => (2, 2)
    | 1, 2 => (2, 3)
    | 2, 1 => (2, 0)
    | _, _ => (1, 0xFF)

def Route.refused (r : Route) : List Nat :=
  let srcBad := if r.kind = 1 then !hoistEnd r.src else (cantonEnd r.src).isNone
  let dstBad := if r.kind = 6 then !hoistEnd r.dst else (cantonEnd r.dst).isNone
  let hv := if r.kind = 1 ∨ r.kind = 6 then (0, 0xFF) else hopsVia ((cantonEnd r.src).getD 0) ((cantonEnd r.dst).getD 0)
  bad (decide (r.kind < 1 ∨ 6 < r.kind)) 4 ++ bad srcBad 0 ++ bad dstBad 2 ++ bad (r.hops != hv.1) 5 ++
  bad (r.via != hv.2) 6 ++ bad (decide (r.rate < 1 ∨ 4000 < r.rate)) 8

/-- A sequence whose CT_STORE region or key regions do not lie on its cluster's Canton (R201). -/
def Adm.sequenceRegions (x : Adm) (bl : Block) (p : Nat) : List Nat :=
  bl.sequences.flatMap fun q => q.2.flatMap fun e =>
    bad (x.im.ctStore e.2.cohort p q.1).isNone noField ++
    bad (evalKeyOp e.2.opcode && (x.im.regions[e.2.evalKey]?.map Region.die) != some (positionCanton p))
      (entryOff x.b p e.1 + 18)

/-- A FINISH cursor with an input tile whose TILE_STORE copies, on owner 0's Canton, lie on another Canton (R247). -/
def Adm.finishInputs (x : Adm) (bl : Block) (p : Nat) : List Nat :=
  bl.cursors.zipIdx.flatMap fun (c, j) =>
    let t := x.im.template c.cohort
    let spec := ((x.s.set.policies.getD x.c none).bind fun y => policySpec y.object t.cohortId).getD emptySpec
    let away := fun (i : Nat) =>
      (x.im.owner0 c.cohort (t.inputTile i).1).map (fun o => positionCanton o.1) != some (positionCanton p)
    bad (bl.uses 0x20 j && (List.range c.count).any fun k => (spec.inputs (c.first + k)).any away) noField

def Adm.check21 (x : Adm) : List Nat :=
  let o3 := secOff x.b 3
  let lands := ((x.im.regions.filter fun g => g.kind == 1).map Region.die).eraseDups
  (x.im.routes.zipIdx.flatMap fun (r, i) => r.refused.map (· + (o3 + 16 * i))) ++
  (x.templates.flatMap fun (_, t) =>
    (((x.im.regionsOf 2 t).map Region.die).eraseDups.flatMap fun d => lands.flatMap fun a =>
      bad ((x.im.routes.filter fun r => r.kind == 2 && r.src == srcCanton a && r.dst == srcCanton d).length != 1) noField)) ++
  x.blocks.flatMap fun (bl, p) =>
    x.sequenceRegions bl p ++ x.finishInputs bl p ++
    bl.leads.flatMap fun e =>
    ((x.leadRoutes bl p e).map (· + entryOff x.b p e.1)) ++
    bad (evalKeyOp e.2.opcode && decide (512 < (x.im.route e.2.srcRoute).rate)) (o3 + 16 * e.2.srcRoute + 8)

-- Check 22

def hbmKind (k : Nat) : Bool := decide (1 ≤ k ∧ k ≤ 8)
def overlap (a b : Region) : Bool := decide (a.base < b.base + b.length ∧ b.base < a.base + a.length)

def Adm.regionRefused (x : Adm) (g : Region) (i : Nat) : List Nat :=
  let hbm := hbmKind g.kind
  let unit := if hbm then 65536 else 4096
  let limit := if hbm then 2 ^ 48 else 2 ^ 25
  let same := fun (h : Region) => if hbm then hbmKind h.kind else !hbmKind h.kind && h.die == g.die && h.cluster == g.cluster
  bad (!hbm && decide (g.kind < 16 ∨ 18 < g.kind)) 0 ++ bad (decide (3 < g.die)) 1 ++
  bad (if hbm then g.cluster != 0xFF else decide (14 < g.cluster)) 2 ++
  bad (decide (x.im.templates.length ≤ g.cohort) && g.cohort != 0xFFFF) 4 ++
  bad (g.base % unit != 0 || (x.im.regions.take i).any fun h => same h && overlap g h) 8 ++
  bad (g.length == 0 || g.length % unit != 0 || decide (limit < g.base + g.length) ||
    (g.kind == 8 && decide (g.length < 1048576))) 16

/-- Secret store of a cohort in bytes (R163, R230). -/
def PlanImage.secretStore (im : PlanImage) (t : Template) (i : Nat) : Nat :=
  if t.isLeaf then 0
  else if t.isPair then 128 * t.clientSlots + 2 * t.degree * t.clientSlots * 40 + 48 * t.clientSlots * t.degree
  else if t.isSum then
    let un := ((List.range im.blocks.length).filter fun p => !(im.unmaskSets i p).isEmpty).length
    8 * t.lwrLambda * (if t.isRoot then t.clientSlots else t.slotCount) +
      (if t.format = 3 then 16 else 8) * t.lwrLambda * (un + t.tiles)
  else
    let n := im.exportLevel i * t.degreeN
    t.sets * (t.committee * ceilDiv n 512 * 4096 + ceilDiv n 8192 * 65616)

/-- Module-held bytes of a cohort on Canton `die` (R250, R539). -/
def Adm.heldBytes (x : Adm) (t : Template) (i die : Nat) : Nat :=
  let im := x.im
  let led := ((im.regionsOf 4 i).head?.map Region.die).getD 4
  let ranges := if t.isRoot then (leafRanges x.digest i).length else 0
  let sessions := (if t.isRoot && t.isRing then 0 else t.ledgerCount) + (if t.isLeaf then 0 else t.committee) + ranges
  let mine := ((List.range t.sets).filter fun k => (im.owner0 i k).map (fun o => positionCanton o.1) == some die).length
  let spec := ((x.s.set.policies.getD x.c none).bind fun p => policySpec p.object t.cohortId).getD emptySpec
  let out := fmtElems t.format * outWidth spec.outFormat + 16
  let fin := x.blocks.flatMap fun (b, p) => if positionCanton p = die then
    (b.cursors.zipIdx.filter fun (c, j) => c.cohort == i && b.uses 0x20 j).map fun (c, _) => c.count * out else []
  (im.bins i die).length * (128 * im.binRecords i die + 64) + mine * (32 + 16 + if t.isRing then 128 else 0) + fin.sum +
  if led = die then
    64 * sessions + ceilDiv (t.ledgerCount * t.tiles) 8 + ceilDiv (ranges * t.sets) 8 + im.secretStore t i
  else 0

/-- Sums of RATE that pass a link or a Canton's memory controllers beyond their capacity (R105, R325). -/
def Adm.overRate (x : Adm) : Bool :=
  let routes := (x.im :: x.others).flatMap PlanImage.routes
  let links : List ((Nat × Nat) × Nat) := routes.flatMap fun r => r.links.map fun l => (l, r.rate)
  (links.any fun l => decide (4000 < ((links.filter fun m => m.1 == l.1).map Prod.snd).sum)) ||
  (List.range 4).any fun c =>
    decide (10800 < ((routes.filter fun r => r.src / 4096 == c || r.dst / 4096 == c).map Route.rate).sum)

/-- The SRAM_CT region of a cohort at a position that holds a descriptor's SRAM_OFFSET (R201, R202). -/
def PlanImage.sramCt (im : PlanImage) (t position : Nat) (d : Descriptor) : Option Region :=
  (im.regionsOf 17 t).find? fun g => g.die == positionCanton position && g.cluster == positionNumber position &&
    decide (g.base ≤ 4096 * d.sramOffset ∧ 4096 * d.sramOffset < g.base + g.length)

/-- Descriptors whose SRAM_OFFSET places ciphertexts: the first of each base sequence, and DSCOMB (R201, R233). -/
def Block.ctUsers (b : Block) : List Descriptor :=
  (b.sequences.filterMap fun q => q.2.head?.map Prod.snd) ++ (b.leads.filter fun q => q.2.opcode == 0x1A).map Prod.snd

/-- Regions and buffers that check 22 asks of a cohort (R105, R127, R139, R145, R178, R202, R247, R255, R539). -/
def Adm.cohortMemory (x : Adm) (t : Template) (i : Nat) : List Nat :=
  let im := x.im
  let regOff := fun (g : Region) => secOff x.b 4 + 32 * im.regions.idxOf g
  let spec := ((x.s.set.policies.getD x.c none).bind fun p => policySpec p.object t.cohortId).getD emptySpec
  let e := fmtElems t.format
  let s := t.setBytes
  let led := im.regionsOf 4 i
  let short := fun (l : List Region) (need : Nat) => match l with
    | [] => if need = 0 then [] else [noField]
    | g :: _ => bad (decide (g.length < need)) (regOff g + 16)
  let out := roundUp (128 + 16 * spec.outTiles + 4 * t.sets) 65536 + spec.outTiles * e * outWidth spec.outFormat
  bad (led.length != 1) noField ++
  short led (roundUp (ceilDiv (t.ledgerCount * t.tiles) 8) 65536) ++
  ((List.range 4).flatMap fun c =>
    let sets := (List.range t.sets).filter fun k => (im.owner0 i k).map (fun o => positionCanton o.1) == some c
    bad (!(im.bins i c).isEmpty && decide (im.binRecords i c < 32)) noField ++
    match sets.head?, sets.getLast? with
    | some a, some z => short ((im.regionsOf 3 i).filter fun g => g.die == c) (2 * s * (z - a + 1))
    | _, _ => []) ++
  (if t.isLeaf then [] else short (im.regionsOf 7 i) out) ++
  x.blocks.flatMap fun (b, p) =>
    (b.cursors.zipIdx.flatMap fun (c, j) =>
      if c.cohort ≠ i ∨ c.kind = 2 then []
      else bad (b.uses 0x01 j && decide (((im.sram 16 i p).map Region.length).getD 0 < s)) noField) ++
    (b.ctUsers.flatMap fun d =>
      bad (d.cohort == i && decide (((im.sramCt i p d).map Region.length).getD 0 < im.ringPeak i)) noField) ++
    b.leads.flatMap fun q =>
      let d := q.2
      let inside := fun (kind need : Nat) => im.regions.any fun g =>
        g.kind == kind && g.cohort == i && g.die == positionCanton p && g.cluster == positionNumber p &&
          decide (g.base ≤ 4096 * d.sramOffset ∧ 4096 * d.sramOffset + need ≤ g.base + g.length)
      if d.cohort ≠ i then []
      else if d.opcode = 0x20 then
        bad (!inside 18 (8 * (spec.terms.length * 65536 + 4 * e + e * outWidth spec.outFormat))) (entryOff x.b p q.1 + 24)
      else []

def Adm.check22 (x : Adm) : List Nat :=
  let hbm := fun (c : Nat) => (x.im.regions.filter fun g => hbmKind g.kind && g.die == c).map Region.length
  let quota := (x.s.ctxSet x.c).quota
  (x.im.regions.zipIdx.flatMap fun (g, i) => (x.regionRefused g i).map (· + (secOff x.b 4 + 32 * i))) ++
  (x.templates.flatMap fun (t, i) => x.cohortMemory t i) ++
  ((List.range 4).flatMap fun c =>
    bad (decide (65536 * quota.getD c 0 < (hbm c).sum + (x.templates.map fun (t, i) => x.heldBytes t i c).sum)) noField) ++
  bad (x.im.cost.hbmBytes != ((List.range 4).map fun c => (hbm c).sum).sum) (secOff x.b 9 + 8) ++ bad x.overRate noField

-- Checks 23 to 25

/-- Floor on GROWTH (R223). -/
def growthOk (t : Template) (e : NoiseEntry) : Bool :=
  match e.rule with
  | 0 => e.growth == 0
  | 1 => e.growth == 0
  | 2 => decide (256 * e.logN ≤ e.growth)
  | 3 => decide (256 * e.logN + log2Up t.plaintextMod ≤ e.growth)
  | 5 => decide (256 * (e.logN - 1) ≤ e.growth)
  | _ => decide (256 * e.logN ≤ e.growth)

/-- (opcode, log2 N, level) of every ring descriptor. -/
def PlanImage.ringKeys (im : PlanImage) : List (Nat × Nat × Nat) :=
  (((im.blocks.flatMap Block.leads).filter fun e => decide (0x10 ≤ e.2.opcode ∧ e.2.opcode ≤ 0x1A)).map
    fun e => (e.2.opcode, e.2.param0 % 256, e.2.level)).eraseDups

def Adm.check23 (x : Adm) : List Nat :=
  let o := secOff x.b 7
  let keys := x.im.ringKeys
  let have_ := x.im.noise.map fun e => (e.opcode, e.logN, e.level)
  let m := x.im.noiseMargin
  bad (keys.any fun k => !have_.contains k) o ++ bad (m != 0 && decide (m < 256 ∨ 16384 < m)) (o + 4) ++
  x.im.noise.zipIdx.flatMap fun (e, i) =>
    let at_ := o + 8 + 16 * i
    let users := x.templates.filter fun (_, k) => (x.im.blocks.flatMap Block.leads).any fun z =>
      z.2.cohort == k && z.2.opcode == e.opcode && z.2.param0 % 256 == e.logN && z.2.level == e.level
    bad (!keys.contains (e.opcode, e.logN, e.level) || (have_.take i).contains (e.opcode, e.logN, e.level)) at_ ++
    bad (e.rule != noiseRule e.opcode) (at_ + 3) ++ bad (users.any fun (t, _) => !growthOk t e) (at_ + 4)

def Adm.check24 (x : Adm) : List Nat :=
  (List.range 4).flatMap fun c => bad (leAt x.b (secOff x.b 8 + 16 * c) 1 != c) (secOff x.b 8 + 16 * c)

def Adm.check25 (x : Adm) : List Nat :=
  let o := secOff x.b 9
  bad (decide (3 < x.im.cost.level ∨ x.s.hal.level < x.im.cost.level)) o ++
  bad (decide (3 < x.im.cost.powerClass ∨ x.s.set.powerClassLimit < x.im.cost.powerClass)) (o + 1)

-- The whole

/-- Checks 4 to 25 with their codes, in table order. -/
def Adm.checks (x : Adm) : List (Nat × List Nat) :=
  [(0x01300040, x.check4), (0x01300041, x.check5), (0x01300042, x.check6), (0x01300046, x.check7),
   (0x01300043, x.check8), (0x01300044, x.check9), (0x01300045, x.check10), (0x01300048, x.check11),
   (0x01300049, x.check12), (0x0130004A, x.check13), (0x01300051, x.check14), (0x0130004B, x.check15),
   (0x0130004C, x.check16), (0x01300055, x.check17), (0x0130004D, x.check18), (0x01300056, x.check19),
   (0x0130004E, x.check20), (0x0130004F, x.check21), (0x01300050, x.check22), (0x01300052, x.check23),
   (0x01300053, x.check24), (0x01300054, x.check25)]

/-- First failing check: its code and the first failing offset. -/
def firstRejection : List (Nat × List Nat) → Option (Nat × Nat)
  | [] => none
  | (_, []) :: r => firstRejection r
  | (code, o :: os) :: _ => some (code, os.foldl min o)

/-- The outcome of checks 4 to 25 on an image. -/
def State.admission (s : State) (c len : Nat) (b : Bytes) : Option (Nat × Nat) :=
  firstRejection (Adm.checks { s := s, c := c, b := b, len := len, im := readPlan b, digest := sha384 b })

-- Predicted SPENT (R224)

/-- Entry of the first step of a base sequence that would be SPENT. -/
def predictSpent (im : PlanImage) (t : Template) (agg : CtHeader) : List (Nat × Descriptor) → CtHeader → Option Nat
  | [], _ => none
  | (e, d) :: r, wh =>
    let out := outHeader im t d.opcode agg wh
    if im.noiseLimit t out.level < out.noise then some e else predictSpent im t agg r out

/-- Templates with a step that would be SPENT, each with its entry. -/
def PlanImage.spentTemplates (im : PlanImage) : List (Nat × Nat) :=
  im.templates.zipIdx.filterMap fun (t, i) =>
    if !t.isRing then none
    else
      let h : CtHeader := ⟨t.logN, t.chain, t.limbs, 0, 0, 0, 0, false, false, 0, noiseInit t, t.cohortId, 0, t.plaintextMod⟩
      let seqs := (im.blocks.flatMap fun b => b.sequences.map fun q =>
          q.2 ++ (((im.blocks.flatMap Block.leads).find? fun e => e.2.opcode == 0x1A && e.2.cohort == i).toList)).filter
        fun l => (l.head?.map fun e => e.2.cohort) == some i
      (seqs.findSome? fun l => predictSpent im t h l h).map fun e => (i, e)

end Sys2Proof.Machine
end

