-- ==== Sys2Proof/Machine/PlanCmds.lean ====
section
/-!
DEFINITION. Machine/PlanCmds.lean: submission, admission, start and unload of plans (R91, R109 to R112, R315).
-/
namespace Sys2Proof.Machine

/-- First loop boundary at or after a beat (R91). -/
def loopFrom (beat : Nat) : Nat := roundUp beat 4096

/-- Checks 1 to 3 of R109 at the moment the command is taken: the code of the first that fails. -/
def State.submitChecks (s : State) (c : Nat) : Option Nat :=
  if s.inHold || s.lead.takeover.isSome || s.clusters.any (fun k => k.takeoverWindow.isSome) then some 0x01300058
  else if s.hal.state = .start ∨ s.hal.state = .acquiring ∨ (s.hal.state = .freeRun ∧ !s.set.allowFreeRun) then
    some 0x01030015
  else if (s.plan c).state ≠ .none then some 0x01300047
  else none

/-- A rejected submission: its EVENT record and LAST_REJECT carry the code and the offset (R109). -/
def State.rejectPlan (s : State) (c code offset : Nat) : State :=
  (s.updPlan c fun p => { p with lastReject := (BitVec.ofNat 32 code, offset) }).record code s.srcLeader (some c)
    (leBytes 4 code ++ leBytes 4 offset)

/-- PLAN_SUBMIT: checks 1 to 3, then CHECKING while the image is read (R109, R315). -/
def execPlanSubmit (vf : Nat) (s : State) : Host.Outcome State Fault Refusal :=
  .next (s.command vf 0x01 fun s e =>
    let c := vfCtx vf
    if leAt e 8 8 % 4096 ≠ 0 then s.leaderDone vf e 0x01210017 0 0
    else match s.submitChecks c with
      | some code => (s.rejectPlan c code noField).leaderDone vf e code noField 0
      | none =>
        let s := s.updPlan c fun p => { p with state := .checking, submitLength := leAt e 16 4 }
        s.updVf vf fun x => { x with running := some e })

/-- The admitted plan is loaded: digest recorded, start boundary fixed (R110). -/
def State.admitPlan (s : State) (c : Nat) (image : Bytes) : State :=
  let im := readPlan image
  let digest := sha384 image
  let beat := s.hal.beatCount
  let s := s.updPlan c fun p =>
    { p with state := .loaded, image := some im, digest := digest, loadedBeat := beat, startAfter := 0, startBeat := 0,
             unloadAccepted := none, lastRound := [] }
  -- release counts run from the admission (R298)
  let s := { s with grixo := { s.grixo with releases := s.grixo.releases.filter fun r => r.1.1 != c } }
  let s := s.journal1 1 (some c) (digest ++ leBytes 8 (loopFrom (beat + 256)))
  im.spentTemplates.foldl (fun s x =>
    s.record 0x05130027 s.srcLeader (some c)
      (leBytes 4 x.1 ++ leBytes 4 x.2)) s

/-- Complete a leader command that runs on a VF, with its COMMAND record (R439). -/
def State.leaderRunning (s : State) (v op status r0 r1 : Nat) : State :=
  match (s.vf v).running with
  | some e => if Cmd.opcode e = op then s.leaderDone v e status r0 r1 else s
  | none => s

/-- PLAN_CHECK_COMPLETE: the image has been read and checks 4 to 25 end (R109, R110). No leader, no end: the command is
settled at the takeover (R319). -/
def execPlanCheckComplete (ctx : Nat) (image : Bytes) (s : State) : Host.Outcome State Fault Refusal :=
  let p := s.plan ctx
  if p.state ≠ .checking || s.inHold || s.noLeader then .next s
  else
    let v := s.vfOf ctx
    let image := padTo (min p.submitLength 0x4000001) image
    let s := s.count ctx fun k => { k with dmaFromHost := k.dmaFromHost + image.length }
    match s.admission ctx p.submitLength image with
    | some (code, offset) =>
      let s := (s.updPlan ctx fun p => { p with state := .none, submitLength := 0 }).rejectPlan ctx code offset
      .next (s.leaderRunning v 0x01 code offset 0)
    | none => .next ((s.admitPlan ctx image).leaderRunning v 0x01 0 0 0)

/-- A loaded plan may start at this instant (R91, R110). -/
def State.planDue (s : State) (c : Nat) : Bool :=
  let p := s.plan c
  p.state == .loaded && s.atLoop && !s.inHold && s.lead.takeover.isNone &&
    !(s.clusters.any fun k => k.takeoverWindow.isSome) &&
    decide (p.loadedBeat + 256 ≤ s.hal.beatCount ∧ p.startAfter ≤ s.hal.beatCount)

/-- PLAN_START: the plan runs from this loop boundary, entry 0 included: what was read ahead is read again (R91, R92, R110,
R111). -/
def execPlanStart (ctx : Nat) (s : State) : Host.Outcome State Fault Refusal :=
  if s.planDue ctx then
    let s := s.updPlan ctx fun p => { p with state := .running, startBeat := s.hal.beatCount }
    let s := { s with clusters := s.clusters.map fun (k : Cluster) => { k with ahead := none } }
    .next (s.record 0x05300060 s.srcLeader (some ctx) [])
  else .next s

/-- PLAN_UNLOAD: rejected without a plan or with a live round, else accepted for the next loop boundary (R91, R111). -/
def execPlanUnload (vf : Nat) (s : State) : Host.Outcome State Fault Refusal :=
  .next (s.command vf 0x02 fun s e =>
    let c := vfCtx vf
    let p := s.plan c
    if p.state ≠ .loaded ∧ p.state ≠ .running then s.leaderDone vf e 0x01210016 0 0
    else if s.rounds.any (fun r => r.ctx == c && (r.state.live || r.state == .opening)) then
      s.leaderDone vf e 0x01300059 0 0
    else
      let s := s.updPlan c fun p => { p with state := .unloading, unloadAccepted := some s.hal.beatCount }
      s.updVf vf fun x => { x with running := some e })

/-- The plan is gone: its entries are IDLE, its rounds and their data go with it, its ROUND connections close (R36, R91,
R111, R284). -/
def State.unloadPlan (s : State) (c : Nat) : State :=
  let s := s.updPlan c fun p => { PlanSlot.reset with lastReject := p.lastReject }
  let s := { s with rounds := s.rounds.filter fun r => r.ctx != c
                    clusters := s.clusters.map fun (k : Cluster) => k.without c }
  let s := s.closeAll (fun x => x.ctx == c && x.kind == 1) 0x05300061
  let s := s.journal1 2 (some c) (leBytes 8 s.hal.beatCount)
  s.record 0x05300061 s.srcLeader (some c) []

/-- PLAN_UNLOAD_EFFECT: at the first loop boundary after its acceptance an unload takes effect (R91, R111). -/
def execPlanUnloadEffect (ctx : Nat) (s : State) : Host.Outcome State Fault Refusal :=
  let p := s.plan ctx
  match p.unloadAccepted with
  | none => .next s
  | some b =>
    if p.state == .unloading && s.atLoop && !s.inHold && s.lead.takeover.isNone && decide (b < s.hal.beatCount) then
      -- a delivery past its release point is finished first (R254; log entry 20)
      let s := (s.rounds.filter fun r => r.ctx == ctx && r.delivering).foldl (fun s r => s.deliver ctx r.template) s
      .next ((s.unloadPlan ctx).leaderRunning (s.vfOf ctx) 0x02 0 s.hal.beatCount 0)
    else .next s

end Sys2Proof.Machine
end

