-- ==== Sys2Proof/Machine/Packets.lean ====
section
/-!
DEFINITION. Machine/Packets.lean: packets received on Grixo connections: the checks of R269, data packets, acknowledgement
and loss, credits and connection set-up (R263 to R296).
-/
namespace Sys2Proof.Machine

-- Checks and counts (R269)

/-- Check 5: version, type, reserved bits and length. -/
def packetShape (p : Bytes) : Bool :=
  decide (32 ≤ p.length ∧ Packet.version p = 1 ∧ 1 ≤ Packet.type p ∧ Packet.type p ≤ 7) && Packet.reservedZero p &&
    decide (Packet.length p + 32 + (if Packet.enc p then 16 else 0) = p.length)

/-- The packet comes from the connection's remote: address, and the port of its path. -/
def Conn.fromPeer (c : Conn) (p source : Bytes) (sport : Nat) : Bool :=
  source == c.remoteAddr && decide (Packet.path p < c.remotePaths ∧ sport = c.remoteSport + Packet.path p)

/-- Check 6 for an OPEN connection. -/
def Conn.checkSix (c : Conn) (p source : Bytes) (sport : Nat) : Bool :=
  c.state == .open && Packet.gen p == c.gen && c.fromPeer p source sport && Packet.enc p == c.enc

/-- Payload of a packet of a connection, if its tag holds (check 7). The sender's DIR is the other end's. -/
def State.openOn (s : State) (c : Conn) (p : Bytes) : Option Bytes :=
  openPacket c.enc (s.connKey c) (if c.passive then 0 else 1) p

/-- Check 7 failed. -/
def State.tagFailed (s : State) (c : Conn) : State :=
  (s.count c.ctx fun k => { k with dropTag := k.dropTag + 1 }).record 0x05200007 (srcHoist (connHoist c.index))
    (some c.ctx) (leBytes 2 c.index)

/-- Check 6 failed for a known connection: counted for its context, or at the sub-port alone once the first step of its
context's teardown is done (R269, R338). -/
def State.invalid (s : State) (lane : Nat) (c : Conn) : State :=
  if (s.ctx c.ctx).teardown.any fun t => t.step != .accepted then s.dropAt lane
  else s.count c.ctx fun k => { k with dropInvalid := k.dropInvalid + 1 }

/-- Count an accepted packet. -/
def State.countRx (s : State) (c : Conn) (bytes : Nat) : State :=
  (s.count c.ctx fun k => { k with pktsRx := k.pktsRx + 1, bytesRx := k.bytesRx + bytes }).updConn c.index fun c =>
    { c with lastUse := s.us }

-- Acknowledging (R271 to R273)

/-- Ticks of ACK_DELAY. -/
def State.ackTicks (s : State) : Nat := ceilDiv (s.set.ports.ackDelayNs * tickUs) 1000

/-- A message or read has something to acknowledge; with `now` set the ACK goes at once. -/
def State.oweAck (s : State) (idx : Nat) (e : Bool × Nat) (accepted now : Bool) : State :=
  let s := s.updConn idx fun c =>
    { c with ackDue := insertDue e c.ackDue
             ackCount := if accepted then c.ackCount + 1 else c.ackCount
             ackDueAt := if accepted then some (c.ackDueAt.getD (s.aon + s.ackTicks)) else c.ackDueAt }
  match s.conn? idx with
  | none => s
  | some c =>
    if now || decide (s.set.ports.ackPackets ≤ c.ackCount) then (s.sendAcks idx).pumpWaiting c.ctx (connHoist idx) else s

/-- A duplicate is not placed and triggers an ACK (R270, R272). -/
def State.duplicate (s : State) (c : Conn) (e : Bool × Nat) : State :=
  (s.count c.ctx fun k => { k with duplicatesRx := k.duplicatesRx + 1 }).oweAck c.index e false true

/-- Advance CUM past complete messages, and RX_SEND_SEQ past complete buffers. -/
def advanceCum (rx : List RxMsg) : Nat → Nat → Nat
  | 0, cum => cum
  | n + 1, cum => if rx.any (fun m => m.id == cum && m.complete) then advanceCum rx n (cum + 1) else cum

def advanceSeq (rx : List RxMsg) : Nat → Nat → Nat
  | 0, q => q
  | n + 1, q => if rx.any (fun m => m.type == 1 && m.sendSeq == q && m.complete) then advanceSeq rx n (q + 1) else q

def Conn.advance (c : Conn) : Conn :=
  { c with rxCum := advanceCum c.rx c.rx.length c.rxCum, rxSendSeq := advanceSeq c.rx c.rx.length c.rxSendSeq }

-- Data packets (R264, R270, R289, R294, R295)

/-- The type rules of R264. -/
def dataShape (kind : Nat) (p body : Bytes) : Bool :=
  let len := Packet.length p
  let i := Packet.index p
  let last := Packet.last p
  (Packet.type p == 1 || kind == 2) && decide (Packet.msgId p ≠ 0 ∧ i ≤ last) &&
  (if Packet.type p = 3 then
    decide (i = 0 ∧ last = 0 ∧ len = 16 ∧ 1 ≤ beAt body 0 4 ∧ beAt body 0 4 ≤ 2097152) && zeroAt body 4 12
   else decide (1 ≤ len ∧ len ≤ 8192 ∧ (i = last ∨ len = 8192))) &&
  (Packet.type p == 2 || Packet.type p == 3 || Packet.offset p == 0) && (Packet.type p != 4 || Packet.keyOrSeq p == 0)

/-- The RECV entry that waits for a SEND_SEQ on a connection's queue. -/
def State.recvFor (s : State) (c : Conn) (seq : Nat) : Option StartedEntry :=
  if c.queue < 64 then
    (s.queue c.ctx c.queue).started.find? fun x => Wqe.opcode x.bytes == 2 && x.seq == seq && !x.done
  else none

/-- Refusal code of the window-key check (R295); 0 if it passes. -/
def keyCode (w : WindowKey) (key : Nat) (startedOld : Bool) : Nat :=
  if w.current = some key then 0
  else if w.draining.map Prod.fst = some key then (if startedOld then 0 else 0x05200026)
  else 0x05200020

/-- What check 9 says of a data packet: accepted, dropped with a counted code, or refused with the connection closed. -/
inductive OpCheck where
  | accept (buckets : List Nat)
  | drop (code : Nat)
  | refuse (code : Nat)
  deriving DecidableEq, Repr

/-- Check 9 of R269. -/
def State.opCheck (s : State) (c : Conn) (p body : Bytes) (startedOld : Bool) : OpCheck :=
  let ty := Packet.type p
  let need := creditsFor (if ty = 3 then beAt body 0 4 else Packet.length p)
  if ty = 1 ∧ c.kind = 2 ∧ (s.recvFor c (Packet.keyOrSeq p)).isNone then .drop 0x05200022
  else match takeFrom c.outBucket need with
    | none => .drop 0x05200023
    | some b =>
      if ty = 1 then .accept b
      else
        let code := keyCode (s.windowKey c.ctx) (Packet.keyOrSeq p) startedOld
        if code ≠ 0 then .refuse code
        else if ty = 2 then
          if s.inRegion c.ctx [kindEvalKey] (Packet.offset p) (Packet.length p) then .accept b else .refuse 0x05200021
        else if s.inRegion c.ctx [kindEvalKey, kindOutput] (Packet.offset p) (beAt body 0 4) then .accept b
        else .refuse 0x05200021

/-- Count a drop of check 9, of a full tracker pool or of a full miss buffer, at its sub-port too, with its rate-limited
EVENT (R269, R285, R288). -/
def State.dropOp (s : State) (lane : Nat) (c : Conn) (code : Nat) : State :=
  ((s.dropAt lane).count c.ctx fun k =>
    if code = 0x05200022 then { k with dropNoRecv := k.dropNoRecv + 1 }
    else if code = 0x05200023 then { k with dropCredit := k.dropCredit + 1 }
    else { k with dropMiss := k.dropMiss + 1 }).record code (srcHoist (connHoist c.index)) (some c.ctx)
      (leBytes 2 c.index)

/-- Place a packet's bytes: whether they were beyond the buffer, and the state (R270). -/
def State.place (s : State) (c : Conn) (p body : Bytes) : Bool × State :=
  if Packet.type p = 2 then (false, s.writeMem c.ctx (Packet.offset p) body)
  else if Packet.type p = 1 ∧ c.kind = 2 then
    match s.recvFor c (Packet.keyOrSeq p) with
    | none => (false, s)
    | some x =>
      let o := 8192 * Packet.index p
      if Wqe.length x.bytes < o + body.length then (true, s)
      else (false, s.writeMem c.ctx (Wqe.localAddr x.bytes + o) body)
  else (false, s)

/-- A message's bitmap has completed (R271): a SEND to a queue finishes its RECV entry, one of a ROUND connection has
arrived for intake, and a READ_REQ starts its response. -/
def State.messageComplete (s : State) (c : Conn) (m : RxMsg) (p body : Bytes) : State :=
  if m.type = 1 ∧ c.kind = 2 then
    match s.recvFor c m.sendSeq with
    | none => s
    | some x =>
      let placed := m.parts.filter fun y => !m.overrun || decide (8192 * y.1 + y.2.length ≤ Wqe.length x.bytes)
      let moved := (placed.map fun y => y.2.length).sum
      let s := s.finishEntry c.ctx c.queue x.entry (if m.overrun then 0x05200008 else 0) moved
      let s := s.updConn c.index fun c =>
        { c with rx := updIf c.rx (fun y => y.id == m.id) fun (y : RxMsg) => { y with parts := [] } }
      if m.overrun then s.record 0x05200008 (srcHoist (connHoist c.index)) (some c.ctx) (leBytes 2 c.index) else s
  else if m.type = 3 then
    let len := beAt body 0 4
    let resp : TxMsg :=
      { id := m.id, type := 4, data := zeros len, sendSeq := 0, key := m.key, addr := Packet.offset p,
        packets := List.replicate (ceilDiv len 8192) .new, entry := none }
    (s.updConn c.index fun c => { c with waiting := c.waiting ++ [resp] }).pump c.index
  else if m.type = 1 then
    { s with grixo := { s.grixo with arrived := s.grixo.arrived ++ [(c.index, m.id)] } }
  else s

/-- An accepted data packet of types 1 to 3: charged, placed, its bit set (R270, R289). -/
def State.acceptData (s : State) (c : Conn) (p body : Bytes) (buckets : List Nat) : State :=
  let id := Packet.msgId p
  let (beyond, s) := s.place c p body
  let m : RxMsg := (c.rx.find? fun m => m.id == id).getD
    { id := id, type := Packet.type p, last := Packet.last p, bits := [], sendSeq := Packet.keyOrSeq p,
      key := Packet.keyOrSeq p, old := false, overrun := false, parts := [], carve := 0, complete := false }
  let bits := m.bits ++ [Packet.index p]
  let parts := if Packet.type p = 1 then m.parts ++ [(Packet.index p, body)] else []
  let whole := (List.range (m.last + 1)).all fun i => bits.contains i
  let m : RxMsg :=
    { m with bits := bits, overrun := m.overrun || beyond, parts := parts, complete := whole
             carve := if c.kind ≠ 1 then 0
               else if whole then roundUp (parts.map fun x => x.2.length).sum 4096 else 8192 * (m.last + 1) }
  let s := s.updConn c.index fun c =>
    { c with rx := (c.rx.filter fun x => x.id != id) ++ [m], outBucket := buckets }
  let s := s.countRx c body.length
  let s := if m.complete then s.messageComplete c m p body else s
  let s := if m.complete then s.updConn c.index Conn.advance else s
  s.oweAck c.index (false, id) true (Packet.ackReq p)

/-- A READ_RESP packet (R264, R270). -/
def State.rxResp (s : State) (lane : Nat) (c : Conn) (p body : Bytes) : State :=
  let id := Packet.msgId p
  let i := Packet.index p
  match c.reads.find? fun r => r.id == id with
  | none => if (assocGet c.past (true, id)).isSome then s.duplicate c (true, id) else s.dropAt lane
  | some r =>
    if Packet.last p ≠ ceilDiv r.length 8192 - 1 ∨ (i = Packet.last p ∧ body.length ≠ r.length - 8192 * i) then
      s.dropAt lane
    else if r.done || r.bits.contains i then s.duplicate c (true, id)
    else
      let s := s.writeMem c.ctx (r.dest + 8192 * i) body
      let bits := r.bits ++ [i]
      let done := (List.range (Packet.last p + 1)).all fun k => bits.contains k
      let s := s.updConn c.index fun c =>
        { c with reads := updIf c.reads (fun x => x.id == id) fun (x : OutRead) => { x with bits := bits, done := done } }
      let s := s.countRx c body.length
      let s := if done then s.finishEntry c.ctx r.queue r.entry 0 r.length else s
      s.oweAck c.index (true, id) true (Packet.ackReq p)

/-- The KIND 1 route from a ROUND connection's Hoist to its LANDING region carries nothing: its link is down (R446). -/
def State.landingCut (s : State) (c : Conn) : Bool :=
  match (s.image c.ctx).bind fun im => (im.regions[c.landing]?).map fun g => (im, g) with
  | none => false
  | some (im, g) => c.kind == 1 && im.routes.any fun r =>
      r.kind == 1 && r.src == srcHoist (connHoist c.index) && r.dst == srcCanton g.die && s.routeDown r

/-- A data packet that passed checks 1 to 7; one that cannot reach its landing buffer stays unacknowledged, and its sender
sends it again (R446; log entry 91). -/
def State.rxData (s : State) (lane : Nat) (c : Conn) (p body : Bytes) : State :=
  let id := Packet.msgId p
  if !dataShape c.kind p body then s.dropAt lane
  else if Packet.type p = 4 then s.rxResp lane c p body
  else
    let m := c.rx.find? fun m => m.id == id
    if id < c.rxCum then s.duplicate c (false, id)
    else if c.rxCum + 255 < id then s.dropAt lane
    else if m.any (fun m => m.last != Packet.last p || m.type != Packet.type p) then s.dropAt lane
    else if m.any (fun m => m.bits.contains (Packet.index p)) then s.duplicate c (false, id)
    else if m.isNone && !s.trackerFree c.ctx (connHoist c.index) then s.dropOp lane c 0x05200027
    else match s.opCheck c p body (m.any fun m => m.old) with
      | .accept b => if s.landingCut c then s else s.acceptData c p body b
      | .drop code => s.dropOp lane c code
      | .refuse code =>
        (s.closeConn c.index code .failed).record code (srcHoist (connHoist c.index)) (some c.ctx) (leBytes 2 c.index)

-- Acknowledgement and loss at the sender (R268, R273 to R275)

/-- Ticks of PATH_HOLD (R268). -/
def State.holdTicks (s : State) : Nat := s.set.ports.pathHoldUs * tickUs

/-- A packet sent on a path as the order-th of its connection is lost: it counts toward the path, and the path is
suspended at PATH_LOSS_LIMIT unless it is the last in use (R268). -/
def State.noteLoss (s : State) (idx path order : Nat) : State :=
  let s := s.updConn idx fun c =>
    { c with pathStates := updAt c.pathStates path fun q =>
        { q with history := updIf q.history (fun x => x.1 == order) fun x => (x.1, true) } }
  match s.conn? idx with
  | none => s
  | some c =>
    let q := c.pathStates.getD path .new
    let lost := (q.history.filter fun x => x.2).length
    let others := (List.range c.paths).any fun k => k != path && !c.suspended k
    if lost < s.set.ports.pathLossLimit ∨ q.suspended ∨ !others then s
    else
      let s := s.updConn idx fun c =>
        { c with pathStates := updAt c.pathStates path fun q =>
            { q with suspended := true, holdUntil := s.aon + s.holdTicks, probing := false } }
      s.record 0x05200004 (srcHoist (connHoist idx)) (some c.ctx) (leBytes 2 idx ++ leBytes 1 path)

/-- Lost packets by path and order. -/
def Conn.markLost (c : Conn) (lost : List (Nat × Nat)) : Conn :=
  let mark := fun (p : TxPacket) =>
    if p.sent && !p.acked && lost.contains (p.path, p.order) then { p with lost := true } else p
  { c with tx := c.tx.map fun (m : TxMsg) => { m with packets := m.packets.map mark } }

/-- Declare packets lost; `counted` losses go into their paths' histories. They are sent again at once (R275). -/
def State.declareLost (s : State) (idx : Nat) (lost : List (Nat × Nat)) (counted : Bool) : State :=
  let s := if counted then lost.foldl (fun s x => s.noteLoss idx x.1 x.2) s else s
  (s.updConn idx fun c => c.markLost lost).pump idx

/-- The entries of an ACK payload: RESP, MSG_ID and bitmap. -/
def ackEntries (body : Bytes) : List ((Bool × Nat) × Bytes) :=
  (List.range (beAt body 4 1)).map fun k =>
    let o := 8 + 40 * k
    (((beAt body (o + 4) 1).testBit 0, beAt body o 4), slice body (o + 8) 32)

def bitmapHas (b : Bytes) (i : Nat) : Bool := (b.getD (i / 8) 0).getLsbD (i % 8)

/-- ACK payload rules (R265). -/
def ackShape (body : Bytes) : Bool :=
  let n := beAt body 4 1
  decide (n ≤ 64 ∧ body.length = 8 + 40 * n) && zeroAt body 5 3 &&
    (List.range n).all fun k => decide (beAt body (8 + 40 * k + 4) 1 < 2) && zeroAt body (8 + 40 * k + 5) 3

/-- Packet `i` of a message is acknowledged by CUM or an entry. -/
def TxMsg.ackedBy (m : TxMsg) (cum : Nat) (es : List ((Bool × Nat) × Bytes)) (i : Nat) : Bool :=
  (m.type != 4 && decide (m.id < cum)) || es.any fun e => e.1 == (m.type == 4, m.id) && bitmapHas e.2 i

/-- Merge an ACK (R273): packets shown as accepted, and packets of the same path sent before one of them lost (R274). -/
def State.mergeAck (s : State) (c : Conn) (body : Bytes) : State :=
  let cum := beAt body 0 4
  let es := ackEntries body
  let tx := c.tx.map fun (m : TxMsg) =>
    { m with packets := m.packets.zipIdx.map fun (p, i) => if p.sent && m.ackedBy cum es i then { p with acked := true } else p }
  let flat := tx.flatMap TxMsg.packets
  let shown := (flat.filter fun p => p.acked).map fun p => (p.path, p.order)
  let lost := (flat.filter fun p => p.sent && !p.acked && !p.lost &&
    shown.any fun x => x.1 == p.path && decide (p.order < x.2)).map fun p => (p.path, p.order)
  let whole := fun (m : TxMsg) => m.packets.all fun p => p.acked
  let left := tx.filter fun m => !whole m
  let s := s.updConn c.index fun c =>
    { c with tx := left
             txOldest := (left.filter fun m => m.type != 4).foldl (fun a m => min a m.id) c.txNext }
  let s := (tx.filter whole).foldl (fun s m => match m.entry with
    | some (q, n) => s.finishEntry c.ctx q n 0 m.data.length
    | none => s) s
  (s.declareLost c.index lost true).pumpWaiting c.ctx (connHoist c.index)

-- Control packets (R266, R268, R283, R284, R290)

/-- CTRL payload rules; the values of a set-up packet in range. -/
def ctrlShape (body : Bytes) : Bool :=
  let sub := Packet.ctrlSub body
  let sp := Packet.ctrlSport body
  decide (body.length = 32 ∧ 1 ≤ sub ∧ sub ≤ 6) && zeroAt body 3 1 && zeroAt body 16 16 &&
  (decide (2 < sub) || decide (1 ≤ Packet.ctrlPaths body ∧ Packet.ctrlPaths body ≤ 16 ∧ Packet.ctrlEnc body ≤ 1 ∧
    sp % 16 = 0 ∧ 1024 ≤ sp ∧ sp ≤ 65520 ∧ 1 ≤ Packet.ctrlFirst body ∧ Packet.ctrlReason body = 0))

/-- The highest CTRL_SEQ received. -/
def State.noteCtrl (s : State) (c : Conn) (p : Bytes) : State :=
  (s.countRx c (Packet.length p)).updConn c.index fun c => { c with rxCtrl := max c.rxCtrl (Packet.ctrlSeq p) }

/-- A connection enters OPEN with the other end's values (R283, R294); its queue's buffers count anew. -/
def State.enterOpen (s : State) (c : Conn) (body : Bytes) : State :=
  let s := s.updConn c.index fun c =>
    { c with state := .open, remoteGen := Packet.ctrlGen body, remoteSport := Packet.ctrlSport body,
             remotePaths := Packet.ctrlPaths body, remoteFirst := Packet.ctrlFirst body, accepted := body,
             txNext := c.first, txOldest := c.first, rxCum := Packet.ctrlFirst body, txSendSeq := 1, rxSendSeq := 1,
             tx := [], rx := [], reads := [], waiting := [], past := [], txOrder := 0, outBase := s.window, ackDue := [],
             ackCount := 0, ackDueAt := none }
  if c.queue < 64 then s.updQueue c.ctx c.queue fun w => { w with dead := false, recvCount := 0 } else s

/-- K_conn of a CONN_REQ as its receiver derives it (R354). -/
def State.reqKey (s : State) (c : Conn) (p body : Bytes) : Bytes :=
  connKeyFrom (s.grixoKey c) (Packet.srcConn p) (Packet.ctrlGen body) c.index
    (Packet.ctrlFirst body)

/-- Refuse a CONN_REQ with REASON 0x0520_0024 to its source: SRC_CONN and GEN of its payload name the receiver, and the
sender's fields are those of the connection that DST_CONN names, if there is one (R266, R283). The refusal of an encrypted
request to such a connection carries the tag that the requester tests. Nothing else changes. -/
def State.refuseReq (s : State) (lane : Nat) (source : Bytes) (p body : Bytes) : State :=
  let i := Packet.dstConn p
  let ipv4 := source.take 12 == mapped4 []
  let own := (s.conn? i).filter fun c => decide (connHoist c.index = lane / 32)
  let sealed := own.filter fun c => c.enc && Packet.enc p
  let paths := (own.map Conn.paths).getD 1
  let enc := (own.map Conn.enc).getD false
  let ctrl := beBytes 1 3 ++ beBytes 1 paths ++ beBytes 1 (if enc then 1 else 0) ++ zeros 1 ++ beBytes 2 (sportBase i) ++
    beBytes 2 ((own.map Conn.gen).getD 0) ++ beBytes 4 (max 1 ((own.map Conn.first).getD 1)) ++ beBytes 4 0x05200024 ++ zeros 16
  let hdr := grixoHeader 7 (if sealed.isSome then 1 else 0) 0 (Packet.srcConn p) i (Packet.ctrlGen body) 32 (zeros 6) 0 0
  let key := (sealed.map fun c => s.reqKey c p body).getD []
  match s.laneOf (32768 * (lane / 32) + i % 32768) ipv4 0 with
  | none => s
  | some out => s.emit (.frame out (s.grixoFrame out (((s.port out).hop ipv4).getD []) ipv4 source i 0 s.set.ports.dscpCtrl
      (sportBase i) (sealPacket sealed.isSome key 1 hdr ctrl)))

/-- A CONN_REQ (R283). -/
def State.rxReq (s : State) (lane : Nat) (source p : Bytes) : State :=
  let body := Packet.body p
  if !ctrlShape body then s.dropAt lane
  else
    let matches_ := fun (c : Conn) => source == c.remoteAddr && Packet.srcConn p == c.remoteConn &&
      Packet.enc p == c.enc && (Packet.ctrlEnc body == 1) == c.enc
    match (s.conn? (Packet.dstConn p)).filter fun c => decide (connHoist c.index = lane / 32) && matches_ c with
    | none => s.refuseReq lane source p body
    | some c =>
      if c.state ≠ .listen ∧ !(c.state == .open && c.passive && c.accepted == body) then
        s.refuseReq lane source p body
      else if (openPacket c.enc (s.reqKey c p body) 0 p).isNone then s.tagFailed c
      else
        let s := s.noteCtrl c p
        let s := if c.state = .listen then s.enterOpen c body else s
        s.sendConnCtrl c.index 2 0

/-- CTRL packets other than CONN_REQ, and ACK and CREDIT, of a connection that passed checks 6 and 7. -/
def State.rxCtrl (s : State) (lane : Nat) (c : Conn) (p body : Bytes) : State :=
  match Packet.type p with
  | 5 => if ackShape body then (s.noteCtrl c p).mergeAck c body else s.dropAt lane
  | 6 =>
    let e := beAt body 12 1
    if body.length ≠ 16 ∨ e = 0 ∨ 16 < e ∨ !zeroAt body 13 3 then s.dropAt lane
    else ((s.noteCtrl c p).updConn c.index fun c => c.addGrant s.us (beAt body 8 4) e).pump c.index
  | _ =>
    if !ctrlShape body then s.dropAt lane
    else
      let s := s.noteCtrl c p
      match Packet.ctrlSub body with
      | 4 =>
        let reason := Packet.ctrlReason body
        (s.endConn c.index .closed (if reason = 0 then 0x05200025 else reason)).record 0x05200025
          (srcHoist (connHoist c.index)) (some c.ctx) (leBytes 2 c.index ++ leBytes 2 c.gen ++ leBytes 4 reason)
      | 5 => s.sendCtrlOn c.index 7 (ctrlPayload c 6 0) (some (Packet.path p))
      | 6 =>
        let q := c.pathStates.getD (Packet.path p) .new
        if q.suspended && q.probing && decide (s.aon ≤ q.holdUntil) then
          (s.updConn c.index fun c => { c with pathStates := updAt c.pathStates (Packet.path p) fun _ => .new }).record
            0x05200005 (srcHoist (connHoist c.index)) (some c.ctx) (leBytes 2 c.index ++ leBytes 1 (Packet.path p))
        else s
      | _ => s.dropAt lane

/-- CONN_ACCEPT or CONN_REFUSE at a REQUESTING end: check 6 against that state, then the tag (R283). -/
def State.rxAnswer (s : State) (lane : Nat) (c : Conn) (p source : Bytes) (sport : Nat) : State :=
  let body := Packet.body p
  let isAccept := Packet.ctrlSub body == 2
  if !(Packet.gen p == c.gen && Packet.srcConn p == c.remoteConn && source == c.remoteAddr && Packet.enc p == c.enc &&
      (!isAccept || (sport == Packet.ctrlSport body + Packet.path p && decide (Packet.path p < Packet.ctrlPaths body)))) then
    s.invalid lane c
  else if (s.openOn c p).isNone then s.tagFailed c
  else if !ctrlShape body then s.dropAt lane
  else
    let s := s.noteCtrl c p
    if isAccept then
      if (Packet.ctrlEnc body == 1) == c.enc then s.enterOpen c body else s.dropAt lane
    else s.failConn c.index 0x05200024

/-- Checks 6 to 9 of a packet of a resident connection; a CONN_REQ has checks of its own in place of check 6. -/
def State.process (s : State) (lane : Nat) (source : Bytes) (sport : Nat) (p : Bytes) : State :=
  let sub := if Packet.type p = 7 then Packet.ctrlSub (Packet.body p) else 0
  if sub = 1 then s.rxReq lane source p
  else match s.conn? (Packet.dstConn p) with
    | none => s.dropAt lane
    | some c =>
      if (sub = 2 ∨ sub = 3) ∧ c.state = .requesting then s.rxAnswer lane c p source sport
      else if !c.checkSix p source sport then s.invalid lane c
      else match s.openOn c p with
        | none => s.tagFailed c
        | some body => if Packet.type p ≤ 4 then s.rxData lane c p body else s.rxCtrl lane c p body

/-- Bytes of the context's share of the miss buffer that waiting packets occupy, and the share (R288). -/
def State.missUsed (s : State) (ctx hoist : Nat) : Nat :=
  ((s.grixo.conns.filter fun c => c.ctx == ctx && connHoist c.index == hoist).flatMap fun c =>
    c.missQueue.map fun m => m.2.2.2.length).sum
def State.missShare (s : State) (ctx hoist : Nat) : Nat := 4194304 / 2048 * (s.ctxSet ctx).resident.get hoist

/-- A packet that passed checks 1 to 4: check 5, then its connection; a packet of a record that is not resident waits for
its fetch (R269, R288). -/
def State.receive (s : State) (lane : Nat) (source : Bytes) (sport : Nat) (p : Bytes) : State :=
  if !packetShape p then s.dropAt lane
  else match (s.conn? (Packet.dstConn p)).filter fun c => decide (connHoist c.index = lane / 32) with
    | none => if Packet.type p = 7 ∧ Packet.ctrlSub (Packet.body p) = 1 then s.rxReq lane source p else s.dropAt lane
    | some c =>
      let h := connHoist c.index
      if c.resident then s.process lane source sport p
      else if s.missUsed c.ctx h + p.length ≤ s.missShare c.ctx h then
        s.updConn c.index fun c => { c with missQueue := c.missQueue ++ [(lane, source, sport, p)] }
      else s.dropOp lane c 0x05200027

/-- A packet is one that a row stands for: of its TYPE and SUBTYPE, or one that check 5 drops. -/
def rowTakes (type sub : Nat) (p : Bytes) : Bool :=
  let b := Packet.ctrlSub (Packet.body p)
  (Packet.type p == type && (type != 7 || b == sub || decide (b = 0 ∨ 6 < b))) || !packetShape p

/-- A frame comes in on a sub-port: a frame that carries no datagram for the Hoist's UDP port is dropped and counted
(checks 1 to 4 of R269), one of address resolution is left to its row, and so is a packet to the row of its type. -/
def State.rxRow (s : State) (type sub lane : Nat) (f : Bytes) (now : Nat) : State :=
  let s := s.at now
  if !s.listens lane then s
  else match s.datagram lane f with
    | some (source, sport, p) => if rowTakes type sub p then s.receive lane source sport p else s
    | none => if s.resolution lane f = .no then s.dropAt lane else s

/-- RX_SEND_PACKET (R270, R294). -/
def execRxSendPacket (lane : Nat) (destination source rest : Bytes) (now : Nat) (s : State) :
    Host.Outcome State Fault Refusal :=
  .next (s.rxRow 1 0 lane (destination ++ source ++ rest) now)
/-- RX_WRITE_PACKET (R295). -/
def execRxWritePacket (lane : Nat) (destination source rest : Bytes) (now : Nat) (s : State) :
    Host.Outcome State Fault Refusal :=
  .next (s.rxRow 2 0 lane (destination ++ source ++ rest) now)
/-- RX_READ_REQ (R295). -/
def execRxReadReq (lane : Nat) (destination source rest : Bytes) (now : Nat) (s : State) :
    Host.Outcome State Fault Refusal :=
  .next (s.rxRow 3 0 lane (destination ++ source ++ rest) now)
/-- RX_READ_RESP (R270). -/
def execRxReadResp (lane : Nat) (destination source rest : Bytes) (now : Nat) (s : State) :
    Host.Outcome State Fault Refusal :=
  .next (s.rxRow 4 0 lane (destination ++ source ++ rest) now)
/-- RX_ACK (R273 to R275). -/
def execRxAck (lane : Nat) (destination source rest : Bytes) (now : Nat) (s : State) :
    Host.Outcome State Fault Refusal :=
  .next (s.rxRow 5 0 lane (destination ++ source ++ rest) now)
/-- RX_CREDIT (R290, R291). -/
def execRxCredit (lane : Nat) (destination source rest : Bytes) (now : Nat) (s : State) :
    Host.Outcome State Fault Refusal :=
  .next (s.rxRow 6 0 lane (destination ++ source ++ rest) now)
/-- RX_CONN_REQ (R283). -/
def execRxConnReq (lane : Nat) (destination source rest : Bytes) (now : Nat) (s : State) :
    Host.Outcome State Fault Refusal :=
  .next (s.rxRow 7 1 lane (destination ++ source ++ rest) now)
/-- RX_CONN_ACCEPT (R283). -/
def execRxConnAccept (lane : Nat) (destination source rest : Bytes) (now : Nat) (s : State) :
    Host.Outcome State Fault Refusal :=
  .next (s.rxRow 7 2 lane (destination ++ source ++ rest) now)
/-- RX_CONN_REFUSE (R283). -/
def execRxConnRefuse (lane : Nat) (destination source rest : Bytes) (now : Nat) (s : State) :
    Host.Outcome State Fault Refusal :=
  .next (s.rxRow 7 3 lane (destination ++ source ++ rest) now)
/-- RX_CONN_CLOSE (R284). -/
def execRxConnClose (lane : Nat) (destination source rest : Bytes) (now : Nat) (s : State) :
    Host.Outcome State Fault Refusal :=
  .next (s.rxRow 7 4 lane (destination ++ source ++ rest) now)
/-- RX_PROBE (R268). -/
def execRxProbe (lane : Nat) (destination source rest : Bytes) (now : Nat) (s : State) :
    Host.Outcome State Fault Refusal :=
  .next (s.rxRow 7 5 lane (destination ++ source ++ rest) now)
/-- RX_PROBE_REPLY (R268). -/
def execRxProbeReply (lane : Nat) (destination source rest : Bytes) (now : Nat) (s : State) :
    Host.Outcome State Fault Refusal :=
  .next (s.rxRow 7 6 lane (destination ++ source ++ rest) now)

end Sys2Proof.Machine
end

