-- ==== Sys2Proof/Machine/Ports.lean ====
section
/-!
DEFINITION. Machine/Ports.lean: timers of the transport, the module's send area, record fetches, and sub-ports (R257 to
R261, R267, R272 to R275, R283, R284, R288, R293).
-/
namespace Sys2Proof.Machine

-- Timers

/-- A timer of a connection works on its record, which is fetched if it must be; it waits while no resident slot can take
it (R288). -/
def State.withRecord (s : State) (conn : Nat) (f : State → Conn → State) : State :=
  match s.makeResident conn with
  | none => s
  | some s => match s.conn? conn with
    | none => s
    | some c => f s c

/-- ACK_DELAY_EXPIRY: ACK_DELAY after the first data packet accepted since the previous ACK (R272). -/
def execAckDelayExpiry (conn now : Nat) (s : State) : Host.Outcome State Fault Refusal :=
  let s := s.at now
  match s.conn? conn with
  | none => .next s
  | some c =>
    .next (if c.ackDueAt.any fun t => decide (t ≤ s.aon) then
      s.withRecord conn fun s c => (s.sendAcks conn).pumpWaiting c.ctx (connHoist conn) else s)

/-- A packet's timer has expired: sent, not acknowledged, and RTO × 2^min(r, 5) old (R274). -/
def State.timedOut (s : State) (p : TxPacket) : Bool := p.sent && !p.acked && !p.lost && decide (p.due ≤ s.aon)

/-- RETX_TIMER_EXPIRY: the packet is lost and sent again, or at RETX_LIMIT the connection fails; the timers of a Hoist
without an up sub-port stand still (R267, R274, R275). -/
def execRetxTimerExpiry (conn message packet now : Nat) (s : State) : Host.Outcome State Fault Refusal :=
  let s := s.at now
  match s.conn? conn with
  | none => .next s
  | some c =>
    let due := (c.tx.filter fun m => m.id == message).filterMap fun m => (m.packets[packet]?).filter s.timedOut
    match due with
    | [] => .next s
    | p :: _ =>
      if c.state ≠ .open ∨ !s.canSend (connHoist conn) c.ipv4 then .next s
      else if s.set.ports.retxLimit ≤ p.retries then .next (s.failConn conn 0x05200006)
      else .next (s.declareLost conn [(p.path, p.order)] true)

/-- PATH_HOLD_EXPIRY: after PATH_HOLD one PROBE goes out on the suspended path (R268). -/
def execPathHoldExpiry (conn path now : Nat) (s : State) : Host.Outcome State Fault Refusal :=
  let s := s.at now
  match s.conn? conn with
  | none => .next s
  | some c =>
    let q := c.pathStates.getD path .new
    if c.state ≠ .open ∨ !q.suspended ∨ q.probing ∨ s.aon < q.holdUntil then .next s
    else .next (s.withRecord conn fun s c =>
      match s.putPacket c path 7 0 (beBytes 6 c.txCtrl) 0 0 (ctrlPayload c 5 0) with
      | none => s
      | some (s, _) => s.updConn conn fun c =>
          { c with txCtrl := (c.txCtrl + 1) % 2 ^ 48
                   pathStates := updAt c.pathStates path fun q =>
                     { q with probing := true, holdUntil := s.aon + s.rtoTicks 0 } })

/-- PROBE_TIMEOUT: no PROBE_REPLY came within the RTO (R268). -/
def execProbeTimeout (conn path now : Nat) (s : State) : Host.Outcome State Fault Refusal :=
  let s := s.at now
  match s.conn? conn with
  | none => .next s
  | some c =>
    let q := c.pathStates.getD path .new
    if q.suspended && q.probing && decide (q.holdUntil < s.aon) then
      .next (s.withRecord conn fun s _ => s.updConn conn fun c => { c with pathStates := updAt c.pathStates path fun q =>
        { q with probing := false, holdUntil := s.aon + s.holdTicks } })
    else .next s

/-- CONN_REQ_RESEND: at RTO × 2^n after the n-th sending; after RETX_LIMIT resends the connection fails (R283). -/
def execConnReqResend (conn now : Nat) (s : State) : Host.Outcome State Fault Refusal :=
  let s := s.at now
  match s.conn? conn with
  | none => .next s
  | some c =>
    if c.state ≠ .requesting ∨ s.aon < c.reqDue then .next s
    else if s.set.ports.retxLimit < c.reqSent then .next (s.failConn conn 0x05200024)
    else .next (s.sendReq conn)

/-- Send the first CONN_CLOSE of a connection that is due among closings; one whose third has gone is done. -/
def resendClose (conn : Nat) : List Closing → State → List Closing × State
  | [], s => ([], s)
  | k :: r, s =>
    if k.conn.index = conn ∧ k.due ≤ s.aon then
      let (k, s) := s.sendClosing k
      (if k.left = 0 then r else k :: r, s)
    else let (r, s) := resendClose conn r s; (k :: r, s)

/-- CONN_CLOSE_RESEND: CONN_CLOSE goes out three times, RTO apart, also where the connection is set up anew or destroyed in
between (R284). -/
def execConnCloseResend (conn now : Nat) (s : State) : Host.Outcome State Fault Refusal :=
  let s := s.at now
  let (l, s) := resendClose conn s.grixo.closing s
  .next { s with grixo := { s.grixo with closing := l } }

/-- MODULE_SEND_DEQUEUE: the oldest message of the send area goes out once the peer's live credit covers its first
packet beside what is already owed (R285, R293). -/
def execModuleSendDequeue (conn : Nat) (s : State) : Host.Outcome State Fault Refusal :=
  match s.conn? conn with
  | none => .next s
  | some c =>
    match c.sendArea with
    | [] => .next s
    | m :: rest =>
      if c.state ≠ .open ∨ (c.inLive s.us).sum < c.unsentCredits + creditsFor (m.take 8192).length then .next s
      else match s.readyToSend conn with
        | (false, s) => .next s
        | (true, s) => .next ((s.updConn conn fun c => { c with sendArea := rest }).newMsg conn 1 m 0 0 none)

/-- RECORD_FETCH: a record that packets wait for becomes resident, evicting another if it must, and they are processed in
arrival order; a record that fails its CRC, as one does whose store was lost, fails its connection (R288). -/
def execRecordFetch (conn : Nat) (crcOk : Bool) (now : Nat) (s : State) : Host.Outcome State Fault Refusal :=
  let s := s.at now
  match s.conn? conn with
  | none => .next s
  | some c =>
    if c.resident ∨ c.missQueue.isEmpty then .next s
    else match (s.updConn conn fun c => { c with intact := c.intact && crcOk }).makeResident conn with
      | none => .next s
      | some s =>
        let s := s.updConn conn fun c => { c with missQueue := [] }
        .next (c.missQueue.foldl (fun s x => s.process x.1 x.2.1 x.2.2.1 x.2.2.2) s)

-- Sub-ports (R257 to R261)

/-- Everything that connections of a Hoist may send now goes out. -/
def State.pumpHoist (s : State) (hoist : Nat) : State :=
  ((s.grixo.conns.filter fun c => connHoist c.index == hoist).map Conn.index).foldl (fun s i => s.pump i) s

/-- A sub-port goes down: packets last sent on it are lost, uncounted, and go again on another; the last one of a Hoist
raises the ALARM (R260, R274). -/
def State.downPort (s : State) (lane : Nat) : State :=
  let h := lane / 32
  if !(s.port lane).up then s
  else
    let s := (s.updPort lane fun p => { p with up := false, hop6 := none, hop4 := none }).timersFrom s
    let s := s.record 0x05200002 (srcHoist h) none (leBytes 1 lane)
    let s := (s.grixo.conns.filter fun c => connHoist c.index == h).foldl (fun s c =>
      let lost := (c.tx.flatMap TxMsg.packets).filterMap fun p =>
        if p.sent && !p.acked && p.port == lane then some (p.path, p.order) else none
      if lost.isEmpty then s else s.declareLost c.index lost false) s
    if (List.range 64).any fun l => l / 32 == h && (s.port l).up then s
    else s.record 0x04200003 (srcHoist h) none []

/-- The next hops of a locked sub-port are resolved as given: with one of them it is up, and what may go goes; without any
it is down (R260, R261). -/
def State.setHops (s : State) (lane : Nat) (hop6 hop4 : Option Bytes) : State :=
  let h := lane / 32
  let keep := fun (v4 : Bool) (o : Option Bytes) => if s.family h v4 then o else none
  let h6 := keep false hop6
  let h4 := keep true hop4
  if h6.isNone && h4.isNone then s.downPort lane
  else
    let was := (s.port lane).up
    let s := (s.updPort lane fun p => { p with up := true, hop6 := h6, hop4 := h4 }).timersFrom s
    let s := if was then s else s.record 0x05200001 (srcHoist h) none (leBytes 1 lane)
    s.pumpHoist h

/-- SUBPORT_UP: block lock and alignment-marker lock on every lane, and a next hop resolved, by the answer to a request that
has gone out (R260, R261). -/
def execSubportUp (lane : Nat) (hop6 hop4 : Option Bytes) (now : Nat) (s : State) : Host.Outcome State Fault Refusal :=
  let s := s.at now
  let p := s.port lane
  if !s.portUsable lane ∨ !p.training ∨ p.up ∨
      !(hop6.isSome && s.family (lane / 32) false || hop4.isSome && s.family (lane / 32) true) then .next s
  else
    let s := s.updPort lane fun p => { p with locked := true, resolvedAt := s.aon }
    .next ((s.askHops lane fun _ => true).setHops lane hop6 hop4)

/-- SUBPORT_DOWN: the sub-port lost lock or its next hop; training goes on (R260). -/
def execSubportDown (lane now : Nat) (s : State) : Host.Outcome State Fault Refusal :=
  .next (((s.at now).downPort lane).updPort lane fun p => { p with locked := false })

/-- SUBPORT_FEC_TAKEDOWN: more than 16 uncorrectable codewords in a second take the sub-port down, up or still without a next
hop, for one second (R260). -/
def execSubportFecTakedown (lane codewords now : Nat) (s : State) : Host.Outcome State Fault Refusal :=
  let s := s.at now
  let s := { s with stats := { s.stats with fec := updAt s.stats.fec (lane / 4) (· + codewords) } }
  if !(s.port lane).training ∨ codewords ≤ 16 then .next s
  else
    let s := s.record 0x05200009 (srcHoist (lane / 32)) none (leBytes 1 lane)
    .next ((s.downPort lane).updPort lane fun p =>
      { p with training := false, locked := false, retrainAt := some (s.aon + tickS) })

/-- SUBPORT_RETRAIN: one second after a takedown training starts again (R260). -/
def execSubportRetrain (lane now : Nat) (s : State) : Host.Outcome State Fault Refusal :=
  let s := s.at now
  match (s.port lane).retrainAt with
  | some t =>
    .next (if t ≤ s.aon ∧ s.portUsable lane then s.updPort lane fun p => { p with training := true, retrainAt := none } else s)
  | none => .next s

/-- A family of a Hoist is enabled and its gateway is not resolved on a sub-port. -/
def State.unresolved (s : State) (lane : Nat) (ipv4 : Bool) : Bool :=
  s.family (lane / 32) ipv4 && ((s.port lane).hop ipv4).isNone

/-- NEXT_HOP_REFRESH: every 30 s the gateway of each family is asked for again on a sub-port with lock, and at once where
one is not resolved; the answers decide whether the sub-port is up (R260, R261; log entry 55). -/
def execNextHopRefresh (lane : Nat) (answer6 answer4 : Option Bytes) (now : Nat) (s : State) :
    Host.Outcome State Fault Refusal :=
  let s := s.at now
  let p := s.port lane
  let due := decide (p.resolvedAt + 30 * tickS ≤ s.aon) || s.unresolved lane false || s.unresolved lane true
  if !p.locked ∨ !due then .next s
  else
    let s := s.updPort lane fun p => { p with resolvedAt := s.aon }
    .next ((s.askHops lane fun _ => true).setHops lane answer6 answer4)

/-- ADDRESS_RESOLUTION_RX: a request for the port's own address is answered, no other; another ICMP or ICMPv6 message is
dropped and counted (R261). Port 64 is the management port (R451). A Grixo datagram is left to the row of its type. -/
def execAddressResolutionRx (lane : Nat) (destination rest : Bytes) (s : State) : Host.Outcome State Fault Refusal :=
  let frame := destination ++ rest
  if !s.answers lane then .next s
  else match s.resolution lane frame with
    | .reply r => .next (s.emit (.frame lane r))
    | .silent => .next s
    | .no => .next (if (s.datagram lane frame).isSome then s else s.dropAt lane)

-- Writes of the data-port entries (R259, R277): the effect with its code, 0 when the write stands

/-- A Hoist has an open connection: its RWI entries are not idle. -/
def State.hoistBusy (s : State) (hoist : Nat) : Bool :=
  s.grixo.conns.any fun c => c.state == .open && connHoist c.index == hoist

def State.setPorts (s : State) (f : PortSettings → PortSettings) : State :=
  s.persist fun p => { p with ports := f p.ports }

/-- Start training on the sub-ports of the enabled ports that `p` names (R259, R260). -/
def State.trainPorts (s : State) (p : Nat → Bool) : State :=
  let train := fun ((x, l) : SubPort × Nat) =>
    if p (l / 4) && s.portUsable l then { x with training := true, retrainAt := none } else x
  { s with grixo := { s.grixo with ports := s.grixo.ports.zipIdx.map train } }

/-- Stop the sub-ports of a port (R259). -/
def State.stopPort (s : State) (n : Nat) : State :=
  let s := [4 * n, 4 * n + 1, 4 * n + 2, 4 * n + 3].foldl (fun s l => s.downPort l) s
  let halt := fun ((x, l) : SubPort × Nat) =>
    if l / 4 = n then { x with training := false, locked := false, retrainAt := none } else x
  { s with grixo := { s.grixo with ports := s.grixo.ports.zipIdx.map halt } }

/-- PORT_ENABLE: cleared bits take their sub-ports down at once, set bits start training. -/
def State.writePortEnable (s : State) (v : Nat) : Nat × State :=
  let old := s.set.ports.enable
  let s := s.setPorts fun p => { p with enable := BitVec.ofNat 16 v }
  let s := (List.range 16).foldl (fun s n => if old.getLsbD n && !v.testBit n then s.stopPort n else s) s
  (0, s.trainPorts fun n => !old.getLsbD n && v.testBit n)

/-- PORT_MODE, an entry of both Hoists: no write while either has an open connection, and no change of an enabled port
(R259, R277; log entry 55). -/
def State.writePortMode (s : State) (v : Nat) : Nat × State :=
  let changed := (List.range 16).filter fun n => s.set.ports.modeOf n != v / 4 ^ n % 4
  if (List.range 16).any fun n => v / 4 ^ n % 4 == 3 then (0x01200011, s)
  else if s.hoistBusy 0 || s.hoistBusy 1 || changed.any (fun n => s.set.ports.enable.getLsbD n) then (0x01200010, s)
  else (0, s.setPorts fun p => { p with mode := BitVec.ofNat 32 v })

/-- A unicast address: neither multicast nor broadcast. -/
def unicast6 (b : Bytes) : Bool := b.getD 0 0 != 0xFF
def unicast4 (v : Nat) : Bool := !decide (0xE0 ≤ v / 2 ^ 24 ∧ v / 2 ^ 24 ≤ 0xEF) && v != 0xFFFFFFFF

/-- The addresses of a Hoist are no longer those of `old`: a gateway that changed, or whose family is disabled, is
unresolved; a sub-port left without any goes down, and the new gateways are asked for (R260, R261). -/
def State.rehop (s old : State) (hoist lane : Nat) : State :=
  let p := s.port lane
  if lane / 32 ≠ hoist ∨ !p.locked then s
  else
    let same := fun (v4 : Bool) => s.gateway hoist v4 == old.gateway hoist v4 && old.family hoist v4
    let s := s.askHops lane fun v4 => !same v4
    if (same false || p.hop6.isNone) && (same true || p.hop4.isNone) && (s.family hoist false || p.hop6.isNone) &&
        (s.family hoist true || p.hop4.isNone) then s
    else s.setHops lane (if same false then p.hop6 else none) (if same true then p.hop4 else none)

/-- An address entry of a Hoist: its families and next hops change with it (R261). -/
def State.writeAddress (s : State) (hoist : Nat) (okValue : Bool) (f : PortSettings → PortSettings) : Nat × State :=
  if !okValue then (0x01200011, s)
  else if s.hoistBusy hoist then (0x01200010, s)
  else (0, (List.range 64).foldl (fun x l => x.rehop s hoist l) (s.setPorts f))

/-- UDP_PORT: both Hoists idle. -/
def State.writeUdpPort (s : State) (v : Nat) : Nat × State :=
  if v < 1024 then (0x01200011, s)
  else if s.hoistBusy 0 || s.hoistBusy 1 then (0x01200010, s)
  else (0, s.setPorts fun p => { p with udpPort := v })

end Sys2Proof.Machine
end

