-- ==== Sys2Proof/Machine/Resets.lean ====
section
/-!
DEFINITION. Machine/Resets.lean: the resets as shared operations (R318, R389, R396 to R402), the grant of the Jack (R428)
and the awake claims (R412), which several families call.
-/
namespace Sys2Proof.Machine

-- Function Level Reset (R318)

/-- An FLR of a VF: reset values, every queue of the bound context DESTROYING, the running command's completion
discarded; a command before its commit point has no effect. -/
def State.flr (s : State) (v : Nat) : State :=
  let c := vfCtx v
  let bound := s.bound v
  let op := ((s.vf v).running.map Cmd.opcode).getD 0
  let s := s.updVf v fun _ => .reset
  let s := if bound then (List.range 64).foldl (fun s q => (s.destroyQueue c q none).endQueue c q) s else s
  let s := if bound ∧ op = 0x01 ∧ (s.plan c).state = .checking then s.updPlan c fun p => { p with state := .none } else s
  let s := if bound ∧ op = 0x02 ∧ (s.plan c).state = .unloading then
      s.updPlan c fun p =>
        { p with state := if p.startBeat = 0 then .loaded else .running, unloadAccepted := none }
    else s
  s.record 0x05210030 (srcHoist (vfEndpoint v)) (if bound then some c else none) []

/-- An FLR of every VF of an endpoint (R318, R401). -/
def State.flrAll (s : State) (endpoint : Nat) : State :=
  (List.range 16).foldl (fun s c => s.flr (16 * endpoint + c)) s

-- The Jack (R428)

def State.cp (s : State) (i : Nat) : Cp := if i = 0 then s.lead.cp0 else s.lead.cp1
def State.updCp (s : State) (i : Nat) (f : Cp → Cp) : State :=
  if i = 0 then { s with lead := { s.lead with cp0 := f s.lead.cp0 } }
  else { s with lead := { s.lead with cp1 := f s.lead.cp1 } }
/-- CP firmware runs on a Hoist. -/
def State.cpRuns (s : State) (i : Nat) : Bool := if i = 0 then s.start.cpRuns.1 else s.start.cpRuns.2

/-- Kinds of a message on the lease lines: 1 grant, 2 acknowledgement, 3 refusal, 4 NO_HOLDER, 5 renewal. -/
def leaseGrant : Nat := 1
def leaseAck : Nat := 2
def leaseRefusal : Nat := 3
def leaseNoHolder : Nat := 4
def leaseRenewal : Nat := 5

/-- Burgee grants the Jack: the next epoch, never 0, for 1,000 ms; the takeover begins (R428, R442). -/
def State.grant (s : State) (i : Nat) : State :=
  let e := s.lead.epoch % 0xFFFFFFFF + 1
  let s := { s with lead := { s.lead with
    holder := some i, epoch := e, expiry := s.aon + 1000 * tickMs
    takeover := some ⟨i, e, !s.lead.grantedThisStart⟩, handover := none, grantedThisStart := true } }
  let s := { s with lead := { s.lead with
    cp0 := { s.lead.cp0 with requested := none, leads := false }
    cp1 := { s.lead.cp1 with requested := none, leads := false } } }
  let s := s.updCp i fun c => { c with epoch := e, expiry := s.aon + 990 * tickMs, renewalSent := none }
  (s.emit (.leaseMessage i leaseGrant e)).record 0x05500001 srcBurgee none (leBytes 1 i ++ zeros 3 ++ leBytes 4 e)

/-- Burgee sets HOLDER to none and tells both CPs, which yield as they receive it (R428). -/
def State.noHolder (s : State) : State :=
  let e := s.lead.epoch
  let s := { s with lead := { s.lead with
    holder := none, takeover := none, handover := none
    cp0 := { s.lead.cp0 with requested := none }
    cp1 := { s.lead.cp1 with requested := none } } }
  (s.emit (.leaseMessage 0 leaseNoHolder e)).emit (.leaseMessage 1 leaseNoHolder e)

/-- 0x5000.0B MIRROR_LAG (R441). -/
def State.mirrorLag (s : State) : Nat := s.journal.seq - s.journal.applied

/-- What a handover asks for (R432): a leader outside HOLD, no takeover, nothing left to mirror, and another CP that
runs. -/
def State.mayHandOver (s : State) (i : Nat) : Bool :=
  !s.inHold && s.lead.takeover.isNone && s.mirrorLag == 0 && s.cpRuns (1 - i)

/-- The leader writes a LEADER record and releases the Jack, and the other CP is granted it at once (R432). -/
def State.handOver (s : State) (i : Nat) : State :=
  let s := s.journal1 12 none (leBytes 1 i ++ leBytes 1 1 ++ zeros 2 ++ leBytes 4 s.lead.epoch)
  let s := s.updCp i fun c => { c with leads := false, renewalSent := none }
  { s with lead := { s.lead with holder := none } }.grant (1 - i)

/-- A window boundary: an accepted handover takes place once nothing is left to mirror; one that R432 would refuse by now
for another reason is dropped (R432, R449; log entry 47). -/
def State.handOverDue (s : State) : State :=
  match s.lead.handover, s.leaderCp with
  | some b, some i =>
    if s.hal.beatCount < b ∨ s.mirrorLag ≠ 0 then s
    else if s.mayHandOver i then s.handOver i
    else { s with lead := { s.lead with handover := none } }
  | some _, none => { s with lead := { s.lead with handover := none } }
  | none, _ => s

-- Domains (R389, R405)

/-- Domain bits of the Cantons, and of one Canton or Hoist. -/
def cantonBits : BitVec 24 := 0xFFF000
def cantonMask (c : Nat) : BitVec 24 := (0x111000 : BitVec 24) <<< c
def hoistMask (h : Nat) : BitVec 24 := (0x000554 : BitVec 24) <<< h

def State.powerOff (s : State) (mask : BitVec 24) : State :=
  { s with power := { s.power with powered := s.power.powered &&& ~~~mask, regulated := s.power.regulated &&& ~~~mask,
                                   latched := s.power.latched ||| (mask &&& 0xFFFFFE) } }

/-- Every Canton domain is powered (R406). -/
def State.cantonsPowered (s : State) : Bool := s.power.powered &&& cantonBits == cantonBits

/-- The Cantons lose power: clusters, DRBGs and what lived in HBM go (R396). -/
def State.loseCantons (s : State) : State :=
  { s with clusters := clustersReset, drbgs := List.replicate 512 .reset
           sensors := { s.sensors with dieTemp := (List.replicate 4 (-128 : Int)) ++ s.sensors.dieTemp.drop 4 }
           start := { s.start with cantonReady := [false, false, false, false], cantonReset := [false, false, false, false]
                                   dieState := [0, 0, 0, 0] ++ s.start.dieState.drop 4 } }

-- Resets that clear every domain except AON (R396, R398)

/-- What a context keeps over such a start: the record of a teardown in progress, which its receipt needs (R337, log
entry 29). -/
def Ctx.restarted (x : Ctx) : Ctx := { Ctx.reset with teardown := x.teardown }

/-- The state at t0 of a start of a kind. Domains outside `keep` are off; AON keeps what it holds. -/
def State.restart (s : State) (kind cause wake : Nat) (retry : Bool) (keep : BitVec 24) (t0 : Nat) : State :=
  let pending := s.hal.pendingLevel
  let s := s.powerOff (~~~keep)
  { s with
    recorder := { s.recorder with h0 := .empty, h1 := .empty, powerFail := [], buckets := [], suppressed := [],
                                  lostPending := false }
    hal := { s.hal with pendingLevel := none, emergencyDue := if s.hal.emergencyDue.isSome then s.hal.emergencyDue
                          else if !s.hal.frozen && s.hal.level != 0 then some s.hal.beatCount else none
                        level := if s.hal.frozen then 0 else s.hal.level }
    start := { Startup.reset with
      t0 := some t0, kind := kind, cause := cause, wakeSource := wake, retry := retry, misses := s.start.misses
      stageStart := t0, resetCause := s.start.resetCause, nextDomain := 1, perst := s.start.perst, pllLocked := s.start.pllLocked }
    power := { s.power with entry := none, committed := none, retryAt := none, latchedWakes := [], waking := none
                            idleSince := none, furl := 0, tripped := false, ramping := false, railLevel := 0 }
    sensors := { s.sensors with dieTemp := List.replicate 6 (-128) }
    pack := { s.pack with measureAt := some t0, holdup := none }
    keys := { s.keys with slots := [], saltD := [], epochD := 0, grixo := [], blobs := [], maskEpoch := 0 }
    att := { s.att with mr0 := [], mr1 := [], stageNext := (none, none), m := [], aliasStatement := [], burgeeSvn := 0,
                        cpSvn := 0, burgeeBuild := 0, cpBuild := 0 }
    lead := { Lead.reset with epoch := s.lead.epoch, expiry := s.lead.expiry }
    journal := .reset
    mgmt := .reset
    host := .reset
    ctxs := s.ctxs.map Ctx.restarted
    plans := List.replicate 16 .reset
    clusters := clustersReset
    drbgs := List.replicate 512 .reset
    rounds := []
    grixo := .reset
    stats := .reset }
  |> fun s => match pending with
    | none => s
    -- written when Burgee restarts (R399)
    | some p => s.record 0x05030009 srcBurgee none (leBytes 1 p.target ++ zeros 7 ++ leBytes 8 p.edge)

/-- A MODULE reset (R396). -/
def State.moduleReset (s : State) (cause : Nat) (retry : Bool) : State := s.restart 2 cause 0 retry 1 s.aon

/-- A missed deadline or regulation window (R388, R389): its ALARM, and a MODULE reset twice in succession, then a stop at
the failing stage. A regulation window (`also`) has disabled every domain but those of the stage A functions by then, and
writes its ALARM at the stop too (log entry 36). -/
def State.missed (s : State) (code : Nat) (payload : Bytes) (also : Bool) : State :=
  let m := s.start.misses + 1
  let s := { s with start := { s.start with misses := m } }
  if m < 3 then (s.moduleReset 0x13 true).record code srcBurgee none payload
  else
    let s := if also then
        let s := (s.powerOff 0xFFFFFC).loseCantons
        let s : State := { s with start := { s.start with cpRuns := (false, false) }, mgmt := { s.mgmt with dtls := false } }
        s.record code srcBurgee none payload
      else s
    let s := { s with start := { s.start with stopped := some ((s.start.stage.map (· + 1)).getD 0) } }
    s.record 0x04020003 srcBurgee none []

/-- Stop start-up at a stage under a rule (R388). -/
def State.stopAt (s : State) (stage code : Nat) : State :=
  ({ s with start := { s.start with stopped := some stage } }).record code srcBurgee none []

-- Die links (R354)

def State.updLink (s : State) (i : Nat) (f : DieLink → DieLink) : State :=
  { s with lead := { s.lead with links := updAt s.lead.links i f } }

/-- A link is trained: a new session number for its encryption (R354). -/
def State.trainDieLink (s : State) (i : Nat) : State :=
  let (b, s) := s.draw 4
  s.updLink i fun l => { l with down := false, fails := 0, session := leNat b }

/-- Links trained with a stage, one after another (R394). -/
def State.trainDieLinks (s : State) (l : List Nat) : State := l.foldl (fun s i => s.trainDieLink i) s

-- HOIST and CANTON resets (R396, R398)

/-- Payload of 0x0502_0008 (R540). -/
def resetPayload (kind wake part : Nat) : Bytes := leBytes 1 kind ++ leBytes 1 wake ++ leBytes 2 part ++ zeros 28

/-- The connections of a Hoist are lost: what waits on them ends, and the records go (R279, R398). -/
def State.loseConns (s : State) (hoist : Nat) : State :=
  let mine := s.grixo.conns.filter fun c => connHoist c.index == hoist
  let s := mine.foldl (fun s c => s.endConn c.index .closed 0x05200025) s
  let drop := fun ((x, l) : SubPort × Nat) => if l / 32 = hoist then { SubPort.reset with drops := x.drops } else x
  { s with grixo := { s.grixo with conns := s.grixo.conns.filter fun c => connHoist c.index != hoist
                                   ports := s.grixo.ports.zipIdx.map drop
                                   stopped := s.grixo.stopped.filter fun x => x.1.1 != hoist
                                   closing := s.grixo.closing.filter fun x => connHoist x.conn.index != hoist
                                   arrived := s.grixo.arrived.filter fun x => connHoist x.1 != hoist } }

/-- A HOIST reset: one Hoist's domains are cleared; a leader there loses the Jack to the other CP at once (R396, R398,
R433). -/
def State.resetHoist (s : State) (h : Nat) : State :=
  let s := s.flrAll h
  let s := s.loseConns h
  let s := (s.powerOff (hoistMask h)).record 0x05020008 (srcHoist h) none (resetPayload 6 0 (srcHoist h))
  let rounds := s.rounds.flatMap fun r => r.slots.filter fun x => x.1 == h
  let unload := fun (k : KeySlot) =>
    if rounds.contains (k.hoist, k.slot) then { k with attr := k.attr &&& ~~~1#32, value := [] } else k
  let s : State := { s with
    start := { s.start with
      cpRuns := if h = 0 then (false, s.start.cpRuns.2) else (s.start.cpRuns.1, false)
      hoistReset := if h = 0 then (true, s.start.hoistReset.2) else (s.start.hoistReset.1, true)
      retryStatus := if h = 0 then (true, s.start.retryStatus.2) else (s.start.retryStatus.1, true)
      dieState := updAt s.start.dieState (4 + h) fun _ => 1 }
    host := if h = 0 then { s.host with ep0 := .reset } else { s.host with ep1 := .reset }
    recorder := if h = 0 then { s.recorder with h0 := .empty, powerFail := [] } else { s.recorder with h1 := .empty }
    -- the round keys loaded on this Hoist are gone; its other slots are reloaded with the same values
    keys := { s.keys with slots := s.keys.slots.map unload }
    att := if h = 0 then { s.att with mr0 := [], stageNext := (none, none) } else { s.att with mr1 := [] }
    mgmt := if h = 0 then
        { s.mgmt with
          sessions := List.replicate 8 none, approvals := [], dtls := false, credStage := []
          policyStage := List.replicate 16 [] }
      else s.mgmt }
  let s := s.updCp h fun _ => .reset
  if s.lead.holder ≠ some h then s
  else
    let s := s.noHolder
    if s.cpRuns (1 - h) then s.grant (1 - h) else s

/-- Bytes of a context that lie in a region of its plan on a Canton. -/
def State.onCanton (s : State) (c canton a : Nat) : Bool :=
  ((s.image c).map fun im => im.regions.any fun r =>
    r.kind != 0 && hbmKind r.kind && r.die == canton && decide (r.base ≤ a ∧ a < r.base + r.length)).getD false

/-- The context's plan has a region or a non-IDLE entry on a Canton (R446). -/
def State.planOn (s : State) (c canton : Nat) : Bool :=
  ((s.image c).map fun im =>
    im.regions.any (fun r => r.die == canton) ||
    im.blocks.zipIdx.any fun (b, x) => positionCanton x == canton && !b.entries.isEmpty).getD false

/-- Contents of a context's memory become undefined at the addresses `p`, and wherever nothing is listed (log entry
28). -/
def State.poisonMem (s : State) (c : Nat) (p : Nat → Bool) : State :=
  let mark := s.draws + 1
  ({ s with draws := mark }).updCtx c fun x =>
    { x with poison := mark
             memory := x.memory.filter fun (a, b) => !(p a) && b != Config.lostByte mark c a }

/-- A CANTON reset: its domains are cleared and its HBM is lost, so every plan on it is lost; the others go on (R396,
R446, R447). -/
def State.resetCanton (s : State) (canton : Nat) : State :=
  let users := (List.range 16).filter fun c => s.planOn c canton
  let s := users.foldl (fun s c => (s.poisonMem c (s.onCanton c canton)).losePlan c) s
  let cluster := fun ((k, i) : Cluster × Nat) => if i / 16 = canton then Cluster.reset canton (i % 16) else k
  let drbg := fun ((d, i) : Drbg × Nat) => if i / 128 = canton then Drbg.reset else d
  let s : State := { s with
    start := { s.start with
      cantonReset := updAt s.start.cantonReset canton fun _ => true
      cantonReady := updAt s.start.cantonReady canton fun _ => false
      dieState := updAt s.start.dieState canton fun _ => 1
      substituted := updAt s.start.substituted canton fun _ => 15 }
    lead := { s.lead with spareState := updAt s.lead.spareState canton fun _ => 15 }
    clusters := s.clusters.zipIdx.map cluster
    drbgs := s.drbgs.zipIdx.map drbg }
  (s.loseStore canton).record 0x05020008 (srcCanton canton) none (resetPayload 7 0 (srcCanton canton))

/-- A Canton has completed its stage C steps, with the clusters that failed BIST (R395): none, one that the spare
replaces, the spare itself, or a failed Canton. -/
def State.cantonDone (s : State) (canton failed : Nat) : State :=
  let bad := (List.range 16).filter fun k => failed.testBit k
  if 2 ≤ bad.length then
    ({ s with start := { s.start with dieState := updAt s.start.dieState canton fun _ => 3 } }).record 0x04020005
      (srcCanton canton) none []
  else
    let passed := fun ((k, i) : Cluster × Nat) =>
      if i / 16 = canton then { k with selfTestPassed := !(bad.contains (i % 16)) } else k
    let s : State := { s with
      start := { s.start with
        dieState := updAt s.start.dieState canton fun _ => 2
        cantonReady := updAt s.start.cantonReady canton fun _ => true
        cantonReset := updAt s.start.cantonReset canton fun _ => false }
      clusters := s.clusters.zipIdx.map passed }
    match bad with
    | k :: _ =>
      if k = 15 then
        let s := s.updCluster (16 * canton + 15) fun c => { c with unavailable := true, failed := true }
        { s with lead := { s.lead with spareState := updAt s.lead.spareState canton fun _ => 14 } }
      else
        let s := s.updCluster (16 * canton + k) fun c => { c with failed := true, position := none }
        let s := s.updCluster (16 * canton + 15) fun c => { c with position := some (15 * canton + k) }
        let s := { s with
          start := { s.start with substituted := updAt s.start.substituted canton fun _ => k }
          lead := { s.lead with spareState := updAt s.lead.spareState canton fun _ => k } }
        s.record 0x05020006 (srcCluster (16 * canton + k)) none []
    | [] => s

/-- The leader requests SERVICE for the clusters of a Canton that may serve, once the Canton's stage C is complete; without
a leader nobody asks, and the next leader does (R27, R28). -/
def State.requestService (s : State) (canton : Nat) : State :=
  let passed := s.start.cantonReady.getD canton false && s.stageCDone
  let ask := fun ((k, i) : Cluster × Nat) =>
    if passed && !s.noLeader && i / 16 == canton && k.request.isNone && k.position.isSome && k.selfTestPassed && !k.failed && k.owner == .maintenance then
      { k with tableLoaded := true, request := some (.service, s.hal.beatCount) }
    else k
  { s with clusters := s.clusters.zipIdx.map ask }

-- Bits of dictionary and register use

/-- ALERT_CAUSES (R480). -/
def State.alertCauses (s : State) : Nat :=
  (if s.recorder.acked < s.recorder.lastAlarm ∨ s.recorder.lostPending = true then 1 else 0) + (if s.start.stopped.isSome then 2 else 0) +
  (if s.power.tripped then 4 else 0) + (if s.lead.burgeeHold then 8 else 0)

end Sys2Proof.Machine
end

