-- ==== Sys2Proof/Machine/Boot.lean ====
section
/-!
DEFINITION. Machine/Boot.lean: firmware images and boot selection (R367 to R370), the non-volatile key record and the
lifecycle (R362, R363, R381, R382), the fixed keys and the alias statement (R343, R374), the salts (R345), and the
hand-over of the AON store (R489, R490), as shared operations.
-/
namespace Sys2Proof.Machine

-- Firmware images (R367, R368)

namespace Fw
def kind (b : Bytes) : Nat := leAt b 6 1
def signer (b : Bytes) : Nat := leAt b 7 1
def svn (b : Bytes) : Nat := leAt b 8 4
def build (b : Bytes) : Nat := leAt b 12 4
def bodyLength (b : Bytes) : Nat := leAt b 16 4
def mcOffset (b : Bytes) : Nat := leAt b 20 4
def mcLength (b : Bytes) : Nat := leAt b 24 4
def body (b : Bytes) : Bytes := slice b 512 (bodyLength b)

/-- Signers permitted in a lifecycle state. -/
def permitted (lc : Lifecycle) (signer : Nat) : Bool :=
  match lc with
  | .blank => decide (signer ≤ 2)
  | .test => decide (signer ≤ 2)
  | .develop => decide (1 ≤ signer ∧ signer ≤ 2)
  | .production => signer == 2
  | .return => signer == 2
  | .scrapped => false

/-- Structure, reserved fields, signer, public key and signature of a header. -/
def headerOk (lc : Lifecycle) (k : Nat) (b : Bytes) : Bool :=
  decide (512 ≤ b.length) && slice b 0 4 == ascii "TLFW" && leAt b 4 2 == 1 && kind b == k && zeroAt b 28 4 &&
  zeroAt b 320 192 && permitted lc (signer b) &&
  (if k = 1 then decide (1 ≤ bodyLength b ∧ bodyLength b ≤ 1048576) && zeroAt b 20 8 && zeroAt b 80 48
   else decide (1 ≤ bodyLength b ∧ bodyLength b ≤ 67108864 ∧ 1 ≤ mcLength b ∧ mcLength b ≤ 8388608 ∧
     mcOffset b + mcLength b ≤ bodyLength b)) &&
  sha384 (slice b 128 96) == Config.bootKeys.getD (signer b) [] &&
  ecdsaVerify (slice b 128 96) (slice b 0 224) (slice b 224 96)

/-- The body and the microcode match their digests. -/
def bodyOk (k : Nat) (b : Bytes) : Bool :=
  decide (512 + bodyLength b ≤ b.length) && sha384 (body b) == slice b 32 48 &&
  (k == 1 || sha384 (slice (body b) (mcOffset b) (mcLength b)) == slice b 80 48)

def verifies (lc : Lifecycle) (k : Nat) (b : Bytes) : Bool := headerOk lc k b && bodyOk k b

/-- Slot selection (R369): the slot (true: B) and whether the preferred one was passed over. Preference goes by the
verified headers; the body is verified while it is loaded (log entry 30). -/
def select (lc : Lifecycle) (k : Nat) (a b : Bytes) : Option (Bool × Bool) :=
  let ha := headerOk lc k a
  let hb := headerOk lc k b
  let bFirst := hb && (!ha || decide (svn a < svn b ∨ (svn a = svn b ∧ build a < build b)))
  if !ha && !hb then none
  else if bFirst then
    if bodyOk k b then some (true, false) else if ha && bodyOk k a then some (false, true) else none
  else if bodyOk k a then some (false, false)
  else if hb && bodyOk k b then some (true, true)
  else none
end Fw

-- The non-volatile key record (R362, R363)

/-- The selected record. -/
def State.nv (s : State) : NvRecord := ((if s.keys.nvSlotB then s.keys.nvB else s.keys.nvA)).getD .new

/-- The pack is healthy (R516). -/
def State.packHealthy (s : State) : Bool := s.pack.packState == 1

/-- The code with which a non-volatile update fails: it is refused while the pack is not healthy, and otherwise its
read-back has differed twice (R363). -/
def State.nvFailure (s : State) : Nat := if s.packHealthy then 0x04400022 else 0x01400020

/-- A non-volatile update: the other slot takes the changed record with the next SEQ and the tamper counts of AON; none
while the pack is not healthy or if the read-back differs twice (a free value), and then the record stands (R361, R363). -/
def State.nvUpdate (s : State) (f : NvRecord → NvRecord) : Option State :=
  if !s.packHealthy || Config.nvWriteFails s.aon (s.nv.seq + 1) then none
  else
    let r := f s.nv
    let r := some { r with seq := s.nv.seq + 1, tamperCount := s.keys.tamperCount, tamperCause := s.keys.tamperCause }
    some { s with keys :=
      if s.keys.nvSlotB then { s.keys with nvA := r, nvSlotB := false } else { s.keys with nvB := r, nvSlotB := true } }

/-- A non-volatile update that the module owes itself: if it fails, its code is recorded. -/
def State.nvUpdateOr (s : State) (f : NvRecord → NvRecord) : State :=
  (s.nvUpdate f).getD (s.record s.nvFailure srcBurgee none [])

def Lifecycle.ofCode (n : Nat) : Lifecycle :=
  match n with
  | 0 => .blank
  | 1 => .test
  | 2 => .develop
  | 3 => .production
  | 4 => .return
  | _ => .scrapped

def State.setFuses (s : State) (lc : Lifecycle) : State := { s with keys := { s.keys with fuses := lc } }

/-- The pending transition at stage A (R381, R382). -/
def State.applyLifecycle (s : State) : State :=
  let r := s.nv
  let force := fun (s : State) => s.record 0x05410021 srcBurgee none []
  if s.keys.fuses = .scrapped then s
  else if r.lifecycle = 5 then force (s.setFuses .scrapped)
  else if r.pending = 5 then
    match s.nvUpdate fun r => { r with lifecycle := 5, pending := 0xFF } with
    | none => s.record s.nvFailure srcBurgee none []
    | some s => force (s.setFuses .scrapped)
  else if r.pending ≤ 4 then
    force ((s.setFuses (.ofCode r.pending)).nvUpdateOr fun x => { x with lifecycle := r.pending, pending := 0xFF })
  else if r.lifecycle ≠ s.keys.fuses.code then s.nvUpdateOr fun x => { x with lifecycle := s.keys.fuses.code }
  else s

-- Measurements and fixed keys (R343, R370, R371, R374)

/-- MR5 of the lifecycle state in force. -/
def State.mr5 (s : State) : Bytes := sha384 (beBytes 1 s.lifecycle.code ++ serialBytes)

/-- MR0 to MR5 of a start from the selected images. -/
def State.measure (s : State) : List Bytes :=
  let bg := if s.att.bootSlots.getLsbD 0 then s.att.burgeeB.bytes else s.att.burgeeA.bytes
  let cp := if s.att.bootSlots.getLsbD 1 then s.att.cpB.bytes else s.att.cpA.bytes
  [Config.romDigest, sha384 (bg.take 320), Config.cpRomDigest, sha384 (cp.take 320), slice cp 80 48, s.mr5]

/-- The DEVICE keys of a Hoist's store (R343, R346). -/
def State.deviceSlots (s : State) (h : Nat) : List KeySlot :=
  let k := fun (slot masters usage kind : Nat) (v : Bytes) => KeySlot.mk h slot (slotAttr masters 16 usage kind) v
  [k 0 3 2 2 (s.fixedKey "TA32 wrap" 32), k 1 3 1 7 (s.fixedKey "TA32 parent" 32),
   k 2 3 1 7 (s.fixedKey "TA32 mem" 32), k 3 3 1 7 (s.fixedKey "TA32 link" 32)] ++
  (if h = 0 then [k 4 4 11 7 (derive (Config.rootSecret 4) "TA32 nv" serialBytes 32)] else []) ++
  [k 5 3 7 6 (s.fixedKey "TA32 id" 64), k 6 3 6 6 (s.measuredKey "TA32 alias" 64), k 7 3 8 7 s.roundFamily,
   k 8 3 9 3 s.importKey, k 9 0x80 10 6 (s.fixedKey "TA32 mgmt" 64)]

/-- The alias statement (R374). -/
def State.formAlias (s : State) : State :=
  let body := ascii "TLAS" ++ leBytes 2 1 ++ leBytes 1 s.lifecycle.code ++ zeros 1 ++ leBytes 8 Config.serial ++
    padTo 48 s.att.m ++ padTo 96 (p384Public s.aliasKey) ++ padTo 32 (x25519Public s.importKey) ++ zeros 32
  let (sig, s) := s.sign s.idKey body
  { s with att := { s.att with aliasStatement := body ++ sig } }

/-- Both CPs run: the registers agree (both boot from one slot), M is formed, and the keys of R343 are derived. -/
def State.deriveKeys (s : State) : State :=
  let mr := s.measure
  let s := { s with att := { s.att with mr0 := mr, mr1 := mr, m := sha384 mr.flatten } }
  let s := { s with keys := { s.keys with
    slots := (s.keys.slots.filter fun (k : KeySlot) => decide (15 < k.slot)) ++ s.deviceSlots 0 ++ s.deviceSlots 1 } }
  s.formAlias

-- Salts, parent keys and memory keys of a start or a creation (R345, R350, R357)

/-- An epoch drawn with a salt: not 0 and not the previous one. -/
def epochFrom (n old : Nat) : Nat :=
  let e := if n % 2 ^ 32 = 0 then 1 else n % 2 ^ 32
  if e ≠ old then e else if e = 0xFFFFFFFF then 1 else e + 1

/-- A context starts at memory generation 1 with a new salt: parent key in slot 16 + c, window key drawn, pages zeroed. -/
def State.startKeys (s : State) (c : Nat) : State :=
  let (salt, s) := s.draw 32
  let (e, s) := s.draw 4
  let s := s.updCtx c fun x => { x with salt := salt, epoch := epochFrom (leNat e) x.epoch, poison := 0, memory := [] }
  let gen := s.nextGeneration c 1
  let s := s.updCtx c fun x => { x with pagesAssigned := true, mem := ⟨gen.1, 1, [], gen.2, []⟩ }
  let pk := s.parentKey c
  let slot := fun (h : Nat) => KeySlot.mk h (16 + c) (slotAttr 3 c 2 2) pk
  let s := { s with keys := { s.keys with
    slots := (s.keys.slots.filter fun (k : KeySlot) => k.slot != 16 + c) ++ [slot 0, slot 1] } }
  let (w, s) := s.drawWindowKey .none
  s.setWindowKey c { WindowKey.none with current := some w }

/-- The salts that a start draws: the module's and those of every ACTIVE context. -/
def State.startSalts (s : State) : State :=
  let (salt, s) := s.draw 32
  let (e, s) := s.draw 4
  let s := { s with keys := { s.keys with saltD := salt, epochD := epochFrom (leNat e) s.keys.epochD } }
  ((List.range 16).filter fun c => (s.ctxSet c).state == .active).foldl (fun s c => s.startKeys c) s

-- The event recorder at stage B (R489, R490)

/-- The record with the highest number in flash. -/
def Recorder.lastInFlash (q : Recorder) : Option Record := (q.circ.getLast?) <|> q.fixed.getLast?

/-- The counter of a POWER-ON start: one past the highest number in flash, or 8,192 further with 0x0560_0003. -/
def State.resumeCounter (s : State) : State :=
  let n := (s.recorder.lastInFlash.map Record.seq).getD 0
  let skip := if s.recorder.flushed then 0 else 8192
  let s := { s with recorder := { s.recorder with counter := n + skip, lastSeq := n + skip, acked := n, lastAlarm := 0 } }
  if s.recorder.flushed then s else s.record 0x05600003 (srcHoist 0) none (leBytes 8 (n + 1) ++ leBytes 8 (n + 8192))

/-- The records of the AON store pass to the H0 buffer, then the counts of those it lost. -/
def State.passAon (s : State) : State :=
  let held := s.recorder.aon
  let loss := s.recorder.aonLoss
  let s := { s with recorder := { s.recorder with aon := [], aonLoss := .none } }
  let s := held.foldl (fun s r => s.storeHoist .h0 r) s
  if loss = .none then s else s.record 0x05600006 srcBurgee none loss.payload

end Sys2Proof.Machine
end

