-- ==== Sys2Proof/Machine/Startup.lean ====
section
/-!
DEFINITION. Machine/Startup.lean: start-up, domain bring-up and resets (R386 to R404, R447).
-/
namespace Sys2Proof.Machine

/-- Order minus one is the domain's bit (R405); the stage after which it is enabled, and its time in ms from the start of
its stage (R389). -/
def domainTime (d : Nat) : Option Nat × Nat :=
  if d ≤ 1 then (none, d)
  else if d ≤ 9 then (some 0, 2 * (d - 2))
  else if d ≤ 11 then (some 1, 2 * (d - 10))
  else (some 1, 4 * (d - 11))

def State.domainOn (s : State) (d : Nat) : Bool := s.power.powered.getLsbD d && s.power.regulated.getLsbD d

/-- Every domain from `a` to `b` is in regulation. -/
def State.domainsOn (s : State) (a b : Nat) : Bool := (List.range (b + 1 - a)).all fun i => s.domainOn (a + i)

def State.updStart (s : State) (f : Startup → Startup) : State := { s with start := f s.start }

/-- A start is in progress and not stopped. -/
def State.starting (s : State) : Bool := s.start.t0.isSome && s.start.stage != some 3 && s.start.stopped.isNone && !s.power.tripped && s.pack.holdup.isNone

/-- POWER_ON: t0 of a cold start: everything is cleared, AON included, and the operating-time counter starts at 0 (R386,
R396, R398). -/
def execPowerOn (_now : Nat) (s : State) : Host.Outcome State Fault Refusal :=
  if s.start.t0.isSome then .next s
  else
    let last := s.recorder.lastInFlash
    let failed := (last.map fun r => decide (r.code = 0x05700006 ∧ r.cycles = s.set.powerCycles)).getD false
    let seen := (last.map Record.seq).getD 0
    let s := s.restart 1 (if failed then 2 else 1) 0 false 1 0
    .next { s with
      aon := 0
      hal := { Halyard.reset with use := s.set.hal }
      recorder := { s.recorder with aon := [], aonLoss := .none, acked := seen, lastAlarm := 0, flushed := failed }
      start := { s.start with misses := 0, t0 := some 0, stageStart := 0, resetCause := 0, pllLocked := false }
      power := { Power.reset with powered := 1, regulated := 1 }
      sensors := .reset
      keys := { s.keys with tamperCount := 0, tamperCause := 0 }
      lead := { s.lead with epoch := 0, expiry := 0 }
      pack := { s.pack with measureAt := some 0, powerFailRecord := failed }
      ctxs := s.ctxs.map fun (x : Ctx) => { x with teardown := x.teardown.map fun t => { t with acceptedMs := 0 } } }

/-- WAKE_N after a WAKE-F2 or WAKE-F3 from another source than PERST_N: asserted when the endpoint's HOST domain is in
regulation, for endpoints with a bound context, or for both if neither has one (R402). -/
def State.assertWakeN (s : State) (e : Nat) : State :=
  let has := fun (e : Nat) => (List.range 16).any fun c => s.bound (16 * e + c)
  let wake := s.start.kind == 3 || s.start.kind == 4
  if wake && s.start.wakeSource != 1 && s.start.wakeSource != 2 && (has e || !has (1 - e)) &&
      (if e = 0 then s.start.perst.1 else s.start.perst.2) then
    s.updStart fun x => { x with wakeN := if e = 0 then (some s.aon, x.wakeN.2) else (x.wakeN.1, some s.aon) }
  else s

def State.updEp (s : State) (e : Nat) (f : Endpoint → Endpoint) : State :=
  { s with host := if e = 0 then { s.host with ep0 := f s.host.ep0 } else { s.host with ep1 := f s.host.ep1 } }

/-- The host trains the endpoint's link: a free value of the host (R303, R320, log entry 5). -/
def State.trainLink (s : State) (e : Nat) : State :=
  let (rate, width, flit) := Config.linkTraining s.draws e
  let s := { s with draws := s.draws + 1 }
  s.updEp e fun x => { x with rate := rate, width := width, flit := flit, up := true, l23 := false }

/-- The host trains a link as soon as its HOST domain is in regulation and PERST_N is deasserted. -/
def State.trainIfServed (s : State) (e : Nat) : State :=
  if if e = 0 then s.start.perst.1 else s.start.perst.2 then s else s.trainLink e

/-- The coolant flow reads below 1.5 L/min: no Canton domain is enabled (R534). -/
def State.flowLow (s : State) : Bool := s.power.emergencyThermal && decide (s.sensors.flow < 150)

/-- DOMAIN_ENABLE: the next domain of the bring-up order is enabled at its time and comes into regulation; one already
powered is skipped, and a Canton domain waits for the coolant (R389, R534). -/
def execDomainEnable (now : Nat) (s : State) : Host.Outcome State Fault Refusal :=
  let s := s.at now
  let d := s.start.nextDomain
  let f1 := s.power.furl == 1 && s.power.waking.isSome && decide (12 ≤ d)
  if decide (23 < d) || !((s.starting && (domainTime d).1 == s.start.stage) || f1) ||
      decide (s.aon < s.start.stageStart + (domainTime d).2 * tickMs) || (decide (12 ≤ d) && s.flowLow) then .next s
  else
    let s := s.updStart fun x => { x with nextDomain := d + 1 }
    if s.domainOn d then .next s
    else
      let bit := (1 : BitVec 24) <<< d
      let s := { s with power := { s.power with powered := s.power.powered ||| bit
                                                regulated := s.power.regulated ||| bit } }
      let s := if d = 2 ∨ d = 3 then s.updStart fun x => { x with dieState := updAt x.dieState (d + 2) fun _ => 1 }
        else if 12 ≤ d ∧ d ≤ 15 then s.updStart fun x => { x with dieState := updAt x.dieState (d - 12) fun _ => 1 }
        else s
      .next (if d = 8 ∨ d = 9 then (s.assertWakeN (d - 8)).trainIfServed (d - 8) else s)

/-- DOMAIN_REGULATION_MISS: a domain enabled in this start is not in regulation within 3 ms (R389). -/
def execDomainRegulationMiss (domain now : Nat) (s : State) : Host.Outcome State Fault Refusal :=
  let s := s.at now
  let f1 := s.power.furl == 1 && s.power.waking.isSome && decide (12 ≤ domain)
  if !(s.starting || f1) || decide (domain = 0 ∨ s.start.nextDomain ≤ domain) then .next s
  else .next (s.missed 0x04020004 (leBytes 1 domain) true)

/-- Deadline of the running stage in ms from t0 (R386). -/
def stageDeadline (stage : Option Nat) : Nat :=
  match stage with
  | none => 50
  | some 0 => 2000
  | _ => 20000

/-- The running stage is late. -/
def State.stageLate (s : State) : Bool :=
  decide (((s.start.t0.getD 0) + stageDeadline s.start.stage * tickMs) < s.aon)

/-- A stage is complete: its time and its record (R387). -/
def State.stageDone (s : State) (k : Nat) : State :=
  let ms := (s.aon - (s.start.t0.getD 0)) / tickMs
  let s := s.updStart fun x =>
    { x with stage := some k, stageStart := s.aon, stageTimes := updAt x.stageTimes k fun _ => ms }
  s.record 0x05020001 srcBurgee none (leBytes 1 k ++ zeros 3 ++ leBytes 4 ms)

/-- The settings record at stage A: the valid slot with the higher SEQ, or every default with an ALARM (R462). -/
def State.loadSettings (s : State) (okA okB : Bool) : State :=
  let a := if okA then s.setA else none
  let b := if okB then s.setB else none
  match a, b with
  | some x, some y =>
    if x.seq < y.seq then { s with set := y.values, slotB := true } else { s with set := x.values, slotB := false }
  | some x, none => { s with set := x.values, slotB := false }
  | none, some y => { s with set := y.values, slotB := true }
  | none, none => ({ s with set := .default, setA := none, setB := none, slotB := false }).record 0x04010020 srcBurgee none []

/-- The non-volatile key record at stage A; its tamper counts reach AON at a cold start (R363, R382). -/
def State.loadNv (s : State) (okA okB : Bool) : State × Bool :=
  let a := if okA then s.keys.nvA else none
  let b := if okB then s.keys.nvB else none
  let pick := fun (slotB : Bool) (r : NvRecord) =>
    let s := { s with keys := { s.keys with nvSlotB := slotB } }
    if s.start.kind = 1 then { s with keys := { s.keys with tamperCount := r.tamperCount, tamperCause := r.tamperCause } }
    else s
  match a, b with
  | some x, some y => (if x.seq < y.seq then pick true y else pick false x, true)
  | some x, none => (pick false x, true)
  | none, some y => (pick true y, true)
  | none, none => (s, false)

/-- RESET_CAUSE of a start (R400). -/
def Startup.causeWord (x : Startup) (flushed : Bool) : BitVec 32 :=
  BitVec.ofNat 32 (x.kind + x.cause * 2 ^ 8 + (if x.kind = 3 ∨ x.kind = 4 then x.wakeSource * 2 ^ 16 else 0) +
    (if x.retry then 2 ^ 20 else 0) + (if flushed then 2 ^ 21 else 0))

/-- Burgee's boot slot (R369, R370): the fields of the running image, or none in ROM recovery. -/
def State.bootBurgee (s : State) : Option State :=
  match Fw.select s.lifecycle 1 s.att.burgeeA.bytes s.att.burgeeB.bytes with
  | none => none
  | some (slotB, fallback) =>
    let b := if slotB then s.att.burgeeB.bytes else s.att.burgeeA.bytes
    let bits := (if slotB then 1 else 0) + (if fallback then 4 else 0)
    let mr := [Config.romDigest, sha384 (b.take 320)]
    let s := { s with att := { s.att with bootSlots := BitVec.ofNat 8 bits, burgeeSvn := Fw.svn b, burgeeBuild := Fw.build b,
                                          mr0 := mr, mr1 := mr } }
    some (if fallback then s.record 0x05410002 srcBurgee none [] else s)

/-- STAGE_A_COMPLETE: Burgee runs verified firmware, the settings and key records are selected, a pending lifecycle is
applied, the pack is measured and RESET_CAUSE written; stage B starts, or is stopped at once (R363, R369, R381, R382,
R386, R390, R400). -/
def execStageAComplete (nvA nvB setA setB : Bool) (clock : ClockReport) (s : State) : Host.Outcome State Fault Refusal :=
  let s := s.at clock.now
  if !s.starting || s.start.stage.isSome || !s.domainOn 1 || s.pack.measureAt.isSome || s.stageLate then .next s
  else match s.bootBurgee with
  | none => .next (s.stopAt 0 0x04410003)
  | some s =>
    let s := s.loadSettings setA setB
    let s := { s with mgmt := { s.mgmt with inUse := s.set.mgmt } }
    let scrapped := s.keys.fuses == .scrapped
    let (s, nvOk) := if scrapped then (s, true) else s.loadNv nvA nvB
    let s := if nvOk && !scrapped then s.applyLifecycle else s
    let s := if s.start.kind = 1 then s.persist fun p => { p with powerCycles := (p.powerCycles + 1) % 2 ^ 24 }
      else if s.start.kind = 2 then s.persist fun p => { p with moduleResets := min (p.moduleResets + 1) 0xFFFFFFFF }
      else s
    let s := { s with start := { s.start with resetCause := s.start.causeWord s.recorder.flushed
                                              pllLocked := s.start.pllLocked || clock.pll }
                      power := { s.power with latched := s.power.latched &&& 0xFFFFFC }
                      hal := { s.hal with use := if s.hal.state == HalState.start then s.set.hal else s.hal.use } }
    let s := s.stageDone 0
    if !nvOk then .next (s.stopAt 1 0x04400023)
    else if s.keys.fuses = .scrapped then .next (s.stopAt 1 0x04410007)
    else .next s

/-- SECURE_BOOT_COMPLETE: a Hoist's CP runs verified firmware: retry status ends there; on H0 the recorder resumes; with
both CPs running the root digests and the registers of the Hoists are compared, and the keys are derived or stage B stops
(R306, R341, R343, R369 to R371, R489, R490). -/
def execSecureBootComplete (hoist : Nat) (roots0 roots1 mr0 mr1 : Bytes) (now : Nat) (s : State) : Host.Outcome State Fault Refusal :=
  let s := s.at now
  if !s.starting || s.start.stage != some 0 || decide (1 < hoist) || s.cpRuns hoist ||
      !(s.domainOn (2 + hoist) && s.domainOn (4 + hoist)) then .next s
  else match Fw.select s.lifecycle 2 s.att.cpA.bytes s.att.cpB.bytes with
  | none => .next (s.stopAt 1 0x04410004)
  | some (slotB, fallback) =>
    let b := if slotB then s.att.cpB.bytes else s.att.cpA.bytes
    let first := !(s.cpRuns 0 || s.cpRuns 1)
    let word := (s.att.bootSlots &&& 0x05#8) ||| BitVec.ofNat 8 ((if slotB then 2 else 0) + (if fallback then 8 else 0))
    let s := { s with att := { s.att with bootSlots := word, cpSvn := Fw.svn b, cpBuild := Fw.build b } }
    let s := if first && fallback then s.record 0x05410002 (srcHoist hoist) none [] else s
    let s := s.updStart fun x =>
      { x with cpRuns := if hoist = 0 then (true, x.cpRuns.2) else (x.cpRuns.1, true)
               retryStatus := if hoist = 0 then (false, x.retryStatus.2) else (x.retryStatus.1, false) }
    let s := s.updCp hoist fun _ => { Cp.reset with liveAt := s.aon, messageAt := s.aon }
    let s := if hoist ≠ 0 then s
      else if s.start.kind = 1 then s.resumeCounter.passAon
      else s.passAon
    .next (if !(s.cpRuns 0 && s.cpRuns 1) then s
      else if roots0 ≠ roots1 then s.stopAt 1 0x04400025
      else if mr0 ≠ mr1 then s.stopAt 1 0x04410005
      else s.deriveKeys)

/-- STAGE_B_COMPLETE: both CPs run, the keys are derived, the H0–H1 link is up, the Jack is granted and the Halyard PLL has
locked, so clocks are switched; the DTLS service runs (R65, R386, R393, R452). -/
def execStageBComplete (clock : ClockReport) (s : State) : Host.Outcome State Fault Refusal :=
  let s := s.at clock.now
  let linkDown := ((s.lead.links[12]?).map DieLink.down).getD false
  if !s.starting || s.start.stage != some 0 || !(s.cpRuns 0 && s.cpRuns 1) || !s.domainsOn 2 9 || linkDown ||
      s.lead.holder.isNone || !(s.start.pllLocked || clock.pll) || s.stageLate then .next s
  else
    let s := s.updStart fun x => { x with clocksSwitched := true, pllLocked := true
                                          dieState := (updAt (updAt x.dieState 4 fun _ => 2) 5 fun _ => 2) }
    let s := { s with mgmt := { s.mgmt with dtls := true } }
    .next ((s.trainDieLinks [12]).stageDone 1)

/-- A context found in TEARDOWN or SCRUBBING resumes at step 4 of its teardown (R335, R337). -/
def State.resumeTeardown (s : State) (c : Nat) : State :=
  let t := ((s.ctx c).teardown).getD ⟨.scrubbing, 1, 0, 0, 0, 0, 0, 0, false, false, 0⟩
  let s := s.updCtx c fun x => { x with pagesAssigned := true
                                        teardown := some { t with step := .scrubbing, resumed := true } }
  s.persist fun p => { p with ctx := updAt p.ctx c fun e => { e with state := .scrubbing } }

/-- STAGE_C_COMPLETE: every Canton has passed, keys and salts are loaded, the leader asks for SERVICE, and stage D is
entered with port training (R28, R337, R345, R386, R395, R398). -/
def execStageCComplete (now : Nat) (s : State) : Host.Outcome State Fault Refusal :=
  let s := s.at now
  let linkDown := (s.lead.links.take 12).any DieLink.down
  let failed := (s.start.dieState.take 4).any fun d => d == 3
  if !s.starting || s.start.stage != some 1 || !s.domainsOn 10 23 || linkDown || failed || s.stageLate then .next s
  else
    let s := (List.range 4).foldl (fun s c => if s.start.cantonReady.getD c false then s else s.cantonDone c 0) s
    let s := (s.trainDieLinks (List.range 12)).startSalts
    let s := ((List.range 16).filter fun c =>
      (s.ctxSet c).state == .teardown || (s.ctxSet c).state == .scrubbing).foldl (fun s c => s.resumeTeardown c) s
    let s := (s.stageDone 2).stageDone 3
    let s := (List.range 4).foldl (fun s c => s.requestService c) s
    let s := s.updStart fun x => { x with misses := 0, stageCAt := s.aon }
    let s := { s with hal := { s.hal with resumeAtEdge := s.hal.frozen } }
    let s := s.trainPorts fun _ => true
    .next (((List.range 16).filter fun c => (s.ctxSet c).state == .active).foldl
      (fun s c => s.record 0x0502000B s.srcLeader (some c) []) s)

/-- STAGE_DEADLINE_MISS: the running stage, or the Canton steps of a WAKE-F1, missed the deadline (R388, R396). -/
def execStageDeadlineMiss (now : Nat) (s : State) : Host.Outcome State Fault Refusal :=
  let s := s.at now
  let f1Late := s.power.furl == 1 && s.power.waking.isSome && decide (s.power.wakeT0 + 18000 * tickMs < s.aon)
  if (s.starting && s.stageLate) || f1Late then
    .next (s.missed 0x04020002 [] false)
  else .next s

/-- PLL_LOCK_TIMEOUT: at 1,000 ms after t0 the Halyard PLL has not locked: a stop in stage B (R393). -/
def execPllLockTimeout (now : Nat) (s : State) : Host.Outcome State Fault Refusal :=
  let s := s.at now
  if s.starting && !s.start.pllLocked && decide ((s.start.t0.getD 0) + 1000 * tickMs ≤ s.aon) then
    .next (s.stopAt 1 0x04030018)
  else .next s

/-- CP_WATCHDOG_EXPIRY: no CP has answered for 2,000 ms: a MODULE reset with cause 0x15; one silent CP: a HOIST reset of
its Hoist (R396). -/
def execCpWatchdogExpiry (now : Nat) (s : State) : Host.Outcome State Fault Refusal :=
  let s := s.at now
  let silent := fun (i : Nat) => decide ((s.cp i).liveAt + 2000 * tickMs ≤ s.aon)
  let started := s.start.stage == some 1 || s.start.stage == some 2 || s.start.stage == some 3
  if !started || decide (2 ≤ s.power.furl) then .next s
  else
    let out0 := !s.cpRuns 0 || silent 0
    let out1 := !s.cpRuns 1 || silent 1
    if out0 && out1 then .next (s.moduleReset 0x15 false)
    else if s.cpRuns 0 && silent 0 then .next (s.resetHoist 0)
    else if s.cpRuns 1 && silent 1 then .next (s.resetHoist 1)
    else .next s

/-- HOIST_RESET: ordered by leadership and recovery; Burgee serialises the two Hoists (R396, R403, R433). -/
def execHoistReset (hoist now : Nat) (s : State) : Host.Outcome State Fault Refusal :=
  let s := s.at now
  let started := s.start.stage == some 1 || s.start.stage == some 2 || s.start.stage == some 3
  if !started || decide (1 < hoist ∨ 2 ≤ s.power.furl) || s.start.hoistReset.1 || s.start.hoistReset.2 then .next s
  else .next (s.resetHoist hoist)

/-- HOIST_RESET_COMPLETE: the Hoist has done its stage B steps; its registers agree with the other's and it rejoins as
follower, or its CP does not run (R371, R396, R398). `mr0` and `mr1`: the registers as measured on the two Hoists. -/
def execHoistResetComplete (hoist : Nat) (mr0 mr1 : Bytes) (now : Nat) (s : State) : Host.Outcome State Fault Refusal :=
  let s := s.at now
  if !(if hoist = 0 then s.start.hoistReset.1 else hoist == 1 && s.start.hoistReset.2) then .next s
  else if mr0 ≠ mr1 then .next (s.record 0x04410005 srcBurgee none [])
  else
    let mask := hoistMask hoist
    let s : State := { s with
      power := { s.power with powered := s.power.powered ||| mask, regulated := s.power.regulated ||| mask
                              latched := s.power.latched &&& ~~~mask }
      att := if hoist = 0 then { s.att with mr0 := s.att.mr1 } else { s.att with mr1 := s.att.mr0 }
      mgmt := if hoist = 0 then { s.mgmt with dtls := true } else s.mgmt }
    let s := s.updStart fun x =>
      { x with cpRuns := if hoist = 0 then (true, x.cpRuns.2) else (x.cpRuns.1, true)
               retryStatus := if hoist = 0 then (false, x.retryStatus.2) else (x.retryStatus.1, false)
               hoistReset := if hoist = 0 then (false, x.hoistReset.2) else (x.hoistReset.1, false)
               dieState := updAt x.dieState (4 + hoist) fun _ => 2 }
    let s := s.updCp hoist fun _ => { Cp.reset with liveAt := s.aon, messageAt := s.aon }
    let s := { s with journal := { s.journal with applied := s.journal.seq } }
    let s := if hoist = 0 then s.passAon else s
    let s := s.trainIfServed hoist
    .next (if s.ready then s.trainPorts fun n => n / 8 == hoist else s)

/-- CANTON_RESET: a fault of the Canton that no replay covers (R447). -/
def execCantonReset (canton now : Nat) (s : State) : Host.Outcome State Fault Refusal :=
  let s := s.at now
  if !s.ready || decide (3 < canton ∨ s.power.furl ≠ 0) then .next s else .next (s.resetCanton canton)

/-- CANTON_RESET_COMPLETE: a Canton in reset, or in stage C of a start or wake, ends its stage C steps with the clusters
that failed BIST; a reset Canton's clusters may be set to SERVICE again and its journal copy is rebuilt (R28, R391, R395,
R446). -/
def execCantonResetComplete (canton failedClusters now : Nat) (s : State) : Host.Outcome State Fault Refusal :=
  let s := s.at now
  let inReset := s.start.cantonReset.getD canton false
  let inStart := (s.starting && s.start.stage == some 1 && s.domainOn (12 + canton) && s.domainOn (16 + canton) &&
    s.domainOn (20 + canton)) || (s.power.furl == 1 && s.power.waking.isSome)
  if decide (3 < canton) || !(inReset || (inStart && !s.start.cantonReady.getD canton false)) then .next s
  else
    let s := s.cantonDone canton failedClusters
    if !inReset || !s.start.cantonReady.getD canton false then .next s
    else
      let s := s.requestService canton
      let ends := (List.range 13).filter fun i => ((s.lead.links[i]?).map fun l => l.down && (l.a == canton || l.b == canton)).getD false
      let s := s.trainDieLinks ends
      let both := s.journal.copyC0 || s.journal.copyC2
      .next { s with journal := { s.journal with copyC0 := s.journal.copyC0 || (canton == 0 && both)
                                                 copyC2 := s.journal.copyC2 || (canton == 2 && both) } }

/-- CANTON_TEST_FAILED: the Canton fails its start-up test; a microcode digest that differs from MR4 has a code of its own
besides (R372, R395). -/
def execCantonTestFailed (canton : Nat) (microcode : Bool) (now : Nat) (s : State) : Host.Outcome State Fault Refusal :=
  let s := s.at now
  if 3 < canton ∨ s.start.dieState.getD canton 0 ≠ 1 then .next s
  else
    let s := s.updStart fun x => { x with dieState := updAt x.dieState canton fun _ => 3 }
    let s := if microcode then s.record 0x04410006 (srcCanton canton) none [] else s
    .next (s.record 0x04020005 (srcCanton canton) none [])

/-- WAKE_N_TIMEOUT: released after 10 s without a PERST_N deassertion (R402). -/
def execWakeNTimeout (endpoint now : Nat) (s : State) : Host.Outcome State Fault Refusal :=
  let s := s.at now
  match if endpoint = 0 then s.start.wakeN.1 else s.start.wakeN.2 with
  | some t =>
    if t + 10 * tickS ≤ s.aon then
      let s := s.updStart fun x => { x with wakeN := if endpoint = 0 then (none, x.wakeN.2) else (x.wakeN.1, none) }
      .next (s.record 0x0502000C srcBurgee none (leBytes 1 endpoint))
    else .next s
  | none => .next s

/-- BURGEE_FIRMWARE_RESTART: the lease registers stay and the firmware runs again within 50 ms; the spec names no other
effect (R428, log entry 31). -/
def execBurgeeFirmwareRestart (now : Nat) (s : State) : Host.Outcome State Fault Refusal := .next (s.at now)

end Sys2Proof.Machine
end

