-- ==== Sys2Proof/Machine/Furl.lean ====
section
/-!
DEFINITION. Machine/Furl.lean: idle timers, furl entry, furl levels and wakes, pads (R405, R408, R412 to R425).
-/
namespace Sys2Proof.Machine

/-- Domains that are powered at a furl level (R405). -/
def furlDomains (level : Nat) : BitVec 24 :=
  match level with
  | 0 => 0xFFFFFF
  | 1 => 0x000FFF
  | 2 => 0x000003
  | _ => 0x000001

/-- Domains to remove from level j to level k, in the order they are asked: reverse bring-up order (R415). -/
def furlBlocks (j k : Nat) : List Nat :=
  ((List.range 24).filter fun d => (furlDomains j).getLsbD d && !(furlDomains k).getLsbD d).reverse

/-- R34 source of the block of a domain. -/
def domainSource (d : Nat) : Nat :=
  if d ≤ 1 then srcBurgee else if d ≤ 11 then srcHoist (d % 2) else srcCanton (d % 4)

def State.updPower (s : State) (f : Power → Power) : State := { s with power := f s.power }

/-- The decision to enter a level: quiescence begins (R415). -/
def State.beginEntry (s : State) (target : Nat) : State :=
  s.updPower fun p => { p with entry := some ⟨target, furlBlocks p.furl target, []⟩, retryAt := none }

/-- Every block that answered READY resumes; the DTLS service with them (R417, R452). -/
def State.resumeBlocks (s : State) (e : FurlEntry) : State :=
  let s := s.updPower fun p => { p with entry := none }
  if e.ready.contains 4 then { s with mgmt := { s.mgmt with dtls := true } } else s

/-- The entry is abandoned for a wake source, a claim or a hold: no retry (R418). -/
def State.abandonEntry (s : State) : State :=
  match s.power.entry with
  | none => s
  | some e => ((s.resumeBlocks e).updPower fun p => { p with retryAt := none }).record 0x05020021 srcBurgee none
      (leBytes 1 e.target)

/-- Levels at which a wake source acts (R421). -/
def wakeActs (source level : Nat) : Bool :=
  match source with
  | 1 => level == 2 || level == 3
  | 2 => level == 2 || level == 3
  | 3 => level == 1 || level == 2
  | 6 => level == 1
  | _ => level == 1 || level == 2 || level == 3

/-- A wake begins at this instant, t0 (R386, R421). -/
def State.startWake (s : State) (source : Nat) : State :=
  match s.power.furl with
  | 0 => s
  | 1 =>
    let s := s.updPower fun p => { p with waking := some source, wakeT0 := s.aon, latchedWakes := [] }
    let s := s.updStart fun x => { x with stageStart := s.aon, nextDomain := 12 }
    s.record 0x05020008 srcBoard none (resetPayload 5 source 0x7FF0)
  | 2 => s.restart 4 0x20 source false 0x000003 s.aon
  | _ => s.restart 3 0x20 source false 0x000001 s.aon

/-- A wake source is sampled (R418, R421): before the commit it abandons the entry, after it it is latched, in a furl
level it wakes; during a wake, and in F0, it does nothing. -/
def State.wakeRequest (s : State) (source : Nat) : State :=
  match s.power.entry, s.power.committed with
  | some e, _ => if wakeActs source e.target || wakeActs source s.power.furl then s.abandonEntry else s
  | none, some target =>
    if wakeActs source target then s.updPower fun p => { p with latchedWakes := p.latchedWakes ++ [source] } else s
  | none, none => if s.power.waking.isSome || !wakeActs source s.power.furl then s else s.startWake source

/-- A claim has come into force: wake source 6 in F1, the end of an entry that runs (R418, R421). -/
def State.claimRaised (s : State) : State := s.wakeRequest 6

/-- Enabled timers in ms, by level (R413). -/
def State.idleTimers (s : State) : List (Nat × Nat) :=
  ([(1, s.set.tF1), (2, s.set.tF2), (3, s.set.tF3)].filter fun x => decide (0 < x.2)).map fun x => (x.1, x.2 * 1000)

/-- IDLE_TIMER_EXPIRY: IDLE_TIME has reached an enabled timer of a deeper level: entry to the deepest such level starts;
a refused target waits for its own retry (R413, R417). -/
def execIdleTimerExpiry (now : Nat) (s : State) : Host.Outcome State Fault Refusal :=
  let s := s.at now
  let after := max s.power.furl ((s.power.retryAt.map Prod.snd).getD 0)
  let due := s.idleTimers.filter fun x => decide (x.2 ≤ s.idleMs ∧ after < x.1)
  match due.getLast? with
  | some x =>
    if s.idle && s.power.entry.isNone && s.power.committed.isNone then .next (s.beginEntry x.1) else .next s
  | none => .next s

/-- A write of FURL_COMMAND (R414, R421). -/
def State.writeFurl (s : State) (v : Nat) : Nat × State :=
  if v = 0 then (0, s.wakeRequest 3)
  else if !s.idle || decide (v ≤ s.power.furl) || s.power.entry.isSome || s.power.committed.isSome then (0x01020027, s)
  else (0, s.beginEntry v)

/-- What the answer READY of a HOST block says of its link: PERST_N is asserted, the link is down, or it stands in L2/L3
Ready (R415). -/
def State.linkReady (s : State) (d : Nat) : State :=
  let f := fun (x : Endpoint) => if x.up then { x with l23 := true } else x
  if d = 8 then { s with host := { s.host with ep0 := f s.host.ep0 } }
  else if d = 9 then { s with host := { s.host with ep1 := f s.host.ep1 } }
  else s

/-- Flush a Hoist's buffer on request (R397, R415, R492). -/
def State.flushNow (s : State) (w : Writer) : State :=
  let b := s.recorder.buffer w
  if b.held.isEmpty || b.bufferOnly then s
  else
    let q := (s.recorder.program b.held).setBuffer w { b with held := [], flushing := [], running := false, due := false }
    ({ s with recorder := { q with lastFlushMs := s.ms } }).persist fun p =>
      { p with flushes := min (p.flushes + 1) 0xFFFFFFFF }

/-- Close the sessions that meet `p`, each with its record (R453). -/
def State.closeSessions (s : State) (p : Session → Bool) : State :=
  let gone := fun (x : Option Session) => (x.map p).getD false
  let n := (s.mgmt.sessions.filter gone).length
  let s := { s with mgmt := { s.mgmt with sessions := s.mgmt.sessions.map fun x => if gone x then none else x } }
  (List.range n).foldl (fun s _ => s.record 0x05010013 (srcHoist 0) none []) s

/-- What a block does as it stops: a CP flushes its buffer and H0's ends the DTLS service, MGT closes every session
(R415, R452). -/
def State.stopBlock (s : State) (d : Nat) : State :=
  let s := if d = 4 then s.flushNow .h0 else if d = 5 then s.flushNow .h1 else s
  let s := if d = 4 then { s with mgmt := { s.mgmt with dtls := false, approvals := [] } } else s
  if d = 1 then s.closeSessions fun _ => true else s

/-- A record that Burgee writes while the CPs' blocks are stopped: it stands in the AON store (R489). -/
def State.recordInAon (s : State) (code : Nat) (payload : Bytes) : State :=
  let quiet : State := { s with start := { s.start with cpRuns := (false, false) } }
  { (quiet.record code srcBurgee none payload) with start := s.start }

/-- The commit point of an entry: the furl record is written, and a pending level change is cancelled (R416, R420). -/
def State.commitFurl (s : State) (target : Nat) : State :=
  let pending := s.hal.pendingLevel
  let s := s.updPower fun p => { p with entry := none, committed := some target }
  let s := { s with hal := { s.hal with frozen := true, pendingLevel := none } }
  match pending with
  | none => s
  | some x =>
    let payload := leBytes 1 x.target ++ zeros 7 ++ leBytes 8 x.edge
    if target = 1 then s.record 0x05020024 srcBurgee none payload else s.recordInAon 0x05020024 payload

/-- BLOCK_READY: the block asked last stops; a claim or hold sampled now abandons the entry; after the last block comes the
commit point (R415, R416, R418). -/
def execBlockReady (now : Nat) (s : State) : Host.Outcome State Fault Refusal :=
  let s := s.at now
  match s.power.entry with
  | none => .next s
  | some e =>
    if !s.idle then .next s.abandonEntry
    else match e.remaining with
      | [] => .next s
      | d :: rest =>
          let s := ((s.linkReady d).stopBlock d).updPower fun p =>
            { p with entry := some { e with remaining := rest, ready := d :: e.ready } }
          .next (if rest.isEmpty then s.commitFurl e.target else s)

/-- BLOCK_REFUSE: the block asked last refuses or does not answer within 100 ms: the entry is abandoned, and tried again
60 s later (R415, R417). -/
def execBlockRefuse (code now : Nat) (s : State) : Host.Outcome State Fault Refusal :=
  let s := s.at now
  match s.power.entry with
  | none => .next s
  | some e =>
    if !s.idle then .next s.abandonEntry
    else
      let source := ((e.remaining.head?).map domainSource).getD srcBurgee
      let s := (s.resumeBlocks e).updPower fun p => { p with retryAt := some (s.aon, e.target) }
      .next (s.record 0x05020022 source none (leBytes 4 code))

/-- FURL_RETRY_TIMER: 60 s after a refusal in the same idle interval the same entry starts again (R417). -/
def execFurlRetryTimer (now : Nat) (s : State) : Host.Outcome State Fault Refusal :=
  let s := s.at now
  match s.power.retryAt with
  | some (t, target) =>
    if s.idle && s.power.entry.isNone && s.power.committed.isNone && decide (t + 60 * tickS ≤ s.aon ∧ s.power.furl < target)
    then .next (s.beginEntry target) else .next s
  | none => .next s

/-- The contents of HBM are lost with the Cantons: every context's memory is undefined until written, and the journal's
copies go (R398, R422). -/
def State.loseHbm (s : State) : State :=
  let s := (List.range 16).foldl (fun s c => s.poisonMem c fun _ => true) s
  { s with journal := { s.journal with records := [] } }

/-- The Hoists lose power at F2: keys, CP state, the lease's holder, sessions, ports and records on the dies go (R398,
R425, R452). -/
def State.loseHoists (s : State) : State :=
  { s with
    keys := { s.keys with slots := [], saltD := [], epochD := 0, grixo := [], blobs := [] }
    att := { s.att with aliasStatement := [] }
    start := { s.start with cpRuns := (false, false), retryStatus := (true, true), clocksSwitched := false
                            dieState := s.start.dieState.take 4 ++ [0, 0] }
    lead := { s.lead with holder := none, takeover := none, cp0 := .reset, cp1 := .reset }
    mgmt := { Mgmt.reset with nonce := s.mgmt.nonce, inUse := s.mgmt.inUse, addrEffects := s.mgmt.addrEffects }
    host := .reset
    grixo := .reset
    recorder := { s.recorder with h0 := .empty, h1 := .empty }
    sensors := { s.sensors with dieTemp := List.replicate 6 (-128) } }

/-- FURL_ENTRY_COMPLETE: the removed domains are latched and off; the level is entered and counted, and a latched wake
starts at once (R418, R419, R423). -/
def execFurlEntryComplete (now : Nat) (s : State) : Host.Outcome State Fault Refusal :=
  let s := s.at now
  match s.power.committed with
  | none => .next s
  | some target =>
    let old := s.power.furl
    let latched := s.power.latchedWakes
    let s := s.powerOff (~~~(furlDomains target))
    let s := if old = 0 then s.loseHbm.loseCantons else s
    let s := if old ≤ 1 ∧ 2 ≤ target then s.loseHoists else s
    let s := s.updPower fun p => { p with furl := target, committed := none, latchedWakes := [] }
    let s := s.persist fun p => { p with furlCounts := updAt p.furlCounts (target - 1) fun n => min (n + 1) 0xFFFFFFFF }
    let s := s.record 0x05020020 srcBurgee none (leBytes 1 target)
    match latched with
    | [] => .next s
    | x :: l => .next (s.startWake (l.foldl min x))

/-- WAKE_REQ_PIN: WAKE_REQ_N was low for 1 ms (R421). -/
def execWakeReqPin (now : Nat) (s : State) : Host.Outcome State Fault Refusal := .next ((s.at now).wakeRequest 4)

/-- WAKE_AT_EXPIRY: the AON counter has reached WAKE_AT, which is cleared (R421). -/
def execWakeAtExpiry (now : Nat) (s : State) : Host.Outcome State Fault Refusal :=
  let s := s.at now
  if s.power.wakeAt = 0 ∨ s.ms < s.power.wakeAt then .next s
  else .next ((s.updPower fun p => { p with wakeAt := 0 }).wakeRequest 5)

/-- Wrap every loaded key slot of a context again and journal it (R422). -/
def State.rewrapKeys (s : State) : State :=
  let mine := s.keys.slots.filter fun (k : KeySlot) => decide (256 ≤ k.slot) && !k.value.isEmpty
  let s := { s with keys := { s.keys with blobs := [] } }
  mine.foldl (fun s k =>
    let blob := s.blobOf k.world k.attr k.value
    let s := { s with keys := { s.keys with blobs := s.keys.blobs ++ [Blob.mk k.world 2 0 0 k.hoist blob] } }
    s.journal1 11 (some k.world) blob) s

/-- WAKE_F1_COMPLETE: the Canton steps of stage C have passed: the journal's context entries are rebuilt, FURLED is
cleared at level 0, and beats resume at the next PPS edge (R391, R396, R420, R422). -/
def execWakeF1Complete (cantonsOk : Bool) (now : Nat) (s : State) : Host.Outcome State Fault Refusal :=
  let s := s.at now
  let failed := (s.start.dieState.take 4).any fun d => d == 3
  if s.power.furl ≠ 1 ∨ s.power.waking.isNone ∨ !cantonsOk ∨ failed ∨ !s.domainsOn 12 23 then .next s
  else
    let s := (List.range 4).foldl (fun s c => if s.start.cantonReady.getD c false then s else s.cantonDone c 0) s
    let s := { s with
      power := { s.power with furl := 0, waking := none, latchedWakes := [], idleSince := none, railLevel := 0 }
      hal := { s.hal with level := 0, resumeAtEdge := s.hal.frozen }
      journal := { s.journal with copyC0 := true, copyC2 := true } }
    let s := (s.trainDieLinks (List.range 12)).rewrapKeys
    .next ((List.range 4).foldl (fun s c => s.requestService c) s)

-- Writes of the power entries (R408, R413, R424)

/-- T_F1 to T_F3: out of range or not strictly rising is rejected. -/
def State.writeIdleTimer (s : State) (k v : Nat) : Nat × State :=
  let a := if k = 1 then v else s.set.tF1
  let b := if k = 2 then v else s.set.tF2
  let c := if k = 3 then v else s.set.tF3
  let on := [a, b, c].filter fun x => decide (0 < x)
  let rising := (on.zip on.tail).all fun x => decide (x.1 < x.2)
  if 86400 < v ∨ !rising then (0x01020025, s) else (0, s.persist fun p => { p with tF1 := a, tF2 := b, tF3 := c })

/-- POWER_CLASS_LIMIT: not below the class of a plan in force. -/
def State.writePowerClass (s : State) (v : Nat) : Nat × State :=
  if s.plans.any fun p => p.state != .none && ((p.image.map fun im => decide (v < im.cost.powerClass)).getD false) then
    (0x01020028, s)
  else (0, s.persist fun p => { p with powerClassLimit := v })

/-- PAD_RELEASE: only CP firmware releases domains 2 to 23, each in regulation (R390, R424). -/
def State.releasePads (s : State) (v : Nat) : Nat × State :=
  let named := (List.range 24).filter fun d => v.testBit d
  if v.testBit 0 || v.testBit 1 || named.any (fun d => !s.power.regulated.getLsbD d) then (0x01020026, s)
  else (0, s.updPower fun p => { p with latched := p.latched &&& ~~~(BitVec.ofNat 24 v) })

end Sys2Proof.Machine
end

