-- ==== Sys2Proof/Machine/Host.lean ====
section
/-!
DEFINITION. Machine/Host.lean: doorbells, the registers of a virtual function, completions, copies, failures of host
memory, and the resets that come from the host (R303 to R319, R401).
-/
namespace Sys2Proof.Machine

-- Doorbells (R307, R310, R311)

/-- A write of CMD_DOORBELL: the entries that the fetch reads are taken from HEAD on; HEAD stands at the first entry that
was not read. An unbound VF answers a write that also sets reserved bits with 0x0121_0010 (DESIGN CHOICE, log entry 91). -/
def State.doorbell (s : State) (v tail : Nat) (entries : List Bytes) : State :=
  let x := s.vf v
  if !s.bound v then s.vfError v 0x01210010
  else if 4096 ≤ tail then s.vfError v 0x01210006
  else if !x.enable || decide (2 ^ x.ringLog ≤ tail) then s.vfError v 0x01210013
  else
    let size := 2 ^ x.ringLog
    let n := min entries.length ((tail + size - x.head) % size)
    let got := (entries.take n).map (padTo 64)
    let s := s.updVf v fun x =>
      { x with tail := tail, head := (x.head + n) % size, fetchErr := false, fetched := x.fetched ++ got }
    (s.count (vfCtx v) fun k => { k with dmaFromHost := k.dmaFromHost + 64 * n }).settleVf v

/-- A write of WQ_DOORBELL(q), with the order of CMD_DOORBELL's tests (log entry 91). -/
def State.queueDoorbell (s : State) (v q tail : Nat) (entries : List Bytes) : State :=
  let c := vfCtx v
  let w := s.queue c q
  if !s.bound v then s.vfError v 0x01210010
  else if 65536 ≤ tail then s.vfError v 0x01210006
  else if 64 ≤ q ∨ w.state = .none then s.vfError v 0x01210012
  else if 2 ^ w.ringLog ≤ tail then s.vfError v 0x01210013
  else if w.state = .destroying then s
  else
    let size := 2 ^ w.ringLog
    let n := min entries.length ((tail + size - w.head) % size)
    let base := w.startedCount + w.fetched.length
    let got := ((entries.take n).map (padTo 64)).zipIdx.map fun ((e, i) : Bytes × Nat) => (base + i, e)
    let s := s.updQueue c q fun w =>
      WorkQueue.drain q
        { w with tail := tail, head := (w.head + n) % size, fetchErr := false, fetched := w.fetched ++ got }
    s.count c fun k => { k with dmaFromHost := k.dmaFromHost + 64 * n }

/-- CMD_DOORBELL: the module fetches from HEAD up to the new TAIL (R311); `entries` are what it read. -/
def execCmdDoorbell (vf tail : Nat) (entries : List Bytes) (s : State) : Host.Outcome State Fault Refusal :=
  .next (s.doorbell vf tail entries)

/-- WQ_DOORBELL: as CMD_DOORBELL, for a work queue (R311). -/
def execWqDoorbell (vf queue tail : Nat) (entries : List Bytes) (s : State) : Host.Outcome State Fault Refusal :=
  .next (s.queueDoorbell vf queue tail entries)

-- VF_CONTROL (R310, R412)

/-- Setting CMD_ENABLE: the ring's parameters must be valid. -/
def State.enableRing (s : State) (v : Nat) : State :=
  let x := s.vf v
  let badLog := fun (n : Nat) => decide (n < 4 ∨ 12 < n)
  if x.enable then s
  else if badLog x.ringLog || badLog x.cplLog || x.ringBase == 0 || x.cplBase == 0 then s.vfError v 0x01210019
  else s.updVf v fun x => { x with enable := true }

/-- The indices of a ring that is disabled and has nothing left to complete read 0 (R310). -/
def State.settleRing (s : State) (v : Nat) : State :=
  s.updVf v fun x =>
    if !x.enable && x.fetched.isEmpty && x.running.isNone && x.held.isEmpty then
      { x with head := 0, tail := 0, cplHead := 0, cplTail := 0, fetchErr := false }
    else x

/-- Clearing CMD_ENABLE stops the fetching of commands. -/
def State.disableRing (s : State) (v : Nat) : State := (s.updVf v fun x => { x with enable := false }).settleRing v

def State.setAwake (s : State) (v : Nat) : State :=
  let s := s.updVf v fun x => { x with awake := true }
  if s.bound v then s.claimRaised else s

def State.clearAwake (s : State) (v : Nat) : State := s.updVf v fun x => { x with awake := false }

/-- CMD_RING_ENABLE (R310). -/
def execCmdRingEnable (vf : Nat) (s : State) : Host.Outcome State Fault Refusal := .next (s.enableRing vf)
/-- CMD_RING_DISABLE (R310). -/
def execCmdRingDisable (vf : Nat) (s : State) : Host.Outcome State Fault Refusal := .next (s.disableRing vf)
/-- AWAKE_CLAIM_SET: the claim stops the idle timers and requests a wake from F1 (R317, R412, R421). -/
def execAwakeClaimSet (vf : Nat) (s : State) : Host.Outcome State Fault Refusal := .next (s.setAwake vf)
/-- AWAKE_CLAIM_CLEAR (R412). -/
def execAwakeClaimClear (vf : Nat) (s : State) : Host.Outcome State Fault Refusal := .next (s.clearAwake vf)

-- Other registers (R309, R310, R312)

/-- A write of ERROR_STATUS: bits written 1 clear. -/
def State.clearErrors (s : State) (v value : Nat) : State :=
  if 4 ≤ value then s.vfError v 0x01210006
  else s.updVf v fun x =>
    { x with err := x.err && !value.testBit 0, overflow := x.overflow && !value.testBit 1 }

/-- A write of a completion head: space frees, and a failed completion write is tried again (R312, R316). -/
def State.headWrite (s : State) (v : Nat) (q : Option Nat) (value : Nat) : State :=
  match q with
  | none =>
    if 4096 ≤ value then s.vfError v 0x01210006
    else s.updVf v fun x => { x with cplHead := value, cplFailed := false }
  | some q =>
    if 65536 ≤ value then s.vfError v 0x01210006
    else if 64 ≤ q then s.vfError v 0x01210007
    else if s.bound v then s.updQueue (vfCtx v) q fun w => { w with cplHead := value, cplFailed := false }
    else s

/-- ERROR_STATUS_CLEAR (R309). -/
def execErrorStatusClear (vf value : Nat) (s : State) : Host.Outcome State Fault Refusal := .next (s.clearErrors vf value)
/-- COMPLETION_HEAD_WRITE (R312, R316). -/
def execCompletionHeadWrite (vf : Nat) (queue : Option Nat) (value : Nat) (s : State) :
    Host.Outcome State Fault Refusal := .next (s.headWrite vf queue value)

/-- Replace the low or high 32 bits of a 64-bit value. -/
def setHalf (old : Nat) (high : Bool) (d : Nat) : Nat :=
  if high then d * 2 ^ 32 + old % 2 ^ 32 else old / 2 ^ 32 * 2 ^ 32 + d

/-- The ring registers: CMD_RING_BASE, CMD_RING_LOG, CMD_CPL_BASE and CMD_CPL_LOG. -/
def ringOffset (o : Nat) : Bool := [0x20, 0x24, 0x28, 0x30, 0x34, 0x38].contains o

/-- Bits of the register at a 4-byte offset that may be written; none: an RO register or no register (R309). -/
def regMask (o : Nat) : Option Nat :=
  if o = 0x08 ∨ o = 0x0C then some 3
  else if o = 0x20 ∨ o = 0x30 then some 0xFFFFF000
  else if o = 0x24 ∨ o = 0x34 then some 0xFFFFFFFF
  else if o = 0x28 ∨ o = 0x38 then some 0xF
  else if o = 0x40 ∨ o = 0x48 then some 0xFFF
  else if 0x1000 ≤ o ∧ o < 0x1400 ∧ (o % 16 = 0 ∨ o % 16 = 8) then some 0xFFFF
  else if 0x2000 ≤ o ∧ o < 0x2420 then some (if o % 16 = 12 then 1 else 0xFFFFFFFF)
  else none

/-- The code with which one 4-byte part of a write is discarded. -/
def State.regCheck (s : State) (v o d : Nat) : Option Nat :=
  match regMask o with
  | none => some 0x01210007
  | some m =>
    if d &&& m ≠ d then some 0x01210006
    else if ringOffset o && (s.vf v).enable then some 0x01210019 else none

/-- An MSI-X table write: unmasking a vector whose pending bit is set sends its message (the PCIe specification's
format, log entry 5). -/
def State.msixWrite (s : State) (v o d : Nat) : State :=
  let n := (o - 0x2000) / 16
  let f := fun (m : MsixEntry) => match o % 16 with
    | 0 => { m with addr := setHalf m.addr false d }
    | 4 => { m with addr := setHalf m.addr true d }
    | 8 => { m with data := d }
    | _ => { m with masked := d % 2 == 1 }
  let s := s.updVf v fun x => { x with msix := updAt x.msix n f }
  let x := s.vf v
  if x.pba.getD n false && !((x.msix[n]?).map MsixEntry.masked).getD true then
    (s.updVf v fun x => { x with pba := updAt x.pba n fun _ => false }).msix v n
  else s

/-- The effect of one 4-byte part of a write. A doorbell reached in this way fetches nothing by itself. -/
def State.regWrite (s : State) (v o d : Nat) : State :=
  if o = 0x08 then
    let s := if d.testBit 0 then s.enableRing v else s.disableRing v
    if d.testBit 1 then s.setAwake v else s.clearAwake v
  else if o = 0x0C then s.clearErrors v d
  else if o = 0x20 ∨ o = 0x24 then s.updVf v fun x => { x with ringBase := setHalf x.ringBase (o == 0x24) d }
  else if o = 0x28 then s.updVf v fun x => { x with ringLog := d }
  else if o = 0x30 ∨ o = 0x34 then s.updVf v fun x => { x with cplBase := setHalf x.cplBase (o == 0x34) d }
  else if o = 0x38 then s.updVf v fun x => { x with cplLog := d }
  else if o = 0x40 then s.doorbell v d []
  else if o = 0x48 then s.headWrite v none d
  else if 0x2000 ≤ o then s.msixWrite v o d
  else if o % 16 = 0 then s.queueDoorbell v ((o - 0x1000) / 16) d []
  else s.headWrite v (some ((o - 0x1000) / 16)) d

/-- VF_REGISTER_WRITE: a write of `width` bytes at an offset of VF BAR0; if any of its 4-byte parts is to be discarded,
the whole write is (R309, R310). -/
def execVfRegisterWrite (vf offset width value : Nat) (s : State) : Host.Outcome State Fault Refusal :=
  if (width ≠ 4 ∧ width ≠ 8) ∨ offset % width ≠ 0 then .next (s.vfError vf 0x01210008)
  else
    let parts := (List.range (width / 4)).map fun i => (offset + 4 * i, value / 2 ^ (32 * i) % 2 ^ 32)
    match parts.findSome? fun (o, d) => s.regCheck vf o d with
    | some code => .next (s.vfError vf code)
    | none => .next (parts.foldl (fun s (p : Nat × Nat) => s.regWrite vf p.1 p.2) s)

-- Completions (R312)

/-- COMPLETION_POST: the oldest held completion of a ring is written to host memory, the tail advances and the vector is
signalled; a full ring, or one whose write failed, holds it (R312, R316). -/
def execCompletionPost (vf : Nat) (queue : Option Nat) (s : State) : Host.Outcome State Fault Refusal :=
  let c := vfCtx vf
  if !s.bound vf then .next s
  else match queue with
  | none =>
    let x := s.vf vf
    let size := 2 ^ x.cplLog
    match x.held with
    | [] => .next s
    | k :: rest =>
      if x.cplFailed ∨ (x.cplTail + 1) % size = x.cplHead then .next s
      else
        let s := s.toHost c (x.cplBase + 32 * x.cplTail) k.bytes
        let s := s.updVf vf fun x => { x with held := rest, cplTail := (x.cplTail + 1) % size }
        .next ((s.settleRing vf).msix vf 0)
  | some q =>
    let w := s.queue c q
    let size := 2 ^ w.cplLog
    match w.held with
    | [] => .next s
    | k :: rest =>
      if 64 ≤ q ∨ w.cplFailed ∨ (w.cplTail + 1) % size = w.cplHead then .next s
      else
        let s := s.toHost c (w.cplBase + 32 * w.cplTail) k
        let s := s.updQueue c q fun w => { w with held := rest, cplTail := (w.cplTail + 1) % size }
        .next (s.msix vf w.vector)

-- Copies (R315, R317, R319)

/-- HOST_COPY is accepted: its range lies in one permitted region; it moves until HOST_COPY_COMPLETE. -/
def State.hostCopy (s : State) (v dir : Nat) (kinds : List Nat) : State :=
  match (s.vf v).fetched with
  | [] => s
  | front :: _ =>
    let d := leAt front 8 1
    if d ≠ dir ∧ (dir ≠ 1 ∨ d = 2) then s
    else s.command v 0x1B fun s e =>
      let addr := leAt e 16 8
      let len := leAt e 32 4
      if leAt e 8 1 ≠ dir then s.complete v e 0x01210014 0 0
      else if leAt e 24 8 % 64 ≠ 0 ∨ len = 0 ∨ 2 ^ 30 < len then s.complete v e 0x01210017 0 0
      else if !s.inRegion (vfCtx v) kinds addr len then s.complete v e 0x01210018 0 0
      else s.updVf v fun x => { x with running := some e, moved := 0 }

/-- HOST_COPY_TO_CONTEXT: direction 1, into EVAL_KEY regions only. It also takes a copy with no valid direction. -/
def execHostCopyToContext (vf : Nat) (s : State) : Host.Outcome State Fault Refusal :=
  .next (s.hostCopy vf 1 [kindEvalKey])

/-- HOST_COPY_TO_HOST: direction 2, from EVAL_KEY and OUTPUT regions. -/
def execHostCopyToHost (vf : Nat) (s : State) : Host.Outcome State Fault Refusal :=
  .next (s.hostCopy vf 2 [kindEvalKey, kindOutput])

/-- The first `n` bytes of the copy that runs have moved, in direction 1 the bytes that host memory held. -/
def State.moveCopy (s : State) (v : Nat) (e : Bytes) (n : Nat) (data : Bytes) : State :=
  let c := vfCtx v
  let addr := leAt e 16 8
  let s := if leAt e 8 1 = 1 then
      (s.writeMem c addr (padTo n data)).count c fun k => { k with dmaFromHost := k.dmaFromHost + n }
    else s.toHost c (leAt e 24 8) (s.readMem c addr n)
  s.updVf v fun x => { x with moved := n }

/-- HOST_COPY_COMPLETE: the copy's bytes are moved and the command completes; while furled it has stopped after the `stopped`
bytes it had moved (R315, R319). -/
def execHostCopyComplete (vf : Nat) (copy : CopyEnd) (s : State) : Host.Outcome State Fault Refusal :=
  match (s.vf vf).running with
  | none => .next s
  | some e =>
    let len := leAt e 32 4
    if Cmd.opcode e ≠ 0x1B then .next s
    else if s.furled then
      let s := s.moveCopy vf e (min copy.stopped len) copy.data
      .next (s.complete vf e 0x0121001A (s.vf vf).moved 0)
    else
      let s := s.moveCopy vf e len copy.data
      .next (s.complete vf e 0 (s.vf vf).moved 0)

-- Failures of host memory (R316)

/-- A data transfer of a command failed: the command that runs, or the one at the front whose transfer it is. What a copy
had moved stays moved and is counted (R315). -/
def State.transferFailed (s : State) (v : Nat) (data : Bytes) (stopped : Nat) : State :=
  let c := vfCtx v
  match (s.vf v).running with
  | some e =>
    if Cmd.opcode e = 0x01 ∧ (s.plan c).state = .checking then
      (s.updPlan c fun p => { p with state := .none, submitLength := 0 }).leaderRunning v 0x01 0x01210020 noField 0
    else if Cmd.opcode e = 0x1B then
      let s := s.moveCopy v e (min stopped (leAt e 32 4)) data
      s.complete v e 0x01210020 (s.vf v).moved 0
    else s
  | none =>
    let op := (((s.vf v).fetched.head?).map Cmd.opcode).getD 0
    if op = 0x08 ∨ op = 0x09 ∨ op = 0x0A then s.command v op fun s e => s.complete v e 0x01210020 0 0 else s

/-- A failure of each kind can occur: a fetch is due, a completion is held, a transfer is in progress. -/
def State.failurePossible (s : State) (v kind : Nat) (queue : Option Nat) : Bool :=
  let x := s.vf v
  let w := s.queue (vfCtx v) (queue.getD 64)
  let op := ((x.fetched.head?).map Cmd.opcode).getD 0
  s.bound v && match kind with
    | 0 => x.enable && x.head != x.tail
    | 1 => w.state == .active && w.head != w.tail
    | 2 => !x.held.isEmpty && !x.cplFailed
    | 3 =>
      (match x.running with
       | some e => (Cmd.opcode e == 0x01 && (s.plan (vfCtx v)).state == .checking) || Cmd.opcode e == 0x1B
       | none => op == 0x08 || op == 0x09 || op == 0x0A)
    | 4 => !w.held.isEmpty && !w.cplFailed
    | _ => false

/-- HOST_ACCESS_FAILURE: code 0x0121_0020; a ring fetch waits for the next doorbell, a completion for the next write of its
head register, and a command's transfer ends the command; a copy had moved `stopped` bytes, `data` of them from host memory
in direction 1 (R315, R316). -/
def execHostAccessFailure (vf kind : Nat) (what : HostFailure) (s : State) : Host.Outcome State Fault Refusal :=
  if !s.failurePossible vf kind what.queue then .next s
  else
    let s := s.vfError vf 0x01210020
    let q := what.queue.getD 0
    .next (match kind with
      | 0 => s.updVf vf fun x => { x with fetchErr := true }
      | 1 => s.updQueue (vfCtx vf) q fun w => { w with fetchErr := true }
      | 2 => s.updVf vf fun x => { x with cplFailed := true }
      | 3 => s.transferFailed vf what.data what.stopped
      | _ => s.updQueue (vfCtx vf) q fun w => { w with cplFailed := true })

-- Resets from the host (R318, R401)

/-- FLR of a VF (R318). -/
def execFlr (vf : Nat) (s : State) : Host.Outcome State Fault Refusal :=
  if s.domainOn (8 + vfEndpoint vf) && decide (vf < 32) then .next (s.flr vf) else .next s

def State.setPerst (s : State) (e : Nat) (v : Bool) : State :=
  s.updStart fun x => { x with perst := if e = 0 then (v, x.perst.2) else (x.perst.1, v) }

/-- PERST_ASSERT: the endpoint's link and configuration state are reset, and every VF of it (R318, R401). -/
def execPerstAssert (endpoint now : Nat) (s : State) : Host.Outcome State Fault Refusal :=
  let s := s.at now
  let was := if endpoint = 0 then s.start.perst.1 else s.start.perst.2
  if was ∨ 1 < endpoint then .next s
  else
    let s := s.setPerst endpoint true
    .next (if s.domainOn (8 + endpoint) then (s.updEp endpoint fun _ => .reset).flrAll endpoint else s)

/-- PERST_DEASSERT: the endpoint is served; WAKE_N of it is released; in F2 and F3 it is a wake source (R306, R401, R402,
R421). -/
def execPerstDeassert (endpoint now : Nat) (s : State) : Host.Outcome State Fault Refusal :=
  let s := s.at now
  let was := if endpoint = 0 then s.start.perst.1 else s.start.perst.2
  if !was ∨ 1 < endpoint then .next s
  else
    let s := s.setPerst endpoint false
    let s := s.updStart fun x => { x with wakeN := if endpoint = 0 then (none, x.wakeN.2) else (x.wakeN.1, none) }
    let s := if s.domainOn (8 + endpoint) then s.trainLink endpoint else s
    .next (s.wakeRequest (1 + endpoint))

/-- PCIE_LINK_DOWN: acts as an FLR of every VF of the endpoint; the link is down until it is trained again (R318). -/
def execPcieLinkDown (endpoint : Nat) (s : State) : Host.Outcome State Fault Refusal :=
  let perst := if endpoint = 0 then s.start.perst.1 else s.start.perst.2
  if perst ∨ 1 < endpoint ∨ !s.domainOn (8 + endpoint) then .next s
  else .next ((s.updEp endpoint fun _ => .reset).flrAll endpoint)

-- 0x2200 DMA_SLOT_MAP (R320)

/-- A write of DMA_SLOT_MAP_EP0 or EP1 (`sub` 3 or 4). -/
def State.writeDmaMap (s : State) (sub v : Nat) : Nat × State :=
  let e := sub - 3
  let busy := (List.range 16).any fun c =>
    (s.vf (16 * e + c)).enable ||
    (s.bound (16 * e + c) && (List.range 64).any fun q => (s.queue c q).state != .none)
  let named := fun (c : Nat) => (List.range 16).any fun k => v / 16 ^ k % 16 == c
  let without := (List.range 16).any fun c =>
    (s.ctxSet c).state != .free && (s.ctxSet c).endpoint == e && !named c
  if busy then (0x01210010, s)
  else if without then (0x01210021, s)
  else (0, s.persist fun p => { p with dmaMap :=
    if e = 0 then (BitVec.ofNat 64 v, p.dmaMap.2) else (p.dmaMap.1, BitVec.ofNat 64 v) })

end Sys2Proof.Machine
end

