-- ==== Sys2Proof/Machine/Contexts.lean ====
section
/-!
DEFINITION. Machine/Contexts.lean: creation and teardown of contexts, their resource entries (R321 to R339), and the
operations on keys that an operator commands (R353, R355, R358 to R364).
-/
namespace Sys2Proof.Machine

-- Resources (R322, R323, R339)

def State.updEntries (s : State) (c : Nat) (f : CtxEntries → CtxEntries) : State :=
  s.persist fun p => { p with ctx := updAt p.ctx c f }

/-- The entries of every other context that is not FREE. -/
def State.otherEntries (s : State) (c : Nat) : List CtxEntries :=
  ((s.set.ctx.zipIdx.filter fun (e, i) => i != c && e.state != .free)).map Prod.fst

/-- The mask of a context shares no beat with another's (R322 check 3). -/
def State.maskFree (s : State) (c : Nat) (e : CtxEntries) : Bool := (s.otherEntries c).all fun o => o.mask &&& e.mask == 0

/-- Every module total holds with a context's entries counted (R323); retired pages are not assigned again (R335). -/
def State.totalsHold (s : State) (c : Nat) (e : CtxEntries) : Bool :=
  let all := e :: s.otherEntries c
  let within := fun (f : CtxEntries → Nat) (n : Nat) => decide ((all.map f).sum ≤ n)
  let both := fun (f : CtxEntries → PerHoist) (n : Nat) => within (fun x => (f x).h0) n && within (fun x => (f x).h1) n
  both CtxEntries.portShare 96000 && (List.range 4).all (fun d => within (fun x => x.quota.getD d 0)
      (6160384 - s.keys.retiredPages.getD d 0)) &&
    both CtxEntries.keySlots 1792 && both CtxEntries.resident 2048 && both CtxEntries.connLimit 32768 &&
    both CtxEntries.pkEngines 32

/-- The DMA_SLOT_MAP of an endpoint names a context (R308, R320). -/
def State.hasDmaSlot (s : State) (endpoint c : Nat) : Bool :=
  let m := (if endpoint = 0 then s.set.dmaMap.1 else s.set.dmaMap.2).toNat
  (List.range 16).any fun k => m / 16 ^ k % 16 == c

/-- A write of a resource entry, subindices 0x03 to 0x12, `v` the integer written (0x04: bit b of the mask is bit b of
`v`): FREE, or ACTIVE with neither plan nor connection nor queue (R339). -/
def CtxEntries.write (e : CtxEntries) (sub v : Nat) : CtxEntries :=
  let h := fun (p : PerHoist) (first : Nat) => if sub = first then { p with h0 := v } else { p with h1 := v }
  match sub with
  | 0x03 => { e with endpoint := v }
  | 0x04 => { e with mask := BitVec.ofNat 256 v }
  | 0x05 => { e with portShare := h e.portShare 0x05 }
  | 0x06 => { e with portShare := h e.portShare 0x05 }
  | 0x07 => { e with quota := updAt e.quota 0 fun _ => v }
  | 0x08 => { e with quota := updAt e.quota 1 fun _ => v }
  | 0x09 => { e with quota := updAt e.quota 2 fun _ => v }
  | 0x0A => { e with quota := updAt e.quota 3 fun _ => v }
  | 0x0B => { e with keySlots := h e.keySlots 0x0B }
  | 0x0C => { e with keySlots := h e.keySlots 0x0B }
  | 0x0D => { e with resident := h e.resident 0x0D }
  | 0x0E => { e with resident := h e.resident 0x0D }
  | 0x0F => { e with connLimit := h e.connLimit 0x0F }
  | 0x10 => { e with connLimit := h e.connLimit 0x0F }
  | 0x11 => { e with pkEngines := h e.pkEngines 0x11 }
  | _ => { e with pkEngines := h e.pkEngines 0x11 }

def State.writeResource (s : State) (c sub v : Nat) : Nat × State :=
  let e := s.ctxSet c
  let e' := e.write sub v
  let unused := (s.plan c).state == .none && !(s.grixo.conns.any fun x => x.ctx == c) &&
    (List.range 64).all fun q => (s.queue c q).state == .none
  if e.state = .free then (0, s.updEntries c fun _ => e')
  else if e.state ≠ .active ∨ !unused then (0x01300062, s)
  else if sub = 0x04 ∧ !s.maskFree c e' then (0x01300071, s)
  else if !s.totalsHold c e' then (0x01300072, s)
  else if sub = 0x03 ∧ !s.hasDmaSlot e'.endpoint c then (0x01300072, s)
  else (0, s.updEntries c fun _ => e')

-- Creation (R322)

/-- COMMAND = 1 (CREATE). -/
def State.createContext (s : State) (c : Nat) : Nat × State :=
  let e := s.ctxSet c
  if e.state ≠ .free then (0x01300070, s)
  else if s.inHold then (0x01300058, s)
  else if !s.maskFree c e then (0x01300071, s)
  else if !s.totalsHold c e || decide (e.connLimit.h0 < e.resident.h0 ∨ e.connLimit.h1 < e.resident.h1) ||
      !s.hasDmaSlot e.endpoint c then (0x01300072, s)
  else
    let old := (s.ctx c).epoch
    let s := s.updCtx c fun _ => { Ctx.reset with epoch := old }
    let s := s.startKeys c
    let s := s.updPlan c fun _ => .reset
    let s := (s.updVf c fun _ => .reset).updVf (16 + c) fun _ => .reset
    let s := (List.range 64).foldl (fun s q => s.updQueue c q fun _ => .reset) s
    let s := s.updEntries c fun e => { e with state := .active }
    let s := s.journal1 10 (some c) (leBytes 1 1)
    (0, s.record 0x05300080 s.srcLeader (some c) [])

-- Teardown (R334 to R338)

/-- Every key slot of the context's world and its parent key are invalid at once; blobs wrapped under it are orphaned
(R334, R360). -/
def State.invalidateWorld (s : State) (c : Nat) : State :=
  ({ s with keys := { s.keys with
      slots := s.keys.slots.filter fun (k : KeySlot) => k.world != c
      grixo := s.keys.grixo.filter fun k => k.ctx != c
      blobs := s.keys.blobs.filter fun b => b.ctx != c } }).updCtx c fun x => { x with salt := [] }

/-- A teardown is accepted: cause 1 operator request, 2 context lost. -/
def State.beginTeardown (s : State) (c cause : Nat) : State :=
  let mine := s.keys.slots.filter fun (k : KeySlot) => k.world == c && decide (256 ≤ k.slot) && !k.value.isEmpty
  let t : Teardown :=
    { step := .accepted, cause := cause, seq := 0, keySlots := 2 + mine.length,
      memGeneration := (s.ctx c).mem.generation, sramKib := 0, connections := 0, acceptedMs := s.ms, resumed := false,
      retired := false, stepBeat := s.hal.beatCount }
  let s := s.updCtx c fun x => { x with teardown := some t }
  let s := s.updEntries c fun e => { e with state := .teardown }
  let s := s.record 0x05300081 s.srcLeader (some c) []
  let s := s.invalidateWorld c
  let s := s.journal1 10 (some c) (leBytes 1 2)
  if (s.plan c).state = .checking then
    (s.updPlan c fun p => { p with state := .none, submitLength := 0 }).completeRunning (s.vfOf c) 0x01 0x01300076 noField 0
  else s

/-- COMMAND = 2 (TEARDOWN), when its approvals are complete. -/
def State.requestTeardown (s : State) (c : Nat) : Nat × State :=
  if (s.ctxSet c).state ≠ .active then (0x01300074, s) else (0, s.beginTeardown c 1)

/-- A fault has lost the context: the module tears it down itself (R334, R443). -/
def State.loseContext (s : State) (c : Nat) : State :=
  if (s.ctxSet c).state ≠ .active then s
  else (s.record 0x03300083 s.srcLeader (some c) (leBytes 1 c)).beginTeardown c 2

/-- CONTEXT_LOST. -/
def execContextLost (ctx now : Nat) (s : State) : Host.Outcome State Fault Refusal := .next ((s.at now).loseContext ctx)

def State.teardownStep (s : State) (c : Nat) : Option TeardownStep := (s.ctx c).teardown.map Teardown.step

def State.updTeardown (s : State) (c : Nat) (f : Teardown → Teardown) : State :=
  s.updCtx c fun x => { x with teardown := x.teardown.map f }

/-- The command in progress on a VF completes with a code. -/
def State.endRunning (s : State) (v code : Nat) : State :=
  match (s.vf v).running with
  | some e => s.complete v e code 0 0
  | none => s

/-- TEARDOWN_ABANDON_STEP: step 1, at the first window boundary after acceptance that is not in HOLD (R335, R338). -/
def execTeardownAbandonStep (ctx : Nat) (s : State) : Host.Outcome State Fault Refusal :=
  match (s.ctx ctx).teardown with
  | none => .next s
  | some t =>
    if t.step ≠ .accepted ∨ !s.atWindow ∨ s.hal.beatCount ≤ t.stepBeat ∨ s.inHold then .next s
    else
      let s := s.endRunning (s.vfOf ctx) 0x01300076
      let s := s.abandonAll ctx 0x05300081
      let s := { s with rounds := updIf s.rounds (fun r => r.ctx == ctx && r.delivering) fun r =>
        { r with delivering := false, releaseCmd := none } }
      let open_ := (s.grixo.conns.filter fun x => x.ctx == ctx && x.state != .closed).length
      let s := s.closeAll (fun x => x.ctx == ctx) 0x05300081
      let s := (List.range 64).foldl (fun s q => (s.destroyQueue ctx q none).endQueue ctx q) s
      let s := s.setWindowKey ctx .none
      let s := s.updTeardown ctx fun t => { t with step := .abandoned, connections := open_, stepBeat := s.hal.beatCount }
      .next (s.journal1 10 (some ctx) (leBytes 1 3))

/-- SRAM of a context's plan in KiB: its regions at their clusters, and again at a spare that serves a position of it. -/
def State.planSramKib (s : State) (c : Nat) : Nat :=
  match s.image c with
  | none => 0
  | some im =>
    let sram := im.regions.filter fun r => !hbmKind r.kind && r.kind != 0
    let spare := fun (r : Region) =>
      (s.cluster (16 * r.die + 15)).position == some (15 * r.die + r.cluster)
    ((sram.map fun r => if spare r then 2 * r.length else r.length).sum) / 1024

/-- TEARDOWN_UNLOAD_STEP: step 2, at the first loop boundary at or after step 1 (R335). -/
def execTeardownUnloadStep (ctx : Nat) (s : State) : Host.Outcome State Fault Refusal :=
  if s.teardownStep ctx = some .abandoned && s.atLoop && !s.inHold then
    let kib := s.planSramKib ctx
    let s := s.updTeardown ctx fun t => { t with step := .zeroing, sramKib := kib }
    .next (if (s.plan ctx).state = .none then s else s.unloadPlan ctx)
  else .next s

/-- TEARDOWN_SRAM_ZEROED: step 3 has zeroed the plan's SRAM in owned beats, and may have retired a line; step 4: both
memory-key generations are discarded, the VF is unbound (R335). -/
def execTeardownSramZeroed (ctx : Nat) (retired : Option Nat) (s : State) : Host.Outcome State Fault Refusal :=
  if s.teardownStep ctx = some .zeroing then
    let s := match retired with
      | some k => (s.updTeardown ctx fun t => { t with retired := true }).record 0x04300084 (srcCluster k) (some ctx) []
      | none => s
    let s := s.updCtx ctx fun x => { x with mem := .none }
    let s := s.updTeardown ctx fun t => { t with step := .scrubbing }
    let s := s.updEntries ctx fun e => { e with state := .scrubbing }
    .next (s.journal1 10 (some ctx) (leBytes 1 4))
  else .next s

/-- The scrub receipt's 32 bytes (R336). -/
def Teardown.receipt (t : Teardown) (c pages ms : Nat) : Bytes :=
  leBytes 1 c ++ leBytes 1 t.cause ++ leBytes 2 t.keySlots ++ leBytes 4 t.seq ++ leBytes 4 t.memGeneration ++
  leBytes 4 pages ++ leBytes 4 t.sramKib ++ leBytes 4 (ms - t.acceptedMs) ++ leBytes 4 t.connections ++
  leBytes 4 ((if t.resumed then 1 else 0) + (if t.retired then 2 else 0))

/-- Pages of each Canton are retired after a second failed read-back (R335). -/
def State.retirePages (s : State) (c : Nat) (pages : List Nat) : State :=
  let s := { s with keys := { s.keys with
    retiredPages := (List.range 4).map fun d => s.keys.retiredPages.getD d 0 + pages.getD d 0 } }
  (List.range 4).foldl (fun s d =>
    if pages.getD d 0 = 0 then s else s.record 0x04300084 (srcCanton d) (some c) []) s

/-- SCRUB_COMPLETE: steps 5 and 6: the context's pages are zeroed, the receipt is written and the context is FREE (R335,
R336). -/
def execScrubComplete (ctx : Nat) (retired : List Nat) (now : Nat) (s : State) : Host.Outcome State Fault Refusal :=
  let s := s.at now
  match (s.ctx ctx).teardown with
  | none => .next s
  | some t =>
    if t.step ≠ .scrubbing ∨ !s.stageCDone then .next s
    else
      let s := if retired.sum = 0 then s else s.retirePages ctx retired
      let seq := s.keys.teardownSeq + 1
      let receipt := { t with seq := seq, retired := t.retired || retired.sum != 0 }.receipt ctx (s.ctxSet ctx).quota.sum s.ms
      let old := (s.ctx ctx).epoch
      let s := { s with
        keys := { s.keys with teardownSeq := seq }
        grixo := { s.grixo with conns := s.grixo.conns.filter fun x => x.ctx != ctx
                                closing := s.grixo.closing.filter fun x => x.conn.ctx != ctx
                                releases := s.grixo.releases.filter fun r => r.1.1 != ctx } }
      let s := s.updCtx ctx fun _ => { Ctx.reset with epoch := old }
      let s := s.record 0x05300082 s.srcLeader (some ctx) receipt
      let s := s.updEntries ctx fun e => { e with receipt := receipt, state := .free }
      .next (s.journal1 10 (some ctx) (leBytes 1 5 ++ receipt))

-- Keys by command (R353, R355, R358, R361, R364)

/-- Attribute word of an imported Grixo key: masters none (R347, R353). -/
def grixoAttr (c : Nat) : BitVec 32 := slotAttr 0 c 5 2

/-- A write of KEY_IMPORT: the envelope is opened under IMPORT_KEY, and the key becomes the current Grixo key of the
named Hoist. -/
def State.importGrixo (s : State) (v : Bytes) : Nat × State :=
  let c := beAt v 1 1
  let h := beAt v 2 1
  let bad := (0x01400010, s.record 0x01400010 s.srcLeader none [])
  let shape := v.length == 88 && beAt v 0 1 == 1 && decide (c < 16 ∧ h < 2) && beAt v 3 1 == 5 && zeroAt v 4 4 &&
    (s.ctxSet c).state == .active
  if !shape then bad
  else match hpkeOpen s.importKey (slice v 8 32) (ascii "TA32 import" ++ v.take 8) (v.take 8) (slice v 40 48) with
  | none => bad
  | some key =>
    if !s.slotFree c h 1 then (0x01300075, s)
    else
      let blob := s.blobOf c (grixoAttr c) key
      let (s, slot) := s.fillSlot h (grixoAttr c) key
      let s := { s with keys := { s.keys with
        blobs := s.keys.blobs ++ [Blob.mk c 2 0 0 h blob]
        grixo := (s.keys.grixo.map fun (k : GrixoKey) => if k.ctx = c ∧ k.hoist = h then { k with current := false } else k) ++
          [GrixoKey.mk c h slot true] } }
      let s := s.dropOldGrixo.journal1 11 (some c) blob
      (0, s.record 0x05400032 (srcHoist h) (some c) [])

/-- A write of KEY_DESTROY: the context's imported keys on the named Hoists go, with their blobs, and its encrypted
connections there close (R355, R360). -/
def State.destroyGrixo (s : State) (v : Nat) : Nat × State :=
  let c := v % 16
  let on := fun (h : Nat) => if h = 0 then v.testBit 4 else v.testBit 5
  let gone := s.keys.grixo.filter fun k => k.ctx == c && on k.hoist
  let s := s.closeAll (fun x => x.ctx == c && x.enc && on (connHoist x.index)) 0x05400033
  let s := s.freeSlots (gone.map fun k => (k.hoist, k.slot))
  let s := { s with keys := { s.keys with
    grixo := s.keys.grixo.filter fun k => !(k.ctx == c && on k.hoist)
    blobs := s.keys.blobs.filter fun b => !(b.ctx == c && b.use == 2 && on b.hoist) } }
  (0, s.record 0x05400033 s.srcLeader (some c) [])

/-- A write of MEM_ROTATE: generation g + 1 is derived and the sweeps begin; a Canton without pages is done at once
(R358). -/
def State.rotateMemory (s : State) (c : Nat) : Nat × State :=
  let m := (s.ctx c).mem
  if m.live ≠ 1 then (0x01400011, s)
  else
    let (g, key) := s.nextGeneration c (m.generation + 1)
    let sweep := (List.range 4).filter fun d => decide (0 < (s.ctxSet c).quota.getD d 0)
    let s := s.updCtx c fun x => { x with mem := ⟨g, 2, sweep, key, m.key⟩ }
    let s := s.record 0x05400030 s.srcLeader (some c) (leBytes 4 g)
    (0, if sweep.isEmpty then
        (s.updCtx c fun x => { x with mem := ⟨g, 1, [], key, []⟩ }).record 0x05400031 s.srcLeader (some c) (leBytes 4 (g - 1))
      else s)

/-- MEM_SWEEP_COMPLETE: a Canton has converted every page; after the last one the old generation is discarded (R358). A
teardown stops the sweep (R359). -/
def execMemSweepComplete (ctx canton : Nat) (s : State) : Host.Outcome State Fault Refusal :=
  let m := (s.ctx ctx).mem
  if !m.sweeping.contains canton ∨ (s.ctxSet ctx).state ≠ .active then .next s
  else
    let left := m.sweeping.filter fun d => d != canton
    if left.isEmpty then
      let s := s.updCtx ctx fun x => { x with mem := { m with sweeping := [], live := 1, oldKey := [] } }
      .next (s.record 0x05400031 s.srcLeader (some ctx) (leBytes 4 (m.generation - 1)))
    else .next (s.updCtx ctx fun x => { x with mem := { m with sweeping := left } })

/-- Zeroisation (R361): keys, key registers and DRBG states are cleared, the module is reset to stage A, and every ACTIVE
context is torn down with cause 2 when it comes up. -/
def State.zeroiseAll (s : State) (cause : Nat) : State :=
  let count := min (s.keys.tamperCount + 1) 0xFFFFFFFF
  let s := { s with
    keys := { s.keys with slots := [], saltD := [], grixo := [], blobs := [], tamperCount := count, tamperCause := cause }
    drbgs := List.replicate 512 .reset }
  let active := (List.range 16).filter fun c => (s.ctxSet c).state == .active
  let s := active.foldl (fun s c => s.beginTeardown c 2) s
  -- the ALARM lies in the AON store, which the reset keeps
  (s.moduleReset 0x11 false).record 0x04400024 srcBurgee none (leBytes 1 cause)

/-- TAMPER_ASSERT: the tamper line is asserted by a source of R361: 1 pin, 2 AON monitor, 3 package temperature, 4
ZEROISE. -/
def execTamperAssert (cause now : Nat) (s : State) : Host.Outcome State Fault Refusal :=
  let s := s.at now
  if s.start.t0.isNone ∨ cause = 0 ∨ 4 < cause then .next s else .next (s.zeroiseAll cause)

/-- KEY_MASK_REFRESH: every slot is rewritten under a fresh mask; no value changes (R349). -/
def execKeyMaskRefresh (now : Nat) (s : State) : Host.Outcome State Fault Refusal :=
  let s := s.at now
  if s.start.cpRuns.1 || s.start.cpRuns.2 then
    .next { s with keys := { s.keys with maskEpoch := s.keys.maskEpoch + 1 } }
  else .next s

end Sys2Proof.Machine
end

