-- ==== Sys2Proof/Machine/Halyard.lean ====
section
/-!
DEFINITION. Machine/Halyard.lean: beats, windows and PPS edges, references and states, settings, level changes,
emergencies and trips (R65 to R84, R405 to R411, R537).
-/
namespace Sys2Proof.Machine

def State.updHal (s : State) (f : Halyard → Halyard) : State := { s with hal := f s.hal }

-- Levels

/-- A fall of the level below the LEVEL of a running plan (R112). -/
def State.levelNotices (s : State) (level : Nat) : State :=
  ((List.range 16).filter fun c =>
    (s.plan c).state == .running && (((s.plan c).image.map fun im => decide (level < im.cost.level)).getD false)).foldl
    (fun s c => s.record 0x05300063 s.srcLeader (some c) []) s

/-- Payload of a record that names a target level and an edge. -/
def levelPayload (target edge : Nat) : Bytes := leBytes 1 target ++ zeros 7 ++ leBytes 8 edge

/-- PL0 of an emergency is due at this instant: a later beat boundary than the decision, a whole multiple of 2 µs after
the PPS edge (R80). -/
def State.emergencyNow (s : State) : Bool :=
  match s.hal.emergencyDue with
  | some b => decide (b < s.hal.beatCount) && s.hal.sinceEdge % 84 == 0
  | none => false

/-- PL0 takes effect (R80). -/
def State.emergencyEffect (s : State) : State :=
  if s.emergencyNow then
    let old := s.hal.level
    let s := s.updHal fun h => { h with emergencyDue := none, level := 0 }
    let s := s.updPower fun p => { p with railLevel := 0 }
    if old = 0 then s else s.levelNotices 0
  else s

/-- EMERGENCY_LEVEL_EFFECT (R80). -/
def execEmergencyLevelEffect (s : State) : Host.Outcome State Fault Refusal := .next s.emergencyEffect

-- Beats

/-- The fleet shadow count goes on by a time in ticks (R81). -/
def Shadow.run (x : Shadow) (t : Nat) : Shadow :=
  { x with count := x.count + (x.ticks + t) / beatTicks x.level, ticks := (x.ticks + t) % beatTicks x.level }

/-- FLEET_BEAT_OFFSET at an instant: the shadow count minus BEAT_COUNT; the shadow count runs on while beats are frozen
(R81, R420). -/
def Halyard.fleetOffset (h : Halyard) (aon : Nat) : Int :=
  let behind := if h.frozen then aon - (h.lastEdge + h.sinceEdge) else 0
  (h.shadow.map fun x => ((x.run behind).count : Int) - (h.beatCount : Int)).getD 0

/-- A cluster drops the banks filled for the running entry by a context that does not own the beat; their records are
consumed and never added (R132). -/
def State.dropForeign (s : State) (k : Nat) (owner : Option Nat) : State :=
  let foreign := fun (b : Bank) => b.entry == s.entry && some b.ctx != owner
  let c := s.cluster k
  if !c.banks.any foreign then s
  else
    let s := (c.banks.filter foreign).foldl (fun s b => s.skipBank (c.position.getD 0) b) s
    s.updCluster k fun c => { c with banks := c.banks.filter fun b => !foreign b }

/-- BEAT_BOUNDARY: the running beat ends after 2,048 cycles at the level in force (R66); staged banks of a context that
does not own the next beat are dropped, and complete mask groups swap for their folds (R182). What arrived in the beat
that ends is judged in it (R279). -/
def execBeatBoundary (s : State) : Host.Outcome State Fault Refusal :=
  if s.start.t0.isNone || s.hal.frozen then .next s
  else
    let s := s.takeArrived.emergencyEffect.trackIdle
    let t := beatTicks s.hal.level
    let s := s.advance (max s.aon (s.hal.lastEdge + s.hal.sinceEdge + t))
    let s := s.updHal fun h =>
      { h with beatCount := h.beatCount + 1, sinceEdge := h.sinceEdge + t, shadow := h.shadow.map fun x => x.run t }
    let owner := s.beatOwner s.beat
    .next ((List.range 64).foldl (fun s k => s.dropForeign k owner) s).foldSwaps

-- Windows

/-- Snapshots of the counter blocks: each context's that is not FREE, and the module's (R331, R482). -/
def State.snapshot (s : State) : State :=
  let w := s.window
  let f := fun ((x, c) : Ctx × Nat) =>
    if (s.ctxSet c).state = .free then x
    else { x with counters := ⟨x.counters.live, x.counters.live, x.counters.seq + 2, w⟩ }
  let shown : ModuleCounts :=
    { drops := s.grixo.ports.map SubPort.drops, fec := s.stats.fec, hbmEcc := s.stats.hbmEcc,
      sramEcc := s.stats.sramEcc, replays := s.lead.links.map DieLink.replays, intakeRejects := s.stats.intakeRejects }
  { s with ctxs := s.ctxs.zipIdx.map f
           stats := { s.stats with shown := shown, seq := s.stats.seq + 2, window := w } }

/-- Credits that a connection may be granted now: for ROUND what the free space of its LANDING region allows (R292). -/
def State.grantFor (s : State) (c : Conn) : Nat :=
  if c.kind ≠ 1 then c.grant
  else
    let length := (((s.image c.ctx).bind fun im => im.regions[c.landing]?).map Region.length).getD 0
    let here := s.grixo.conns.filter fun x => x.ctx == c.ctx && x.kind == 1 && x.landing == c.landing
    let live := (here.map fun x => x.outBucket.sum).sum
    let partials := (here.map fun x => (x.rx.filter fun m => !m.complete).length).sum
    let ids := here.map Conn.index
    let waiting := ((s.rounds.filter fun r => r.ctx == c.ctx).map fun r =>
      ((r.intake.waiting ++ r.intake.secretQueue).filter fun f => ids.contains f.conn).length).sum
    min c.grant ((length - 4096 * (live + partials + waiting)) / 4096)

/-- Credits whose grant ends at this boundary lapse (R290). -/
def State.lapseCredits (s : State) (idx : Nat) : State :=
  match s.conn? idx with
  | none => s
  | some c =>
    let k := min 16 (s.window - c.outBase)
    let s := s.updConn idx fun c =>
      { c with outBase := s.window, outBucket := c.outBucket.drop k ++ List.replicate k 0 }
    s.count c.ctx fun n => { n with creditsLapsed := n.creditsLapsed + (c.outBucket.take k).sum }

/-- The CREDIT packet of a window boundary (R292), once the record is resident (R288). -/
def State.grantCredits (s : State) (idx : Nat) : State :=
  match s.conn? idx with
  | none => s
  | some c =>
    if c.state ≠ .open ∨ c.grant = 0 then s
    else s.withRecord idx fun s c =>
      let g := s.grantFor c
      let s := s.updConn idx fun c => { c with outBucket := updAt c.outBucket (c.expiry - 1) (· + g) }
      let s := s.count c.ctx fun n => { n with creditsGranted := n.creditsGranted + g }
      s.sendCtrl idx 6 (creditPayload s.window g c.expiry)

/-- A cluster that leaves SERVICE stops: its span is interrupted and its banks are dropped (R26, R95). -/
def State.stopCluster (s : State) (i : Nat) : State :=
  let c := s.cluster i
  let s := c.banks.foldl (fun s b => s.skipBank (c.position.getD 0) b) s
  s.updCluster i fun c => { c with span := none, banks := [], ahead := none }

/-- A cluster's requested owner-bit change, if it is due: a full window after its acceptance, for a failed cluster at the
next boundary (R27). -/
def State.ownerChange (s : State) (i : Nat) : State :=
  let k := s.cluster i
  match k.request with
  | none => s
  | some (o, b) =>
    if k.failed && o == .maintenance && decide (b < s.hal.beatCount) || decide (b + 256 ≤ s.hal.beatCount) then
      let s := if o = .maintenance then s.stopCluster i else s
      let s := s.updCluster i fun k => { k with owner := o, request := none }
      if o = .service ∧ k.owner ≠ .service then s.instantiateDrbgs i else s
    else s

def State.ownerChanges (s : State) : State := (List.range 64).foldl (fun s i => s.ownerChange i) s

/-- What a window boundary does to a round: the windows of W_r and W_s if this one `counts`, CHUNKS of its query, and
secrets that have become complete (R43, R44, R166, R315). -/
def State.windowRound (s : State) (counts : Bool) (r : Round) : Round :=
  let b := s.hal.beatCount
  let r := { r with
    openWindows := if counts && r.state == .open && decide (r.openBeat < b) then r.openWindows + 1 else r.openWindows
    closedWindows := if counts && r.state == .closed && decide (r.closeBeat < b) then r.closedWindows + 1
      else r.closedWindows
    chunksShown := r.chunks }
  match s.image r.ctx with
  | some im =>
    let t := im.template r.template
    if r.state = .closed ∧ r.frozen ∧ t.isPair then (r.settleSecrets t false).queueShamir im r.template else r
  | none => r

/-- WINDOW_BOUNDARY: beat 0 of a window begins (R5). The snapshots hold what took effect before it; then allowances and
grants are renewed, drains counted and due owner bits changed. In HOLD no round counts the window and owner bits wait
(R435); secrets that are complete become READY at every boundary (R166). -/
def execWindowBoundary (s : State) : Host.Outcome State Fault Refusal :=
  if !s.atWindow || s.hal.windowDone == some s.window || s.hal.frozen || s.start.t0.isNone then .next s
  else
    let s := (s.updHal fun h => { h with windowDone := some (h.beatCount / 256) }).snapshot
    let ids := s.grixo.conns.map Conn.index
    let s := { s with ctxs := s.ctxs.zipIdx.map fun ((x, c) : Ctx × Nat) =>
      let e := (s.ctxSet c).portShare
      { x with egress := ⟨4096 * e.h0, 4096 * e.h1⟩ } }
    let s := ids.foldl (fun s i => s.lapseCredits i) s
    let s := ids.foldl (fun s i => s.grantCredits i) s
    let s := ids.foldl (fun s i => s.pump i) s
    let s := { s with grixo := { s.grixo with windowKeys := s.grixo.windowKeys.map fun (k : WindowKey) =>
      { k with draining := k.draining.map fun (d : Nat × Nat) => (d.1, d.2 - 1) } } }
    let ended := s.lead.holdBeat == s.hal.beatCount && s.lead.holdBeat != 0
    let s := { s with rounds := s.rounds.map (s.windowRound (!s.inHold && !ended)) }
    .next (if s.inHold then s else s.ownerChanges.handOverDue)

-- References (R67 to R73)

/-- The highest-priority qualified reference; 0 none (R69). -/
def Halyard.best (h : Halyard) : Nat :=
  let p := h.use.refPriority.toNat
  (([bits p 3 0, bits p 7 4, bits p 11 8].find? fun x => x != 0 && h.qualified.contains x)).getD 0

def State.plansAdmitted (s : State) : Bool :=
  s.plans.any fun p => p.state == .loaded || p.state == .running || p.state == .unloading

/-- The beat phase is stepped: a PPS edge, and with it a beat, begins at this instant, so the settings written before it
take effect (R72, R84; log entry 88). -/
def State.stepPhase (s : State) : State :=
  s.updHal fun h => { h with lastEdge := s.aon, sinceEdge := 0, use := s.set.hal }

/-- PPS edges are counted from the beginning of the running beat; no beat is cut (R66, R74; log entry 87). -/
def Halyard.edgesFromBeat (h : Halyard) : Halyard := { h with lastEdge := h.lastEdge + h.sinceEdge, sinceEdge := 0 }

/-- Use the best reference: a switch, an acquisition, or the state that follows the loss of the last one (R69, R73). -/
def State.chooseRef (s : State) : State :=
  let b := s.hal.best
  if b = s.hal.refActive then s
  else if b = 0 then
    let s := s.updHal fun h => { h with refActive := 0 }
    match s.hal.state with
    | .locked =>
      let s := s.updHal fun h => { h with state := .holdover, holdoverSince := some s.aon }
      s.record 0x05030002 (srcHoist 0) none []
    | .acquiring => s.updHal fun h => { h with state := h.acqFrom }
    | _ => s
  else if s.hal.refActive = 0 then
    match s.hal.state with
    | .locked => s
    | .acquiring => s.updHal fun h => { h with refActive := b }
    | st => s.updHal fun h => { h with refActive := b, state := .acquiring, acqFrom := st }
  else (s.updHal fun h => { h with refActive := b }).record 0x05030004 (srcHoist 0) none []

def setPair (p : Nat × Nat) (ref v : Nat) : Nat × Nat := if ref = 2 then (v, p.2) else if ref = 3 then (p.1, v) else p
def getPair (p : Nat × Nat) (ref : Nat) : Nat := if ref = 2 then p.1 else p.2

/-- A Sync interval in ticks. -/
def syncTicks (logSync : Int) : Nat := tickS / 2 ^ (-logSync).toNat

/-- The message belongs to the domain and the transport that the module listens to (R67). -/
def Halyard.hears (h : Halyard) (domain transport : Nat) : Bool :=
  domain == h.use.ptpDomain && transport == h.use.ptpTransport

/-- The servo's offset from the master, by the delay request-response mechanism: half the difference of the two ways
(R67). -/
def ptpOffset (t1 t2 t3 t4 : Nat) : Int := (((t2 : Int) - t1) - ((t4 : Int) - t3)) / 2

/-- The port of a PTP reference has power: the management port (2), or data port 0 (3) (R405, R420). -/
def State.ptpPowered (s : State) (ref : Nat) : Bool := s.power.powered.getLsbD (if ref = 3 then 10 else 1)

/-- PTP_SYNC_RX: a Sync of the management port (2) or data port 0 (3) is timestamped and answered with a Delay_Req; its
offset goes on the run of Sync intervals within ±40 ns, which an interval without a Sync ends (R67, R68). -/
def execPtpSyncRx (ref : Nat) (sync : PtpSync) (now : Nat) (s : State) : Host.Outcome State Fault Refusal :=
  let s := s.at now
  if !(s.hal.hears sync.domain sync.transport && s.ptpPowered ref) then .next s
  else
    let missed := decide (getPair s.hal.lastSync ref + 2 * syncTicks s.hal.use.ptpLogSync ≤ s.aon)
    let before := if missed then 0 else getPair s.hal.syncGood ref
    let good := if (ptpOffset sync.t1 sync.t2 sync.t3 sync.t4).natAbs ≤ 40 then min 16 (before + 1) else 0
    let s := s.updHal fun h => { h with lastSync := setPair h.lastSync ref s.aon, syncGood := setPair h.syncGood ref good }
    .next (s.emit (.delayReq ref))

/-- PTP_ANNOUNCE_RX: the announce receipt timeout starts again (R67). -/
def execPtpAnnounceRx (announce : PtpAnnounce) (now : Nat) (s : State) : Host.Outcome State Fault Refusal :=
  let s := s.at now
  if !(s.hal.hears announce.domain announce.transport && s.ptpPowered announce.ref) then .next s
  else .next (s.updHal fun h => { h with lastAnnounce := setPair h.lastAnnounce announce.ref s.aon })

/-- REF_IN lies within so many ppm of its nominal frequency (R68). -/
def Halyard.refWithin (h : Halyard) (milliHz ppm : Nat) : Bool :=
  let nominal := h.use.refInFreq * 1000000000
  decide (((milliHz : Int) - nominal).natAbs * 1000000 ≤ ppm * nominal)

/-- Four consecutive PPS_IN edges are spaced 1 s ± 1 µs apart: the last three spacings (R68). -/
def edgesSpaced (spacings : List Nat) : Bool :=
  decide (3 ≤ spacings.length) &&
    (spacings.drop (spacings.length - 3)).all fun x => decide (((x : Int) - 1000000000).natAbs ≤ 1000)

/-- REFERENCE_QUALIFIED: once the PLL has locked to the TCXO, a PTP reference after 16 good Sync intervals, reference 1 by
its edges and frequency (R65, R68). -/
def execReferenceQualified (seen : RefReport) (now : Nat) (s : State) : Host.Outcome State Fault Refusal :=
  let s := s.at now
  let ref := seen.ref
  let meets := if ref = 1 then edgesSpaced seen.spacings && s.hal.refWithin seen.milliHz 20
    else decide (16 ≤ getPair s.hal.syncGood ref)
  if ref = 0 ∨ 3 < ref ∨ s.hal.qualified.contains ref ∨ s.start.t0.isNone ∨ !s.start.pllLocked ∨ !meets then .next s
  else
    let s := s.updHal fun h => { h with qualified := ref :: h.qualified }
    .next (if s.hal.refActive = 0 then s.chooseRef else s)

/-- References no longer qualify; one that was in use is replaced at once (R69, R73). -/
def State.loseRefs (s : State) (refs : List Nat) : State :=
  let s := s.updHal fun h =>
    { h with qualified := h.qualified.filter fun x => !refs.contains x
             syncGood := refs.foldl (fun p r => setPair p r 0) h.syncGood }
  if refs.contains s.hal.refActive then s.chooseRef else s

/-- REFERENCE_LOST: a PTP reference after three Sync intervals without Sync or the announce receipt timeout, reference 1 by
a PPS_IN edge more than 2 µs late or REF_IN outside ±50 ppm (R68, R73). -/
def execReferenceLost (seen : RefLoss) (now : Nat) (s : State) : Host.Outcome State Fault Refusal :=
  let s := s.at now
  let ref := seen.ref
  let lost := if ref = 1 then decide (2000 < seen.lateNs) || !s.hal.refWithin seen.milliHz 50
    else decide (getPair s.hal.lastSync ref + 3 * syncTicks s.hal.use.ptpLogSync ≤ s.aon ∨
      getPair s.hal.lastAnnounce ref + 6 * tickS ≤ s.aon)
  if !s.hal.qualified.contains ref || !lost then .next s else .next (s.loseRefs [ref])

/-- A setting of SECONDS other than a rise by one: a pending level change and a pending ALIGN are cancelled (R537). -/
def State.setSeconds (s : State) (v : Nat) (step : Int) : State :=
  let cancel := fun (s : State) (target edge : Nat) => s.record 0x0503000A (srcHoist 0) none
    (leBytes 1 target ++ zeros 7 ++ leBytes 8 (unsignedOf 64 step) ++ leBytes 8 edge)
  let level := s.hal.pendingLevel
  let align := s.hal.pendingAlign
  let s := s.updHal fun h => { h with seconds := v }
  if step = 0 then s
  else
    let s := s.updHal fun h => { h with pendingLevel := none, pendingAlign := none }
    let s := match level with
      | some x => cancel s x.target x.edge
      | none => s
    match align with
    | some x => cancel s 0xFF x.second
    | none => s

/-- Tolerance of LOCKED in ps: ±10 ns to a PPS edge, ±12 ns to PTP time. -/
def lockTolerance (ref : Nat) : Nat := if ref = 1 then 10000 else 12000

/-- HALYARD_LOCKED: phase is within tolerance; with no plan admitted the phase was stepped to the reference and the instant
is a PPS edge, which counts no second (log entry 88). SECONDS starts from 0 at the first LOCKED after a POWER-ON start (R72,
R73, R537). -/
def execHalyardLocked (seen : LockReport) (s : State) : Host.Outcome State Fault Refusal :=
  let s := s.at seen.now
  if s.hal.state ≠ .acquiring ∨ s.hal.refActive = 0 ∨ lockTolerance s.hal.refActive < seen.phasePs.natAbs then .next s
  else
    let first := !s.hal.everLocked
    let s := s.updHal fun h =>
      { h with state := .locked, holdoverFlag := false, holdoverSince := none, everLocked := true
               phaseOffset := seen.phasePs }
    let s := if s.plansAdmitted then s else s.stepPhase
    let s := if first then s.setSeconds 0 (-(s.hal.seconds : Int)) else s
    .next (s.record 0x05030001 (srcHoist 0) none [])

/-- HOLDOVER_60S_EXPIRY: 60 s of holdover: the flag and its ALARM, once for the whole holdover (R73). -/
def execHoldover60sExpiry (now : Nat) (s : State) : Host.Outcome State Fault Refusal :=
  let s := s.at now
  match s.hal.holdoverSince with
  | some t =>
    if t + 60 * tickS ≤ s.aon ∧ !s.hal.holdoverFlag then
      .next ((s.updHal fun h => { h with holdoverFlag := true }).record 0x04030003 (srcHoist 0) none [])
    else .next s
  | none => .next s

/-- The Halyard may enter FREE-RUN: in START, 30 s after stage C completed, with no qualified reference (R71). -/
def State.freeRunDue (s : State) : Bool :=
  s.hal.state == HalState.start && s.set.allowFreeRun && s.hal.qualified.isEmpty && s.stageCDone &&
    decide (s.start.stageCAt + 30 * tickS ≤ s.aon)

/-- FREE-RUN is entered: the TCXO-timed estimates of PPS edges count from the running beat (R71, log entry 87). -/
def State.enterFreeRun (s : State) : State :=
  if s.freeRunDue then s.updHal fun h => { h.edgesFromBeat with state := .freeRun } else s

/-- FREE_RUN_TIMEOUT (R71). -/
def execFreeRunTimeout (now : Nat) (s : State) : Host.Outcome State Fault Refusal := .next (s.at now).enterFreeRun

-- PPS edges (R74 to R77, R420, R537)

/-- The pending level change at its edge: upward only with the rail at its target (R77, R78). -/
def State.levelAtEdge (s : State) : State :=
  match s.hal.pendingLevel with
  | none => s
  | some x =>
    if x.edge ≠ s.hal.seconds then s
    else
      let old := s.hal.level
      let s := s.updHal fun h => { h with pendingLevel := none }
      if old < x.target ∧ s.power.railLevel < x.target then
        (s.updPower fun p => { p with ramping := false }).record 0x0403000B (srcHoist 0) none (levelPayload x.target x.edge)
      else
        let s := s.updHal fun h =>
          { h with level := x.target, shadow := h.shadow.map fun y => { y with level := x.target } }
        let s := s.updPower fun p => { p with ramping := decide (x.target < old) }
        let s := s.record 0x05030007 (srcHoist 0) none (levelPayload x.target x.edge)
        if x.target < old then s.levelNotices x.target else s

/-- Beat counts that are remembered move with an ALIGN, so that what they time stays in place (R75). -/
def State.rebase (s : State) (v : Nat) : State :=
  let b := s.hal.beatCount
  let m := fun (x : Nat) => v - (b - x)
  let lead : Lead := { s.lead with lastFault := s.lead.lastFault.map fun f => f.map m
                                   holdBeat := m s.lead.holdBeat
                                   handover := s.lead.handover.map m }
  { s with
    clusters := s.clusters.map fun (k : Cluster) =>
      { k with request := k.request.map (fun q => (q.1, m q.2)), ahead := none, banks := [], span := none }
    ctxs := s.ctxs.map fun (x : Ctx) =>
      { x with teardown := x.teardown.map fun (t : Teardown) => { t with stepBeat := m t.stepBeat } }
    lead := lead
    grixo := { s.grixo with conns := s.grixo.conns.map fun (c : Conn) =>
      { c with outBase := v / 256 - (b / 256 - c.outBase) } }
    hal := { s.hal with beatCount := v, windowDone := none, shadow := none
                        emergencyDue := s.hal.emergencyDue.map m } }

/-- The pending ALIGN at the edge of its second (R75). A plan admitted since its acceptance does not cancel it (log entry
79). -/
def State.alignAtEdge (s : State) : State :=
  match s.hal.pendingAlign with
  | none => s
  | some x =>
    if x.second ≠ s.hal.seconds then s
    else (s.updHal fun h => { h with pendingAlign := none }).rebase x.count

/-- PPS_EDGE: SECONDS advances; what is pending for this edge takes effect; settings and a switch of reference reach the
Halyard; beats resume after a furl; PPS_OUT is driven (R69, R70, R74 to R77, R84, R420, R537). In START, and in ACQUIRING
entered from it, an edge only brings settings and the choice of a reference into force; in other ACQUIRING states SECONDS
rises by one until LOCKED, then the PTP second is taken (log entry 88). The shadow count goes on while beats are frozen. -/
def execPpsEdge (ptpSecond : Nat) (phasePs : Int) (s : State) : Host.Outcome State Fault Refusal :=
  let idle := s.hal.state == HalState.start || (s.hal.state == HalState.acquiring && s.hal.acqFrom == HalState.start)
  if s.start.t0.isNone then .next s
  else if idle then
    let s := (s.updHal fun h => { h with use := s.set.hal }).chooseRef
    .next (if s.set.halyardOut && s.hal.state != HalState.start then s.emit .ppsOut else s)
  else if !s.hal.frozen && s.hal.sinceEdge != tickS then .next s
  else
    let s := s.emergencyEffect
    let edge := s.hal.lastEdge + tickS
    let s := (s.advance (max s.aon edge)).updHal fun h =>
      { h with lastEdge := edge, sinceEdge := 0, shadow := h.shadow.map fun x => x.run (tickS - h.sinceEdge) }
    let ptp := s.hal.state == HalState.locked && decide (2 ≤ s.hal.refActive)
    let old := s.hal.seconds
    let new := if ptp then ptpSecond else old + 1
    let s := s.setSeconds new ((new : Int) - ((old : Int) + 1))
    let s := s.levelAtEdge.alignAtEdge
    let s := (s.updHal fun h => { h with use := s.set.hal }).chooseRef
    let s := s.updHal fun h =>
      { h with frozen := h.frozen && !h.resumeAtEdge, resumeAtEdge := false
               phaseOffset := if h.refActive ≠ 0 then phasePs else h.phaseOffset }
    .next (if s.set.halyardOut then s.emit .ppsOut else s)

-- Writes of the Halyard entries: the code of a rejection, or 0, and the state (R70, R71, R75, R84)

def State.writeFreeRun (s : State) (v : Nat) : Nat × State :=
  (0, (s.persist fun p => { p with allowFreeRun := v != 0 }).enterFreeRun)

def State.writeRefPriority (s : State) (v : Nat) : Nat × State :=
  let a := bits v 3 0
  let b := bits v 7 4
  let c := bits v 11 8
  let twice := (a != 0 && (a == b || a == c)) || (b != 0 && b == c)
  let gap := (a == 0 && (b != 0 || c != 0)) || (b == 0 && c != 0)
  if 3 < a ∨ 3 < b ∨ 3 < c ∨ twice ∨ gap ∨ 0x1000 ≤ v then (0x01030017, s)
  else (0, s.persist fun p => { p with hal := { p.hal with refPriority := BitVec.ofNat 32 v } })

/-- Entries 2 to 6 of index 0x1200. -/
def HalSettings.write (h : HalSettings) (sub : Nat) (v : Nat) : HalSettings :=
  match sub with
  | 2 => { h with refInFreq := v }
  | 3 => { h with ppsInDelay := signedOf 32 v }
  | 4 => { h with ptpDomain := v }
  | 5 => { h with ptpTransport := v }
  | 6 => { h with ptpLogSync := signedOf 16 v }
  | _ => h

def State.writeHalSetting (s : State) (sub v : Nat) : Nat × State :=
  let s := s.persist fun p => { p with hal := p.hal.write sub v }
  let s := if s.hal.state = .start then s.updHal fun h => { h with use := { s.set.hal with refPriority := h.use.refPriority } }
    else s
  (0, s.loseRefs (if sub ≤ 3 then [1] else [2, 3]))

/-- The lead of the edge of a second is less than so many seconds, or more: the time since the last edge counts. -/
def State.leadBelow (s : State) (second n : Nat) : Bool :=
  decide (second * tickS < (s.hal.seconds + n) * tickS + min tickS (s.aon - s.hal.lastEdge))
def State.leadAbove (s : State) (second n : Nat) : Bool :=
  decide ((s.hal.seconds + n) * tickS + min tickS (s.aon - s.hal.lastEdge) < second * tickS)

/-- ALIGN (R75). -/
def State.writeAlign (s : State) (v : Bytes) : Nat × State :=
  let second := beAt v 0 8
  if s.plansAdmitted then (0x01030014, s)
  else if s.leadBelow second 2 then (0x01030010, s)
  else if s.leadAbove second 3600 then (0x01030013, s)
  else (0, s.updHal fun h => { h with pendingAlign := some ⟨second, beAt v 8 8⟩ })

/-- LEVEL_REQUEST: the checks of R406, then those of R76 in their order. -/
def State.writeLevel (s : State) (v : Bytes) : Nat × State :=
  let target := beAt v 0 1
  let edge := beAt v 1 8
  if 3 < target || !s.cantonsPowered || !(s.start.cantonReady.all id) then (0x01020029, s)
  else if s.hal.state = .start then (0x01030015, s)
  else if s.power.emergencyThermal || s.power.emergencyElectrical then (0x01030016, s)
  else if s.hal.pendingLevel.isSome then (0x01030011, s)
  else if s.leadBelow edge 2 then (0x01030010, s)
  else if s.leadAbove edge 3600 then (0x01030013, s)
  else if target = s.hal.level then (0x01030012, s)
  else
    let s := s.updHal fun h => { h with pendingLevel := some ⟨target, edge⟩ }
    let s := s.updPower fun p => { p with ramping := false }
    (0, s.record 0x05030006 (srcHoist 0) none (levelPayload target edge))

-- The core rail (R78, R407)

/-- Time of the edge of a second, in ticks. -/
def State.edgeTime (s : State) (second : Nat) : Nat := s.hal.lastEdge + (second - s.hal.seconds) * tickS

/-- RAIL_RAMP_START: 1,500 ms before the edge of an upward change; after the edge of a downward one (R407). -/
def execRailRampStart (now : Nat) (s : State) : Host.Outcome State Fault Refusal :=
  let s := s.at now
  match s.hal.pendingLevel with
  | some x =>
    if s.hal.level < x.target ∧ s.edgeTime x.edge ≤ s.aon + 1500 * tickMs then
      .next (s.updPower fun p => { p with ramping := true })
    else .next s
  | none =>
    if s.hal.level < s.power.railLevel then .next (s.updPower fun p => { p with railLevel := s.hal.level, ramping := false })
    else .next s

/-- RAIL_READY_CHECK: 100 ms before an upward change the rail is in regulation at the target, or the change is dropped
(R78). -/
def execRailReadyCheck (inRegulation : Bool) (now : Nat) (s : State) : Host.Outcome State Fault Refusal :=
  let s := s.at now
  match s.hal.pendingLevel with
  | some x =>
    if s.hal.level < x.target ∧ s.edgeTime x.edge ≤ s.aon + 100 * tickMs then
      if inRegulation && s.power.ramping then
        .next (s.updPower fun p => { p with railLevel := x.target, ramping := false })
      else
        let s := (s.updHal fun h => { h with pendingLevel := none }).updPower fun p => { p with ramping := false }
        .next (s.record 0x0403000B (srcHoist 0) none (levelPayload x.target x.edge))
    else .next s
  | none => .next s

-- Emergencies and trips (R32, R80, R409 to R411)

/-- A die is powered: a Canton's FAB domain, a Hoist's SEC domain. -/
def State.diePowered (s : State) (d : Nat) : Bool := s.power.powered.getLsbD (if d < 4 then 12 + d else d - 2)

/-- Round to the nearest 5 W, ties upward (R332). -/
def round5 (w : Nat) : Nat := (w + 2) / 5 * 5

/-- Readings are published; unpowered dies read −128. -/
def State.publish (s : State) (dieTemp : List Int) (inlet : Int) (flow : Nat) : State :=
  { s with sensors := { s.sensors with
    dieTemp := (List.range 6).map fun d => if s.diePowered d then dieTemp.getD d (-128) else -128
    inlet := inlet, flow := flow } }

/-- Hottest reading of a powered die at least `t`. -/
def State.dieAt (s : State) (dieTemp : List Int) (t : Int) : Bool :=
  (List.range 6).any fun d => s.diePowered d && decide (t ≤ dieTemp.getD d (-128))

/-- An emergency is declared: counted, and a shadow count started if none runs; while a Canton is powered and none is in
force yet, PL0 is ordered and a pending change cancelled (R80, R81, R409). -/
def State.declareEmergency (s : State) (code : Nat) : State :=
  let first := !(s.power.emergencyThermal || s.power.emergencyElectrical)
  let s := s.persist fun p => { p with emergencyCount := min (p.emergencyCount + 1) 0xFFFFFFFF }
  let s := s.record code srcBurgee none []
  let s := s.updHal fun h => { h with shadow := some (h.shadow.getD ⟨h.beatCount, 0, h.level⟩) }
  if !first || (s.power.powered &&& cantonBits == 0) then s
  else
    let pending := s.hal.pendingLevel
    let s := s.updHal fun h =>
      { h with pendingLevel := none
               emergencyDue := if h.level = 0 then h.emergencyDue else some (h.emergencyDue.getD h.beatCount) }
    let s := match pending with
      | some x => s.record 0x05030008 (srcHoist 0) none (levelPayload x.target x.edge)
      | none => s
    s.record 0x04030005 (srcHoist 0) none []

/-- THERMAL_EMERGENCY (R409). -/
def execThermalEmergency (dieTemp : List Int) (inlet : Int) (flow now : Nat) (s : State) : Host.Outcome State Fault Refusal :=
  let s := s.at now
  if s.start.t0.isNone || s.power.emergencyThermal ||
      !(s.dieAt dieTemp 100 || decide (45 < inlet ∨ flow < 150)) then .next s
  else
    let s := (s.publish dieTemp inlet flow).declareEmergency 0x04710001
    .next (s.updPower fun p => { p with emergencyThermal := true })

/-- ELECTRICAL_EMERGENCY (R32). -/
def execElectricalEmergency (inputPower now : Nat) (s : State) : Host.Outcome State Fault Refusal :=
  let s := s.at now
  if s.start.t0.isNone || s.power.emergencyElectrical || decide (inputPower ≤ 2400) then .next s
  else
    let s := { s with sensors := { s.sensors with inputPower := round5 inputPower } }
    .next ((s.declareEmergency 0x04710003).updPower fun p => { p with emergencyElectrical := true })

/-- EMERGENCY_CLEAR: the clearing bounds of an emergency in force have held for 10 s; no level changes (R409). -/
def execEmergencyClear (dieTemp : List Int) (inlet : Int) (flow inputPower now : Nat) (s : State) :
    Host.Outcome State Fault Refusal :=
  let s := s.at now
  let thermal := s.power.emergencyThermal && !s.dieAt dieTemp 91 && decide (inlet ≤ 40 ∧ 200 ≤ flow)
  let electrical := s.power.emergencyElectrical && decide (inputPower ≤ 2200)
  if !thermal && !electrical then .next s
  else
    let s := s.publish dieTemp inlet flow
    let s := { s with sensors := { s.sensors with inputPower := round5 inputPower } }
    let s := s.updPower fun p => { p with emergencyThermal := p.emergencyThermal && !thermal
                                          emergencyElectrical := p.emergencyElectrical && !electrical }
    let s := if thermal then s.record 0x05710002 srcBurgee none (leBytes 1 1) else s
    .next (if electrical then s.record 0x05710002 srcBurgee none (leBytes 1 2) else s)

/-- COOLANT_WARNING: outside the operating range for 1 s without meeting R409 (R410). -/
def execCoolantWarning (inlet : Int) (flow now : Nat) (s : State) : Host.Outcome State Fault Refusal :=
  let s := s.at now
  if s.start.t0.isNone || s.power.emergencyThermal || !decide (40 < inlet ∨ flow < 200) ||
      decide (45 < inlet ∨ flow < 150) then .next s
  else
    let s := { s with sensors := { s.sensors with inlet := inlet, flow := flow } }
    .next (s.record 0x05710005 srcBurgee none [])

/-- THERMAL_TRIP: every domain but AON and MGT is latched and disabled, and the module's state is lost as at a MODULE
reset (R411). -/
def execThermalTrip (dieTemp : List Int) (now : Nat) (s : State) : Host.Outcome State Fault Refusal :=
  let s := s.at now
  if s.start.t0.isNone || s.power.tripped ||
      !(s.dieAt dieTemp 105 || s.power.powered &&& cantonBits != 0) then .next s
  else
    let s := s.restart 2 0x12 0 false 3 s.aon
    let s := s.updPower fun p => { p with tripped := true, trips := s.ms :: p.trips }
    let s := s.persist fun p => { p with tripCount := min (p.tripCount + 1) 0xFFFFFFFF }
    .next (s.record 0x04710004 srcBurgee none [])

/-- TRIP_RESTART: after 60 s of safe conditions, unless it was the third trip within 3,600 s (R411). -/
def execTripRestart (now : Nat) (s : State) : Host.Outcome State Fault Refusal :=
  let s := s.at now
  let last := s.power.trips.headD 0
  let third := match s.power.trips[2]? with
    | some t => decide (last ≤ t + 3600000)
    | none => false
  if !s.power.tripped || third || decide (s.ms < last + 60000) then .next s else .next (s.moduleReset 0x12 false)

end Sys2Proof.Machine
end

