-- ==== Sys2Proof/Machine/Leadership.lean ====
section
/-!
DEFINITION. Machine/Leadership.lean: the Jack, HOLD, takeover, handover, the journal's mirror, cluster and data faults,
spare takeover and die links (R428 to R449, R154, R163).
-/
namespace Sys2Proof.Machine

-- The Jack (R428 to R432)

/-- A message of a CP reaches Burgee (R429). -/
def State.heard (s : State) (cp : Nat) : State :=
  let s := s.updCp cp fun c => { c with liveAt := s.aon, messageAt := s.aon }
  { s with lead := { s.lead with burgeeHold := false } }

/-- A CP may still request: its firmware runs and a message of it arrived within two STATUS periods (R429, R430, log
entry 32). -/
def State.contends (s : State) (cp : Nat) : Bool :=
  s.cpRuns cp && decide (s.aon ≤ (s.cp cp).messageAt + 500 * tickMs)

/-- A CP requests the Jack: the preferred one is granted at once if it requests within 100 ms of the first request, else
the first requester (R430). The other request is remembered until its 100 ms have passed. -/
def State.requestJack (s : State) (cp : Nat) : State :=
  if s.lead.holder.isSome || !s.cpRuns cp || s.att.m.isEmpty || decide (1 < cp) then s
  else
    let s := s.heard cp
    let other := 1 - cp
    let late := match (s.cp other).requested with
      | some t => decide (t + 100 * tickMs < s.aon)
      | none => false
    if s.set.leaderPreference = cp then (if late then s.grant other else s.grant cp)
    else if !s.contends other then s.grant cp
    else match (s.cp cp).requested with
      | some t => if t + 100 * tickMs ≤ s.aon then s.grant cp else s
      | none => s.updCp cp fun c => { c with requested := some s.aon }

/-- JACK_REQUEST (R430). -/
def execJackRequest (cp now : Nat) (s : State) : Host.Outcome State Fault Refusal := .next ((s.at now).requestJack cp)

/-- A CP's own lease is live. -/
def State.leaseLive (s : State) (cp : Nat) : Bool :=
  decide (s.aon < (s.cp cp).expiry) && (s.lead.holder == some cp || (s.cp cp).leads)

/-- JACK_RENEWAL_TIMER: the holder sends a renewal every 250 ms, and again every 50 ms until one is acknowledged
(R428). -/
def execJackRenewalTimer (cp now : Nat) (s : State) : Host.Outcome State Fault Refusal :=
  let s := s.at now
  let c := s.cp cp
  let due := match c.renewalSent with
    | some t => decide (t + 50 * tickMs ≤ s.aon)
    | none => decide (c.expiry ≤ s.aon + 740 * tickMs)
  if !s.leaseLive cp || !due || decide (1 < cp) then .next s
  else .next ((s.updCp cp fun c => { c with renewalSent := some s.aon }).emit (.leaseMessage cp leaseRenewal c.epoch))

/-- A leader yields (R428, R431). -/
def State.yieldLead (s : State) (cp : Nat) : State :=
  if (s.cp cp).leads then
    (s.updCp cp fun c => { c with leads := false, renewalSent := none }).record 0x05500002 (srcHoist cp) none []
  else s

/-- JACK_RENEWAL: Burgee receives a renewal: EXPIRY is extended and it is acknowledged, or it is refused with EPOCH. The
lease that lived on through a HOLD takes over as if newly granted (R428, R449). -/
def execJackRenewal (cp epoch now : Nat) (s : State) : Host.Outcome State Fault Refusal :=
  let s := s.at now
  if 1 < cp ∨ !s.cpRuns cp then .next s
  else
    let s := s.heard cp
    if s.lead.holder = some cp ∧ epoch = s.lead.epoch then
      let again := s.inHold && s.lead.takeover.isNone && !s.lead.holdEnding
      let s := { s with lead := { s.lead with
        expiry := s.aon + 1000 * tickMs
        takeover := if again then some ⟨cp, epoch, true⟩ else s.lead.takeover } }
      let s := s.updCp cp fun c =>
        { c with expiry := match c.renewalSent with
                   | some t => t + 990 * tickMs
                   | none => c.expiry
                 renewalSent := none, leads := c.leads && !again }
      .next (s.emit (.leaseMessage cp leaseAck epoch))
    else
      let s := s.emit (.leaseMessage cp leaseRefusal s.lead.epoch)
      .next (if epoch < s.lead.epoch then s.yieldLead cp else s)

/-- JACK_EXPIRY: 10 ms after EXPIRY Burgee sets HOLDER to none (R428). -/
def execJackExpiry (now : Nat) (s : State) : Host.Outcome State Fault Refusal :=
  let s := s.at now
  if s.lead.holder.isSome ∧ s.lead.expiry + 10 * tickMs ≤ s.aon then .next s.noHolder else .next s

/-- SELF_DEMOTION: at its own expiry a CP without an acknowledged renewal demotes itself (R428). -/
def execSelfDemotion (cp now : Nat) (s : State) : Host.Outcome State Fault Refusal :=
  let s := s.at now
  if (s.cp cp).expiry ≤ s.aon then .next (s.yieldLead cp) else .next s

/-- NO_HOLDER_RX: a CP yields if it must and requests the Jack (R430, R431). -/
def execNoHolderRx (cp now : Nat) (s : State) : Host.Outcome State Fault Refusal :=
  let s := s.at now
  if s.lead.holder.isSome ∨ 1 < cp then .next s else .next ((s.yieldLead cp).requestJack cp)

/-- CP_STATUS (R429). -/
def execCpStatus (cp now : Nat) (s : State) : Host.Outcome State Fault Refusal :=
  let s := s.at now
  if 1 < cp ∨ !s.cpRuns cp then .next s else .next (s.heard cp)

/-- BURGEE_HOLD_DETECT: no message of a CP for 1,500 ms while a CP_LIVE line toggles: ALERT_N (R429). -/
def execBurgeeHoldDetect (now : Nat) (s : State) : Host.Outcome State Fault Refusal :=
  let s := s.at now
  let quiet := decide (s.lead.cp0.messageAt + 1500 * tickMs ≤ s.aon ∧ s.lead.cp1.messageAt + 1500 * tickMs ≤ s.aon)
  let toggles := fun (i : Nat) => s.cpRuns i && decide (s.aon < (s.cp i).liveAt + 2000 * tickMs)
  if quiet && (toggles 0 || toggles 1) then .next { s with lead := { s.lead with burgeeHold := true } } else .next s

/-- BEACON: every 10 ms the leader sends its epoch to the sequencers and the follower; a leader past its own expiry demotes
itself first (R428, R431). -/
def execBeacon (now : Nat) (s : State) : Host.Outcome State Fault Refusal :=
  let s := s.at now
  match s.leaderCp with
  | none => .next s
  | some i =>
    if (s.cp i).expiry ≤ s.aon then .next (s.yieldLead i)
    else if s.aon < s.lead.lastBeacon + 10 * tickMs then .next s
    else
      let e := (s.cp i).epoch
      let seen := s.lead.unitEpochs.zipIdx.map fun (x, u) => if u < 4 then max x e else x
      .next ({ s with lead := { s.lead with lastBeacon := s.aon, unitEpochs := seen } }.emit (.beacon e))

/-- R34 source of a unit of R431: four sequencers, six maintenance controllers, two journal controllers, two SEC blocks,
two command forwarders. -/
def unitSource (u : Nat) : Nat :=
  if u < 4 then srcCanton u else if u < 8 then srcCanton (u - 4) else if u < 10 then srcHoist (u - 8)
  else if u < 12 then srcCanton (2 * (u - 10)) else srcHoist (u % 2)

/-- STALE_INSTRUCTION: a unit refuses an instruction with an epoch below the highest it has seen; the CP that sent it
yields (R431). -/
def execStaleInstruction (unit epoch now : Nat) (s : State) : Host.Outcome State Fault Refusal :=
  let s := s.at now
  match s.lead.unitEpochs[unit]? with
  | none => .next s
  | some e =>
    if e ≤ epoch then .next s
    else
      let s := s.record 0x0450000B (unitSource unit) none []
      let s := if s.lead.cp0.epoch = epoch then s.yieldLead 0 else s
      .next (if s.lead.cp1.epoch = epoch then s.yieldLead 1 else s)

-- HOLD (R434 to R437)

/-- HOLD_ENTRY: 300 ms without a beacon: no lead is issued after the running window; a furl entry is abandoned (R434,
R435). -/
def execHoldEntry (now : Nat) (s : State) : Host.Outcome State Fault Refusal :=
  let s := s.at now
  if s.inHold || s.lead.unitEpochs.headD 0 == 0 || decide (2 ≤ s.power.furl) || decide (s.aon < s.lead.lastBeacon + 300 * tickMs) then .next s
  else
    let seen := srcHoist (if s.lead.holder = some 0 then 1 else 0)
    let s := { s with lead := { s.lead with
      hold := some s.aon, holdBeat := (s.hal.beatCount / 256 + 1) * 256, holdEnding := false } }
    let s := s.persist fun p => { p with holdCount := min (p.holdCount + 1) 0xFFFFFFFF }
    .next (s.record 0x04500003 seen none []).abandonEntry

/-- HOLD_END: the first window boundary after a takeover has been completed: leads are issued again, and due owner bits
change (R437). -/
def execHoldEnd (s : State) : Host.Outcome State Fault Refusal :=
  match s.lead.hold with
  | none => .next s
  | some t =>
    if !s.lead.holdEnding || !s.atWindow || s.noLeader then .next s
    else
      let ms := (s.aon - t) / tickMs
      let s := { s with lead := { s.lead with hold := none, holdEnding := false, holdBeat := s.hal.beatCount }
                        plans := s.plans.map fun (p : PlanSlot) => { p with startAfter := max p.startAfter s.hal.beatCount } }
      let s := s.journal1 15 none (leBytes 8 ms)
      let s := s.record 0x05500004 (srcHoist (s.leaderCp.getD 0)) none (leBytes 8 ms)
      .next s.ownerChanges

/-- HOLD_LIMIT_EXPIRY: a MODULE reset with cause 0x14; the ALARM lies in the AON store (R437). -/
def execHoldLimitExpiry (now : Nat) (s : State) : Host.Outcome State Fault Refusal :=
  let s := s.at now
  match s.lead.hold with
  | some t =>
    if s.set.holdLimit ≠ 0 ∧ t + s.set.holdLimit * tickS ≤ s.aon then
      .next ((s.moduleReset 0x14 false).record 0x0450000C srcBurgee none [])
    else .next s
  | none => .next s

-- Takeover and handover (R432, R442)

/-- Step 3 of a takeover: the slots of live rounds are loaded on the new leader's Hoist and invalidated on the other. -/
def State.moveRoundKeys (s : State) (h : Nat) : State :=
  s.rounds.foldl (fun s r =>
    let others := r.slots.filter fun x => x.1 != h
    let s := (s.loadRoundBlob r h 0).loadRoundBlob r h 1
    let off := fun (k : KeySlot) =>
      if others.contains (k.hoist, k.slot) then { k with attr := k.attr &&& ~~~1#32, value := [] } else k
    { s with keys := { s.keys with slots := s.keys.slots.map off } }) s

/-- Step 4: leader commands in progress that have not passed their commit point are turned away (R319, R442). -/
def State.settleCommands (s : State) : State :=
  (List.range 16).foldl (fun s c =>
    match (s.plan c).state with
    | .checking =>
      (s.updPlan c fun p => { p with state := .none, submitLength := 0 }).completeRunning (s.vfOf c) 0x01 0x01210015 0 0
    | .unloading =>
      (s.updPlan c fun p =>
        { p with state := if p.startBeat = 0 then .loaded else .running, unloadAccepted := none }).completeRunning
        (s.vfOf c) 0x02 0x01210015 0 0
    | _ => s) s

/-- TAKEOVER_COMPLETE: the five steps of R442. -/
def execTakeoverComplete (now : Nat) (s : State) : Host.Outcome State Fault Refusal :=
  let s := s.at now
  match s.lead.takeover with
  | none => .next s
  | some t =>
    if s.lead.holder ≠ some t.cp ∨ (s.cp t.cp).expiry ≤ s.aon then .next s
    else
      let s := { s with lead := { s.lead with unitEpochs := s.lead.unitEpochs.map fun x => max x t.epoch }
                        journal := { s.journal with applied := s.journal.seq } }
      let s := (s.moveRoundKeys t.cp).settleCommands
      let s := s.journal1 12 none (leBytes 1 t.cp ++ zeros 3 ++ leBytes 4 t.epoch)
      let s := s.record 0x02500005 (srcHoist t.cp) none (leBytes 1 t.cp ++ zeros 3 ++ leBytes 4 t.epoch)
      let s := if t.first then s else s.persist fun p => { p with leaderChanges := min (p.leaderChanges + 1) 0xFFFFFFFF }
      let s := s.updCp t.cp fun c => { c with leads := true }
      let s := { s with lead := { s.lead with takeover := none, lastBeacon := s.aon, holdEnding := s.inHold }
                        plans := s.plans.map fun (p : PlanSlot) => { p with startAfter := max p.startAfter (s.hal.beatCount + 1) } }
      let s := (List.range 4).foldl (fun s c => s.requestService c) s
      .next (s.emit (.beacon t.epoch))

/-- A write of 1 to HANDOVER: the leader issues no instruction after the next window boundary, where it hands over; while
BEAT_COUNT is frozen, at once (R432; log entry 47). -/
def State.writeHandover (s : State) : Nat × State :=
  match s.leaderCp with
  | none => (0x01500010, s)
  | some i =>
    if !s.mayHandOver i then (0x01500010, s)
    else if s.hal.frozen then (0, s.handOver i)
    else (0, { s with lead := { s.lead with handover := some ((s.hal.beatCount / 256 + 1) * 256) } })

/-- JOURNAL_MIRROR: the follower applies the next record (R441). -/
def execJournalMirror (now : Nat) (s : State) : Host.Outcome State Fault Refusal :=
  let s := s.at now
  match s.leaderCp with
  | some i =>
    if s.cpRuns (1 - i) then .next { s with journal := { s.journal with applied := min s.journal.seq (s.journal.applied + 1) } }
    else .next s
  | none => .next s

-- Faults (R443 to R445)

/-- A module fatal fault (tier 4): MODULE reset with cause 0x14; the ALARM lies in the AON store. -/
def State.fatal (s : State) : State :=
  ((s.countTier 4).moduleReset 0x14 false).record 0x0450000A srcBurgee none []

-- The two trees and the maintenance port (R26, R29, R436)

/-- What a CP does over the service or the management tree. -/
inductive TreeUse where
  | serviceRead
  | serviceWrite
  /-- A read of status and error registers of a die, and any other use of its maintenance controller. -/
  | statusRead (die : Nat)
  | manage (die : Nat)
  deriving DecidableEq, Repr

/-- The half of a die: 0 west, 1 east; dies 4 and 5 are the Hoists. -/
def dieHalf (die : Nat) : Nat := if die < 4 then die / 2 else die - 4

/-- A CP may use a tree: the leader every die; a follower reads over the service tree and the dies of its own half;
without a leader each CP reads the status of every die and, before the first grant, works on its own Hoist (R29, R436). -/
def State.mayUse (s : State) (cp : Nat) (u : TreeUse) : Bool :=
  if s.leaderCp = some cp then true
  else match u with
    | .serviceRead => true
    | .serviceWrite => false
    | .statusRead die => dieHalf die == cp || s.inHold || !s.lead.grantedThisStart
    | .manage die => !s.lead.grantedThisStart && die == 4 + cp

/-- Uses of a cluster's maintenance port. -/
inductive PortUse where
  | status | write | test
  deriving DecidableEq, Repr

/-- While its owner is SERVICE a cluster's maintenance port accepts reads of status and error registers only (R26). -/
def Cluster.portAllows (c : Cluster) (u : PortUse) : Bool := c.owner == .maintenance || u == .status

/-- A use of a cluster's maintenance port: refused, it is reported to the CP that asked for it (R26). -/
def State.portUse (s : State) (k : Nat) (u : PortUse) (f : State → State) : State :=
  if (s.cluster k).portAllows u then f s else s.record 0x01500031 (srcCluster k) none []

-- Tier 1 faults (R443, R444, R448)

/-- A DSCOMB under way at a cluster is discarded by a fault; its item runs again (R234). -/
def State.dropDscomb (s : State) (k position : Nat) : State :=
  match (s.cluster k).span with
  | none => s
  | some sp =>
    match s.round? sp.ctx sp.desc.cohort with
    | none => s
    | some r =>
      match (r.list? position .dsComb).bind fun l => l.items[l.consumed]? with
      | none => s
      | some x =>
        if sp.desc.opcode ≠ 0x1A ∨ sp.done ∨ sp.dummy then s
        else s.record 0x02130001 (srcCluster k) (some sp.ctx) (leBytes 4 r.cohortId ++ leBytes 4 x.tile)

/-- Working copies of a position that a fault loses: in a takeover all of them, else that of a repetition which has begun
and not ended; a repetition that has ended repeats its stage-out only (R210). -/
def Round.lostCopies (r : Round) (im : PlanImage) (c : Cluster) (position : Nat) (all : Bool) : List WorkingCopy :=
  r.ring.working.filter fun w => w.position == position &&
    (all ||
      (match im.block position with
       | some b => decide (0 < w.step ∧ w.step < b.baseLength w.cursor)
       | none => false) ||
      (c.runs r (fun op => decide (0x10 ≤ op ∧ op ≤ 0x19)) && c.span.any fun sp => sp.desc.cursor == w.cursor && !sp.done))

/-- The ring repetitions that a fault reaches are discarded: their items are staged in again in the next gap, from the
committed copies, and one that had begun is recorded (R210). -/
def State.replayRing (s : State) (k position : Nat) (all : Bool) (r : Round) : State :=
  match s.image r.ctx with
  | none => s
  | some im =>
    let c := s.cluster k
    let lost := r.lostCopies im c position all
    let begun := lost.filter fun w => decide (0 < w.step) ||
      (c.runs r (fun op => decide (0x10 ≤ op ∧ op ≤ 0x19)) && c.span.any fun sp => sp.desc.cursor == w.cursor)
    let s := s.updRound r.ctx r.template fun x =>
      { x with ring := { x.ring with working := x.ring.working.filter fun w => !lost.contains w } }
    begun.foldl (fun s w =>
      s.record 0x02130001 (srcCluster k) (some r.ctx) (leBytes 4 r.cohortId ++ leBytes 4 w.tile)) s

/-- A fault at a position is replayed from the module's records: tile sets (R150), mask groups (R183), ring sequences
(R210) and finish items (R250). In a takeover (`all`) everything of the position is; else what the running beat worked
on. -/
def State.replayAt (s : State) (k position : Nat) (all : Bool) : State :=
  let c := s.cluster k
  let s := s.dropDscomb k position
  let s := s.rollbackWhere position fun r o => all || s.touches k r o
  let s := s.rounds.foldl (fun s r =>
    if r.state != .closed && r.state != .unmasking then s
    else
      let s := s.replayRing k position all r
      let folds := r.owners.any fun o => o.position == position && o.commit.fold && o.commit.state == 1
      if r.state ≠ .unmasking then s
      else if r.finishPhase then (if all || c.runs r (· == 0x20) then s.dropFinishItems k r.ctx r.template position else s)
      else if (all && r.owners.any fun o => o.position == position) || folds ||
          c.runs r (fun op => op == 3 || op == 4 || op == 8) then s.replayMaskAt r.ctx r.template position []
      else s) s
  s.updCluster k fun c => { c with span := none, banks := if all then [] else c.banks }

/-- A tier 1 fault of a cluster: the second within 4,096 beats of the first declares it failed (R443, R444). -/
def State.noteFault (s : State) (k : Nat) : State :=
  let b := s.hal.beatCount
  let again := match s.lead.lastFault.getD k none with
    | some x => decide (b ≤ x + 4096)
    | none => false
  let s := { s with lead := { s.lead with lastFault := updAt s.lead.lastFault k fun _ => some b } }
  if again then s.failCluster k else s

/-- CLUSTER_FAULT. `kind`: 0 a core parity error or a column or drain fault, replayed; 1 an uncorrectable error in
slot-table memory or cursor registers; 2 a spare that fails its self-test, which runs only while it is MAINTENANCE (R26,
R151, R444). -/
def execClusterFault (cluster kind : Nat) (s : State) : Host.Outcome State Fault Refusal :=
  let c := s.cluster cluster
  if 64 ≤ cluster ∨ c.failed then .next s
  else match kind, c.position with
    | 0, some p => .next ((s.replayAt cluster p false).noteFault cluster)
    | 1, _ => .next (s.failCluster cluster)
    | 2, _ =>
      if cluster % 16 ≠ 15 then .next s
      else .next (s.portUse cluster .test fun s =>
        let s := s.updCluster cluster fun c => { c with unavailable := true, selfTestPassed := false }
        { s with lead := { s.lead with spareState := updAt s.lead.spareState (cluster / 16) fun _ => 14 } })
    | _, _ => .next s

/-- SPARE_TAKEOVER: in the window after the fault the tile sets of the failed cluster are rolled back, and the leader loads
its block into the spare over the service tree and requests SERVICE (R29, R154). -/
def execSpareTakeover (canton : Nat) (s : State) : Host.Outcome State Fault Refusal :=
  match s.takeoverOf canton, s.leaderCp with
  | some k, some cp =>
    let w := (s.cluster k).takeoverWindow.getD 0
    let spare := s.cluster (16 * canton + 15)
    if s.window ≤ w ∨ s.noLeader ∨ s.inHold ∨ !s.mayUse cp .serviceWrite ∨ spare.tableLoaded ∨ spare.failed ∨
        spare.unavailable ∨ !spare.selfTestPassed then .next s
    else
      let s := s.replayAt k ((s.cluster k).position.getD 0) true
      .next (s.updCluster (16 * canton + 15) fun c =>
        { c with tableLoaded := true, request := some (.service, s.hal.beatCount) })
  | _, _ => .next s

/-- Cursors of a position resume at the group that follows their last applied commit (R154). -/
def Round.resumeCursors (r : Round) (position : Nat) : Round :=
  let mine := r.owners.filter fun o => o.position == position
  ((mine.map OwnerSet.cursor).eraseDups).foldl (fun r j =>
    let done := mine.filter fun o => o.cursor == j && o.commit.state == 2 && !o.commit.fold
    let last := done.foldl (fun (a : Nat × Nat) o => if a.1 ≤ o.commit.seq then (o.commit.seq, o.commit.nextGroup) else a) (0, 0)
    r.updCursor position j fun c => { c with group := last.2, pos := 0 }) r

/-- SPARE_BECOMES_SERVICE: at its boundary the spare takes the failed cluster's block position; in HOLD it waits (R154,
R155, R449). A plan that is not started yet starts after the takeover (R110). -/
def execSpareBecomesService (canton : Nat) (s : State) : Host.Outcome State Fault Refusal :=
  match s.takeoverOf canton with
  | none => .next s
  | some k =>
    let i := 16 * canton + 15
    let w := (s.cluster k).takeoverWindow.getD 0
    if !s.atWindow || s.inHold || !(s.cluster i).tableLoaded then .next s
    else
      let s := s.ownerChange i
      if (s.cluster i).owner ≠ .service then .next s
      else
        let p := (s.cluster k).position.getD 0
        let s := s.updCluster k fun c => { c with position := none, takeoverWindow := none }
        let s := s.updCluster i fun c => { c with position := some p, span := none, banks := [], ahead := none }
        let s := { s with
          rounds := s.rounds.map fun (r : Round) => if r.state = RoundState.open ∨ r.state = RoundState.closed then r.resumeCursors p else r
          plans := s.plans.map fun (x : PlanSlot) => { x with startAfter := max x.startAfter (s.hal.beatCount + 1) }
          lead := { s.lead with spareState := updAt s.lead.spareState canton fun _ => k % 16 } }
        let s := s.journal1 9 none (leBytes 1 k ++ leBytes 1 i ++ zeros 6 ++ leBytes 8 (w * 256) ++ leBytes 8 s.hal.beatCount)
        .next (s.record 0x02110003 (srcCluster i) none [])

/-- A finish record with a data fault: replayed once, then VOID (R250). -/
def State.finishFault (s : State) (ctx t o : Nat) : State :=
  match s.round? ctx t with
  | none => s
  | some r =>
    match r.finishRecs[o]? with
    | none => s
    | some f =>
      if f.faults = 0 then
        let s := s.updRound ctx t fun r =>
          { r with finishRecs := updAt r.finishRecs o fun _ => { FinishRec.none with faults := 1 } }
        s.record 0x02140035 s.srcLeader (some ctx)
          (leBytes 4 r.cohortId ++ leBytes 4 r.number ++ leBytes 4 o)
      else (s.updRound ctx t fun r =>
        { r with finishRecs := updAt r.finishRecs o fun f => { FinishRec.none with state := 3, faults := f.faults + 1 } }).countTier 2

/-- DATA_FAULT: an uncorrectable error in what `kind` names (R445): 0 committed copy of tile set `index`, while a commit or
fold reads it; 1 ledger word `index`; 2 tile, commit or unmask record of set `index`; 3 record of one journal copy; 4
context record lost in both; 5 module record lost in both, or both copies unreachable; 6 AON memory or lease registers; 7
both SEC blocks; 8, 9 a corrected HBM or SRAM error of Canton `index` (R22); 10 SRAM buffer of set `index / 8` at owner
`index mod 8` (R151); 11 secret record of slot `index` (R163); 12 ring tile `index`, its header or staged-in copy (R210);
13 finish record of output tile `index` (R250); 14 a flit of die link `index` that is replayed once (R25); 15 a bin
record header of set `index / 8` at owner `index mod 8` (R160). -/
def execDataFault (ctx cohort kind index : Nat) (s : State) : Host.Outcome State Fault Refusal :=
  let owner := fun (k n : Nat) => (((s.round? ctx cohort).map fun r => r.owners.filter fun o => o.set == k).getD [])[n]?
  let unmasking := ((s.round? ctx cohort).map fun r => r.state == .unmasking).getD false
  match kind with
  | 0 =>
    match s.round? ctx cohort with
    | none => .next s
    | some r =>
      let bit := (r.set index).sel % 2
      let first := !((r.set index).copyErrors.testBit bit)
      let s := s.updRound ctx cohort fun r => r.updSet index fun x =>
        { x with copyErrors := x.copyErrors + (if first then 2 ^ bit else 0) }
      if !first then .next (s.voidSets ctx cohort [index])
      else
        let at_ := (r.owners.find? fun o => o.set == index && o.commit.state == 1).orElse fun _ => owner index 0
        match at_ with
        | none => .next s
        | some o =>
          let s := if unmasking then s.replayMaskAt ctx cohort o.position [o.set]
            else s.rollbackSet ctx cohort o.position o.cursor index 0x02110001
          .next (s.noteFault (s.clusterAt o.position))
  | 1 =>
    match s.image ctx with
    | none => .next s
    | some im =>
      let tm := im.template cohort
      let n := max 1 tm.slotCount
      let tiles := (List.range tm.tiles).filter fun k => decide (64 * index < (k + 1) * n ∧ k * n < 64 * index + 64)
      .next (s.voidSets ctx cohort ((tiles.map (· / max 1 tm.setTiles)).eraseDups))
  | 2 => .next (s.voidSets ctx cohort [index])
  | 4 => .next (s.loseContext ctx)
  | 5 => .next s.fatal
  | 6 => .next s.fatal
  | 7 => .next s.fatal
  | 8 => .next { s with stats := { s.stats with hbmEcc := updAt s.stats.hbmEcc index (· + 1) } }
  | 9 => .next { s with stats := { s.stats with sramEcc := updAt s.stats.sramEcc index (· + 1) } }
  | 10 =>
    match owner (index / 8) (index % 8) with
    | none => .next s
    | some o =>
      let s := if unmasking then s.replayMaskAt ctx cohort o.position [o.set]
        else s.rollbackSet ctx cohort o.position o.cursor o.set 0x02110001
      .next (s.noteFault (s.clusterAt o.position))
  | 11 => .next (s.failSecret ctx cohort index)
  | 12 => .next (s.ringFault ctx cohort index)
  | 13 => .next (s.finishFault ctx cohort index)
  | 14 => .next (s.updLink index fun l => { l with replays := l.replays + 1 })
  | 15 =>
    match owner (index / 8) (index % 8) with
    | none => .next s
    | some o => .next (s.rollbackSet ctx cohort o.position o.cursor o.set 0x02110001)
  | _ => .next s

-- Die links (R25, R446)

/-- Tile sets whose commit is under way over a link: context, template, owner. -/
def State.cutCommits (s : State) (l : DieLink) : List (Nat × Nat × OwnerSet) :=
  s.rounds.flatMap fun r => match s.image r.ctx with
    | none => []
    | some im =>
      (r.owners.filter fun o => o.commit.state == 1 && !o.commit.fold &&
        (im.commitRoutes o).any fun x => x.passes l).map fun o => (r.ctx, r.template, o)

/-- Each transfer that an outage interrupts is a tier 1 fault of what it served: a tile set is rolled back; an item of
PEERFWD or C1OUT that finds its link down is sent again by a later execution. A fold, a finish item, a staging and a
delivery stay on their Canton (R102, R145, R201, R247, R446). -/
def State.cutOff (s : State) (l : DieLink) : State :=
  (s.cutCommits l).foldl
    (fun s x => s.rollbackSet x.1 x.2.1 x.2.2.position x.2.2.cursor x.2.2.set 0x02110001) s

/-- DIE_LINK_DOWN: sixteen replays of one flit have failed: the link is down, the transfers over it are interrupted, and it
is retrained at once (R25, R446). -/
def execDieLinkDown (link : Nat) (retrained : Bool) (now : Nat) (s : State) : Host.Outcome State Fault Refusal :=
  let s := s.at now
  match s.lead.links[link]? with
  | none => .next s
  | some l =>
    let s := if l.down then s
      else (s.updLink link fun l => { l with down := true, replays := l.replays + 16 }).cutOff l
    if retrained then .next ((s.trainDieLink link).record 0x0250000E (srcLink l.a l.b) none []) else .next s

/-- DIE_LINK_RETRAIN_FAIL: three retrainings have failed: a CANTON reset of the Canton end, or of the higher-numbered end of
a ring link; without the H0–H1 link the module goes on, but a start does not pass stage B (R388, R446). -/
def execDieLinkRetrainFail (link now : Nat) (s : State) : Host.Outcome State Fault Refusal :=
  let s := s.at now
  match s.lead.links[link]? with
  | none => .next s
  | some l =>
    if !l.down ∨ 3 ≤ l.fails then .next s
    else
      let s := s.updLink link fun l => { l with fails := 3 }
      let s := s.record 0x04500009 (srcLink l.a l.b) none []
      if l.b = 5 ∧ l.a = 4 then .next (if s.starting && s.start.stage == some 0 then s.stopAt 1 0x04020007 else s)
      else
        let canton := if l.b < 4 then l.b else l.a
        .next (if s.ready && s.power.furl == 0 then s.resetCanton canton else s)

end Sys2Proof.Machine
end

