-- ==== Sys2Proof/Machine/Firmware.lean ====
section
/-!
DEFINITION. Machine/Firmware.lean: what writes of FW_WRITE, FW_COMMIT and LIFECYCLE_REQUEST do (R379, R380, R383): the code
of a rejection, or 0, and the state.
-/
namespace Sys2Proof.Machine

/-- Bytes of a slot of a kind: the header area and the longest body (R367). -/
def slotBytes (kind : Nat) : Nat := if kind = 1 then 512 + 1048576 else 512 + 67108864

/-- The slot of a kind that is not booted. -/
def Attest.spare (a : Attest) (kind : Nat) : Bytes :=
  if kind = 1 then (if a.bootSlots.getLsbD 0 then a.burgeeA.bytes else a.burgeeB.bytes)
  else if a.bootSlots.getLsbD 1 then a.cpA.bytes else a.cpB.bytes

def Attest.setSpare (a : Attest) (kind : Nat) (b : Bytes) : Attest :=
  if kind = 1 then (if a.bootSlots.getLsbD 0 then { a with burgeeA := ⟨b⟩ } else { a with burgeeB := ⟨b⟩ })
  else if a.bootSlots.getLsbD 1 then { a with cpA := ⟨b⟩ } else { a with cpB := ⟨b⟩ }

def Attest.next (a : Attest) (kind : Nat) : Option Nat := if kind = 1 then a.stageNext.1 else a.stageNext.2
def Attest.setNext (a : Attest) (kind : Nat) (n : Option Nat) : Attest :=
  { a with stageNext := if kind = 1 then (n, a.stageNext.2) else (a.stageNext.1, n) }

/-- FW_WRITE: a segment of an image; the first of a kind erases the slot that is not booted (R383). -/
def State.writeFw (s : State) (v : Bytes) : Nat × State :=
  let kind := beAt v 0 1
  let off := beAt v 4 4
  let data := v.drop 8
  let low := match s.att.next kind with
    | some n => decide (off < n)
    | none => false
  if v.length < 8 ∨ 1032 < v.length ∨ kind = 0 ∨ 2 < kind ∨ !zeroAt v 1 3 ∨ low = true ∨ slotBytes kind < off + data.length then
    (0x01410010, s)
  else
    let old := if (s.att.next kind).isNone then [] else s.att.spare kind
    let gap := List.replicate (off - old.length) Config.erasedByte
    (0, { s with att := (s.att.setSpare kind (old ++ gap ++ data)).setNext kind (some (off + data.length)) })

/-- FW_COMMIT: the staged slot is verified; its SVN must not lie below the running one (R383). -/
def State.commitFw (s : State) (kind : Nat) : Nat × State :=
  let b := s.att.spare kind
  let s' := { s with att := s.att.setNext kind none }
  if !Fw.verifies s.lifecycle kind b then (0x01410011, s'.record 0x01410011 s.srcLeader none (leBytes 1 kind))
  else if Fw.svn b < (if kind = 1 then s.att.burgeeSvn else s.att.cpSvn) then (0x01410012, s')
  else (0, s'.record 0x05410022 s.srcLeader none (leBytes 1 kind))

/-- Transitions that LIFECYCLE_REQUEST may ask for (R379). -/
def transitionOk (old new : Nat) : Bool :=
  (old == 2 && (new == 3 || new == 4 || new == 5)) || (old == 3 && (new == 4 || new == 5)) || (old == 4 && new == 5)

/-- LIFECYCLE_REQUEST, approved (R379, R380). -/
def State.requestLifecycle (s : State) (v : Nat) : Nat × State :=
  if !transitionOk s.lifecycle.code v then (0x01410013, s)
  else if s.set.ctx.any fun e => e.state != .free then (0x01410014, s)
  else if !s.packHealthy then (0x01400020, s)
  else if s.nv.pending ≠ 0xFF then (0x01410015, s)
  else match s.nvUpdate fun r => { r with pending := v } with
    | some s => (0, s.record 0x05410020 srcBurgee none (leBytes 1 v))
    | none => (s.nvFailure, s.record s.nvFailure srcBurgee none [])

end Sys2Proof.Machine
end

