-- ==== Sys2Proof/Machine/Pack.lean ====
section
/-!
DEFINITION. Machine/Pack.lean: the reserve pack and the power-fail sequence (R493, R513 to R524).
-/
namespace Sys2Proof.Machine

def State.updPack (s : State) (f : Pack → Pack) : State := { s with pack := f s.pack }

-- EEPROM (R514)

/-- A copy of the header is valid: its CRC and its MAGIC hold. -/
def packCopyOk (h : Bytes) : Bool :=
  h.length == 64 && leAt h 60 4 == (crc32 (h.take 60)).toNat && slice h 0 4 == ascii "TLPK"

def readPackHeader (h : Bytes) : PackHeader :=
  { serial := slice h 8 16, date := leAt h 24 4, ratedCap := leAt h 28 4, discharges := leAt h 32 4,
    serviceHours := leAt h 36 4, logNext := leAt h 40 1 % 32 }

/-- Copy A if it is valid, else copy B, else none. -/
def packHeader (eeprom : Bytes) : Option PackHeader :=
  let a := slice eeprom 0 64
  let b := slice eeprom 512 64
  if packCopyOk a then some (readPackHeader a) else if packCopyOk b then some (readPackHeader b) else none

def packLog (eeprom : Bytes) : List (Nat × Nat) :=
  (List.range 32).map fun i => (leAt eeprom (64 + 8 * i) 4, leAt eeprom (68 + 8 * i) 4)

-- Measurement and health (R515, R516)

/-- C in µF of the drop ΔV of the pulse, 0.01 / ΔV. -/
def packCap (dropUv : Nat) : Nat := 10000000000 / dropUv
/-- E in mJ, 104.5 · C. -/
def packEnergy (cap : Nat) : Nat := 1045 * cap / 10000

/-- END_OF_LIFE_CAUSE: energy, age, discharges (R478, R516). -/
def eolCause (energy : Nat) (h : PackHeader) : Nat :=
  (if energy < 1200 then 1 else 0) + (if 70128 ≤ h.serviceHours then 2 else 0) + (if 200000 ≤ h.discharges then 4 else 0)

/-- PACK_MEASUREMENT: at stage A, or 1 s after an insertion (R515, R516). After a completed hold-up DISCHARGES rises
first (R518). -/
def execPackMeasurement (dropUv : Nat) (reached : Bool) (eeprom : Bytes) (now : Nat) (s : State) :
    Host.Outcome State Fault Refusal :=
  let s := s.at now
  match s.pack.measureAt with
  | none => .next s
  | some t =>
    if s.start.t0.isNone || (s.start.stage.isSome && decide (s.aon < t + tickS)) then .next s
    else
      let s := s.updPack fun p => { p with measureAt := none }
      if !s.pack.present then
        .next ((s.updPack fun p => { p with packState := 0 }).record 0x04700002 srcBurgee none [])
      else match packHeader eeprom with
      | none => .next ((s.updPack fun p => { p with packState := 3, header := none, lastMeasuredMs := s.ms }).record
          0x04700004 srcBurgee none [])
      | some h =>
        let h := if s.pack.powerFailRecord then { h with discharges := h.discharges + 1 } else h
        let c := packCap dropUv
        let e := packEnergy c
        let cause := eolCause e h
        let bad := !reached || decide (c < 5000 ∨ 13 * h.ratedCap < 10 * c)
        let st := if bad then 3 else if cause ≠ 0 then 2 else 1
        let s := s.updPack fun p =>
          { p with header := some { h with logNext := (h.logNext + 1) % 32 }, powerFailRecord := false
                   capLog := updAt (packLog eeprom) h.logNext fun _ => (h.serviceHours, c)
                   packState := st, measuredCap := c, holdupMj := e, eolCause := BitVec.ofNat 8 cause
                   lastMeasuredMs := s.ms }
        .next (s.record (if st = 3 then 0x04700004 else if st = 2 then 0x04700003 else 0x05700001) srcBurgee none [])

/-- PACK_INSERT: PACK_PRESENT_N falls; the measurement follows (R519). -/
def execPackInsert (now : Nat) (s : State) : Host.Outcome State Fault Refusal :=
  let s := s.at now
  if s.pack.present then .next s
  else
    let s := s.updPack fun p => { p with present := true }
    if s.start.t0.isNone then .next s
    else .next ((s.updPack fun p => { p with measureAt := some s.aon }).record 0x05700005 srcBurgee none [])

/-- PACK_REMOVE: PACK_PRESENT_N rises: PACK_STATE is ABSENT (R516, R519); during a hold-up the rail collapses (R520). -/
def execPackRemove (now : Nat) (s : State) : Host.Outcome State Fault Refusal :=
  let s := s.at now
  if !s.pack.present then .next s
  else
    let s := s.updPack fun p => { p with present := false }
    if s.start.t0.isNone || s.pack.holdup.isSome then .next s
    else
      let s := s.record 0x05700005 srcBurgee none []
      let s := s.updPack fun p =>
        { p with packState := 0, measureAt := if s.start.stage.isNone then p.measureAt else none }
      .next (s.record 0x04700002 srcBurgee none [])

/-- SERVICE_HOURS_TICK: a whole hour with the pack present; the age and discharge limits are tested again (R514, R516). -/
def execServiceHoursTick (now : Nat) (s : State) : Host.Outcome State Fault Refusal :=
  let s := s.at now
  match s.pack.header with
  | none => .next s
  | some h =>
    if !s.pack.present || s.start.t0.isNone then .next s
    else
      let h := { h with serviceHours := h.serviceHours + 1 }
      let s := s.updPack fun p => { p with header := some h }
      let cause := eolCause 1200 h
      if s.pack.packState = 1 ∧ cause ≠ 0 then
        .next ((s.updPack fun p => { p with packState := 2, eolCause := BitVec.ofNat 8 cause }).record 0x04700003
          srcBurgee none [])
      else .next s

-- The power-fail sequence (R493, R518)

/-- POWER_FAIL_WARNING: steps 1 to 3: the pack is connected, H1 forwards its records over the H0–H1 link, and every domain
but AON, H0.SEC, H0.CP and H0.FAB is latched and off, with what lived in it (R518, R524). -/
def execPowerFailWarning (packMv now : Nat) (s : State) : Host.Outcome State Fault Refusal :=
  let s := s.at now
  if s.start.t0.isNone || s.pack.holdup.isSome then .next s
  else
    let forwards := s.cpRuns 0 && s.cpRuns 1 && !s.hoistLinkDown
    let s := s.updPack fun p => { p with holdup := some (s.ms, packMv) }
    let s := { s with recorder := { s.recorder with
      powerFail := if forwards then s.recorder.h1.held.take 4096 else [], h1 := .empty } }
    let s := (s.powerOff (~~~(0x000055#24))).loseCantons
    .next { s with start := { s.start with cpRuns := (s.start.cpRuns.1, false) }, host := .reset, grixo := .reset,
                   mgmt := { s.mgmt with dtls := false } }

/-- Records of the hold-up flush: H0's buffer and the power-fail area in ascending SEQ (R493). -/
def Recorder.powerFlush (q : Recorder) (last : Record) : Recorder :=
  let all := (q.h0.held ++ q.powerFail).foldl (fun l r => insertRecord r l) []
  { (q.program (all ++ [last])) with h0 := .empty, powerFail := [], counter := last.seq, lastSeq := last.seq, flushed := true }

/-- HOLDUP_COMPLETE: with a healthy pack the flush ends with record 0x0570_0006 and FLUSHED is set; then everything is off
(R493, R518, R525), or, if 12 V has returned meanwhile, a MODULE reset with cause 0x02 follows (R520). -/
def execHoldupComplete (back : Bool) (now : Nat) (s : State) : Host.Outcome State Fault Refusal :=
  let s := s.at now
  match s.pack.holdup with
  | none => .next s
  | some (ms, mv) =>
    let ended := Config.holdupEnd ms
    let payload := leBytes 8 ms ++ leBytes 2 mv ++ leBytes 2 ended.1 ++ leBytes 4 ended.2
    let last := { s.formRecord .event false 0x05700006 srcBurgee none payload with seq := s.recorder.counter + 1 }
    let good := s.pack.present && s.packHealthy && s.cpRuns 0
    let s := { s with recorder := if good then s.recorder.powerFlush last else { s.recorder with flushed := false } }
    let s := s.powerOff (if back then 0xFFFFFE else 0xFFFFFF)
    let s := s.updPack fun p => { p with holdup := none }
    let s := { s with start := { s.start with t0 := none, stage := none, cpRuns := (false, false) } }
    .next (if back then (s.updPack fun p => { p with powerFailRecord := good }).moduleReset 2 false else s)

end Sys2Proof.Machine
end

