-- ==== Sys2Proof/Machine/Dictionary.lean ====
section
/-!
DEFINITION. Machine/Dictionary.lean: the object dictionary (R470 to R483): every entry with its type, access class and
length, its value at an instant, and the checks of an item (R541).
-/
namespace Sys2Proof.Machine

-- The maps

/-- Access classes (R461). No entry of any map is RWB. -/
inductive Access where
  | ro | rw | rwi | wo
  deriving DecidableEq, Repr

/-- An entry: its type code (R471), access class and greatest length in bytes. -/
structure EntryDef where
  type : Nat
  access : Access
  len : Nat
  deriving DecidableEq, Repr

def tyBool : Nat := 0x01
def tyU8 : Nat := 0x02
def tyU16 : Nat := 0x03
def tyU32 : Nat := 0x04
def tyU64 : Nat := 0x05
def tyI8 : Nat := 0x06
def tyI16 : Nat := 0x07
def tyI32 : Nat := 0x08
def tyI64 : Nat := 0x09
def tyStr : Nat := 0x0A
def tyOct : Nat := 0x0B
def tyDig : Nat := 0x0C
def tyTime : Nat := 0x0D

/-- Bytes of a type of fixed size (R471). -/
def typeBytes (t : Nat) : Nat :=
  match t with
  | 0x01 => 1
  | 0x02 => 1
  | 0x03 => 2
  | 0x04 => 4
  | 0x05 => 8
  | 0x06 => 1
  | 0x07 => 2
  | 0x08 => 4
  | 0x09 => 8
  | 0x0A => 64
  | 0x0C => 48
  | 0x0D => 6
  | _ => 0

/-- Types whose values are taken in parts by OFFSET (R458, R460). -/
def EntryDef.segmented (e : EntryDef) : Bool := e.type == tyOct || e.type == tyStr

def fixedEntry (t : Nat) (a : Access) : EntryDef := ⟨t, a, typeBytes t⟩
def octEntry (n : Nat) (a : Access) : EntryDef := ⟨tyOct, a, n⟩

/-- R477. -/
def map1000 : List (Nat × EntryDef) :=
  [(1, fixedEntry tyStr .ro), (2, fixedEntry tyStr .ro), (3, fixedEntry tyStr .ro), (4, fixedEntry tyU8 .ro),
   (5, fixedEntry tyU64 .ro), (6, fixedEntry tyU32 .ro), (7, fixedEntry tyU32 .ro), (8, fixedEntry tyU32 .ro),
   (9, fixedEntry tyU32 .ro), (0xA, fixedEntry tyU8 .ro), (0xB, fixedEntry tyTime .ro), (0xC, fixedEntry tyU16 .ro)]

/-- R469. The staged segments carry an offset and up to 1,024 bytes. -/
def map1100 : List (Nat × EntryDef) :=
  [(1, octEntry 6 .ro), (2, octEntry 16 .rw), (3, fixedEntry tyU32 .rw), (4, octEntry 16 .rw), (5, fixedEntry tyU32 .rw),
   (6, fixedEntry tyU8 .rw), (7, fixedEntry tyU8 .rw), (8, octEntry 96 .ro), (9, octEntry 512 .ro),
   (0xA, fixedEntry tyU16 .wo), (0xB, octEntry 1026 .wo), (0xC, fixedEntry tyU8 .wo), (0xD, octEntry 64 .ro),
   (0xE, octEntry 512 .ro), (0xF, fixedEntry tyU16 .rw)]

/-- R83. -/
def map1200 : List (Nat × EntryDef) :=
  [(1, fixedEntry tyU32 .rw), (2, fixedEntry tyU8 .rw), (3, fixedEntry tyI32 .rw), (4, fixedEntry tyU8 .rw),
   (5, fixedEntry tyU8 .rw), (6, fixedEntry tyI16 .rw), (7, fixedEntry tyBool .rw), (8, fixedEntry tyU8 .ro),
   (9, fixedEntry tyU8 .ro), (0xA, fixedEntry tyBool .ro), (0xB, fixedEntry tyU32 .ro), (0xC, fixedEntry tyI32 .ro),
   (0xD, fixedEntry tyU64 .ro), (0xE, fixedEntry tyI64 .ro), (0xF, octEntry 16 .wo), (0x10, fixedEntry tyBool .rw),
   (0x11, fixedEntry tyU64 .ro)]

/-- R426. -/
def map1300 : List (Nat × EntryDef) :=
  [(1, fixedEntry tyU8 .ro), (2, octEntry 9 .wo), (3, octEntry 9 .ro), (4, fixedEntry tyU32 .rw), (5, fixedEntry tyU32 .rw),
   (6, fixedEntry tyU32 .rw), (7, fixedEntry tyU32 .ro), (8, fixedEntry tyU32 .ro), (9, fixedEntry tyBool .rw),
   (0xA, fixedEntry tyU8 .wo), (0xB, fixedEntry tyU8 .ro), (0xC, fixedEntry tyU64 .rw), (0xD, fixedEntry tyU64 .ro),
   (0xE, fixedEntry tyU32 .ro), (0xF, fixedEntry tyU32 .wo), (0x10, fixedEntry tyU16 .ro), (0x11, fixedEntry tyU8 .rw),
   (0x12, octEntry 12 .ro)]

/-- R404, R427; 0x07 to 0x0F are absent. -/
def map1400 : List (Nat × EntryDef) :=
  [(1, octEntry 6 .ro), (2, fixedEntry tyI8 .ro), (3, fixedEntry tyU16 .ro), (4, fixedEntry tyU8 .ro),
   (5, fixedEntry tyU32 .ro), (6, fixedEntry tyU32 .ro), (0x10, fixedEntry tyU8 .ro), (0x11, fixedEntry tyU32 .ro),
   (0x12, octEntry 16 .ro), (0x13, fixedEntry tyU32 .ro), (0x14, fixedEntry tyU32 .ro), (0x15, fixedEntry tyU8 .wo),
   (0x16, octEntry 8 .ro), (0x17, fixedEntry tyU16 .ro)]

/-- R478. -/
def map1500 : List (Nat × EntryDef) :=
  [(1, fixedEntry tyU8 .ro), (2, ⟨tyStr, .ro, 16⟩), (3, fixedEntry tyU32 .ro), (4, fixedEntry tyU32 .ro),
   (5, fixedEntry tyU32 .ro), (6, fixedEntry tyU32 .ro), (7, fixedEntry tyU32 .ro), (8, fixedEntry tyU8 .ro),
   (9, fixedEntry tyTime .ro), (0xA, octEntry 256 .ro), (0xB, fixedEntry tyBool .ro)]

/-- R479. -/
def map1600 : List (Nat × EntryDef) :=
  [(1, fixedEntry tyU64 .ro), (2, fixedEntry tyU64 .ro), (3, fixedEntry tyU32 .ro), (4, fixedEntry tyU64 .rw),
   (5, octEntry 1024 .ro), (6, fixedEntry tyU64 .ro), (7, fixedEntry tyU64 .ro), (8, fixedEntry tyU8 .ro),
   (9, octEntry 4 .ro), (0xA, fixedEntry tyU32 .ro), (0xB, fixedEntry tyU64 .wo), (0xC, fixedEntry tyBool .rw),
   (0xD, fixedEntry tyTime .ro), (0xE, fixedEntry tyU32 .ro)]

/-- R277. -/
def map2000 : List (Nat × EntryDef) :=
  [(1, fixedEntry tyU16 .rw), (2, fixedEntry tyU32 .rwi), (3, octEntry 6 .ro), (4, fixedEntry tyU16 .rwi),
   (5, octEntry 16 .rwi), (6, octEntry 16 .rwi), (7, fixedEntry tyU32 .rwi), (8, fixedEntry tyU32 .rwi),
   (9, octEntry 16 .rwi), (0xA, octEntry 16 .rwi), (0xB, fixedEntry tyU32 .rwi), (0xC, fixedEntry tyU32 .rwi),
   (0xD, fixedEntry tyU8 .rw), (0xE, fixedEntry tyU8 .rw), (0xF, fixedEntry tyU64 .ro)]

/-- R278. -/
def map2100 : List (Nat × EntryDef) :=
  [(1, fixedEntry tyU16 .rw), (2, fixedEntry tyU8 .rw), (3, fixedEntry tyU16 .rw), (4, fixedEntry tyU8 .rw),
   (5, fixedEntry tyU8 .rw), (6, fixedEntry tyU32 .rw)]

/-- R320. -/
def map2200 : List (Nat × EntryDef) :=
  [(1, fixedEntry tyU32 .ro), (2, fixedEntry tyU32 .ro), (3, fixedEntry tyU64 .rwi), (4, fixedEntry tyU64 .rwi)]

/-- R339. -/
def map3000 : List (Nat × EntryDef) :=
  [(1, fixedEntry tyU8 .ro), (2, fixedEntry tyU8 .wo), (3, fixedEntry tyU8 .rwi), (4, octEntry 32 .rwi),
   (5, fixedEntry tyU32 .rwi), (6, fixedEntry tyU32 .rwi), (7, fixedEntry tyU32 .rwi), (8, fixedEntry tyU32 .rwi),
   (9, fixedEntry tyU32 .rwi), (0xA, fixedEntry tyU32 .rwi), (0xB, fixedEntry tyU16 .rwi), (0xC, fixedEntry tyU16 .rwi),
   (0xD, fixedEntry tyU16 .rwi), (0xE, fixedEntry tyU16 .rwi), (0xF, fixedEntry tyU16 .rwi),
   (0x10, fixedEntry tyU16 .rwi), (0x11, fixedEntry tyU8 .rwi), (0x12, fixedEntry tyU8 .rwi), (0x13, octEntry 32 .ro)]

/-- R469. -/
def map3100 : List (Nat × EntryDef) :=
  [(1, octEntry 1032 .wo), (2, fixedEntry tyU8 .wo), (3, octEntry 768 .ro), (4, octEntry 64 .ro)]

/-- R481. -/
def map3200 : List (Nat × EntryDef) :=
  [(1, octEntry 768 .ro), (2, octEntry 128 .ro), (3, octEntry 64 .ro), (4, octEntry 128 .ro), (5, fixedEntry tyU64 .ro),
   (6, octEntry 128 .ro), (7, octEntry 32 .ro), (8, fixedEntry tyU16 .ro)]

/-- R366. -/
def map4000 : List (Nat × EntryDef) :=
  [(1, fixedEntry tyU8 .ro), (2, fixedEntry tyU64 .ro), (3, fixedEntry tyU8 .ro), (4, fixedEntry tyU16 .ro),
   (5, fixedEntry tyU16 .ro), (6, fixedEntry tyU32 .ro), (7, fixedEntry tyU8 .ro), (8, octEntry 88 .wo),
   (9, fixedEntry tyU8 .wo), (0xA, fixedEntry tyU8 .wo), (0xB, octEntry 128 .ro), (0xC, fixedEntry tyU8 .wo),
   (0xD, octEntry 32 .ro)]

/-- R385. -/
def map4100 : List (Nat × EntryDef) :=
  [(1, octEntry 288 .ro), (2, fixedEntry tyDig .ro), (3, fixedEntry tyU8 .ro), (4, octEntry 320 .ro),
   (5, octEntry 8192 .ro), (6, fixedEntry tyU8 .wo), (7, fixedEntry tyU8 .ro), (8, fixedEntry tyU64 .ro),
   (9, octEntry 1032 .wo), (0xA, fixedEntry tyU8 .wo)]

/-- R450. -/
def map5000 : List (Nat × EntryDef) :=
  [(1, fixedEntry tyU8 .ro), (2, fixedEntry tyU32 .ro), (3, fixedEntry tyU16 .ro), (4, fixedEntry tyBool .ro),
   (5, fixedEntry tyU32 .ro), (6, fixedEntry tyU32 .ro), (7, fixedEntry tyU8 .rw), (8, fixedEntry tyU8 .wo),
   (9, fixedEntry tyU8 .ro), (0xA, fixedEntry tyU64 .ro), (0xB, fixedEntry tyU32 .ro), (0xC, fixedEntry tyU16 .ro),
   (0xD, fixedEntry tyU32 .rw), (0xE, octEntry 16 .ro)]

/-- R482. -/
def map6000 : List (Nat × EntryDef) :=
  ((List.range 16).map fun c => (c + 1, octEntry 4096 .ro)) ++
  [(0x11, octEntry 1024 .ro), (0x12, octEntry 120 .ro), (0x13, octEntry 60 .ro)]

/-- The index map (R470): highest subindex and map of an index. -/
def indexMap (index : Nat) : Option (Nat × List (Nat × EntryDef)) :=
  match index with
  | 0x1000 => some (0x0C, map1000)
  | 0x1100 => some (0x0F, map1100)
  | 0x1200 => some (0x11, map1200)
  | 0x1300 => some (0x12, map1300)
  | 0x1400 => some (0x17, map1400)
  | 0x1500 => some (0x0B, map1500)
  | 0x1600 => some (0x0E, map1600)
  | 0x2000 => some (0x0F, map2000)
  | 0x2100 => some (0x06, map2100)
  | 0x2200 => some (0x04, map2200)
  | 0x3100 => some (0x04, map3100)
  | 0x3200 => some (0x08, map3200)
  | 0x4000 => some (0x0D, map4000)
  | 0x4100 => some (0x0A, map4100)
  | 0x5000 => some (0x0E, map5000)
  | 0x6000 => some (0x13, map6000)
  | i => if i / 16 = 0x300 then some (0x13, map3000) else none

/-- An entry, or the code of checks 1 and 2 of R541. -/
def entryDef (index sub : Nat) : Except Nat EntryDef :=
  match indexMap index with
  | none => .error 0x01010001
  | some (_, m) =>
    if sub = 0 then .ok (fixedEntry tyU8 .ro)
    else match assocGet m sub with
    | some e => .ok e
    | none => .error 0x01010002

-- Values

/-- A signed value in `n` bytes of network byte order. -/
def beInt (n : Nat) (v : Int) : Bytes := beBytes n (unsignedOf (8 * n) v)
def boolBytes (b : Bool) : Bytes := [if b then 1 else 0]

/-- Sixteen context numbers mapped and joined. -/
def overContexts (f : Nat → Bytes) : Bytes := (List.range 16).flatMap f

def HalState.code : HalState → Nat
  | .start => 0
  | .acquiring => 1
  | .locked => 2
  | .holdover => 3
  | .freeRun => 4

def CtxState.code : CtxState → Nat
  | .free => 0
  | .active => 1
  | .teardown => 2
  | .scrubbing => 3

def PlanState.code : PlanState → Nat
  | .none => 0
  | .checking => 1
  | .loaded => 2
  | .running => 3
  | .unloading => 4

/-- Four bits per element, the first lowest. -/
def nibbles (l : List Nat) : Nat := (l.zipIdx.map fun (x, i) => x % 16 * 16 ^ i).sum

/-- Bytes 16 to 383 of a COUNTERS block (R331). -/
def Counters.words (k : Counters) : List Nat :=
  k.intakeReject ++
  [k.framesAccepted, k.framesTagFailed, k.framesCloseDiscarded, k.chunksCommitted, k.commits, k.rollbacks, k.sessions,
   k.noticesSent, k.noticesDropped, k.pktsRx, k.pktsTx, k.bytesRx, k.bytesTx, k.retx, k.duplicatesRx, k.dropCredit,
   k.dropNoRecv, k.dropMiss, k.dropTag, k.connFailed, k.creditsGranted, k.creditsLapsed, k.recordFetches, k.dmaToHost,
   k.dmaFromHost, k.beatsReal, k.beatsDummy, k.finishRepeats, k.releases, k.dropInvalid]

def counts64 (l : List Nat) : Bytes := l.flatMap fun n => leBytes 8 n

/-- The COUNTERS block of a context (R331); all 0 while it is FREE (R482). -/
def State.counterBlock (s : State) (c : Nat) : Bytes :=
  let b := (s.ctx c).counters
  if (s.ctxSet c).state = .free then zeros 4096
  else padTo 4096 (ascii "TLCT" ++ leBytes 4 b.seq ++ leBytes 8 b.window ++ counts64 b.shown.words)

/-- MODULE_COUNTERS (R482). -/
def State.moduleBlock (s : State) : Bytes :=
  let m := s.stats.shown
  padTo 1024 (ascii "TLCM" ++ leBytes 4 s.stats.seq ++ leBytes 8 s.stats.window ++
    counts64 (m.drops ++ m.fec ++ m.hbmEcc ++ m.sramEcc ++ m.replays ++ [m.intakeRejects]))

def State.identityEntry (s : State) (sub : Nat) : Bytes :=
  let cp := if s.att.bootSlots.getLsbD 1 then s.att.cpB.bytes else s.att.cpA.bytes
  match sub with
  | 0x01 => ascii "Bidraen Devices"
  | 0x02 => ascii "Tilrin TA-32"
  | 0x03 => ascii "TA32-M1"
  | 0x04 => [0xB1]
  | 0x05 => beBytes 8 Config.serial
  | 0x06 => beBytes 4 Config.manufactureDate
  | 0x07 => beBytes 4 s.att.burgeeBuild
  | 0x08 => beBytes 4 s.att.cpBuild
  | 0x09 => beBytes 4 (if s.att.m.isEmpty then 0 else Config.microcodeVersion (slice cp 80 48))
  | 0x0A => beBytes 1 Config.boardRevision
  | 0x0B => beBytes 6 s.ms
  | _ => beBytes 2 1

/-- An enrolled credential in CRED_TABLE: STATE, ROLE, 14 reserved, SHA-384 of CERT. -/
def credTableEntry (c : Option Credential) : Bytes :=
  match c with
  | none => zeros 64
  | some c => leBytes 1 1 ++ leBytes 1 c.role ++ zeros 14 ++ sha384 c.cert

/-- A place of SESSIONS; a CLAIM session has no slot and shows 0xFF with role 0. -/
def sessionEntry (x : Option Session) : Bytes :=
  match x with
  | none => [0xFF, 0xFF] ++ zeros 6
  | some x => leBytes 1 (x.slot.getD 0xFF) ++ leBytes 1 x.role ++ zeros 6

/-- A place of PENDING_APPROVALS. -/
def Approval.entry (a : Approval) (now : Nat) : Bytes :=
  beBytes 4 a.id ++ beBytes 1 a.initiator ++ beBytes 1 a.approvedBy.length ++ beBytes 2 ((a.deadline - now) / tickMs) ++
  zeros 8 ++ padTo 48 a.digest

/-- The public key of MGMT_KEY (R343, R453). -/
def State.mgmtPublic (s : State) : Bytes := p384Public (p384Private (s.fixedKey "TA32 mgmt" 64))

def State.mgmtEntry (s : State) (sub : Nat) : Bytes :=
  let m := s.set.mgmt
  match sub with
  | 0x01 => s.macOf 64
  | 0x02 => m.addr6
  | 0x03 => beBytes 4 m.addr4
  | 0x04 => m.gw6
  | 0x05 => beBytes 4 m.gw4
  | 0x06 => beBytes 1 m.prefix6
  | 0x07 => beBytes 1 m.prefix4
  | 0x08 => s.mgmtPublic
  | 0x09 => s.nv.creds.flatMap credTableEntry
  | 0x0D => s.mgmt.sessions.flatMap sessionEntry
  | 0x0E => padTo 512 (s.mgmt.approvals.flatMap fun a => a.entry s.aon)
  | _ => beBytes 2 m.sessionIdle

def State.halyardEntry (s : State) (sub : Nat) : Bytes :=
  let h := s.hal
  match sub with
  | 0x01 => beBytes 4 s.set.hal.refPriority.toNat
  | 0x02 => beBytes 1 s.set.hal.refInFreq
  | 0x03 => beInt 4 s.set.hal.ppsInDelay
  | 0x04 => beBytes 1 s.set.hal.ptpDomain
  | 0x05 => beBytes 1 s.set.hal.ptpTransport
  | 0x06 => beInt 2 s.set.hal.ptpLogSync
  | 0x07 => boolBytes s.set.allowFreeRun
  | 0x08 => beBytes 1 h.state.code
  | 0x09 => beBytes 1 h.refActive
  | 0x0A => boolBytes h.holdoverFlag
  | 0x0B => beBytes 4 ((h.holdoverSince.map fun t => (s.aon - t) / tickMs).getD 0)
  | 0x0C => beInt 4 h.phaseOffset
  | 0x0D => beBytes 8 h.beatCount
  | 0x0E => beInt 8 (h.fleetOffset s.aon)
  | 0x10 => boolBytes s.set.halyardOut
  | _ => beBytes 8 h.seconds

/-- FURL_STATE: an entry runs from its decision to its end (R415 to R419). -/
def State.furlState (s : State) : Nat :=
  if s.power.waking.isSome then 5
  else if s.power.entry.isSome || s.power.committed.isSome then 4 else s.power.furl

/-- LEVEL_PENDING (R406). -/
def State.levelPending (s : State) : Bytes :=
  match s.hal.pendingLevel with
  | none => 0xFF :: zeros 8
  | some x => beBytes 1 x.target ++ beBytes 8 x.edge

def State.powerEntry (s : State) (sub : Nat) : Bytes :=
  let p := s.power
  match sub with
  | 0x01 => beBytes 1 (if s.cantonsPowered then s.hal.level else 0xFF)
  | 0x03 => s.levelPending
  | 0x04 => beBytes 4 s.set.tF1
  | 0x05 => beBytes 4 s.set.tF2
  | 0x06 => beBytes 4 s.set.tF3
  | 0x07 => beBytes 4 s.idleMs
  | 0x08 => beBytes 4 s.claimsWord
  | 0x09 => boolBytes p.inhibit
  | 0x0B => beBytes 1 s.furlState
  | 0x0C => beBytes 8 p.wakeAt
  | 0x0D => beBytes 8 (p.powered.toNat + p.regulated.toNat * 2 ^ 24)
  | 0x0E => beBytes 4 p.latched.toNat
  | 0x10 => beBytes 2 s.sensors.inputPower
  | 0x11 => beBytes 1 s.set.powerClassLimit
  | _ => s.set.furlCounts.flatMap fun n => beBytes 4 n

def State.burgeeEntry (s : State) (sub : Nat) : Bytes :=
  match sub with
  | 0x01 => s.sensors.dieTemp.flatMap fun t => beInt 1 t
  | 0x02 => beInt 1 s.sensors.inlet
  | 0x03 => beBytes 2 s.sensors.flow
  | 0x04 => beBytes 1 ((if s.power.emergencyThermal then 1 else 0) + (if s.power.emergencyElectrical then 2 else 0))
  | 0x05 => beBytes 4 s.set.emergencyCount
  | 0x06 => beBytes 4 s.set.tripCount
  | 0x10 => beBytes 1 (s.start.stage.getD 0xFF)
  | 0x11 => beBytes 4 s.start.resetCause.toNat
  | 0x12 => s.start.stageTimes.flatMap fun n => beBytes 4 n
  | 0x13 => beBytes 4 s.set.powerCycles
  | 0x14 => beBytes 4 s.set.moduleResets
  | 0x16 => (s.start.dieState.flatMap fun n => beBytes 1 n) ++ zeros 2
  | _ => beBytes 2 (nibbles s.start.substituted)

def State.packEntry (s : State) (sub : Nat) : Bytes :=
  let p := s.pack
  let field := fun (f : PackHeader → Nat) => beBytes 4 ((p.header.map f).getD 0)
  match sub with
  | 0x01 => beBytes 1 p.packState
  | 0x02 => ((p.header.map fun h => h.serial.takeWhile fun b => b != 0)).getD []
  | 0x03 => field PackHeader.date
  | 0x04 => field PackHeader.ratedCap
  | 0x05 => beBytes 4 p.measuredCap
  | 0x06 => beBytes 4 p.holdupMj
  | 0x07 => field PackHeader.discharges
  | 0x08 => beBytes 1 p.eolCause.toNat
  | 0x09 => beBytes 6 p.lastMeasuredMs
  | 0x0A => p.capLog.flatMap fun x => leBytes 4 x.1 ++ leBytes 4 x.2
  | _ => boolBytes (p.packState == 1)

-- Records (R479, R484, R485, R499)

def Severity.code : Severity → Nat
  | .trace => 0
  | .event => 1
  | .notice => 2
  | .alarm => 3

/-- Bytes 22 to 59 of a record. -/
def Record.tail (r : Record) : Bytes :=
  leBytes 1 (r.severity.code + (if r.summary then 4 else 0) + (if r.aonHeld then 8 else 0) + (if r.lane then 16 else 0) +
    (if r.lost then 32 else 0)) ++ leBytes 1 (r.context.getD 0xFF) ++ zeros 4 ++ padTo 32 r.payload

def Record.stamp (r : Record) : Nat := r.stampMs % 2 ^ 40 + r.cycles % 2 ^ 24 * 2 ^ 40

/-- The record in storage order (R484). -/
def Record.bytes (r : Record) : Bytes :=
  withCrc (leBytes 8 r.seq ++ leBytes 8 r.stamp ++ leBytes 4 r.code.toNat ++ leBytes 2 r.source.toNat ++ r.tail)

/-- The record in a Yunov item: SEQ, STAMP, CODE and SOURCE in network byte order, the rest as stored (R485). -/
def Record.wire (r : Record) : Bytes :=
  beBytes 8 r.seq ++ beBytes 8 r.stamp ++ beBytes 4 r.code.toNat ++ beBytes 2 r.source.toNat ++ r.bytes.drop 22

/-- Up to 16 retained records at or above a cursor, in ascending SEQ, none at or above a number that lies in H1's buffer
while the H0–H1 link is down (R499). -/
def State.recordsFrom (s : State) (cursor : Nat) : List Record :=
  let q := s.recorder
  let from_ := fun (l : List Record) => l.filter fun r => decide (cursor ≤ r.seq)
  let h1 := from_ q.h1.held
  let near := from_ q.fixed ++ from_ q.circ ++ from_ q.powerFail ++ from_ q.h0.held
  let all := if s.hoistLinkDown then
      match h1.head? with
      | some r => near.filter fun x => decide (x.seq < r.seq)
      | none => near
    else near ++ h1
  (all.foldl (fun l r => insertRecord r l) []).take 16

def recordsBytes (l : List Record) : Bytes := padTo 1024 (l.flatMap Record.wire)

/-- Entries of 0x1600; `cursor` is the session's. -/
def State.recorderEntry (s : State) (cursor sub : Nat) : Bytes :=
  let q := s.recorder
  match sub with
  | 0x01 => beBytes 8 q.lastSeq
  | 0x02 => beBytes 8 ((q.circ.head?.map Record.seq).getD 0)
  | 0x03 => beBytes 4 q.fixed.length
  | 0x04 => beBytes 8 cursor
  | 0x05 => recordsBytes (s.recordsFrom cursor)
  | 0x06 => beBytes 8 s.set.suppressedTotal
  | 0x07 => beBytes 8 s.set.traceDropped
  | 0x08 => beBytes 1 (max q.h0.laneUsed q.h1.laneUsed)
  | 0x09 => beBytes 2 q.h0.held.length ++ beBytes 2 q.h1.held.length
  | 0x0A => beBytes 4 s.alertCauses
  | 0x0C => boolBytes s.set.traceEnable
  | 0x0D => beBytes 6 q.lastFlushMs
  | _ => beBytes 4 s.set.flushes

def State.portEntry (s : State) (sub : Nat) : Bytes :=
  let p := s.set.ports
  match sub with
  | 0x01 => beBytes 2 p.enable.toNat
  | 0x02 => beBytes 4 p.mode.toNat
  | 0x03 => s.macOf 0
  | 0x04 => beBytes 2 p.udpPort
  | 0x05 => p.addr6.1
  | 0x06 => p.addr6.2
  | 0x07 => beBytes 4 p.addr4.1
  | 0x08 => beBytes 4 p.addr4.2
  | 0x09 => p.gw6.1
  | 0x0A => p.gw6.2
  | 0x0B => beBytes 4 p.gw4.1
  | 0x0C => beBytes 4 p.gw4.2
  | 0x0D => beBytes 1 p.dscpData
  | 0x0E => beBytes 1 p.dscpCtrl
  | _ => beBytes 8 ((s.grixo.ports.zipIdx.map fun (x, i) => if x.up then 2 ^ i else 0).sum)

def State.grixoEntry (s : State) (sub : Nat) : Bytes :=
  let p := s.set.ports
  match sub with
  | 0x01 => beBytes 2 p.rtoUs
  | 0x02 => beBytes 1 p.retxLimit
  | 0x03 => beBytes 2 p.ackDelayNs
  | 0x04 => beBytes 1 p.ackPackets
  | 0x05 => beBytes 1 p.pathLossLimit
  | _ => beBytes 4 p.pathHoldUs

/-- LINK_STATE of an endpoint (R320). -/
def Endpoint.word (x : Endpoint) : Nat :=
  x.rate % 16 + x.width % 32 * 16 + (if x.flit then 2 ^ 9 else 0) + (if x.up then 2 ^ 10 else 0)

def State.hostEntry (s : State) (sub : Nat) : Bytes :=
  match sub with
  | 0x01 => beBytes 4 s.host.ep0.word
  | 0x02 => beBytes 4 s.host.ep1.word
  | 0x03 => beBytes 8 s.set.dmaMap.1.toNat
  | _ => beBytes 8 s.set.dmaMap.2.toNat

/-- Entries of 0x3000 + c. -/
def State.contextEntry (s : State) (c sub : Nat) : Bytes :=
  let e := s.ctxSet c
  match sub with
  | 0x01 => beBytes 1 e.state.code
  | 0x03 => beBytes 1 e.endpoint
  | 0x04 => leBytes 32 e.mask.toNat
  | 0x05 => beBytes 4 e.portShare.h0
  | 0x06 => beBytes 4 e.portShare.h1
  | 0x07 => beBytes 4 (e.quota.getD 0 0)
  | 0x08 => beBytes 4 (e.quota.getD 1 0)
  | 0x09 => beBytes 4 (e.quota.getD 2 0)
  | 0x0A => beBytes 4 (e.quota.getD 3 0)
  | 0x0B => beBytes 2 e.keySlots.h0
  | 0x0C => beBytes 2 e.keySlots.h1
  | 0x0D => beBytes 2 e.resident.h0
  | 0x0E => beBytes 2 e.resident.h1
  | 0x0F => beBytes 2 e.connLimit.h0
  | 0x10 => beBytes 2 e.connLimit.h1
  | 0x11 => beBytes 1 e.pkEngines.h0
  | 0x12 => beBytes 1 e.pkEngines.h1
  | _ => padTo 32 e.receipt

/-- The policy in force for a context (R466). -/
def State.policy (s : State) (c : Nat) : Option Policy := (s.set.policies.getD c none)

def State.policyEntry (s : State) (sub : Nat) : Bytes :=
  if sub = 0x03 then overContexts fun c => padTo 48 ((s.policy c).map Policy.digest |>.getD [])
  else overContexts fun c => beBytes 4 ((s.policy c).map Policy.kmin |>.getD 0)

/-- The plan of a context is admitted: LOADED, RUNNING or UNLOADING. -/
def PlanSlot.admitted (p : PlanSlot) : Bool := p.state != .none && p.state != .checking

/-- Open cohorts of a context's plan (R36). -/
def PlanSlot.openCohorts (p : PlanSlot) : Nat :=
  if p.admitted then (p.image.map fun im => im.templates.length).getD 0 else 0

def State.planEntry (s : State) (sub : Nat) : Bytes :=
  let cost := fun (c : Nat) => if (s.plan c).admitted then (s.plan c).image.map PlanImage.cost else none
  match sub with
  | 0x01 => overContexts fun c => if (s.plan c).admitted then padTo 48 (s.plan c).digest else zeros 48
  | 0x02 => overContexts fun c => beBytes 8 (s.plan c).startBeat
  | 0x03 => overContexts fun c =>
      match cost c with
      | some k => beBytes 1 k.level ++ beBytes 1 k.powerClass ++ zeros 2
      | none => zeros 4
  | 0x04 => overContexts fun c => beBytes 8 ((cost c).map PlanCost.hbmBytes |>.getD 0)
  | 0x05 => beBytes 8 (nibbles (s.plans.map fun p => p.state.code))
  | 0x06 => overContexts fun c => beBytes 4 (s.plan c).lastReject.1.toNat ++ beBytes 4 (s.plan c).lastReject.2
  | 0x07 => overContexts fun c => beBytes 2 (s.plan c).openCohorts
  | _ => beBytes 2 ((s.plans.map PlanSlot.openCohorts).sum)

/-- Key slots in use on a Hoist; 0 while its SEC domain is unpowered (R474). -/
def State.slotsShown (s : State) (h : Nat) : Nat :=
  if s.power.powered.getLsbD (2 + h) then (s.keys.slots.filter fun (k : KeySlot) => k.hoist == h).length else 0

def State.secretEntry (s : State) (sub : Nat) : Bytes :=
  match sub with
  | 0x01 => beBytes 1 s.lifecycle.code
  | 0x02 => beBytes 8 s.nv.seq
  | 0x03 => beBytes 1 (if s.keys.nvSlotB then 1 else 0)
  | 0x04 => beBytes 2 (s.slotsShown 0)
  | 0x05 => beBytes 2 (s.slotsShown 1)
  | 0x06 => beBytes 4 s.keys.tamperCount
  | 0x07 => beBytes 1 s.keys.tamperCause
  | 0x0B => overContexts fun c => leBytes 4 (s.ctx c).mem.generation ++ leBytes 1 (s.ctx c).mem.live ++ zeros 3
  | _ => padTo 32 (x25519Public s.importKey)

def State.attestEntry (s : State) (sub : Nat) : Bytes :=
  match sub with
  | 0x01 => padTo 288 s.att.mr0.flatten
  | 0x02 => padTo 48 s.att.m
  | 0x03 => beBytes 1 s.att.bootSlots.toNat
  | 0x04 => padTo 320 s.att.aliasStatement
  | 0x05 => padTo 8192 s.nv.idChain
  | 0x07 => beBytes 1 s.nv.pending
  | _ => beBytes 8 (s.att.burgeeSvn + s.att.cpSvn * 2 ^ 32)

def State.leadEntry (s : State) (sub : Nat) : Bytes :=
  match sub with
  | 0x01 => beBytes 1 (s.lead.holder.getD 0xFF)
  | 0x02 => beBytes 4 s.lead.epoch
  | 0x03 => beBytes 2 (if s.lead.holder.isSome then (s.lead.expiry - s.aon) / tickMs else 0)
  | 0x04 => boolBytes s.inHold
  | 0x05 => beBytes 4 s.set.holdCount
  | 0x06 => beBytes 4 s.set.leaderChanges
  | 0x07 => beBytes 1 s.set.leaderPreference
  | 0x09 => beBytes 1 ((if s.journal.copyC0 then 1 else 0) + (if s.journal.copyC2 then 2 else 0))
  | 0x0A => beBytes 8 s.journal.seq
  | 0x0B => beBytes 4 s.mirrorLag
  | 0x0C => beBytes 2 (nibbles s.lead.spareState)
  | 0x0D => beBytes 4 s.set.holdLimit
  | _ => s.set.faultCounts.flatMap fun n => beBytes 4 n

def State.statEntry (s : State) (sub : Nat) : Bytes :=
  match sub with
  | 0x11 => s.moduleBlock
  | 0x12 => s.sensors.powerLog.flatMap fun n => beBytes 2 n
  | 0x13 => s.sensors.tempLog.flatMap fun t => beInt 1 t
  | sub => s.counterBlock (sub - 1)

/-- The value of a readable entry at this instant; `cursor` is the reading session's (R473, R474). -/
def State.entryValue (s : State) (cursor index sub : Nat) : Bytes :=
  if sub = 0 then beBytes 1 ((indexMap index).map Prod.fst |>.getD 0)
  else match index with
  | 0x1000 => s.identityEntry sub
  | 0x1100 => s.mgmtEntry sub
  | 0x1200 => s.halyardEntry sub
  | 0x1300 => s.powerEntry sub
  | 0x1400 => s.burgeeEntry sub
  | 0x1500 => s.packEntry sub
  | 0x1600 => s.recorderEntry cursor sub
  | 0x2000 => s.portEntry sub
  | 0x2100 => s.grixoEntry sub
  | 0x2200 => s.hostEntry sub
  | 0x3100 => s.policyEntry sub
  | 0x3200 => s.planEntry sub
  | 0x4000 => s.secretEntry sub
  | 0x4100 => s.attestEntry sub
  | 0x5000 => s.leadEntry sub
  | 0x6000 => s.statEntry sub
  | i => s.contextEntry (i % 16) sub

-- Items (R458)

structure YItem where
  index : Nat
  sub : Nat
  type : Nat
  off : Nat
  len : Nat
  value : Bytes
  deriving DecidableEq, Repr

/-- The bytes of an item. -/
def YItem.bytes (i : YItem) : Bytes :=
  beBytes 2 i.index ++ beBytes 1 i.sub ++ beBytes 1 i.type ++ beBytes 2 i.off ++ beBytes 2 i.len ++ i.value

-- Checks of an item (R460, R461, R472, R541)

/-- Roles that may read: every one but CLAIM (R455, R457). -/
def mayRead (role : Nat) : Bool := role != 0

/-- Roles that may write an entry (R455, R457, R479). Roles: 0 CLAIM, 1 OBSERVER, 2 OPERATOR, 3 KEYHOLDER, 4 SERVICE. -/
def mayWrite (role index sub : Nat) : Bool :=
  let cred := index == 0x1100 && decide (0x0A ≤ sub ∧ sub ≤ 0x0C)
  let fw := index == 0x4100 && (sub == 0x09 || sub == 0x0A)
  let cursor := index == 0x1600 && sub == 0x04
  match role with
  | 0 => cred && sub != 0x0C
  | 1 => cursor
  | 2 => !cred && !fw
  | 3 => !fw
  | _ => fw || cursor || (index == 0x1400 && sub == 0x15)

/-- A READ item (R541): 0 or the code of the first failing check. -/
def readCheck (role : Nat) (i : YItem) : Nat :=
  match entryDef i.index i.sub with
  | .error c => c
  | .ok e =>
    if e.access = .wo then 0x01010004
    else if !mayRead role then 0x01010007
    else if i.type ≠ e.type ∨ (e.segmented = false ∧ (i.len ≠ e.len ∨ i.off ≠ 0)) then 0x01010003
    else if i.index = 0x1600 ∧ i.sub = 0x05 ∧ (i.off ≠ 0 ∨ i.len ≠ 1024) then 0x01010005
    else if e.segmented ∧ e.len < i.off + i.len then 0x01010005
    else 0

/-- Reserved bits of an entry's value (R10). -/
def reservedSet (index sub : Nat) (v : Bytes) : Bool :=
  match index, sub with
  | 0x1200, 0x01 => decide (0x1000 ≤ beNat v)
  | 0x1100, 0x0A => decide (64 ≤ beNat v)
  | 0x1300, 0x0F => decide (2 ^ 24 ≤ beNat v)
  | 0x4000, 0x09 => decide (64 ≤ beNat v)
  | 0x3100, 0x01 => !zeroAt v 1 3
  | 0x4000, 0x08 => !zeroAt v 4 4
  | 0x4100, 0x09 => !zeroAt v 1 3
  | _, _ => false

/-- Ranges whose code is 0x0101_0005, and those of 0x2000 whose code is 0x0120_0011, and MODULE_RESET's (R277, R397). -/
def rangeCheck (s : State) (index sub : Nat) (v : Bytes) : Nat :=
  let n := beNat v
  let within := fun (a b : Nat) => if decide (a ≤ n ∧ n ≤ b) then 0 else 0x01010005
  let signedIn := fun (w : Nat) (a b : Int) => if decide (a ≤ signedOf w n ∧ signedOf w n ≤ b) then 0 else 0x01010005
  match index, sub with
  | 0x1100, 0x06 => within 1 128
  | 0x1100, 0x07 => within 1 32
  | 0x1100, 0x0A => if decide (1 ≤ n / 8 % 8 ∧ n / 8 % 8 ≤ 4) then 0 else 0x01010005
  | 0x1100, 0x0C => within 0 7
  | 0x1100, 0x0F => within 30 3600
  | 0x1200, 0x02 => if n = 10 ∨ n = 25 then 0 else 0x01010005
  | 0x1200, 0x03 => signedIn 32 (-100000) 100000
  | 0x1200, 0x04 => within 0 127
  | 0x1200, 0x05 => within 1 3
  | 0x1200, 0x06 => signedIn 16 (-7) 0
  | 0x1200, 0x07 => within 0 1
  | 0x1200, 0x10 => within 0 1
  | 0x1300, 0x09 => within 0 1
  | 0x1300, 0x0A => within 0 3
  | 0x1300, 0x11 => within 0 3
  | 0x1400, 0x15 => if n = 0xA5 then 0 else 0x01020010
  | 0x1600, 0x04 => within 1 (s.recorder.lastSeq + 1)
  | 0x1600, 0x0B => within 1 s.recorder.lastSeq
  | 0x1600, 0x0C => within 0 1
  | 0x2000, 0x0D => if n ≤ 63 then 0 else 0x01200011
  | 0x2000, 0x0E => if n ≤ 63 then 0 else 0x01200011
  | 0x2100, 0x01 => within 4 10000
  | 0x2100, 0x02 => within 2 16
  | 0x2100, 0x03 => within 500 50000
  | 0x2100, 0x04 => within 8 255
  | 0x2100, 0x05 => within 1 64
  | 0x2100, 0x06 => within 100 1000000
  | 0x3100, 0x02 => within 0 15
  | 0x4000, 0x0A => within 0 15
  | 0x4000, 0x0C => within 0x5A 0x5A
  | 0x4100, 0x06 => within 2 5
  | 0x4100, 0x0A => within 1 2
  | 0x5000, 0x07 => within 0 1
  | 0x5000, 0x08 => within 1 1
  | 0x5000, 0x0D => if n = 0 then 0 else within 60 86400
  | i, sub =>
    if i / 16 ≠ 0x300 then 0
    else match sub with
    | 0x02 => within 1 2
    | 0x03 => within 0 1
    | 0x04 => 0
    | sub =>
      if sub ≤ 0x06 then within 0 96000
      else if sub ≤ 0x0A then within 0 6160384
      else if sub ≤ 0x0C then within 0 1792
      else if sub ≤ 0x0E then within 0 2048
      else if sub ≤ 0x10 then within 0 32768
      else within 0 32

/-- A command entry whose value is a segment of at most its length (R383, R456, R466). -/
def segmentEntry (index sub : Nat) : Bool :=
  (index == 0x1100 && sub == 0x0B) || (index == 0x3100 && sub == 0x01) || (index == 0x4100 && sub == 0x09)

/-- Checks 1 to 7 of a WRITE item: 0 or the code of the first that fails (R541). A command of fixed length takes its
whole value; an address or mask may be written in parts. -/
def State.writeCheck (s : State) (role : Nat) (i : YItem) : Nat :=
  match entryDef i.index i.sub with
  | .error c => c
  | .ok e =>
    let parts := e.type == tyOct && e.access != .wo
    if e.access = .ro then 0x01010004
    else if !mayWrite role i.index i.sub then 0x01010007
    else if i.type ≠ e.type ∨ i.len ≠ i.value.length ∨
        (parts = false ∧ segmentEntry i.index i.sub = false ∧ i.len ≠ e.len) ∨ (e.type ≠ tyOct ∧ i.off ≠ 0) then 0x01010003
    else if reservedSet i.index i.sub i.value then 0x01010006
    else if (parts = true ∨ segmentEntry i.index i.sub = false) ∧ e.len < i.off + i.len then 0x01010005
    else if segmentEntry i.index i.sub = true ∧ (i.off ≠ 0 ∨ e.len < i.len) then
      (if i.index = 0x4100 then 0x01010005 else 0x01010014)
    else rangeCheck s i.index i.sub i.value

end Sys2Proof.Machine
end

