-- ==== Sys2Proof/Machine/Writes.lean ====
section
/-!
DEFINITION. Machine/Writes.lean: what an accepted write of each dictionary entry does (R455 to R481), dual control (R364,
R463), and the decision of a WRITE's items (R459, R541).
-/
namespace Sys2Proof.Machine

-- Sessions

def State.session? (s : State) (n : Nat) : Option Session := s.mgmt.sessions.getD n none
def State.updSession (s : State) (n : Nat) (f : Session → Session) : State :=
  { s with mgmt := { s.mgmt with sessions := updAt s.mgmt.sessions n fun x => x.map f } }
def State.updMgmt (s : State) (f : Mgmt → Mgmt) : State := { s with mgmt := f s.mgmt }

/-- Enrolled KEYHOLDERs (R456). -/
def State.keyholders (s : State) : Nat :=
  (s.nv.creds.filter fun c => (c.map fun x => x.role == 3).getD false).length

def State.credential? (s : State) (slot : Nat) : Option Credential := s.nv.creds.getD slot none

/-- The credential table is empty (R457). -/
def State.credsEmpty (s : State) : Bool := s.nv.creds.all Option.isNone

/-- Requests that need the plan master cannot reach it from the DTLS service on H0 (R435, R452). -/
def State.masterAway (s : State) : Bool := s.inHold || s.leaderAway 0

-- Credentials (R456, R457)

/-- A segment is put into a stage area: the first is at 0, and each later one at or beyond the end of what stands there; a
gap is not written by any segment. -/
def stageSegment (area : Bytes) (off : Nat) (data : Bytes) (limit : Nat) : Option Bytes :=
  if limit < off + data.length then none
  else if off = 0 then some data
  else if area.isEmpty ∨ off < area.length then none
  else some (area ++ List.replicate (off - area.length) Config.unstagedByte ++ data)

/-- CRED_STAGE: OFFSET and up to 1,024 bytes. -/
def State.writeCredStage (s : State) (v : Bytes) : Nat × State :=
  if v.length < 2 ∨ 1026 < v.length then (0x01010014, s)
  else match stageSegment s.mgmt.credStage (beAt v 0 2) (v.drop 2) 2032 with
  | none => (0x01010014, s)
  | some a => (0, s.updMgmt fun m => { m with credStage := a })

/-- A non-volatile update that a request asks for (R363); if it fails, its code is recorded. -/
def State.credUpdate (s : State) (f : List (Option Credential) → List (Option Credential)) (done : State → State) :
    Nat × State :=
  match s.nvUpdate fun r => { r with creds := f r.creds } with
  | none => (s.nvFailure, s.record s.nvFailure (srcHoist 0) none [])
  | some t => (0, done (t.record 0x05010015 (srcHoist 0) none []))

/-- CRED_ENROL: slot in bits 2 to 0, role in bits 5 to 3. A CLAIM session enrols its own certificate as KEYHOLDER and takes
that role. -/
def State.writeCredEnrol (s : State) (n role v : Nat) : Nat × State :=
  let slot := v % 8
  let as_ := v / 8 % 8
  let cert := s.mgmt.credStage
  let own := match s.session? n with
    | some x => x.cert == cert
    | none => false
  if role = 0 ∧ !(s.credsEmpty && as_ == 3 && own) then (0x01010007, s)
  else if (s.credential? slot).isSome || !Config.certValid cert ||
      s.nv.creds.any (fun c => (c.map fun x => x.cert == cert).getD false) then (0x01010012, s)
  else s.credUpdate (fun l => updAt l slot fun _ => some ⟨as_, cert, s.ms⟩) fun t =>
    if role = 0 then t.updSession n fun x => { x with slot := some slot, role := 3 } else t

/-- The pending requests of a credential are discarded (R468). -/
def State.dropRequests (s : State) (slot : Nat) : State :=
  let gone := s.mgmt.approvals.filter fun a => a.initiator == slot
  let s := s.updMgmt fun m => { m with approvals := m.approvals.filter fun a => a.initiator != slot }
  gone.foldl (fun s _ => s.record 0x05010011 (srcHoist 0) none []) s

/-- CRED_REMOVE: not when a single KEYHOLDER would be left; the credential's sessions close. -/
def State.writeCredRemove (s : State) (slot : Nat) : Nat × State :=
  match s.credential? slot with
  | none => (0x01010012, s)
  | some c =>
    if c.role = 3 ∧ s.keyholders = 2 then (0x01010012, s)
    else s.credUpdate (fun l => updAt l slot fun _ => none) fun t =>
      (t.closeSessions fun x => x.slot == some slot).dropRequests slot

-- Policies (R466)

/-- POLICY_STAGE: context, three reserved bytes, offset, and up to 1,024 bytes. -/
def State.writePolicyStage (s : State) (v : Bytes) : Nat × State :=
  let c := beAt v 0 1
  if v.length < 8 ∨ 1032 < v.length ∨ 15 < c then (0x01010014, s)
  else match stageSegment (s.mgmt.policyStage.getD c []) (beAt v 4 4) (v.drop 8) 65536 with
  | none => (0x01010014, s)
  | some a => (0, s.updMgmt fun m => { m with policyStage := updAt m.policyStage c fun _ => a })

/-- K_min in force for a context; 1,000 with no policy (R466). -/
def State.kminInForce (s : State) (c : Nat) : Nat := ((s.policy c).map Policy.kmin).getD 1000

/-- POLICY_COMMIT. -/
def State.writePolicyCommit (s : State) (c : Nat) : Nat × State :=
  let stage := s.mgmt.policyStage.getD c []
  if s.masterAway then (0x01500011, s)
  else if !policyOk stage then (0x01140040, s.record 0x01140040 (srcHoist 0) (some c) [])
  else
    let b := policyObject stage
    let p := Policy.mk b (sha384 b) (policyKmin b)
    (0, s.persist fun x => { x with policies := updAt x.policies c fun _ => some p })

-- Other entries

/-- A management address entry: the port uses it 1 s later (R451). -/
def State.writeMgmtAddress (s : State) (f : MgmtSettings → MgmtSettings) : Nat × State :=
  let s := s.persist fun p => { p with mgmt := f p.mgmt }
  (0, s.updMgmt fun m => { m with addrEffects := m.addrEffects ++ [(s.aon + tickS, s.set.mgmt)] })

/-- An operator's MODULE_RESET (R397): both recorder buffers are flushed; t0 comes 123 ms later (R389). -/
def State.operatorReset (s : State) : State :=
  let s := s.record 0x05020009 srcBurgee none []
  let s := (s.flushNow .h0).flushNow .h1
  s.restart 2 0x10 0 false 1 (s.aon + 123 * tickMs)

/-- Every context is FREE. -/
def State.allFree (s : State) : Bool := s.set.ctx.all fun e => e.state == .free

/-- MODULE_RESET: with every context FREE one write in role SERVICE suffices, else two approvals (R397). -/
def State.writeModuleReset (s : State) (role : Nat) (approved : Bool) : Nat × State :=
  if approved || (s.allFree && role == 4) then (0, s.operatorReset) else (0x01010007, s)

/-- ALERT_ACK (R480). -/
def State.writeAlertAck (s : State) (v : Nat) : Nat × State :=
  (0, { s with recorder := { s.recorder with acked := max s.recorder.acked v } })

/-- COMMAND of a context (R322, R334). -/
def State.writeCommand (s : State) (c v : Nat) : Nat × State :=
  if v = 2 then
    let (code, t) := s.requestTeardown c
    (code, if code = 0 then t.claimRaised else t)
  else if !s.inHold && s.masterAway then (0x01500011, s)
  else s.createContext c

/-- HANDOVER (R432); a leader behind a broken H0–H1 link is not reached (R452). -/
def State.writeHandoverEntry (s : State) : Nat × State :=
  if !s.inHold && !s.noLeader && s.masterAway then (0x01500011, s) else s.writeHandover

def State.setSettings (s : State) (f : Settings → Settings) : Nat × State := (0, s.persist f)

/-- A write of an entry that passed checks 1 to 7 of R541: `n` the session, `role` its role, `approved` whether two
approvals stand behind it, `v` the whole value. -/
def State.writeEffect (s : State) (n role : Nat) (approved : Bool) (index sub : Nat) (v : Bytes) : Nat × State :=
  let k := beNat v
  let mgmt := s.writeMgmtAddress
  let port := fun (f : PortSettings → PortSettings) => s.setSettings fun p => { p with ports := f p.ports }
  match index, sub with
  | 0x1100, 0x02 => mgmt fun m => { m with addr6 := v }
  | 0x1100, 0x03 => mgmt fun m => { m with addr4 := k }
  | 0x1100, 0x04 => mgmt fun m => { m with gw6 := v }
  | 0x1100, 0x05 => mgmt fun m => { m with gw4 := k }
  | 0x1100, 0x06 => mgmt fun m => { m with prefix6 := k }
  | 0x1100, 0x07 => mgmt fun m => { m with prefix4 := k }
  | 0x1100, 0x0A => s.writeCredEnrol n role k
  | 0x1100, 0x0B => s.writeCredStage v
  | 0x1100, 0x0C => s.writeCredRemove k
  | 0x1100, _ => s.setSettings fun p => { p with mgmt := { p.mgmt with sessionIdle := k } }
  | 0x1200, 0x01 => s.writeRefPriority k
  | 0x1200, 0x07 => s.writeFreeRun k
  | 0x1200, 0x0F => s.writeAlign v
  | 0x1200, 0x10 => s.setSettings fun p => { p with halyardOut := k != 0 }
  | 0x1200, sub => s.writeHalSetting sub k
  | 0x1300, 0x02 => s.writeLevel v
  | 0x1300, 0x09 => (0, s.updPower fun p => { p with inhibit := k != 0 })
  | 0x1300, 0x0A => s.writeFurl k
  | 0x1300, 0x0C => (0, s.updPower fun p => { p with wakeAt := k })
  | 0x1300, 0x0F => (0x01020026, s)
  | 0x1300, 0x11 => s.writePowerClass k
  | 0x1300, sub => s.writeIdleTimer (sub - 3) k
  | 0x1400, _ => s.writeModuleReset role approved
  | 0x1600, 0x04 => (0, s.updSession n fun x => { x with cursor := k })
  | 0x1600, 0x0B => s.writeAlertAck k
  | 0x1600, _ => s.setSettings fun p => { p with traceEnable := k != 0 }
  | 0x2000, 0x01 => s.writePortEnable k
  | 0x2000, 0x02 => s.writePortMode k
  | 0x2000, 0x04 => s.writeUdpPort k
  | 0x2000, 0x05 => s.writeAddress 0 (unicast6 v) fun p => { p with addr6 := (v, p.addr6.2) }
  | 0x2000, 0x06 => s.writeAddress 1 (unicast6 v) fun p => { p with addr6 := (p.addr6.1, v) }
  | 0x2000, 0x07 => s.writeAddress 0 (unicast4 k) fun p => { p with addr4 := (k, p.addr4.2) }
  | 0x2000, 0x08 => s.writeAddress 1 (unicast4 k) fun p => { p with addr4 := (p.addr4.1, k) }
  | 0x2000, 0x09 => s.writeAddress 0 (unicast6 v) fun p => { p with gw6 := (v, p.gw6.2) }
  | 0x2000, 0x0A => s.writeAddress 1 (unicast6 v) fun p => { p with gw6 := (p.gw6.1, v) }
  | 0x2000, 0x0B => s.writeAddress 0 (unicast4 k) fun p => { p with gw4 := (k, p.gw4.2) }
  | 0x2000, 0x0C => s.writeAddress 1 (unicast4 k) fun p => { p with gw4 := (p.gw4.1, k) }
  | 0x2000, 0x0D => port fun p => { p with dscpData := k }
  | 0x2000, _ => port fun p => { p with dscpCtrl := k }
  | 0x2100, 0x01 => port fun p => { p with rtoUs := k }
  | 0x2100, 0x02 => port fun p => { p with retxLimit := k }
  | 0x2100, 0x03 => port fun p => { p with ackDelayNs := k }
  | 0x2100, 0x04 => port fun p => { p with ackPackets := k }
  | 0x2100, 0x05 => port fun p => { p with pathLossLimit := k }
  | 0x2100, _ => port fun p => { p with pathHoldUs := k }
  | 0x2200, sub => s.writeDmaMap sub k
  | 0x3100, 0x01 => s.writePolicyStage v
  | 0x3100, _ => s.writePolicyCommit k
  | 0x4000, 0x08 => if s.masterAway then (0x01500011, s) else s.importGrixo v
  | 0x4000, 0x09 => if s.masterAway then (0x01500011, s) else s.destroyGrixo k
  | 0x4000, 0x0A => if s.masterAway then (0x01500011, s) else s.rotateMemory k
  | 0x4000, _ => (0, s.zeroiseAll 4)
  | 0x4100, 0x06 => s.requestLifecycle k
  | 0x4100, 0x09 => s.writeFw v
  | 0x4100, _ => s.commitFw k
  | 0x5000, 0x07 => s.setSettings fun p => { p with leaderPreference := k }
  | 0x5000, 0x08 => s.writeHandoverEntry
  | 0x5000, _ => s.setSettings fun p => { p with holdLimit := k }
  | i, 0x02 => s.writeCommand (i % 16) k
  | i, 0x04 => s.writeResource (i % 16) 0x04 (leNat v)
  | i, sub => s.writeResource (i % 16) sub k

/-- A write that needs two approvals (R334, R364, R397, R456, R463, R466). -/
def State.isDual (s : State) (index sub : Nat) (v : Bytes) : Bool :=
  let k := beNat v
  match index, sub with
  | 0x1100, 0x0A => k / 8 % 8 == 3 && decide (2 ≤ s.keyholders)
  | 0x1100, 0x0C => ((s.credential? k).map fun c => c.role == 3).getD false && decide (2 ≤ s.keyholders)
  | 0x1400, 0x15 => !s.allFree
  | 0x3100, 0x02 =>
    let stage := s.mgmt.policyStage.getD k []
    policyOk stage && policyKmin (policyObject stage) != s.kminInForce k
  | 0x4000, 0x09 => true
  | 0x4000, 0x0A => true
  | 0x4000, 0x0C => true
  | 0x4100, 0x06 => true
  | i, 0x02 => i / 16 == 0x300 && k == 2
  | _, _ => false

/-- The whole value that an item leaves in its entry: a part of an address or mask is put into what stands there. -/
def State.wholeValue (s : State) (i : YItem) : Bytes :=
  match entryDef i.index i.sub with
  | .ok e =>
    if e.type = tyOct ∧ e.access ≠ .wo then
      let old := padTo e.len (s.entryValue 1 i.index i.sub)
      old.take i.off ++ i.value ++ old.drop (i.off + i.value.length)
    else i.value
  | .error _ => i.value

def State.itemEffect (s : State) (n role : Nat) (approved : Bool) (i : YItem) : Nat × State :=
  s.writeEffect n role approved i.index i.sub (s.wholeValue i)

/-- What a WRITE comes to: STATUS, the failing item or 0xFF, the response's body, and the state. -/
structure Decision where
  status : Nat
  item : Nat
  body : Bytes
  state : State

/-- Codes of class REJECT that are recorded (R505). -/
def recordedRejects : List Nat := [0x01140040, 0x01400010, 0x01400020, 0x01410011, 0x04400022]

/-- Items are applied together: if one is rejected, none acts (R459). `s0` is the state before the first. -/
def applyItems (n role : Nat) (s0 : State) : Nat → List YItem → State → Decision
  | _, [], s => ⟨0, 0xFF, [], s⟩
  | k, i :: r, s =>
    let (c, t) := s.itemEffect n role false i
    if c = 0 then applyItems n role s0 (k + 1) r t
    else ⟨c, k, [], if k = 0 then t
      else if recordedRejects.contains c then s0.record c (srcHoist 0) none [] else s0⟩

/-- The first item that fails checks 1 to 7, with its code. -/
def State.firstFailing (s : State) (role : Nat) (items : List YItem) : Option (Nat × Nat) :=
  (items.zipIdx.map fun (i, k) => (s.writeCheck role i, k)).find? fun x => x.1 != 0

/-- A dual-controlled write waits for its approvals (R463). What programming the flash would come to is not known yet. -/
def State.initiate (s : State) (x : Session) (i : YItem) : Decision :=
  let (c, t) := s.itemEffect 8 x.role true i
  if c ≠ 0 ∧ c ≠ 0x04400022 then ⟨c, 0, [], t⟩
  else if 8 ≤ s.mgmt.approvals.length then ⟨0x0101000E, 0, [], s⟩
  else
    let id := s.mgmt.nextApproval
    let slot := x.slot.getD 0xFF
    let a : Approval :=
      { id := id, initiator := slot, approvedBy := if x.role = 3 then [slot] else [], deadline := s.aon + 60 * tickS
        digest := sha384 i.bytes, index := i.index, sub := i.sub, value := i.value }
    let s := s.updMgmt fun m => { m with approvals := m.approvals ++ [a], nextApproval := (id + 1) % 2 ^ 32 }
    ⟨0x05010010, 0xFF, beBytes 4 id ++ a.digest, s.record 0x05010010 (srcHoist 0) none []⟩

/-- The decision of a WRITE of some items in a session (R459, R463, R541). -/
def State.decideWrite (s : State) (n : Nat) (x : Session) (items : List YItem) : Decision :=
  match s.firstFailing x.role items with
  | some (c, k) => ⟨c, k, [], s⟩
  | none =>
    let duals := items.zipIdx.filter fun (i, _) => s.isDual i.index i.sub i.value
    match duals with
    | [] => applyItems n x.role s 0 items s
    | (i, k) :: _ => if 1 < items.length then ⟨0x0101000A, k, [], s⟩ else s.initiate x i

/-- The item that writes a whole value to an entry. -/
def wholeItem (index sub : Nat) (v : Bytes) : YItem :=
  ⟨index, sub, match entryDef index sub with
    | .ok e => e.type
    | .error _ => 0, 0, v.length, v⟩

/-- A message of a session arrived. -/
def State.touch (s : State) (n : Nat) : State := s.updSession n fun x => { x with lastMsg := s.aon }

/-- A session writes one entry: a WRITE of one item, answered with its STATUS; at most the body of a message (R458). -/
def State.rowWrite (s : State) (n index sub : Nat) (v : Bytes) : State :=
  match s.session? n with
  | none => s
  | some x =>
    if !s.mgmt.dtls then s
    else
      let s := s.touch n
      if 1176 < v.length then s.emit (.entryReply n index sub 0x01010009)
      else
        let d := s.decideWrite n x [wholeItem index sub v]
        (d.state.emit (.entryReply n index sub d.status)).trackIdle

-- The rows

/-- ALLOW_FREE_RUN_WRITE (R71). -/
def execAllowFreeRunWrite (session : Nat) (value : Bytes) (s : State) : Host.Outcome State Fault Refusal :=
  .next (s.rowWrite session 0x1200 0x07 value)
/-- REF_PRIORITY_WRITE (R70). -/
def execRefPriorityWrite (session : Nat) (value : Bytes) (s : State) : Host.Outcome State Fault Refusal :=
  .next (s.rowWrite session 0x1200 0x01 value)
/-- HALYARD_SETTING_WRITE (R84). -/
def execHalyardSettingWrite (session sub : Nat) (value : Bytes) (s : State) : Host.Outcome State Fault Refusal :=
  .next (if 2 ≤ sub ∧ sub ≤ 6 then s.rowWrite session 0x1200 sub value else s)
/-- ALIGN (R75). -/
def execAlign (session : Nat) (value : Bytes) (s : State) : Host.Outcome State Fault Refusal :=
  .next (s.rowWrite session 0x1200 0x0F value)
/-- LEVEL_REQUEST (R76, R406). -/
def execLevelRequest (session : Nat) (value : Bytes) (s : State) : Host.Outcome State Fault Refusal :=
  .next (s.rowWrite session 0x1300 0x02 value)
/-- DMA_SLOT_MAP_WRITE (R320). -/
def execDmaSlotMapWrite (session endpoint : Nat) (value : Bytes) (s : State) : Host.Outcome State Fault Refusal :=
  .next (if endpoint ≤ 1 then s.rowWrite session 0x2200 (3 + endpoint) value else s)
/-- PORT_ENABLE_WRITE (R259). -/
def execPortEnableWrite (session : Nat) (value : Bytes) (s : State) : Host.Outcome State Fault Refusal :=
  .next (s.rowWrite session 0x2000 0x01 value)
/-- PORT_MODE_WRITE (R259, R277). -/
def execPortModeWrite (session : Nat) (value : Bytes) (s : State) : Host.Outcome State Fault Refusal :=
  .next (s.rowWrite session 0x2000 0x02 value)
/-- CTX_CREATE: any value of COMMAND but 2 (R322). -/
def execCtxCreate (session ctx : Nat) (value : Bytes) (s : State) : Host.Outcome State Fault Refusal :=
  .next (if ctx < 16 ∧ value ≠ [2] then s.rowWrite session (0x3000 + ctx) 0x02 value else s)
/-- CTX_TEARDOWN: any value of COMMAND but 1 (R334). -/
def execCtxTeardown (session ctx : Nat) (value : Bytes) (s : State) : Host.Outcome State Fault Refusal :=
  .next (if ctx < 16 ∧ value ≠ [1] then s.rowWrite session (0x3000 + ctx) 0x02 value else s)
/-- KEY_IMPORT (R353). -/
def execKeyImport (session : Nat) (value : Bytes) (s : State) : Host.Outcome State Fault Refusal :=
  .next (s.rowWrite session 0x4000 0x08 value)
/-- KEY_DESTROY (R355, R360). -/
def execKeyDestroy (session : Nat) (value : Bytes) (s : State) : Host.Outcome State Fault Refusal :=
  .next (s.rowWrite session 0x4000 0x09 value)
/-- MEM_ROTATE (R358). -/
def execMemRotate (session : Nat) (value : Bytes) (s : State) : Host.Outcome State Fault Refusal :=
  .next (s.rowWrite session 0x4000 0x0A value)
/-- ZEROISE (R361). -/
def execZeroise (session : Nat) (value : Bytes) (s : State) : Host.Outcome State Fault Refusal :=
  .next (s.rowWrite session 0x4000 0x0C value)
/-- FW_WRITE (R383). -/
def execFwWrite (session : Nat) (value : Bytes) (s : State) : Host.Outcome State Fault Refusal :=
  .next (s.rowWrite session 0x4100 0x09 value)
/-- FW_COMMIT (R383). -/
def execFwCommit (session : Nat) (value : Bytes) (s : State) : Host.Outcome State Fault Refusal :=
  .next (s.rowWrite session 0x4100 0x0A value)
/-- LIFECYCLE_REQUEST (R379, R380). -/
def execLifecycleRequest (session : Nat) (value : Bytes) (s : State) : Host.Outcome State Fault Refusal :=
  .next (s.rowWrite session 0x4100 0x06 value)
/-- MODULE_RESET (R397). -/
def execModuleReset (session : Nat) (value : Bytes) (s : State) : Host.Outcome State Fault Refusal :=
  .next (s.rowWrite session 0x1400 0x15 value)
/-- PAD_RELEASE: a Yunov write of a session is rejected; CP firmware, named by a session number of 8 or more, releases pads
(R390, R424). -/
def execPadRelease (session : Nat) (value : Bytes) (s : State) : Host.Outcome State Fault Refusal :=
  .next (if session < 8 then s.rowWrite session 0x1300 0x0F value
    else if s.cpRuns 0 || s.cpRuns 1 then (s.releasePads (beNat value)).2 else s)
/-- FURL_ENTER_COMMAND: any value of FURL_COMMAND but 0 (R414). -/
def execFurlEnterCommand (session : Nat) (value : Bytes) (s : State) : Host.Outcome State Fault Refusal :=
  .next (if value = [0] then s else s.rowWrite session 0x1300 0x0A value)
/-- FURL_WAKE_REQUEST: the value 0 of FURL_COMMAND (R414, R421). -/
def execFurlWakeRequest (session : Nat) (value : Bytes) (s : State) : Host.Outcome State Fault Refusal :=
  .next (if value = [0] then s.rowWrite session 0x1300 0x0A value else s)
/-- HANDOVER (R432). -/
def execHandover (session : Nat) (value : Bytes) (s : State) : Host.Outcome State Fault Refusal :=
  .next (s.rowWrite session 0x5000 0x08 value)
/-- CRED_STAGE (R456). -/
def execCredStage (session : Nat) (value : Bytes) (s : State) : Host.Outcome State Fault Refusal :=
  .next (s.rowWrite session 0x1100 0x0B value)
/-- CRED_ENROL (R456, R457). -/
def execCredEnrol (session : Nat) (value : Bytes) (s : State) : Host.Outcome State Fault Refusal :=
  .next (s.rowWrite session 0x1100 0x0A value)
/-- CRED_REMOVE (R456). -/
def execCredRemove (session : Nat) (value : Bytes) (s : State) : Host.Outcome State Fault Refusal :=
  .next (s.rowWrite session 0x1100 0x0C value)
/-- POLICY_STAGE (R466). -/
def execPolicyStage (session : Nat) (value : Bytes) (s : State) : Host.Outcome State Fault Refusal :=
  .next (s.rowWrite session 0x3100 0x01 value)
/-- POLICY_COMMIT (R466). -/
def execPolicyCommit (session : Nat) (value : Bytes) (s : State) : Host.Outcome State Fault Refusal :=
  .next (s.rowWrite session 0x3100 0x02 value)
/-- ALERT_ACK (R480). -/
def execAlertAck (session : Nat) (value : Bytes) (s : State) : Host.Outcome State Fault Refusal :=
  .next (s.rowWrite session 0x1600 0x0B value)
/-- SESSION_CURSOR_WRITE (R479). -/
def execSessionCursorWrite (session : Nat) (value : Bytes) (s : State) : Host.Outcome State Fault Refusal :=
  .next (s.rowWrite session 0x1600 0x04 value)
/-- DICTIONARY_WRITE: a write of any entry (R461). -/
def execDictionaryWrite (session index sub : Nat) (value : Bytes) (s : State) : Host.Outcome State Fault Refusal :=
  .next (s.rowWrite session index sub value)

end Sys2Proof.Machine
end

