-- ==== Sys2Proof/Machine/Management.lean ====
section
/-!
DEFINITION. Machine/Management.lean: DTLS sessions, Yunov messages, approvals, subscriptions, the clear service and the
SMBus sideband (R451 to R468, R479, R500).
-/
namespace Sys2Proof.Machine

-- Messages (R458)

/-- The header's fields and the body. -/
structure YMsg where
  type : Nat
  count : Nat
  reqId : Nat
  body : Bytes
  wellFormed : Bool
  deriving DecidableEq, Repr

def readMsg (b : Bytes) : YMsg :=
  { type := beAt b 1 1, count := beAt b 3 1, reqId := beAt b 4 4, body := b.drop 16
    wellFormed := decide (16 ≤ b.length ∧ b.length ≤ 1200) && beAt b 0 1 == 1 && beAt b 2 1 == 0 && beAt b 15 1 == 0 &&
      decide (beAt b 3 1 ≤ 64 ∧ 1 ≤ beAt b 1 1 ∧ beAt b 1 1 ≤ 10) && beAt b 8 4 == 0 &&
      beAt b 12 2 == b.length - 16 }

/-- A message of a type: VERSION, TYPE, COUNT, REQ_ID, STATUS, LENGTH and ITEM, then the body. -/
def makeMsg (type count reqId status item : Nat) (body : Bytes) : Bytes :=
  beBytes 1 1 ++ beBytes 1 type ++ zeros 1 ++ beBytes 1 count ++ beBytes 4 reqId ++ beBytes 4 status ++
  beBytes 2 body.length ++ beBytes 1 item ++ zeros 1 ++ body

/-- The items of a body, `n` of them and nothing after them; items of READ type carry no value. -/
def parseItems (values : Bool) : Nat → Bytes → Option (List YItem)
  | 0, b => if b.isEmpty then some [] else none
  | n + 1, b =>
    let len := beAt b 6 2
    let vlen := if values then len else 0
    if b.length < 8 + vlen ∨ (values = false ∧ 1024 < len) then none
    else (parseItems values n (b.drop (8 + vlen))).map fun r =>
      ⟨beAt b 0 2, beAt b 2 1, beAt b 3 1, beAt b 4 2, len, slice b 8 vlen⟩ :: r

/-- An answer: STATUS, the failing item, COUNT and body of the response, and the state. -/
structure YAnswer where
  status : Nat
  item : Nat
  count : Nat
  body : Bytes
  state : State

def State.turnDown (s : State) (code item : Nat) : YAnswer := ⟨code, item, 0, [], s⟩

/-- Keep a response for repeats: the last 64 of a session, for 10 s (R459). -/
def State.keep (s : State) (n reqId : Nat) (r : Bytes) : State :=
  s.updSession n fun x =>
    let l := (x.kept.filter fun k => decide (s.aon ≤ k.2.1 + 10 * tickS)) ++ [(reqId, s.aon, r)]
    { x with kept := l.drop (l.length - 64) }

def Session.keptFor (x : Session) (now reqId : Nat) : Option Bytes :=
  (x.kept.find? fun k => k.1 == reqId && decide (now ≤ k.2.1 + 10 * tickS)).map fun k => k.2.2

/-- A message of a type in a session: a repeat is answered with the kept response; else it is decided (R459). Another
type among the requests is another command's. -/
def State.message (s : State) (n type now : Nat) (b : Bytes) (decide_ : State → Session → YMsg → YAnswer) : State :=
  let s := s.at now
  let m := readMsg b
  match s.session? n with
  | none => s
  | some x =>
    if !s.mgmt.dtls ∨ (m.type ≠ type ∧ 1 ≤ m.type ∧ m.type ≤ 5) then s
    else
      let s := s.touch n
      match x.keptFor s.aon m.reqId with
      | some r => s.emit (.yunov n r)
      | none =>
        let a := if !m.wellFormed || m.type != type then s.turnDown 0x01010009 0xFF else decide_ s x m
        let r := makeMsg 6 a.count m.reqId a.status a.item a.body
        ((a.state.keep n m.reqId r).emit (.yunov n r)).trackIdle

-- READ (R460, R473, R479)

/-- The bytes that a READ item returns. -/
def State.readValue (s : State) (cursor : Nat) (i : YItem) : Bytes :=
  let v := s.entryValue cursor i.index i.sub
  match entryDef i.index i.sub with
  | .ok e => slice (if e.type = tyOct then padTo e.len v else v) i.off i.len
  | .error _ => []

/-- A response item. -/
def State.readItem (s : State) (cursor : Nat) (i : YItem) : Bytes :=
  let v := s.readValue cursor i
  { i with len := v.length, value := v }.bytes

/-- A read of RECORDS moves the cursor past the last record returned (R479). -/
def State.advanceCursor (s : State) (n : Nat) : State :=
  match s.session? n with
  | none => s
  | some x => match (s.recordsFrom x.cursor).getLast? with
    | none => s
    | some r => s.updSession n fun x => { x with cursor := r.seq + 1 }

/-- The first item that fails its checks, and its code. -/
def firstFailingRead (check : YItem → Nat) (items : List YItem) : Option (Nat × Nat) :=
  (items.zipIdx.map fun (i, k) => (check i, k)).find? fun x => x.1 != 0

def State.decideRead (s : State) (n : Nat) (x : Session) (m : YMsg) : YAnswer :=
  match parseItems false m.count m.body with
  | none => s.turnDown 0x01010009 0xFF
  | some items => match firstFailingRead (readCheck x.role) items with
    | some (c, k) => s.turnDown c k
    | none =>
      let body := items.flatMap (s.readItem x.cursor)
      if 1184 < body.length then s.turnDown 0x01010010 0xFF
      else
        let records := items.any fun i => i.index == 0x1600 && i.sub == 0x05
        ⟨0, 0xFF, items.length, body, if records then s.advanceCursor n else s⟩

/-- YUNOV_READ. -/
def execYunovRead (session : Nat) (message : Bytes) (now : Nat) (s : State) : Host.Outcome State Fault Refusal :=
  .next (s.message session 1 now message fun s x m => s.decideRead session x m)

/-- RECORDS_READ: a session reads RECORDS (R479). -/
def execRecordsRead (session : Nat) (s : State) : Host.Outcome State Fault Refusal :=
  match s.session? session with
  | none => .next s
  | some x =>
    if !s.mgmt.dtls then .next s
    else
      let s := s.touch session
      if !mayRead x.role then .next (s.emit (.entryReply session 0x1600 0x05 0x01010007))
      else .next ((s.emit (.entryRead session 0x1600 0x05 (s.entryValue x.cursor 0x1600 0x05))).advanceCursor session)

-- WRITE and APPROVE (R459, R463)

def State.decideWriteMsg (s : State) (n : Nat) (x : Session) (m : YMsg) : YAnswer :=
  match parseItems true m.count m.body with
  | none => s.turnDown 0x01010009 0xFF
  | some items =>
    let d := s.decideWrite n x items
    ⟨d.status, d.item, 0, d.body, d.state⟩

/-- YUNOV_WRITE. -/
def execYunovWrite (session : Nat) (message : Bytes) (now : Nat) (s : State) : Host.Outcome State Fault Refusal :=
  .next (s.message session 2 now message fun s x m => s.decideWriteMsg session x m)

/-- The write behind a request with both approvals is decided as an ordinary write, every check run again (R463, R468). -/
def State.actApproved (s : State) (a : Approval) : YAnswer :=
  let s := s.updMgmt fun m => { m with approvals := m.approvals.filter fun b => b.id != a.id }
  let role := ((s.credential? a.initiator).map Credential.role).getD 0
  let i := wholeItem a.index a.sub a.value
  let c := s.writeCheck role i
  if c ≠ 0 then s.turnDown c 0
  else
    let (c, t) := s.itemEffect 8 role true i
    if c ≠ 0 then t.turnDown c 0 else ⟨0, 0xFF, 0, [], t.record 0x05010012 (srcHoist 0) none []⟩

def State.decideApprove (s : State) (x : Session) (m : YMsg) : YAnswer :=
  let slot := x.slot.getD 0xFF
  if m.count ≠ 0 ∨ m.body.length ≠ 52 then s.turnDown 0x01010009 0xFF
  else match s.mgmt.approvals.find? fun a => a.id == beAt m.body 0 4 && decide (s.aon ≤ a.deadline) with
  | none => s.turnDown (if x.role = 0 then 0x01010007 else 0x0101000B) 0xFF
  | some a =>
    if x.role = 0 then s.turnDown 0x01010007 0xFF
    else if m.body.drop 4 ≠ a.digest then s.turnDown 0x0101000D 0xFF
    else if a.approvedBy.contains slot then s.turnDown 0x0101000C 0xFF
    else if x.role ≠ 3 then s.turnDown 0x01010007 0xFF
    else if a.approvedBy.isEmpty then
      ⟨0, 0xFF, 0, [], s.updMgmt fun m => { m with
        approvals := updIf m.approvals (fun b => b.id == a.id) fun b => { b with approvedBy := [slot] } }⟩
    else s.actApproved a

/-- YUNOV_APPROVE. -/
def execYunovApprove (session : Nat) (message : Bytes) (now : Nat) (s : State) : Host.Outcome State Fault Refusal :=
  .next (s.message session 3 now message fun s x m => s.decideApprove x m)

/-- APPROVAL_EXPIRY: 60 s after its initiation a request that still waits expires (R463, R468). -/
def execApprovalExpiry (id now : Nat) (s : State) : Host.Outcome State Fault Refusal :=
  let s := s.at now
  if s.mgmt.approvals.any fun a => a.id == id && decide (a.deadline < s.aon) then
    .next ((s.updMgmt fun m => { m with approvals := m.approvals.filter fun a => a.id != id }).record 0x05010011
      (srcHoist 0) none [])
  else .next s

-- Subscriptions (R464, R500)

/-- The item subscribes to records. -/
def YItem.records (i : YItem) : Bool := i.index == 0x1600 && i.sub == 0 && i.len == 1

/-- Checks of a SUBSCRIBE item. -/
def subscribeCheck (i : YItem) : Nat :=
  match entryDef i.index i.sub with
  | .error c => c
  | .ok e =>
    if e.access = .wo then 0x01010004
    else if i.type ≠ e.type ∨ i.off ≠ 0 ∨ (i.records = false ∧ i.len ≠ 0) then 0x01010003
    else if i.records ∧ i.value ≠ [4] ∧ i.value ≠ [5] then 0x01010005
    else 0

/-- A session takes one subscription more, or 0x0101_0011. -/
def State.subscribeItem (s : State) (x : Session) (i : YItem) : Except Nat Session :=
  if i.records then .ok { x with recordSub := beNat i.value }
  else if x.subs.any fun e => e.index == i.index && e.sub == i.sub then .ok x
  else if 32 ≤ x.subs.length then .error 0x01010011
  else .ok { x with subs := x.subs ++ [⟨i.index, i.sub, s.entryValue x.cursor i.index i.sub⟩] }

/-- Items in their order: the session afterwards, or the code and number of the first that fails. -/
def State.subscribeAll (s : State) : Nat → List YItem → Session → Except (Nat × Nat) Session
  | _, [], x => .ok x
  | k, i :: r, x =>
    match s.subscribeItem x i with
    | .error c => .error (c, k)
    | .ok x => s.subscribeAll (k + 1) r x

def State.decideSubscribe (s : State) (n : Nat) (x : Session) (m : YMsg) : YAnswer :=
  match parseItems true m.count m.body with
  | none => s.turnDown 0x01010009 0xFF
  | some items =>
    if x.role = 0 then s.turnDown 0x01010007 0
    else match firstFailingRead subscribeCheck items with
    | some (c, k) => s.turnDown c k
    | none => match s.subscribeAll 0 items x with
      | .error (c, k) => s.turnDown c k
      | .ok y => ⟨0, 0xFF, 0, [], s.updSession n fun z => { z with subs := y.subs, recordSub := y.recordSub }⟩

/-- YUNOV_SUBSCRIBE. -/
def execYunovSubscribe (session : Nat) (message : Bytes) (now : Nat) (s : State) : Host.Outcome State Fault Refusal :=
  .next (s.message session 4 now message fun s x m => s.decideSubscribe session x m)

/-- A subscription ends; the queue of a record subscription with it. -/
def Session.unsubscribe (x : Session) (i : YItem) : Session :=
  if i.index = 0x1600 ∧ i.sub = 0 then
    { x with recordSub := 0, queue := [], subs := x.subs.filter fun e => !(e.index == 0x1600 && e.sub == 0) }
  else { x with subs := x.subs.filter fun e => !(e.index == i.index && e.sub == i.sub) }

def State.decideUnsubscribe (s : State) (n : Nat) (x : Session) (m : YMsg) : YAnswer :=
  match parseItems true m.count m.body with
  | none => s.turnDown 0x01010009 0xFF
  | some items =>
    let check := fun (i : YItem) => match entryDef i.index i.sub with
      | .error c => c
      | .ok _ => 0
    if x.role = 0 then s.turnDown 0x01010007 0
    else match firstFailingRead check items with
    | some (c, k) => s.turnDown c k
    | none => ⟨0, 0xFF, 0, [], s.updSession n fun z => items.foldl Session.unsubscribe z⟩

/-- YUNOV_UNSUBSCRIBE. -/
def execYunovUnsubscribe (session : Nat) (message : Bytes) (now : Nat) (s : State) : Host.Outcome State Fault Refusal :=
  .next (s.message session 5 now message fun s x m => s.decideUnsubscribe session x m)

/-- A NOTIFY of some items; its sequence number rises by one per message (R458, R464). -/
def State.notify (s : State) (n : Nat) (items : List Bytes) : State :=
  match s.session? n with
  | none => s
  | some x =>
    let seq := (x.notifySeq + 1) % 2 ^ 32
    (s.updSession n fun x => { x with notifySeq := seq }).emit
      (.yunov n (makeMsg 7 items.length seq 0 0xFF items.flatten))

/-- Items of a changed value: one, or parts of at most 1,024 bytes. -/
def valueItems (i : EntrySub) (type : Nat) (v : Bytes) : List Bytes :=
  (List.range (max 1 (ceilDiv v.length 1024))).map fun k =>
    let part := slice v (1024 * k) 1024
    (YItem.mk i.index i.sub type (1024 * k) part.length part).bytes

/-- Items put together into bodies of at most 1,184 bytes and 64 items. -/
def packItems : List Bytes → List (List Bytes)
  | [] => []
  | i :: r =>
    match packItems r with
    | [] => [[i]]
    | g :: gs => if i.length + g.flatten.length ≤ 1184 ∧ g.length < 64 then (i :: g) :: gs else [i] :: g :: gs

/-- SUBSCRIPTION_EVAL: every 100 ms each changed value of a session's entries is sent once (R464). -/
def execSubscriptionEval (session now : Nat) (s : State) : Host.Outcome State Fault Refusal :=
  let s := s.at now
  match s.session? session with
  | none => .next s
  | some x =>
    if !s.mgmt.dtls then .next s
    else
      let value := fun (e : EntrySub) => s.entryValue x.cursor e.index e.sub
      let changed := x.subs.filter fun e => value e != e.value
      let type := fun (e : EntrySub) => match entryDef e.index e.sub with
        | .ok d => d.type
        | .error _ => 0
      let items := changed.flatMap fun e => valueItems e (type e) (value e)
      let t := s.updSession session fun y => { y with subs := y.subs.map fun e => { e with value := value e } }
      .next ((packItems items).foldl (fun t g => t.notify session g) t)

/-- The item of a record in a NOTIFY: the entry subscribed to, OCT, 64 bytes. -/
def recordItem (r : Record) : Bytes := (YItem.mk 0x1600 0x00 tyOct 0 64 r.wire).bytes

/-- NOTIFY_FLUSH: with 16 records queued, or 1 ms after the oldest, up to 16 are sent (R500). -/
def execNotifyFlush (session now : Nat) (s : State) : Host.Outcome State Fault Refusal :=
  let s := s.at now
  match s.session? session with
  | none => .next s
  | some x =>
    if !s.mgmt.dtls || x.queue.isEmpty || !(decide (16 ≤ x.queue.length) || decide (x.queuedSince + tickMs ≤ s.aon)) then
      .next s
    else
      let t := s.notify session ((x.queue.take 16).map recordItem)
      .next (t.updSession session fun y => { y with queue := x.queue.drop 16 })

-- Sessions (R453, R454, R457)

def Session.open_ (slot : Option Nat) (role : Nat) (cert : Bytes) (now : Nat) : Session :=
  { slot := slot, role := role, cert := cert, lastMsg := now, recordSub := 0, subs := [], cursor := 1, kept := [],
    notifySeq := 0, queue := [], queuedSince := 0, refused := 0 }

/-- The credential slot and role of a client certificate, if a session may open with it: an enrolled one with fewer than
two sessions, or any with a P-384 key while the table is empty. -/
def State.admitCert (s : State) (cert : Bytes) : Option (Option Nat × Nat) :=
  if s.credsEmpty then (if Config.certValid cert then some (none, 0) else none)
  else
    let slot := placeOf s.nv.creds fun c => (c.map fun x => x.cert == cert).getD false
    match s.credential? slot with
    | none => none
    | some c =>
      let open_ := (s.mgmt.sessions.filter fun x => (x.map fun y => y.slot == some slot).getD false).length
      if open_ < 2 then some (some slot, c.role) else none

/-- DTLS_CLIENT_HELLO: the handshake ends in a session, or is refused with access_denied (R453). -/
def execDtlsClientHello (cert : Bytes) (proofOk : Bool) (now : Nat) (s : State) : Host.Outcome State Fault Refusal :=
  let s := s.at now
  if !s.mgmt.dtls then .next s
  else
    let refuse := (s.emit .handshakeRefused).record 0x05010014 (srcHoist 0) none []
    let place := placeOf s.mgmt.sessions Option.isNone
    match s.admitCert cert with
    | none => .next refuse
    | some (slot, role) =>
      if !proofOk ∨ 8 ≤ place then .next refuse
      else
        let s := s.updMgmt fun m => { m with sessions := updAt m.sessions place fun _ => some (Session.open_ slot role cert s.aon) }
        .next (s.record 0x05010013 (srcHoist 0) none [])

/-- SESSION_IDLE_EXPIRY: a session without a message for SESSION_IDLE seconds is closed (R453). -/
def execSessionIdleExpiry (session now : Nat) (s : State) : Host.Outcome State Fault Refusal :=
  let s := s.at now
  match s.session? session with
  | none => .next s
  | some x =>
    if s.mgmt.dtls ∧ x.lastMsg + s.set.mgmt.sessionIdle * tickS ≤ s.aon then
      .next ((s.updMgmt fun m => { m with sessions := updAt m.sessions session fun _ => none }).record 0x05010013
        (srcHoist 0) none [])
    else .next s

/-- MGMT_ADDRESS_EFFECT: the port takes the addresses written 1 s ago and every session closes (R451). -/
def execMgmtAddressEffect (now : Nat) (s : State) : Host.Outcome State Fault Refusal :=
  let s := s.at now
  match s.mgmt.addrEffects with
  | [] => .next s
  | (t, a) :: r =>
    if s.aon < t then .next s
    else .next ((s.updMgmt fun m => { m with inUse := a, addrEffects := r }).closeSessions fun _ => true)

-- The clear service (R452, R462, R475)

/-- Entries of the sideband subset (R467). -/
def inSubset (index sub : Nat) : Bool :=
  match index with
  | 0x1000 => true
  | 0x1400 => true
  | 0x1500 => true
  | 0x1100 => sub == 0x08
  | 0x1200 => decide (0x08 ≤ sub ∧ sub ≤ 0x0A)
  | 0x1300 => [0x01, 0x07, 0x0B, 0x0D, 0x10].contains sub
  | 0x4000 => [0x01, 0x06, 0x07].contains sub
  | 0x4100 => [0x02, 0x08].contains sub
  | 0x5000 => [0x01, 0x04].contains sub
  | _ => false

/-- Indices of which the subset holds an entry. -/
def subsetIndices : List Nat := [0x1000, 0x1100, 0x1200, 0x1300, 0x1400, 0x1500, 0x4000, 0x4100, 0x5000]

/-- Burgee answers on the management port. -/
def State.portServed (s : State) : Bool := s.start.t0.isSome && s.power.powered.getLsbD 1

/-- A clear message of a type: while the DTLS service runs it is answered with 0x0101_000F (R452). A datagram that does
not begin with 0x01 is taken as DTLS, and another type is another command's. -/
def State.clearMessage (s : State) (mine : Nat → Bool) (now : Nat) (b : Bytes) (f : State → YMsg → YAnswer) : State :=
  let s := s.at now
  let m := readMsg b
  if !s.portServed ∨ beAt b 0 1 ≠ 1 ∨ !mine m.type then s
  else
    let a := if s.mgmt.dtls then s.turnDown 0x0101000F 0xFF
      else if !m.wellFormed then s.turnDown 0x01010009 0xFF
      else f s m
    a.state.emit (.clear (makeMsg 6 a.count m.reqId a.status a.item a.body))

/-- A CLEAR_READ item. -/
def clearCheck (i : YItem) : Nat :=
  match entryDef i.index i.sub with
  | .error c => c
  | .ok e =>
    if e.access = .wo ∧ subsetIndices.contains i.index then 0x01010004
    else if !inSubset i.index i.sub then 0x0101000F
    else readCheck 1 i

/-- CLEAR_READ; a message that is none of the service's is answered with 0x0101_000F. -/
def execClearRead (datagram : Bytes) (now : Nat) (s : State) : Host.Outcome State Fault Refusal :=
  .next (s.clearMessage (fun t => t != 9 && t != 10) now datagram fun s m =>
    if m.type ≠ 8 then s.turnDown 0x0101000F 0xFF
    else match parseItems false m.count m.body with
    | none => s.turnDown 0x01010009 0xFF
    | some items => match firstFailingRead clearCheck items with
      | some (c, k) => s.turnDown c k
      | none =>
        let body := items.flatMap (s.readItem 1)
        if 1184 < body.length then s.turnDown 0x01010010 0xFF else ⟨0, 0xFF, items.length, body, s⟩)

/-- CHALLENGE: a nonce for 10 s and one use (R462). -/
def execChallenge (datagram : Bytes) (now : Nat) (s : State) : Host.Outcome State Fault Refusal :=
  .next (s.clearMessage (fun t => t == 9) now datagram fun s m =>
    if m.count ≠ 0 ∨ !m.body.isEmpty then s.turnDown 0x01010009 0xFF
    else
      let (nonce, s) := s.draw 32
      ⟨0, 0xFF, 0, nonce, s.updMgmt fun x => { x with nonce := some (nonce, s.aon + 10 * tickS) }⟩)

/-- The signature of a SIGNED_WAKE holds, under an OPERATOR or KEYHOLDER credential, for a nonce still valid. -/
def State.wakeSigned (s : State) (body : Bytes) : Bool :=
  match s.mgmt.nonce, s.credential? (beAt body 0 1) with
  | some (nonce, t), some c =>
    decide (s.aon ≤ t) && (c.role == 2 || c.role == 3) &&
      ecdsaVerify (Config.certKey c.cert) (ascii "TA32 wake" ++ serialBytes ++ nonce) (slice body 1 96)
  | _, _ => false

/-- SIGNED_WAKE: FURL_COMMAND 0 over the clear service, wake source 3 (R421, R462). -/
def execSignedWake (datagram : Bytes) (now : Nat) (s : State) : Host.Outcome State Fault Refusal :=
  .next (s.clearMessage (fun t => t == 10) now datagram fun s m =>
    if m.count ≠ 0 ∨ m.body.length ≠ 97 then s.turnDown 0x01010009 0xFF
    else
      let good := s.wakeSigned m.body
      let s := s.updMgmt fun x => { x with nonce := none }
      if good then ⟨0, 0xFF, 0, [], s.wakeRequest 3⟩ else s.turnDown 0x01010007 0xFF)

-- The SMBus sideband (R467, R475)

/-- One byte into the PEC, the CRC-8 with polynomial x⁸ + x² + x + 1. -/
def pecByte (c b : Byte) : Byte :=
  Nat.repeat (fun (x : Byte) => if x.getLsbD 7 then (x <<< 1) ^^^ 0x07#8 else x <<< 1) 8 (c ^^^ b)

def pec (b : Bytes) : Byte := b.foldl pecByte 0

/-- Address 0x4A as it stands on the bus before a write. -/
def smbusAddress : Byte := 0x94

/-- SMBUS_PROCESS_CALL: command 0x10 with four bytes and a right PEC is answered with STATUS, TYPE and up to 253 bytes;
any other transfer is NACKed. -/
def execSmbusProcessCall (bytes : Bytes) (s : State) : Host.Outcome State Fault Refusal :=
  if s.start.t0.isNone then .next s
  else if bytes.length ≠ 7 ∨ slice bytes 0 2 ≠ [0x10, 4] ∨ slice bytes 6 1 ≠ [pec (smbusAddress :: bytes.take 6)] then
    .next (s.emit (.smbus none))
  else
    let index := beAt bytes 2 2
    let sub := beAt bytes 4 1
    let seg := beAt bytes 5 1
    match entryDef index sub with
    | .error _ => .next (s.emit (.smbus (some [2, 0])))
    | .ok e =>
      if e.access = .wo ∨ !inSubset index sub then .next (s.emit (.smbus (some [1, 0])))
      else
        let v := s.entryValue 1 index sub
        let v := if e.type = tyOct then padTo e.len v else v
        .next (s.emit (.smbus (some ([0, BitVec.ofNat 8 e.type] ++ slice v (253 * seg) 253))))

/-- SMBUS_ALERT_RESPONSE: while ALERT_N is asserted the module answers with its address (R467, R480). -/
def execSmbusAlertResponse (s : State) : Host.Outcome State Fault Refusal :=
  if s.start.t0.isNone then .next s
  else .next (s.emit (.smbus (if s.alertCauses = 0 then none else some [smbusAddress])))

end Sys2Proof.Machine
end

