-- ==== Sys2Proof/Machine/Dispatch.lean ====
section
/-!
DEFINITION. Machine/Dispatch.lean: one arm per command, each one direct call of its meaning.
-/
namespace Sys2Proof.Machine

def exec (i : Instr) (s : State) : Host.Outcome State Fault Refusal :=
  match i with
  | .beatBoundary => Sys2Proof.Machine.execBeatBoundary s
  | .slotIssue cluster => Sys2Proof.Machine.execSlotIssue cluster s
  | .windowBoundary => Sys2Proof.Machine.execWindowBoundary s
  | .ppsEdge ptpSecond phasePs => Sys2Proof.Machine.execPpsEdge ptpSecond phasePs s
  | .ptpSyncRx ref sync now => Sys2Proof.Machine.execPtpSyncRx ref sync now s
  | .referenceQualified seen now => Sys2Proof.Machine.execReferenceQualified seen now s
  | .referenceLost seen now => Sys2Proof.Machine.execReferenceLost seen now s
  | .halyardLocked seen => Sys2Proof.Machine.execHalyardLocked seen s
  | .holdover60sExpiry now => Sys2Proof.Machine.execHoldover60sExpiry now s
  | .freeRunTimeout now => Sys2Proof.Machine.execFreeRunTimeout now s
  | .allowFreeRunWrite session value => Sys2Proof.Machine.execAllowFreeRunWrite session value s
  | .refPriorityWrite session value => Sys2Proof.Machine.execRefPriorityWrite session value s
  | .halyardSettingWrite session sub value => Sys2Proof.Machine.execHalyardSettingWrite session sub value s
  | .align session value => Sys2Proof.Machine.execAlign session value s
  | .levelRequest session value => Sys2Proof.Machine.execLevelRequest session value s
  | .railRampStart now => Sys2Proof.Machine.execRailRampStart now s
  | .railReadyCheck inRegulation now => Sys2Proof.Machine.execRailReadyCheck inRegulation now s
  | .thermalEmergency dieTemp inlet flow now => Sys2Proof.Machine.execThermalEmergency dieTemp inlet flow now s
  | .electricalEmergency inputPower now => Sys2Proof.Machine.execElectricalEmergency inputPower now s
  | .emergencyLevelEffect => Sys2Proof.Machine.execEmergencyLevelEffect s
  | .emergencyClear dieTemp inlet flow inputPower now => Sys2Proof.Machine.execEmergencyClear dieTemp inlet flow inputPower now s
  | .coolantWarning inlet flow now => Sys2Proof.Machine.execCoolantWarning inlet flow now s
  | .thermalTrip dieTemp now => Sys2Proof.Machine.execThermalTrip dieTemp now s
  | .tripRestart now => Sys2Proof.Machine.execTripRestart now s
  | .prefetchFill cluster => Sys2Proof.Machine.execPrefetchFill cluster s
  | .idle cluster => Sys2Proof.Machine.execIdle cluster s
  | .cont cluster => Sys2Proof.Machine.execCont cluster s
  | .accum cluster => Sys2Proof.Machine.execAccum cluster s
  | .commit cluster => Sys2Proof.Machine.execCommit cluster s
  | .commitDrain cluster ctx cohort => Sys2Proof.Machine.execCommitDrain cluster ctx cohort s
  | .drainBoundExceeded cluster => Sys2Proof.Machine.execDrainBoundExceeded cluster s
  | .selfmask cluster => Sys2Proof.Machine.execSelfmask cluster s
  | .paircorr cluster => Sys2Proof.Machine.execPaircorr cluster s
  | .shamir cluster => Sys2Proof.Machine.execShamir cluster s
  | .secretin cluster => Sys2Proof.Machine.execSecretin cluster s
  | .seedacc cluster => Sys2Proof.Machine.execSeedacc cluster s
  | .lwrmask cluster => Sys2Proof.Machine.execLwrmask cluster s
  | .fold cluster ctx cohort => Sys2Proof.Machine.execFold cluster ctx cohort s
  | .pairwiseRecompute ctx cohort dropped survivor engineFault => Sys2Proof.Machine.execPairwiseRecompute ctx cohort dropped survivor engineFault s
  | .ctadd cluster => Sys2Proof.Machine.execCtadd cluster s
  | .ptmul cluster => Sys2Proof.Machine.execPtmul cluster s
  | .ntt cluster => Sys2Proof.Machine.execNtt cluster s
  | .intt cluster => Sys2Proof.Machine.execIntt cluster s
  | .tensor cluster => Sys2Proof.Machine.execTensor cluster s
  | .keysw cluster => Sys2Proof.Machine.execKeysw cluster s
  | .rotate cluster => Sys2Proof.Machine.execRotate cluster s
  | .relin cluster => Sys2Proof.Machine.execRelin cluster s
  | .modred cluster => Sys2Proof.Machine.execModred cluster s
  | .c1out cluster => Sys2Proof.Machine.execC1out cluster s
  | .ringStageInOut cluster ctx cohort => Sys2Proof.Machine.execRingStageInOut cluster ctx cohort s
  | .dscomb cluster => Sys2Proof.Machine.execDscomb cluster s
  | .finish cluster => Sys2Proof.Machine.execFinish cluster s
  | .finishFillWriteback cluster ctx cohort => Sys2Proof.Machine.execFinishFillWriteback cluster ctx cohort s
  | .peerfwd cluster => Sys2Proof.Machine.execPeerfwd cluster s
  | .drbgReseed cluster core => Sys2Proof.Machine.execDrbgReseed cluster core s
  | .drbgError cluster core => Sys2Proof.Machine.execDrbgError cluster core s
  | .frameArrival conn message => Sys2Proof.Machine.execFrameArrival conn message s
  | .sessionEstablish ctx cohort role slot => Sys2Proof.Machine.execSessionEstablish ctx cohort role slot s
  | .binCopy ctx cohort index => Sys2Proof.Machine.execBinCopy ctx cohort index s
  | .noticeBatchSend conn => Sys2Proof.Machine.execNoticeBatchSend conn s
  | .roundOpen vf => Sys2Proof.Machine.execRoundOpen vf s
  | .roundOpenEffect ctx cohort => Sys2Proof.Machine.execRoundOpenEffect ctx cohort s
  | .roundClose vf => Sys2Proof.Machine.execRoundClose vf s
  | .roundCloseEffect ctx cohort => Sys2Proof.Machine.execRoundCloseEffect ctx cohort s
  | .roundDurationLimit ctx cohort => Sys2Proof.Machine.execRoundDurationLimit ctx cohort s
  | .freeze ctx cohort => Sys2Proof.Machine.execFreeze ctx cohort s
  | .secretPeriodEnd ctx cohort => Sys2Proof.Machine.execSecretPeriodEnd ctx cohort s
  | .unmaskingEntry ctx cohort => Sys2Proof.Machine.execUnmaskingEntry ctx cohort s
  | .removalListBuild ctx cohort => Sys2Proof.Machine.execRemovalListBuild ctx cohort s
  | .finishPhaseBegin ctx cohort => Sys2Proof.Machine.execFinishPhaseBegin ctx cohort s
  | .roundFinished ctx cohort => Sys2Proof.Machine.execRoundFinished ctx cohort s
  | .roundAbandon vf => Sys2Proof.Machine.execRoundAbandon vf s
  | .release vf => Sys2Proof.Machine.execRelease vf s
  | .deliveryComplete ctx cohort => Sys2Proof.Machine.execDeliveryComplete ctx cohort s
  | .roundQuery vf => Sys2Proof.Machine.execRoundQuery vf s
  | .requestList vf => Sys2Proof.Machine.execRequestList vf s
  | .attest vf => Sys2Proof.Machine.execAttest vf s
  | .peerReport vf report chain => Sys2Proof.Machine.execPeerReport vf report chain s
  | .planSubmit vf => Sys2Proof.Machine.execPlanSubmit vf s
  | .planCheckComplete ctx image => Sys2Proof.Machine.execPlanCheckComplete ctx image s
  | .planStart ctx => Sys2Proof.Machine.execPlanStart ctx s
  | .planUnload vf => Sys2Proof.Machine.execPlanUnload vf s
  | .planUnloadEffect ctx => Sys2Proof.Machine.execPlanUnloadEffect ctx s
  | .connCreate vf => Sys2Proof.Machine.execConnCreate vf s
  | .connOpen vf => Sys2Proof.Machine.execConnOpen vf s
  | .connClose vf => Sys2Proof.Machine.execConnClose vf s
  | .connDestroy vf => Sys2Proof.Machine.execConnDestroy vf s
  | .connSetGrant vf => Sys2Proof.Machine.execConnSetGrant vf s
  | .queueCreate vf => Sys2Proof.Machine.execQueueCreate vf s
  | .queueDestroy vf => Sys2Proof.Machine.execQueueDestroy vf s
  | .queueDestroyComplete ctx queue => Sys2Proof.Machine.execQueueDestroyComplete ctx queue s
  | .windowKeyReplace vf => Sys2Proof.Machine.execWindowKeyReplace vf s
  | .windowKeyRevoke vf => Sys2Proof.Machine.execWindowKeyRevoke vf s
  | .keyDrainLimit ctx => Sys2Proof.Machine.execKeyDrainLimit ctx s
  | .hostCopyToContext vf => Sys2Proof.Machine.execHostCopyToContext vf s
  | .hostCopyToHost vf => Sys2Proof.Machine.execHostCopyToHost vf s
  | .cmdDoorbell vf tail entries => Sys2Proof.Machine.execCmdDoorbell vf tail entries s
  | .wqDoorbell vf queue tail entries => Sys2Proof.Machine.execWqDoorbell vf queue tail entries s
  | .cmdRingEnable vf => Sys2Proof.Machine.execCmdRingEnable vf s
  | .cmdRingDisable vf => Sys2Proof.Machine.execCmdRingDisable vf s
  | .awakeClaimSet vf => Sys2Proof.Machine.execAwakeClaimSet vf s
  | .awakeClaimClear vf => Sys2Proof.Machine.execAwakeClaimClear vf s
  | .errorStatusClear vf value => Sys2Proof.Machine.execErrorStatusClear vf value s
  | .completionHeadWrite vf queue value => Sys2Proof.Machine.execCompletionHeadWrite vf queue value s
  | .vfRegisterWrite vf offset width value => Sys2Proof.Machine.execVfRegisterWrite vf offset width value s
  | .completionPost vf queue => Sys2Proof.Machine.execCompletionPost vf queue s
  | .hostAccessFailure vf kind what => Sys2Proof.Machine.execHostAccessFailure vf kind what s
  | .flr vf => Sys2Proof.Machine.execFlr vf s
  | .perstAssert endpoint now => Sys2Proof.Machine.execPerstAssert endpoint now s
  | .perstDeassert endpoint now => Sys2Proof.Machine.execPerstDeassert endpoint now s
  | .pcieLinkDown endpoint => Sys2Proof.Machine.execPcieLinkDown endpoint s
  | .dmaSlotMapWrite session endpoint value => Sys2Proof.Machine.execDmaSlotMapWrite session endpoint value s
  | .wqeNop ctx queue => Sys2Proof.Machine.execWqeNop ctx queue s
  | .wqeSend ctx queue => Sys2Proof.Machine.execWqeSend ctx queue s
  | .wqeRecv ctx queue => Sys2Proof.Machine.execWqeRecv ctx queue s
  | .wqeWrite ctx queue => Sys2Proof.Machine.execWqeWrite ctx queue s
  | .wqeRead ctx queue => Sys2Proof.Machine.execWqeRead ctx queue s
  | .wqeWaitSatisfied ctx queue => Sys2Proof.Machine.execWqeWaitSatisfied ctx queue s
  | .wqeComplete ctx queue entry => Sys2Proof.Machine.execWqeComplete ctx queue entry s
  | .rxSendPacket lane destination source rest now => Sys2Proof.Machine.execRxSendPacket lane destination source rest now s
  | .rxWritePacket lane destination source rest now => Sys2Proof.Machine.execRxWritePacket lane destination source rest now s
  | .rxReadReq lane destination source rest now => Sys2Proof.Machine.execRxReadReq lane destination source rest now s
  | .rxReadResp lane destination source rest now => Sys2Proof.Machine.execRxReadResp lane destination source rest now s
  | .rxAck lane destination source rest now => Sys2Proof.Machine.execRxAck lane destination source rest now s
  | .ackDelayExpiry conn now => Sys2Proof.Machine.execAckDelayExpiry conn now s
  | .rxCredit lane destination source rest now => Sys2Proof.Machine.execRxCredit lane destination source rest now s
  | .rxConnReq lane destination source rest now => Sys2Proof.Machine.execRxConnReq lane destination source rest now s
  | .rxConnAccept lane destination source rest now => Sys2Proof.Machine.execRxConnAccept lane destination source rest now s
  | .rxConnRefuse lane destination source rest now => Sys2Proof.Machine.execRxConnRefuse lane destination source rest now s
  | .rxConnClose lane destination source rest now => Sys2Proof.Machine.execRxConnClose lane destination source rest now s
  | .rxProbe lane destination source rest now => Sys2Proof.Machine.execRxProbe lane destination source rest now s
  | .rxProbeReply lane destination source rest now => Sys2Proof.Machine.execRxProbeReply lane destination source rest now s
  | .retxTimerExpiry conn message packet now => Sys2Proof.Machine.execRetxTimerExpiry conn message packet now s
  | .pathHoldExpiry conn path now => Sys2Proof.Machine.execPathHoldExpiry conn path now s
  | .probeTimeout conn path now => Sys2Proof.Machine.execProbeTimeout conn path now s
  | .connReqResend conn now => Sys2Proof.Machine.execConnReqResend conn now s
  | .connCloseResend conn now => Sys2Proof.Machine.execConnCloseResend conn now s
  | .moduleSendDequeue conn => Sys2Proof.Machine.execModuleSendDequeue conn s
  | .recordFetch conn crcOk now => Sys2Proof.Machine.execRecordFetch conn crcOk now s
  | .subportUp lane hop6 hop4 now => Sys2Proof.Machine.execSubportUp lane hop6 hop4 now s
  | .subportDown lane now => Sys2Proof.Machine.execSubportDown lane now s
  | .subportFecTakedown lane codewords now => Sys2Proof.Machine.execSubportFecTakedown lane codewords now s
  | .subportRetrain lane now => Sys2Proof.Machine.execSubportRetrain lane now s
  | .nextHopRefresh lane answer6 answer4 now => Sys2Proof.Machine.execNextHopRefresh lane answer6 answer4 now s
  | .addressResolutionRx lane destination rest => Sys2Proof.Machine.execAddressResolutionRx lane destination rest s
  | .portEnableWrite session value => Sys2Proof.Machine.execPortEnableWrite session value s
  | .portModeWrite session value => Sys2Proof.Machine.execPortModeWrite session value s
  | .ctxCreate session ctx value => Sys2Proof.Machine.execCtxCreate session ctx value s
  | .ctxTeardown session ctx value => Sys2Proof.Machine.execCtxTeardown session ctx value s
  | .contextLost ctx now => Sys2Proof.Machine.execContextLost ctx now s
  | .teardownAbandonStep ctx => Sys2Proof.Machine.execTeardownAbandonStep ctx s
  | .teardownUnloadStep ctx => Sys2Proof.Machine.execTeardownUnloadStep ctx s
  | .teardownSramZeroed ctx retired => Sys2Proof.Machine.execTeardownSramZeroed ctx retired s
  | .scrubComplete ctx retired now => Sys2Proof.Machine.execScrubComplete ctx retired now s
  | .keyImport session value => Sys2Proof.Machine.execKeyImport session value s
  | .keyDestroy session value => Sys2Proof.Machine.execKeyDestroy session value s
  | .memRotate session value => Sys2Proof.Machine.execMemRotate session value s
  | .memSweepComplete ctx canton => Sys2Proof.Machine.execMemSweepComplete ctx canton s
  | .zeroise session value => Sys2Proof.Machine.execZeroise session value s
  | .tamperAssert cause now => Sys2Proof.Machine.execTamperAssert cause now s
  | .keyMaskRefresh now => Sys2Proof.Machine.execKeyMaskRefresh now s
  | .fwWrite session value => Sys2Proof.Machine.execFwWrite session value s
  | .fwCommit session value => Sys2Proof.Machine.execFwCommit session value s
  | .lifecycleRequest session value => Sys2Proof.Machine.execLifecycleRequest session value s
  | .powerOn now => Sys2Proof.Machine.execPowerOn now s
  | .domainEnable now => Sys2Proof.Machine.execDomainEnable now s
  | .domainRegulationMiss domain now => Sys2Proof.Machine.execDomainRegulationMiss domain now s
  | .stageAComplete nvA nvB setA setB clock => Sys2Proof.Machine.execStageAComplete nvA nvB setA setB clock s
  | .stageBComplete clock => Sys2Proof.Machine.execStageBComplete clock s
  | .stageCComplete now => Sys2Proof.Machine.execStageCComplete now s
  | .stageDeadlineMiss now => Sys2Proof.Machine.execStageDeadlineMiss now s
  | .pllLockTimeout now => Sys2Proof.Machine.execPllLockTimeout now s
  | .moduleReset session value => Sys2Proof.Machine.execModuleReset session value s
  | .cpWatchdogExpiry now => Sys2Proof.Machine.execCpWatchdogExpiry now s
  | .hoistReset hoist now => Sys2Proof.Machine.execHoistReset hoist now s
  | .cantonReset canton now => Sys2Proof.Machine.execCantonReset canton now s
  | .padRelease session value => Sys2Proof.Machine.execPadRelease session value s
  | .wakeNTimeout endpoint now => Sys2Proof.Machine.execWakeNTimeout endpoint now s
  | .idleTimerExpiry now => Sys2Proof.Machine.execIdleTimerExpiry now s
  | .furlEnterCommand session value => Sys2Proof.Machine.execFurlEnterCommand session value s
  | .furlWakeRequest session value => Sys2Proof.Machine.execFurlWakeRequest session value s
  | .blockReady now => Sys2Proof.Machine.execBlockReady now s
  | .blockRefuse code now => Sys2Proof.Machine.execBlockRefuse code now s
  | .furlRetryTimer now => Sys2Proof.Machine.execFurlRetryTimer now s
  | .furlEntryComplete now => Sys2Proof.Machine.execFurlEntryComplete now s
  | .wakeReqPin now => Sys2Proof.Machine.execWakeReqPin now s
  | .wakeAtExpiry now => Sys2Proof.Machine.execWakeAtExpiry now s
  | .wakeF1Complete cantonsOk now => Sys2Proof.Machine.execWakeF1Complete cantonsOk now s
  | .jackRequest cp now => Sys2Proof.Machine.execJackRequest cp now s
  | .jackRenewalTimer cp now => Sys2Proof.Machine.execJackRenewalTimer cp now s
  | .jackRenewal cp epoch now => Sys2Proof.Machine.execJackRenewal cp epoch now s
  | .jackExpiry now => Sys2Proof.Machine.execJackExpiry now s
  | .selfDemotion cp now => Sys2Proof.Machine.execSelfDemotion cp now s
  | .noHolderRx cp now => Sys2Proof.Machine.execNoHolderRx cp now s
  | .cpStatus cp now => Sys2Proof.Machine.execCpStatus cp now s
  | .burgeeHoldDetect now => Sys2Proof.Machine.execBurgeeHoldDetect now s
  | .beacon now => Sys2Proof.Machine.execBeacon now s
  | .staleInstruction unit epoch now => Sys2Proof.Machine.execStaleInstruction unit epoch now s
  | .holdEntry now => Sys2Proof.Machine.execHoldEntry now s
  | .takeoverComplete now => Sys2Proof.Machine.execTakeoverComplete now s
  | .holdEnd => Sys2Proof.Machine.execHoldEnd s
  | .holdLimitExpiry now => Sys2Proof.Machine.execHoldLimitExpiry now s
  | .handover session value => Sys2Proof.Machine.execHandover session value s
  | .journalMirror now => Sys2Proof.Machine.execJournalMirror now s
  | .clusterFault cluster kind => Sys2Proof.Machine.execClusterFault cluster kind s
  | .spareTakeover canton => Sys2Proof.Machine.execSpareTakeover canton s
  | .spareBecomesService canton => Sys2Proof.Machine.execSpareBecomesService canton s
  | .dataFault ctx cohort kind index => Sys2Proof.Machine.execDataFault ctx cohort kind index s
  | .dieLinkDown link retrained now => Sys2Proof.Machine.execDieLinkDown link retrained now s
  | .dieLinkRetrainFail link now => Sys2Proof.Machine.execDieLinkRetrainFail link now s
  | .dtlsClientHello cert proofOk now => Sys2Proof.Machine.execDtlsClientHello cert proofOk now s
  | .sessionIdleExpiry session now => Sys2Proof.Machine.execSessionIdleExpiry session now s
  | .yunovRead session message now => Sys2Proof.Machine.execYunovRead session message now s
  | .yunovWrite session message now => Sys2Proof.Machine.execYunovWrite session message now s
  | .dictionaryWrite session index sub value => Sys2Proof.Machine.execDictionaryWrite session index sub value s
  | .yunovApprove session message now => Sys2Proof.Machine.execYunovApprove session message now s
  | .approvalExpiry id now => Sys2Proof.Machine.execApprovalExpiry id now s
  | .yunovSubscribe session message now => Sys2Proof.Machine.execYunovSubscribe session message now s
  | .yunovUnsubscribe session message now => Sys2Proof.Machine.execYunovUnsubscribe session message now s
  | .subscriptionEval session now => Sys2Proof.Machine.execSubscriptionEval session now s
  | .notifyFlush session now => Sys2Proof.Machine.execNotifyFlush session now s
  | .clearRead datagram now => Sys2Proof.Machine.execClearRead datagram now s
  | .challenge datagram now => Sys2Proof.Machine.execChallenge datagram now s
  | .signedWake datagram now => Sys2Proof.Machine.execSignedWake datagram now s
  | .smbusProcessCall bytes => Sys2Proof.Machine.execSmbusProcessCall bytes s
  | .mgmtAddressEffect now => Sys2Proof.Machine.execMgmtAddressEffect now s
  | .credStage session value => Sys2Proof.Machine.execCredStage session value s
  | .credEnrol session value => Sys2Proof.Machine.execCredEnrol session value s
  | .credRemove session value => Sys2Proof.Machine.execCredRemove session value s
  | .policyStage session value => Sys2Proof.Machine.execPolicyStage session value s
  | .policyCommit session value => Sys2Proof.Machine.execPolicyCommit session value s
  | .alertAck session value => Sys2Proof.Machine.execAlertAck session value s
  | .sessionCursorWrite session value => Sys2Proof.Machine.execSessionCursorWrite session value s
  | .recordsRead session => Sys2Proof.Machine.execRecordsRead session s
  | .recordWrite source code ctx payload now => Sys2Proof.Machine.execRecordWrite source code ctx payload now s
  | .tokenRefill now => Sys2Proof.Machine.execTokenRefill now s
  | .summaryTick now => Sys2Proof.Machine.execSummaryTick now s
  | .flushStart hoist now => Sys2Proof.Machine.execFlushStart hoist now s
  | .flushComplete hoist ok now => Sys2Proof.Machine.execFlushComplete hoist ok now s
  | .flashRetry hoist now => Sys2Proof.Machine.execFlashRetry hoist now s
  | .packInsert now => Sys2Proof.Machine.execPackInsert now s
  | .packRemove now => Sys2Proof.Machine.execPackRemove now s
  | .packMeasurement dropUv reached eeprom now => Sys2Proof.Machine.execPackMeasurement dropUv reached eeprom now s
  | .serviceHoursTick now => Sys2Proof.Machine.execServiceHoursTick now s
  | .powerFailWarning packMv now => Sys2Proof.Machine.execPowerFailWarning packMv now s
  | .holdupComplete back now => Sys2Proof.Machine.execHoldupComplete back now s
  | .hoistResetComplete hoist mr0 mr1 now => Sys2Proof.Machine.execHoistResetComplete hoist mr0 mr1 now s
  | .cantonResetComplete canton failedClusters now => Sys2Proof.Machine.execCantonResetComplete canton failedClusters now s
  | .cantonTestFailed canton microcode now => Sys2Proof.Machine.execCantonTestFailed canton microcode now s
  | .hostCopyComplete vf copy => Sys2Proof.Machine.execHostCopyComplete vf copy s
  | .burgeeFirmwareRestart now => Sys2Proof.Machine.execBurgeeFirmwareRestart now s
  | .ptpAnnounceRx announce now => Sys2Proof.Machine.execPtpAnnounceRx announce now s
  | .smbusAlertResponse => Sys2Proof.Machine.execSmbusAlertResponse s
  | .secureBootComplete hoist roots0 roots1 mr0 mr1 now => Sys2Proof.Machine.execSecureBootComplete hoist roots0 roots1 mr0 mr1 now s

end Sys2Proof.Machine
end

