-- ==== Sys2Proof/Safety.lean ====
section
/-!
DEFINITION. Safety.lean: what a safe step is, and the terms in which statements speak of states: records written,
memories in canonical form.
-/
namespace Sys2Proof.Machine

/-- A state on which the next step answers a next state. -/
def Safe (s : State) : Prop := ∃ t, step s = .next t

/-- `t` is `a` after some event records have been written, and nothing else: code, source, context and payload of each. -/
def Recorded (a t : State) : Prop :=
  ∃ l : List (Nat × Nat × Option Nat × Bytes), t = l.foldl (fun s r => s.record r.1 r.2.1 r.2.2.1 r.2.2.2) a

/-- Every context's memory is in canonical form: addresses strictly rising, no byte listed that an unlisted address reads
as. -/
def State.MemOk (s : State) : Prop := ∀ c, memWf ((s.ctx c).unlisted c) (s.ctx c).memory = true

/-- A session of a number is open in a role while the DTLS service runs. -/
def State.InSession (s : State) (n role : Nat) : Prop :=
  s.mgmt.dtls = true ∧ (s.session? n).map Session.role = some role

/-- A session of a number is open under a credential slot while the DTLS service runs. -/
def State.UnderCredential (s : State) (n slot : Nat) : Prop :=
  s.mgmt.dtls = true ∧ (s.session? n).bind Session.slot = some slot

/-- How the write of one entry ends, once what it does has been done: its STATUS is sent, and the idle interval is
accounted (R413, R458). -/
def State.answered (a : State) (n index sub code : Nat) : State := (a.emit (.entryReply n index sub code)).trackIdle

/-- A write that needs two operators has been asked for: it waits up to 60 s for its approvals, a KEYHOLDER's own counted
(R463). -/
def State.awaits (s : State) (n role slot index sub : Nat) (v : Bytes) : State :=
  let id := s.mgmt.nextApproval
  let a : Approval :=
    { id := id, initiator := slot, approvedBy := if role = 3 then [slot] else [], deadline := s.aon + 60 * tickS
      digest := sha384 (wholeItem index sub v).bytes, index := index, sub := sub, value := v }
  ({ s.touch n with mgmt := { (s.touch n).mgmt with
      approvals := s.mgmt.approvals ++ [a], nextApproval := (id + 1) % 2 ^ 32 } }.record 0x05010010 0x4FF0 none []).answered
    n index sub 0x05010010

/-- Cluster `k` serves position `p` and carries a span whose work has not run, on real operands, with an opcode, in the
last beat of that opcode's cost (R92 to R95, R97). -/
def State.Carries (s : State) (k op p : Nat) (sp : RunningSpan) : Prop :=
  k < 64 ∧ s.clusters.length = 64 ∧ (s.cluster k).position = some p ∧ (s.cluster k).span = some sp ∧
    sp.desc.opcode = op ∧ sp.done = false ∧ sp.dummy = false ∧ s.spanCost sp ≤ sp.beats

/-- The span's context has an admitted plan, and its cohort a round. -/
def State.OnRound (s : State) (sp : RunningSpan) (im : PlanImage) (r : Round) : Prop :=
  s.image sp.ctx = some im ∧ s.round? sp.ctx sp.desc.cohort = some r

/-- The cluster's span has run its work, and nothing else of the clusters has changed. -/
def State.spanDone (s : State) (k : Nat) (sp : RunningSpan) : State :=
  s.updCluster k fun c => { c with span := some { sp with done := true } }

/-- A command of an opcode stands at the front of a bound VF that runs none, and nothing turns it away before its own
checks (R314, R317, R321). -/
def State.Commands (s : State) (v op : Nat) (e : Bytes) (rest : List Bytes) : Prop :=
  v < s.host.vfs.length ∧ (s.vf v).fetched = e :: rest ∧ (s.vf v).running = none ∧ Cmd.opcode e = op ∧
    s.bound v = true ∧ s.commandGate v op = none

/-- The state once the command at the front of a VF has been taken. -/
def State.taken (s : State) (v : Nat) (rest : List Bytes) : State := s.updVf v fun x => { x with fetched := rest }

/-- A frame on a sub-port that carries traffic passes checks 1 to 7 of R269: `p` is its packet, well formed, its
connection is resident and OPEN and fits it, and its tag holds; `body` is its payload. -/
def State.Gets (s : State) (f p : Bytes) (lane : Nat) (c : Conn) (body : Bytes) : Prop :=
  ∃ source sport, s.listens lane = true ∧ s.datagram lane f = some (source, sport, p) ∧ packetShape p = true ∧
    s.conn? (Packet.dstConn p) = some c ∧ connHoist c.index = lane / 32 ∧ c.resident = true ∧
    c.checkSix p source sport = true ∧ s.openOn c p = some body

end Sys2Proof.Machine
end

