-- ==== Sys2Proof/Certificates/Slice0/Obligations.lean ====
section
/-!
DEFINITION. Certificates/Slice0/Obligations.lean: the statements about the block. Each command's statement says on what
states and operands it has its own effect, what that effect is, and what it leaves alone: a next state written as
`{ a with f := t.f, … }` agrees with `a` in every field but those named.
-/
open Sys2Proof Sys2Proof.Machine

-- The queue and reset

/-- One step runs the command at the front of the queue on the state with the queue's rest (how a block's commands reach
it), and on an empty queue the block idles (log entry 1, the model's choice). -/
def Obligations.StepRunsFrontCommand : Prop :=
  (∀ (c : Instr) (rest : List Instr) (s : State), s.pending = c :: rest → step s = exec c { s with pending := rest }) ∧
  (∀ s : State, s.pending = [] → step s = .next s)

-- Halyard (R65 to R84, R537)

/-- BEAT_BOUNDARY, EMERGENCY_LEVEL_EFFECT (R66, R80, R81): a beat adds one to BEAT_COUNT and lasts 2,048 cycles of the level
in force: 2 µs, 56/42 µs, 48/42 µs and 1 µs at PL0 to PL3; the frames that arrived in it have been judged; without staged
banks and outside UNMASKING no round changes at its end; PL0 of an emergency takes effect at a later beat boundary that lies
a whole multiple of 2 µs after the PPS edge. -/
def Obligations.BeatsRunAtTheLevelInForce : Prop :=
  (beatTicks 0 = 2 * tickUs ∧ beatTicks 1 = 56 ∧ beatTicks 2 = 48 ∧ beatTicks 3 = tickUs) ∧
  (∀ s : State, s.start.t0.isSome = true → s.hal.frozen = false → s.hal.emergencyDue = none →
    ∃ t, exec .beatBoundary s = .next t ∧
      t.hal = { s.hal with beatCount := s.hal.beatCount + 1, sinceEdge := s.hal.sinceEdge + beatTicks s.hal.level,
                           shadow := s.hal.shadow.map fun x => x.run (beatTicks s.hal.level) } ∧
      t.aon = max s.aon (s.hal.lastEdge + s.hal.sinceEdge + beatTicks s.hal.level) ∧
      t = { s.takeArrived with
        aon := t.aon, hal := t.hal, power := t.power, sensors := t.sensors, clusters := t.clusters, rounds := t.rounds } ∧
      ((∀ k ∈ s.clusters, k.banks = []) → (∀ r ∈ s.takeArrived.rounds, r.state ≠ .unmasking) →
        t.rounds = s.takeArrived.rounds) ∧
      { t.power with idleSince := none, retryAt := none } = { s.power with idleSince := none, retryAt := none } ∧
      t.clusters.map (fun k => { k with banks := [] }) = s.clusters.map fun k => { k with banks := [] }) ∧
  (∀ (s : State) (b : Nat), s.hal.emergencyDue = some b → b < s.hal.beatCount → s.hal.sinceEdge % 84 = 0 →
    ∃ t, exec .emergencyLevelEffect s = .next t ∧ t.hal = { s.hal with emergencyDue := none, level := 0 } ∧
      t.power = { s.power with railLevel := 0 } ∧ Recorded { s with hal := t.hal, power := t.power } t)

/-- WINDOW_BOUNDARY (R5, R27, R331, R432, R435): the counter blocks of contexts that are not FREE are snapshot; outside HOLD
a requested owner-bit change a full window old takes effect, and so does a handover that is due; in HOLD no round counts the
window, and clusters and leadership are left alone. -/
def Obligations.WindowBoundaryActs : Prop :=
  ∀ s : State, s.hal.beatCount % 256 = 0 → s.hal.windowDone ≠ some (s.hal.beatCount / 256) → s.hal.frozen = false →
    s.start.t0.isSome = true → s.clusters.length = 64 →
    ∃ t, exec .windowBoundary s = .next t ∧
      t.hal = { s.hal with windowDone := some (s.hal.beatCount / 256) } ∧
      (∀ c, (s.ctxSet c).state ≠ .free → c < s.ctxs.length →
        (t.ctx c).counters.shown = (s.ctx c).counters.live ∧ (t.ctx c).counters.seq = (s.ctx c).counters.seq + 2) ∧
      (∀ c, (s.ctxSet c).state = .free → (t.ctx c).counters.shown = (s.ctx c).counters.shown) ∧
      (∀ i o b, s.lead.hold = none → (s.cluster i).request = some (o, b) → b + 256 ≤ s.hal.beatCount → i < 64 →
        (t.cluster i).owner = o ∧ (t.cluster i).request = none) ∧
      (∀ b i, s.lead.hold = none → s.lead.handover = some b → b ≤ s.hal.beatCount → s.mirrorLag = 0 →
        s.leaderCp = some i → s.lead.takeover = none → s.cpRuns (1 - i) = true →
        t.lead.holder = some (1 - i) ∧ t.lead.epoch = s.lead.epoch % 0xFFFFFFFF + 1 ∧
        t.lead.expiry = s.aon + 1000 * tickMs ∧
        t.lead.takeover = some ⟨1 - i, s.lead.epoch % 0xFFFFFFFF + 1, !s.lead.grantedThisStart⟩ ∧
        t.lead.cp0.leads = false ∧ t.lead.cp1.leads = false ∧ t.lead.handover = none) ∧
      (s.lead.handover = none → t.lead = s.lead ∧ t.journal = s.journal) ∧
      (s.lead.hold.isSome = true →
        t.rounds.map Round.openWindows = s.rounds.map Round.openWindows ∧
        t.rounds.map Round.closedWindows = s.rounds.map Round.closedWindows ∧ t.clusters = s.clusters ∧ t.lead = s.lead) ∧
      t = { s with set := t.set, setA := t.setA, setB := t.setB, slotB := t.slotB, recorder := t.recorder, hal := t.hal,
                   lead := t.lead, journal := t.journal, mgmt := t.mgmt, ctxs := t.ctxs, clusters := t.clusters,
                   drbgs := t.drbgs, rounds := t.rounds, grixo := t.grixo, stats := t.stats, draws := t.draws,
                   out := t.out }

/-- PPS_EDGE (R69, R70, R74 to R77, R84, R420, R537): at an edge SECONDS takes the next value, or the PTP second while
LOCKED to a PTP reference; settings reach the Halyard; the pending level change and ALIGN of this second take effect; after
a furl the beats resume. -/
def Obligations.PpsEdgeActs : Prop :=
  (∀ (s : State) (ptp : Nat) (ph : Int), s.start.t0.isSome = true → s.hal.state = .start →
    s.hal.refActive = 0 →
    ∃ t, exec (.ppsEdge ptp ph) s = .next t ∧ t.hal.use = s.set.hal ∧ t.hal.beatCount = s.hal.beatCount ∧
      t.hal.seconds = s.hal.seconds ∧ t = { s with hal := t.hal, out := t.out }) ∧
  (∀ (s : State) (ptp : Nat) (ph : Int), s.start.t0.isSome = true → s.hal.state ≠ .start →
    ¬(s.hal.state = .acquiring ∧ s.hal.acqFrom = .start) → (s.hal.frozen = true ∨ s.hal.sinceEdge = tickS) →
    s.hal.emergencyDue = none →
    ∃ t, exec (.ppsEdge ptp ph) s = .next t ∧
      t.hal.seconds = (if s.hal.state = .locked ∧ 2 ≤ s.hal.refActive then ptp else s.hal.seconds + 1) ∧
      t.hal.lastEdge = s.hal.lastEdge + tickS ∧ t.hal.sinceEdge = 0 ∧ t.hal.use = s.set.hal ∧
      t.hal.frozen = (s.hal.frozen && !s.hal.resumeAtEdge) ∧ t.hal.resumeAtEdge = false ∧
      (s.hal.pendingLevel = none → t.hal.level = s.hal.level) ∧
      (∀ x, s.hal.pendingLevel = some x → t.hal.seconds = s.hal.seconds + 1 → x.edge = t.hal.seconds →
        (x.target ≤ s.hal.level ∨ x.target ≤ s.power.railLevel) → t.hal.level = x.target ∧ t.hal.pendingLevel = none) ∧
      (s.hal.pendingAlign = none → t.hal.beatCount = s.hal.beatCount) ∧
      (∀ x, s.hal.pendingAlign = some x → t.hal.seconds = s.hal.seconds + 1 → x.second = t.hal.seconds →
        t.hal.beatCount = x.count ∧ t.hal.pendingAlign = none) ∧
      t = { s with aon := t.aon, set := t.set, setA := t.setA, setB := t.setB, slotB := t.slotB, recorder := t.recorder,
                   hal := t.hal, power := t.power, sensors := t.sensors, lead := t.lead, mgmt := t.mgmt, ctxs := t.ctxs,
                   clusters := t.clusters, grixo := t.grixo, out := t.out })

/-- PTP_SYNC_RX, PTP_ANNOUNCE_RX, REFERENCE_QUALIFIED, REFERENCE_LOST (R67 to R69, R73): consecutive Sync intervals within
40 ns count up to 16, two intervals without a Sync ending the run (log entry 77); messages of another domain or transport,
or to a port without power, change nothing; a PTP reference qualifies with 16 of them, reference 1 by its edges and
frequency; the loss of the one in use while LOCKED, with no other qualified, begins HOLDOVER. -/
def Obligations.ReferencesQualifyAndFail : Prop :=
  (∀ (s : State) (t1 t2 t3 t4 now : Nat), s.power.powered.getLsbD 1 = true →
    (s.at now).aon < s.hal.lastSync.1 + 2 * syncTicks s.hal.use.ptpLogSync →
    ∃ t, exec (.ptpSyncRx 2 ⟨s.hal.use.ptpDomain, s.hal.use.ptpTransport, t1, t2, t3, t4⟩ now) s = .next t ∧
      t = { s.at now with
        out := s.out ++ [.delayReq 2]
        hal := { s.hal with
          lastSync := ((s.at now).aon, s.hal.lastSync.2)
          syncGood := (if (((t2 : Int) - t1 - (t4 - t3)) / 2).natAbs ≤ 40 then min 16 (s.hal.syncGood.1 + 1) else 0,
            s.hal.syncGood.2) } }) ∧
  (∀ (s : State) (t1 t2 t3 t4 now : Nat), s.power.powered.getLsbD 10 = true → s.hal.lastSync.2 + 2 * syncTicks s.hal.use.ptpLogSync ≤ (s.at now).aon →
    ∃ t, exec (.ptpSyncRx 3 ⟨s.hal.use.ptpDomain, s.hal.use.ptpTransport, t1, t2, t3, t4⟩ now) s = .next t ∧
      t = { s.at now with
        out := s.out ++ [.delayReq 3]
        hal := { s.hal with
          lastSync := (s.hal.lastSync.1, (s.at now).aon)
          syncGood := (s.hal.syncGood.1, if (((t2 : Int) - t1 - (t4 - t3)) / 2).natAbs ≤ 40 then 1 else 0) } }) ∧
  (∀ (s : State) (ref domain transport t1 t2 t3 t4 now : Nat),
    (domain ≠ s.hal.use.ptpDomain ∨ transport ≠ s.hal.use.ptpTransport ∨
      s.power.powered.getLsbD (if ref = 3 then 10 else 1) = false) →
    exec (.ptpSyncRx ref ⟨domain, transport, t1, t2, t3, t4⟩ now) s = .next (s.at now) ∧
    exec (.ptpAnnounceRx ⟨ref, domain, transport⟩ now) s = .next (s.at now)) ∧
  (∀ (s : State) (now : Nat), s.power.powered.getLsbD 1 = true → s.power.powered.getLsbD 10 = true →
    (∃ t, exec (.ptpAnnounceRx ⟨2, s.hal.use.ptpDomain, s.hal.use.ptpTransport⟩ now) s = .next t ∧
      t = { s.at now with hal := { s.hal with lastAnnounce := ((s.at now).aon, s.hal.lastAnnounce.2) } }) ∧
    (∃ t, exec (.ptpAnnounceRx ⟨3, s.hal.use.ptpDomain, s.hal.use.ptpTransport⟩ now) s = .next t ∧
      t = { s.at now with hal := { s.hal with lastAnnounce := (s.hal.lastAnnounce.1, (s.at now).aon) } })) ∧
  (∀ (s : State) (ref a b c hz now : Nat), 1 ≤ ref → ref ≤ 3 → ref ∉ s.hal.qualified → s.start.t0.isSome = true →
    s.start.pllLocked = true →
    ((ref = 1 ∧ (∀ x ∈ [a, b, c], 999999000 ≤ x ∧ x ≤ 1000001000) ∧ s.hal.use.refInFreq = 10 ∧ 9999800000 ≤ hz ∧
        hz ≤ 10000200000) ∨
      (ref = 2 ∧ s.hal.syncGood.1 = 16) ∨ (ref = 3 ∧ s.hal.syncGood.2 = 16)) →
    ∃ t, exec (.referenceQualified ⟨ref, [a, b, c], hz⟩ now) s = .next t ∧ t.hal.qualified = ref :: s.hal.qualified ∧
      (s.hal.refActive ≠ 0 → t.hal = { s.hal with qualified := ref :: s.hal.qualified }) ∧
      (s.hal.refActive = 0 → s.hal.state = .start → s.hal.use.refPriority.toNat % 16 = ref →
        t.hal.refActive = ref ∧ t.hal.state = .acquiring ∧ t.hal.acqFrom = .start) ∧
      t.hal.beatCount = s.hal.beatCount ∧ t.hal.seconds = s.hal.seconds ∧ t.hal.level = s.hal.level ∧
      t = { s.at now with hal := t.hal }) ∧
  (∀ (s : State) (ref late hz now : Nat), ref ∈ s.hal.qualified →
    (if ref = 1 then 2000 < late else
      getPair s.hal.lastSync ref + 3 * syncTicks s.hal.use.ptpLogSync ≤ (s.at now).aon) →
    ∃ t, exec (.referenceLost ⟨ref, late, hz⟩ now) s = .next t ∧
      (∀ x, x ∈ t.hal.qualified ↔ x ∈ s.hal.qualified ∧ x ≠ ref) ∧
      (s.hal.refActive ≠ ref → t.hal.refActive = s.hal.refActive ∧ t.hal.state = s.hal.state) ∧
      (s.hal.refActive = ref → (∀ x ∈ s.hal.qualified, x = ref) → ref ≠ 0 → s.hal.state = .locked →
        t.hal.refActive = 0 ∧ t.hal.state = .holdover ∧ t.hal.holdoverSince = some (s.at now).aon) ∧
      t.hal.beatCount = s.hal.beatCount ∧ t.hal.seconds = s.hal.seconds ∧ t.hal.level = s.hal.level ∧
      Recorded { s.at now with hal := t.hal } t)

/-- HALYARD_LOCKED, HOLDOVER_60S_EXPIRY, FREE_RUN_TIMEOUT (R71 to R73, R537): the first LOCKED after a POWER-ON sets SECONDS
to 0; a holdover of 60 s sets HOLDOVER_FLAG once, with ALARM 0x0403_0003; 30 s after stage C with no qualified reference
and ALLOW_FREE_RUN the Halyard enters FREE-RUN. -/
def Obligations.HalyardStatesChange : Prop :=
  (∀ (s : State) (p : Int) (now : Nat), s.hal.state = .acquiring → s.hal.refActive ≠ 0 → -10000 ≤ p → p ≤ 10000 →
    ∃ t, exec (.halyardLocked ⟨p, now⟩) s = .next t ∧ t.hal.state = .locked ∧ t.hal.holdoverFlag = false ∧
      t.hal.holdoverSince = none ∧ t.hal.everLocked = true ∧ t.hal.phaseOffset = p ∧
      t.hal.seconds = (if s.hal.everLocked then s.hal.seconds else 0) ∧
      (s.plansAdmitted = false → t.hal.lastEdge = (s.at now).aon ∧ t.hal.sinceEdge = 0 ∧ t.hal.use = s.set.hal) ∧
      (s.plansAdmitted = true →
        t.hal.lastEdge = s.hal.lastEdge ∧ t.hal.sinceEdge = s.hal.sinceEdge ∧ t.hal.use = s.hal.use) ∧
      t.hal.beatCount = s.hal.beatCount ∧ t.hal.level = s.hal.level ∧ t.hal.refActive = s.hal.refActive ∧
      Recorded { s.at now with hal := t.hal } t) ∧
  (∀ (s : State) (now b : Nat), s.hal.holdoverSince = some b → b + 60 * tickS ≤ (s.at now).aon →
    s.hal.holdoverFlag = false →
    exec (.holdover60sExpiry now) s =
      .next ({ s.at now with hal := { s.hal with holdoverFlag := true } }.record 0x04030003 0x4FF0 none [])) ∧
  (∀ (s : State) (now : Nat), s.hal.state = .start → s.set.allowFreeRun = true → s.hal.qualified = [] →
    s.start.stage = some 3 → s.start.stageCAt + 30 * tickS ≤ (s.at now).aon →
    exec (.freeRunTimeout now) s = .next { s.at now with hal := { s.hal with
      state := .freeRun, lastEdge := s.hal.lastEdge + s.hal.sinceEdge, sinceEdge := 0 } })

-- Levels, the core rail, emergencies and trips (R32, R76 to R81, R405 to R411)

/-- RAIL_RAMP_START, RAIL_READY_CHECK (R78, R407): before an upward change the rail ramps, and 100 ms before the edge it
stands in regulation at the target or the change is dropped with ALARM 0x0403_000B. -/
def Obligations.RailPrecedesUpwardChange : Prop :=
  (∀ (s : State) (now : Nat) (x : LevelChange), s.hal.pendingLevel = some x → s.hal.level < x.target →
    s.hal.lastEdge + (x.edge - s.hal.seconds) * tickS ≤ (s.at now).aon + 1500 * tickMs →
    exec (.railRampStart now) s = .next { s.at now with power := { (s.at now).power with ramping := true } }) ∧
  (∀ (s : State) (now : Nat), s.hal.pendingLevel = none → s.hal.level < s.power.railLevel →
    exec (.railRampStart now) s =
      .next { s.at now with power := { (s.at now).power with railLevel := s.hal.level, ramping := false } }) ∧
  (∀ (s : State) (now : Nat) (x : LevelChange), s.hal.pendingLevel = some x → s.hal.level < x.target →
    s.hal.lastEdge + (x.edge - s.hal.seconds) * tickS ≤ (s.at now).aon + 100 * tickMs → s.power.ramping = true →
    exec (.railReadyCheck true now) s =
      .next { s.at now with power := { (s.at now).power with railLevel := x.target, ramping := false } }) ∧
  (∀ (s : State) (now : Nat) (x : LevelChange), s.hal.pendingLevel = some x → s.hal.level < x.target →
    s.hal.lastEdge + (x.edge - s.hal.seconds) * tickS ≤ (s.at now).aon + 100 * tickMs →
    ∃ t, exec (.railReadyCheck false now) s = .next t ∧ t.hal = { s.hal with pendingLevel := none } ∧
      t.power = { (s.at now).power with ramping := false } ∧
      t = { s.at now with hal := t.hal, power := t.power }.record 0x0403000B 0x4FF0 none (levelPayload x.target x.edge))

/-- THERMAL_EMERGENCY, ELECTRICAL_EMERGENCY, EMERGENCY_CLEAR, COOLANT_WARNING (R32, R80, R81, R409, R410): an emergency is
counted and recorded and the shadow count runs; while a Canton is powered and none is in force yet it cancels a pending
level change and orders PL0; a warning is only recorded. -/
def Obligations.EmergenciesOrderLevel0 : Prop :=
  (∀ (s : State) (temp : List Int) (inlet : Int) (flow now : Nat), s.start.t0.isSome = true →
    s.power.emergencyThermal = false → (45 < inlet ∨ flow < 150) →
    ∃ t, exec (.thermalEmergency temp inlet flow now) s = .next t ∧ t.power.emergencyThermal = true ∧
      t.power.emergencyElectrical = s.power.emergencyElectrical ∧
      t.set.emergencyCount = min (s.set.emergencyCount + 1) 0xFFFFFFFF ∧
      t.sensors.inlet = inlet ∧ t.sensors.flow = flow ∧
      t.hal.shadow.isSome = true ∧ (s.power.emergencyElectrical = true → t.hal = { s.hal with shadow := t.hal.shadow }) ∧
      (s.power.emergencyElectrical = false → s.power.powered &&& cantonBits ≠ 0 → s.hal.level ≠ 0 →
        t.hal.pendingLevel = none ∧ t.hal.emergencyDue.isSome = true) ∧
      t.hal.level = s.hal.level ∧ t.hal.beatCount = s.hal.beatCount ∧
      t = { s.at now with set := t.set, setA := t.setA, setB := t.setB, slotB := t.slotB, recorder := t.recorder,
                          hal := t.hal, power := t.power, sensors := t.sensors, mgmt := t.mgmt }) ∧
  (∀ (s : State) (watts now : Nat), s.start.t0.isSome = true → s.power.emergencyElectrical = false → 2400 < watts →
    ∃ t, exec (.electricalEmergency watts now) s = .next t ∧ t.power.emergencyElectrical = true ∧
      t.power.emergencyThermal = s.power.emergencyThermal ∧
      t.set.emergencyCount = min (s.set.emergencyCount + 1) 0xFFFFFFFF ∧ t.sensors.inputPower = (watts + 2) / 5 * 5 ∧
      t.hal.shadow.isSome = true ∧ (s.power.emergencyThermal = true → t.hal = { s.hal with shadow := t.hal.shadow }) ∧
      (s.power.emergencyThermal = false → s.power.powered &&& cantonBits ≠ 0 → s.hal.level ≠ 0 →
        t.hal.pendingLevel = none ∧ t.hal.emergencyDue.isSome = true) ∧
      t.hal.level = s.hal.level ∧ t.hal.beatCount = s.hal.beatCount ∧
      t = { s.at now with set := t.set, setA := t.setA, setB := t.setB, slotB := t.slotB, recorder := t.recorder,
                          hal := t.hal, power := t.power, sensors := t.sensors, mgmt := t.mgmt }) ∧
  (∀ (s : State) (temp : List Int) (inlet : Int) (flow watts now : Nat), s.power.emergencyThermal = true →
    (s.at now).dieAt temp 91 = false → inlet ≤ 40 → 200 ≤ flow →
    ∃ t, exec (.emergencyClear temp inlet flow watts now) s = .next t ∧ t.power.emergencyThermal = false ∧
      t.power.emergencyElectrical = (s.power.emergencyElectrical && !decide (watts ≤ 2200)) ∧
      Recorded { s.at now with power := t.power, sensors := t.sensors } t) ∧
  (∀ (s : State) (inlet : Int) (flow now : Nat), s.start.t0.isSome = true → s.power.emergencyThermal = false →
    (40 < inlet ∨ flow < 200) → inlet ≤ 45 → 150 ≤ flow →
    ∃ t, exec (.coolantWarning inlet flow now) s = .next t ∧ t.sensors.inlet = inlet ∧ t.sensors.flow = flow ∧
      Recorded { s.at now with sensors := t.sensors } t)

/-- THERMAL_TRIP, TRIP_RESTART (R411): a die at 105 °C trips the module: every domain but AON and MGT is off and latched,
the trip is counted; 60 s later the module restarts, but not after the third trip within 3,600 s. -/
def Obligations.TripStopsAndRestarts : Prop :=
  (∀ (s : State) (temp : List Int) (now : Nat), s.start.t0.isSome = true → s.power.tripped = false →
    (s.at now).dieAt temp 105 = true →
    ∃ t, exec (.thermalTrip temp now) s = .next t ∧ t.power.tripped = true ∧ t.power.powered = s.power.powered &&& 3 ∧
      t.power.regulated = s.power.regulated &&& 3 ∧ t.power.latched = s.power.latched ||| 0xFFFFFC ∧
      t.power.trips = (s.at now).ms :: s.power.trips ∧ t.set.tripCount = min (s.set.tripCount + 1) 0xFFFFFFFF ∧
      t.rounds = [] ∧ t.plans = List.replicate 16 .reset ∧ t.start.stage = none ∧ t.hal.beatCount = s.hal.beatCount ∧
      t.hal.seconds = s.hal.seconds ∧ t.aon = (s.at now).aon ∧ t.pending = s.pending ∧ t.out = s.out) ∧
  (∀ (s : State) (now : Nat), s.power.tripped = true → (s.at now).ms ≥ s.power.trips.headD 0 + 60000 →
    (∀ x, s.power.trips[2]? = some x → x + 3600000 < s.power.trips.headD 0) →
    ∃ t, exec (.tripRestart now) s = .next t ∧ t.power.tripped = false ∧ t.power.powered = s.power.powered &&& 1 ∧
      t.start.t0 = some (s.at now).aon ∧ t.start.kind = 2 ∧ t.start.cause = 0x12 ∧ t.start.stage = none ∧
      t.power.trips = s.power.trips ∧ t.rounds = [] ∧ t.aon = (s.at now).aon ∧ t.out = s.out) ∧
  (∀ (s : State) (now x : Nat), s.power.tripped = true → s.power.trips[2]? = some x →
    s.power.trips.headD 0 ≤ x + 3600000 → exec (.tripRestart now) s = .next (s.at now))

-- Single writes of dictionary entries. `t = ({ s.touch n with … }).answered n index sub code`: the message is noted in the
-- session, what is named changes, and the STATUS is sent.

/-- REF_PRIORITY_WRITE (R70): a value that names a code above 3, names one code twice, or places 0 before a nonzero code is
rejected with 0x0103_0017 and nothing changes; an accepted value stands in the entry, and the Halyard takes it at the next
PPS edge (in the states in which a PPS edge comes). -/
def Obligations.RefPriorityRule : Prop :=
  (∀ (s : State) (n role a b c : Nat) (v : Bytes), s.InSession n role → (role = 2 ∨ role = 3) → v.length = 4 →
    beNat v = a + 16 * b + 256 * c → a < 16 → b < 16 → c < 16 →
    (3 < a ∨ 3 < b ∨ 3 < c ∨ (a ≠ 0 ∧ (a = b ∨ a = c)) ∨ (b ≠ 0 ∧ b = c) ∨ (a = 0 ∧ (b ≠ 0 ∨ c ≠ 0)) ∨ (b = 0 ∧ c ≠ 0)) →
    exec (.refPriorityWrite n v) s = .next ((s.touch n).answered n 0x1200 0x01 0x01030017)) ∧
  (∀ (s : State) (n role a b c : Nat) (v : Bytes), s.InSession n role → (role = 2 ∨ role = 3) → v.length = 4 →
    beNat v = a + 16 * b + 256 * c → a ≤ 3 → b ≤ 3 → c ≤ 3 → (a = b → a = 0) → (a = c → a = 0) → (b = c → b = 0) →
    (a = 0 → b = 0) → (b = 0 → c = 0) →
    ∃ t, exec (.refPriorityWrite n v) s = .next t ∧
      t.set = { s.set with hal := { s.set.hal with refPriority := BitVec.ofNat 32 (beNat v) } } ∧ t.hal = s.hal ∧
      t = { s.touch n with set := t.set, setA := t.setA, setB := t.setB, slotB := t.slotB }.answered n 0x1200 0x01 0) ∧
  (∀ (s : State) (ptp : Nat) (ph : Int), s.start.t0.isSome = true → s.hal.frozen = false →
    (s.hal.state = .start ∨ s.hal.sinceEdge = tickS) →
    ∃ t, exec (.ppsEdge ptp ph) s = .next t ∧ t.hal.use.refPriority = s.set.hal.refPriority)

/-- HALYARD_SETTING_WRITE, ALLOW_FREE_RUN_WRITE, ALIGN (R71, R75, R84): an entry of the Halyard takes a value in its range;
a frequency or PTP setting puts the references out of use that it touches; ALIGN waits for the edge of its second, 2 to
3,600 s ahead, with no plan admitted. -/
def Obligations.HalyardEntriesAreWritten : Prop :=
  (∀ (s : State) (n role sub : Nat) (v : Bytes), s.InSession n role → (role = 2 ∨ role = 3) →
    ((sub = 2 ∧ (v = [10] ∨ v = [25])) ∨
     (sub = 3 ∧ v.length = 4 ∧ -100000 ≤ signedOf 32 (beNat v) ∧ signedOf 32 (beNat v) ≤ 100000) ∨
     (sub = 4 ∧ v.length = 1 ∧ beNat v ≤ 127) ∨ (sub = 5 ∧ v.length = 1 ∧ 1 ≤ beNat v ∧ beNat v ≤ 3) ∨
     (sub = 6 ∧ v.length = 2 ∧ -7 ≤ signedOf 16 (beNat v) ∧ signedOf 16 (beNat v) ≤ 0)) →
    ∃ t a : State, exec (.halyardSettingWrite n sub v) s = .next t ∧ t = a.answered n 0x1200 sub 0 ∧
      a.set.hal = s.set.hal.write sub (beNat v) ∧ a.hal.beatCount = s.hal.beatCount ∧ a.hal.level = s.hal.level ∧
      a.hal.seconds = s.hal.seconds ∧ (s.hal.state ≠ .start → a.hal.use = s.hal.use) ∧
      (sub ≤ 3 → 1 ∉ a.hal.qualified) ∧ (4 ≤ sub → 2 ∉ a.hal.qualified ∧ 3 ∉ a.hal.qualified) ∧
      a = { s.touch n with set := a.set, setA := a.setA, setB := a.setB, slotB := a.slotB, hal := a.hal,
                           recorder := a.recorder, mgmt := a.mgmt }) ∧
  (∀ (s : State) (n role : Nat) (b : Bool), s.InSession n role → (role = 2 ∨ role = 3) →
    ∃ t, exec (.allowFreeRunWrite n [if b then 1 else 0]) s = .next t ∧ t.set = { s.set with allowFreeRun := b } ∧
      (s.hal.state ≠ .start → t.hal = s.hal) ∧
      t = { s.touch n with set := t.set, setA := t.setA, setB := t.setB, slotB := t.slotB, hal := t.hal }.answered n 0x1200 0x07 0) ∧
  (∀ (s : State) (n role : Nat) (v : Bytes), s.InSession n role → (role = 2 ∨ role = 3) → v.length = 16 →
    s.plansAdmitted = false →
    (s.hal.seconds + 2) * tickS + min tickS (s.aon - s.hal.lastEdge) ≤ beAt v 0 8 * tickS →
    beAt v 0 8 * tickS ≤ (s.hal.seconds + 3600) * tickS + min tickS (s.aon - s.hal.lastEdge) →
    exec (.align n v) s =
      .next ({ s.touch n with hal := { s.hal with pendingAlign := some ⟨beAt v 0 8, beAt v 8 8⟩ } }.answered n 0x1200 0x0F 0))

/-- LEVEL_REQUEST (R76, R406): with every Canton powered and started, the Halyard out of START, no emergency and no change
pending, a change to another level waits for an edge 2 to 3,600 s ahead and is recorded with 0x0503_0006. -/
def Obligations.LevelRequestWaitsForItsEdge : Prop :=
  ∀ (s : State) (n role target edge : Nat) (v : Bytes), s.InSession n role → (role = 2 ∨ role = 3) → v.length = 9 →
    beAt v 0 1 = target → beAt v 1 8 = edge → target ≤ 3 → s.power.powered &&& cantonBits = cantonBits →
    s.start.cantonReady.all id = true → s.hal.state ≠ .start → s.power.emergencyThermal = false →
    s.power.emergencyElectrical = false → s.hal.pendingLevel = none →
    (s.hal.seconds + 2) * tickS + min tickS (s.aon - s.hal.lastEdge) ≤ edge * tickS →
    edge * tickS ≤ (s.hal.seconds + 3600) * tickS + min tickS (s.aon - s.hal.lastEdge) → target ≠ s.hal.level →
    exec (.levelRequest n v) s =
      .next ((({ s.touch n with hal := { s.hal with pendingLevel := some ⟨target, edge⟩ }
                                power := { s.power with ramping := false } }).record 0x05030006 0x4FF0 none
        (levelPayload target edge)).answered n 0x1300 0x02 0)

/-- FURL_ENTER_COMMAND, FURL_WAKE_REQUEST (R414): 1, 2 or 3 starts entry to that level at once; it is rejected with
0x0102_0027 if any claim or hold is in force, or if the level is not deeper than the current one; 0 is a wake request, which
in F0 is accepted and has no effect. -/
def Obligations.FurlCommandRule : Prop :=
  (∀ (s : State) (n role : Nat) (k : Fin 4), s.InSession n role → (role = 2 ∨ role = 3) → k ≠ 0 →
    (s.touch n).idle = true → s.power.furl < k.val → s.power.entry = none → s.power.committed = none →
    exec (.furlEnterCommand n [BitVec.ofNat 8 k.val]) s =
      .next ({ s.touch n with power := { s.power with entry := some ⟨k.val, furlBlocks s.power.furl k.val, []⟩
                                                      retryAt := none } }.answered n 0x1300 0x0A 0)) ∧
  (∀ (s : State) (n role : Nat) (k : Fin 4), s.InSession n role → (role = 2 ∨ role = 3) → k ≠ 0 →
    ((s.touch n).idle = false ∨ k.val ≤ s.power.furl) →
    exec (.furlEnterCommand n [BitVec.ofNat 8 k.val]) s = .next ((s.touch n).answered n 0x1300 0x0A 0x01020027)) ∧
  (∀ (s : State) (n role : Nat), s.InSession n role → (role = 2 ∨ role = 3) →
    exec (.furlWakeRequest n [0]) s = .next (((s.touch n).wakeRequest 3).answered n 0x1300 0x0A 0)) ∧
  (∀ (s : State) (n role : Nat), s.InSession n role → (role = 2 ∨ role = 3) → s.power.furl = 0 → s.power.entry = none →
    s.power.committed = none → exec (.furlWakeRequest n [0]) s = .next ((s.touch n).answered n 0x1300 0x0A 0))

/-- PAD_RELEASE (R424): PAD_LATCHED shows a latched domain by its bit; CP firmware releases the named domains 2 to 23, each
in regulation, and nothing is released if a named one is not; a domain already released stays released; a Yunov write is
rejected with 0x0102_0026. That CP firmware comes as a session number of 8 or more is the model's choice (log entry 34). -/
def Obligations.PadReleaseRule : Prop :=
  (∀ (s : State) (cursor : Nat), s.entryValue cursor 0x1300 0x0E = beBytes 4 s.power.latched.toNat) ∧
  (∀ (s : State) (n v : Nat), 8 ≤ n → (s.start.cpRuns.1 || s.start.cpRuns.2) = true → v < 2 ^ 24 → v % 4 = 0 →
    (∀ d, d < 24 → v.testBit d = true → s.power.regulated.getLsbD d = true) →
    ∃ t, exec (.padRelease n (beBytes 4 v)) s = .next t ∧
      (∀ d, d < 24 → t.power.latched.getLsbD d = (s.power.latched.getLsbD d && !v.testBit d)) ∧
      t = { s with power := { s.power with latched := t.power.latched } }) ∧
  (∀ (s : State) (n v d : Nat), 8 ≤ n → v < 2 ^ 24 → d < 24 → v.testBit d = true →
    (d < 2 ∨ s.power.regulated.getLsbD d = false) → exec (.padRelease n (beBytes 4 v)) s = .next s) ∧
  (∀ (s : State) (n role v : Nat), s.InSession n role → (role = 2 ∨ role = 3) → n < 8 → v < 2 ^ 24 →
    exec (.padRelease n (beBytes 4 v)) s = .next ((s.touch n).answered n 0x1300 0x0F 0x01020026))

/-- DMA_SLOT_MAP_WRITE, PORT_ENABLE_WRITE, PORT_MODE_WRITE (R259, R277, R320): the map of an idle endpoint, the enable bits
and, while no connection is open, the mode of disabled ports stand in the settings; PORT_ENABLE starts training on the sub-ports of newly enabled
ports. -/
def Obligations.PortAndSlotMapWrites : Prop :=
  (∀ (s : State) (n role : Nat) (v : Bytes), s.InSession n role → (role = 2 ∨ role = 3) → v.length = 8 →
    (∀ c, c < 16 → (s.vf c).enable = false ∧ (s.bound c = true → ∀ q, q < 64 → (s.queue c q).state = .none)) →
    (∀ c, c < 16 → (s.ctxSet c).state ≠ .free → (s.ctxSet c).endpoint = 0 → ∃ k, k < 16 ∧ beNat v / 16 ^ k % 16 = c) →
    ∃ t, exec (.dmaSlotMapWrite n 0 v) s = .next t ∧
      t.set = { s.set with dmaMap := (BitVec.ofNat 64 (beNat v), s.set.dmaMap.2) } ∧
      t = { s.touch n with set := t.set, setA := t.setA, setB := t.setB, slotB := t.slotB }.answered n 0x2200 0x03 0) ∧
  (∀ (s : State) (n role : Nat) (v : Bytes), s.InSession n role → (role = 2 ∨ role = 3) → v.length = 8 →
    (∀ c, c < 16 → (s.vf (16 + c)).enable = false ∧ (s.bound (16 + c) = true → ∀ q, q < 64 → (s.queue c q).state = .none)) →
    (∀ c, c < 16 → (s.ctxSet c).state ≠ .free → (s.ctxSet c).endpoint = 1 → ∃ k, k < 16 ∧ beNat v / 16 ^ k % 16 = c) →
    ∃ t, exec (.dmaSlotMapWrite n 1 v) s = .next t ∧
      t.set = { s.set with dmaMap := (s.set.dmaMap.1, BitVec.ofNat 64 (beNat v)) } ∧
      t = { s.touch n with set := t.set, setA := t.setA, setB := t.setB, slotB := t.slotB }.answered n 0x2200 0x04 0) ∧
  (∀ (s : State) (n role : Nat) (v : Bytes), s.InSession n role → (role = 2 ∨ role = 3) → v.length = 2 →
    ∃ t a : State, exec (.portEnableWrite n v) s = .next t ∧ t = a.answered n 0x2000 0x01 0 ∧
      a.set.ports = { s.set.ports with enable := BitVec.ofNat 16 (beNat v) } ∧
      (∀ lane, lane < 64 → lane < s.grixo.ports.length → s.set.ports.enable.getLsbD (lane / 4) = false →
        (beNat v).testBit (lane / 4) = true → lane % 4 < 2 ^ s.set.ports.modeOf (lane / 4) →
        (a.port lane).training = true) ∧
      (∀ lane, lane < 64 → lane < s.grixo.ports.length → s.set.ports.enable.getLsbD (lane / 4) = true →
        (beNat v).testBit (lane / 4) = false → (a.port lane).training = false ∧ (a.port lane).up = false) ∧
      a = { s.touch n with set := a.set, setA := a.setA, setB := a.setB, slotB := a.slotB, recorder := a.recorder,
                           mgmt := a.mgmt, ctxs := a.ctxs, grixo := a.grixo, out := a.out }) ∧
  (∀ (s : State) (n role : Nat) (v : Bytes), s.InSession n role → (role = 2 ∨ role = 3) → v.length = 4 →
    (∀ k, k < 16 → beNat v / 4 ^ k % 4 ≠ 3) →
    (∀ k, k < 16 → s.set.ports.modeOf k ≠ beNat v / 4 ^ k % 4 → s.set.ports.enable.getLsbD k = false) →
    s.hoistBusy 0 = false → s.hoistBusy 1 = false →
    ∃ t, exec (.portModeWrite n v) s = .next t ∧
      t.set = { s.set with ports := { s.set.ports with mode := BitVec.ofNat 32 (beNat v) } } ∧
      t = { s.touch n with set := t.set, setA := t.setA, setB := t.setB, slotB := t.slotB }.answered n 0x2000 0x02 0)

/-- CTX_CREATE (R322, R324, R345, R357): a FREE context whose entries hold with the others becomes ACTIVE with zeroed memory,
generation 1 of its memory key (2 where the halves of that key are equal, R356), no plan and both its VFs at their reset values; the other contexts stay as they are. -/
def Obligations.ContextCreation : Prop :=
  ∀ (s : State) (n role c : Nat), s.InSession n role → (role = 2 ∨ role = 3) → c < 16 → s.ctxs.length = 16 →
    s.set.ctx.length = 16 → (s.ctxSet c).state = .free → s.lead.hold = none → s.masterAway = false →
    s.maskFree c (s.ctxSet c) = true → s.totalsHold c (s.ctxSet c) = true →
    (s.ctxSet c).resident.h0 ≤ (s.ctxSet c).connLimit.h0 → (s.ctxSet c).resident.h1 ≤ (s.ctxSet c).connLimit.h1 →
    s.hasDmaSlot (s.ctxSet c).endpoint c = true →
    ∃ t a : State, exec (.ctxCreate n c [1]) s = .next t ∧ t = a.answered n (0x3000 + c) 0x02 0 ∧
      a.ctxSet c = { s.ctxSet c with state := .active } ∧ (∀ d, d ≠ c → a.ctxSet d = s.ctxSet d ∧ a.ctx d = s.ctx d) ∧
      (a.ctx c).memory = [] ∧ (a.ctx c).poison = 0 ∧ (a.ctx c).mem.live = 1 ∧
      (a.ctx c).mem.generation = (if (a.memKey c 1).take 32 = (a.memKey c 1).drop 32 then 2 else 1) ∧
      (a.ctx c).teardown = none ∧ (a.ctx c).pagesAssigned = true ∧ a.plan c = .reset ∧ a.vf c = .reset ∧
      a.vf (16 + c) = .reset ∧
      a = { s.touch n with set := a.set, setA := a.setA, setB := a.setB, slotB := a.slotB, recorder := a.recorder,
                           keys := a.keys, journal := a.journal, mgmt := a.mgmt, host := a.host, ctxs := a.ctxs,
                           plans := a.plans, grixo := a.grixo, draws := a.draws }

/-- CTX_TEARDOWN, KEY_DESTROY, MEM_ROTATE, ZEROISE, LIFECYCLE_REQUEST and, with a context in use, MODULE_RESET (R334, R355,
R358, R361, R364, R379, R397, R463): the write, if the module could act on it now, waits for its approvals. -/
def Obligations.DualControlledWritesWait : Prop :=
  ∀ (s : State) (n role slot : Nat), s.InSession n role → s.UnderCredential n slot → (role = 2 ∨ role = 3) →
    s.mgmt.approvals.length < 8 →
    (∀ c, c < 16 → (s.ctxSet c).state = .active → exec (.ctxTeardown n c [2]) s = .next (s.awaits n role slot (0x3000 + c) 0x02 [2])) ∧
    (∀ v : Byte, v.toNat < 64 → s.masterAway = false → exec (.keyDestroy n [v]) s = .next (s.awaits n role slot 0x4000 0x09 [v])) ∧
    (∀ v : Byte, v.toNat < 16 → s.masterAway = false → (s.ctx v.toNat).mem.live = 1 →
      exec (.memRotate n [v]) s = .next (s.awaits n role slot 0x4000 0x0A [v])) ∧
    (exec (.zeroise n [0x5A]) s = .next (s.awaits n role slot 0x4000 0x0C [0x5A])) ∧
    (∀ v : Byte, transitionOk s.lifecycle.code v.toNat = true → (∀ e ∈ s.set.ctx, e.state = .free) →
      s.pack.packState = 1 → s.nv.pending = 0xFF →
      exec (.lifecycleRequest n [v]) s = .next (s.awaits n role slot 0x4100 0x06 [v])) ∧
    ((∃ e ∈ s.set.ctx, e.state ≠ .free) → exec (.moduleReset n [0xA5]) s = .next (s.awaits n role slot 0x1400 0x15 [0xA5]))

/-- What a write does once two operators stand behind it (R334, R355, R358, R361, R379, R380, R397, R463): the context is in
TEARDOWN; the named Grixo keys are gone; the next memory-key generation is current; every key and plan is gone and the
module resets; the transition is pending; the module restarts 123 ms later. -/
def Obligations.ApprovedWritesAct : Prop :=
  ∀ (s : State) (a : Approval), (∃ x, s.credential? a.initiator = some x ∧ (x.role = 2 ∨ x.role = 3)) →
    (∀ c, c < 16 → s.set.ctx.length = 16 → a.index = 0x3000 + c → a.sub = 0x02 → a.value = [2] → (s.ctxSet c).state = .active →
      (s.actApproved a).status = 0 ∧ ((s.actApproved a).state.ctxSet c).state = .teardown ∧
      (∀ k ∈ (s.actApproved a).state.keys.slots, k.world ≠ c) ∧
      (∀ d, d ≠ c → (s.actApproved a).state.ctxSet d = s.ctxSet d) ∧
      (s.actApproved a).state.rounds = s.rounds ∧ (s.actApproved a).state.hal = s.hal) ∧
    (∀ v : Byte, v.toNat < 64 → a.index = 0x4000 → a.sub = 0x09 → a.value = [v] → s.masterAway = false →
      (s.actApproved a).status = 0 ∧
      (∀ k ∈ (s.actApproved a).state.keys.grixo, k.ctx = v.toNat % 16 →
        (k.hoist = 0 → v.getLsbD 4 = false) ∧ (k.hoist ≠ 0 → v.getLsbD 5 = false)) ∧
      (s.actApproved a).state.hal = s.hal ∧ (s.actApproved a).state.rounds = s.rounds) ∧
    (∀ v : Byte, v.toNat < 16 → v.toNat < s.ctxs.length → a.index = 0x4000 → a.sub = 0x0A → a.value = [v] →
      s.masterAway = false → (s.ctx v.toNat).mem.live = 1 →
      (s.actApproved a).status = 0 ∧
      ((s.actApproved a).state.ctx v.toNat).mem.generation =
        (s.nextGeneration v.toNat ((s.ctx v.toNat).mem.generation + 1)).1 ∧
      ((s.actApproved a).state.ctx v.toNat).memory = (s.ctx v.toNat).memory ∧
      (∀ d, d ≠ v.toNat → (s.actApproved a).state.ctx d = s.ctx d)) ∧
    (a.index = 0x4000 → a.sub = 0x0C → a.value = [0x5A] →
      (s.actApproved a).status = 0 ∧ (s.actApproved a).state.keys.slots = [] ∧
      (s.actApproved a).state.keys.grixo = [] ∧
      (s.actApproved a).state.keys.tamperCount = min (s.keys.tamperCount + 1) 0xFFFFFFFF ∧
      (s.actApproved a).state.keys.tamperCause = 4 ∧ (s.actApproved a).state.rounds = [] ∧
      (s.actApproved a).state.start.cause = 0x11) ∧
    (∀ v : Byte, a.index = 0x4100 → a.sub = 0x06 → a.value = [v] → transitionOk s.lifecycle.code v.toNat = true →
      (∀ e ∈ s.set.ctx, e.state = .free) → s.pack.packState = 1 → s.nv.pending = 0xFF →
      Config.nvWriteFails s.aon (s.nv.seq + 1) = false →
      (s.actApproved a).status = 0 ∧ (s.actApproved a).state.nv.pending = v.toNat ∧
      (s.actApproved a).state.keys.fuses = s.keys.fuses ∧ (s.actApproved a).state.keys.slots = s.keys.slots) ∧
    (a.index = 0x1400 → a.sub = 0x15 → a.value = [0xA5] →
      (s.actApproved a).status = 0 ∧ (s.actApproved a).state.start.t0 = some (s.aon + 123 * tickMs) ∧
      (s.actApproved a).state.start.cause = 0x10 ∧ (s.actApproved a).state.rounds = [])

/-- KEY_IMPORT (R347, R353): an envelope that opens under IMPORT_KEY for an ACTIVE context with a free slot becomes the
current Grixo key of the named Hoist; the key that was current is no longer. -/
def Obligations.KeyImportInstallsGrixoKey : Prop :=
  ∀ (s : State) (n role c h : Nat) (v key : Bytes), s.InSession n role → (role = 2 ∨ role = 3) → v.length = 88 →
    beAt v 0 1 = 1 → beAt v 1 1 = c → beAt v 2 1 = h → beAt v 3 1 = 5 → zeroAt v 4 4 = true → c < 16 → h < 2 →
    (s.ctxSet c).state = .active → s.masterAway = false → s.slotFree c h 1 = true →
    hpkeOpen s.importKey (slice v 8 32) (ascii "TA32 import" ++ v.take 8) (v.take 8) (slice v 40 48) = some key →
    ∃ t a : State, exec (.keyImport n v) s = .next t ∧ t = a.answered n 0x4000 0x08 0 ∧
      (a.keys.grixo.filter fun k => k.ctx == c && k.hoist == h && k.current).length = 1 ∧
      (∀ k ∈ s.keys.grixo, k.current = true → (k.ctx ≠ c ∨ k.hoist ≠ h) → k ∈ a.keys.grixo) ∧
      (∃ b ∈ a.keys.blobs, b.ctx = c ∧ b.use = 2 ∧ b.hoist = h ∧ b.bytes = s.blobOf c (grixoAttr c) key) ∧
      a = { s.touch n with set := a.set, setA := a.setA, setB := a.setB, slotB := a.slotB, recorder := a.recorder,
                           keys := a.keys, journal := a.journal, mgmt := a.mgmt }

/-- FW_WRITE, FW_COMMIT, MODULE_RESET by a SERVICE operator, HANDOVER (R383, R397, R428, R432, R442): a segment lands in the
slot that is not booted, after what stands there; a staged image that verifies and is not older commits; with every context
FREE the module restarts 123 ms later; an accepted handover waits for the next window boundary (log entry 47), where the
Jack goes to the other CP (WindowBoundaryActs), and while beats are frozen it goes at once, with the next epoch. -/
def Obligations.FirmwareResetAndHandoverWrites : Prop :=
  (∀ (s : State) (n kind off : Nat) (v : Bytes), s.InSession n 4 → 8 ≤ v.length → v.length ≤ 1032 → beAt v 0 1 = kind →
    (kind = 1 ∨ kind = 2) → zeroAt v 1 3 = true → beAt v 4 4 = off → off + (v.length - 8) ≤ slotBytes kind →
    (∀ k, s.att.next kind = some k → k ≤ off) →
    ∃ t a : State, exec (.fwWrite n v) s = .next t ∧ t = a.answered n 0x4100 0x09 0 ∧
      a.att.next kind = some (off + (v.length - 8)) ∧
      (s.att.next kind = none → a.att.spare kind = List.replicate off Config.erasedByte ++ v.drop 8) ∧
      (s.att.next kind ≠ none → (s.att.spare kind).length ≤ off → a.att.spare kind =
        s.att.spare kind ++ List.replicate (off - (s.att.spare kind).length) Config.erasedByte ++ v.drop 8) ∧
      a.att.bootSlots = s.att.bootSlots ∧ a.att.m = s.att.m ∧ a.att.aliasStatement = s.att.aliasStatement ∧
      a = { s.touch n with att := a.att }) ∧
  (∀ (s : State) (n : Nat) (kind : Byte), s.InSession n 4 → (kind.toNat = 1 ∨ kind.toNat = 2) →
    Fw.verifies s.lifecycle kind.toNat (s.att.spare kind.toNat) = true →
    (if kind.toNat = 1 then s.att.burgeeSvn else s.att.cpSvn) ≤ Fw.svn (s.att.spare kind.toNat) →
    exec (.fwCommit n [kind]) s =
      .next (({ s.touch n with att := s.att.setNext kind.toNat none }.record 0x05410022 s.srcLeader none [kind]).answered
        n 0x4100 0x0A 0)) ∧
  (∀ (s : State) (n : Nat) (kind : Byte), s.InSession n 4 → (kind.toNat = 1 ∨ kind.toNat = 2) →
    Fw.verifies s.lifecycle kind.toNat (s.att.spare kind.toNat) = false →
    exec (.fwCommit n [kind]) s =
      .next (({ s.touch n with att := s.att.setNext kind.toNat none }.record 0x01410011 s.srcLeader none [kind]).answered
        n 0x4100 0x0A 0x01410011)) ∧
  (∀ (s : State) (n : Nat), s.InSession n 4 → (∀ e ∈ s.set.ctx, e.state = .free) →
    ∃ t a : State, exec (.moduleReset n [0xA5]) s = .next t ∧ t = a.answered n 0x1400 0x15 0 ∧
      a.start.t0 = some (s.aon + 123 * tickMs) ∧ a.start.kind = 2 ∧ a.start.cause = 0x10 ∧ a.start.stage = none ∧
      a.power.powered = s.power.powered &&& 1 ∧ a.rounds = [] ∧ a.plans = List.replicate 16 .reset ∧
      a.keys.slots = [] ∧ a.mgmt = .reset ∧ a.hal.beatCount = s.hal.beatCount ∧ a.hal.seconds = s.hal.seconds ∧
      a.lead.epoch = s.lead.epoch ∧ a.aon = s.aon ∧ a.out = s.out) ∧
  (∀ (s : State) (n role i : Nat), s.InSession n role → (role = 2 ∨ role = 3) → s.lead.hold = none → s.masterAway = false →
    s.leaderCp = some i → s.lead.takeover = none → s.mirrorLag = 0 → s.cpRuns (1 - i) = true → s.hal.frozen = false →
    exec (.handover n [1]) s =
      .next ({ s.touch n with lead := { s.lead with handover := some ((s.hal.beatCount / 256 + 1) * 256) } }.answered
        n 0x5000 0x08 0)) ∧
  (∀ (s : State) (n role i : Nat), s.InSession n role → (role = 2 ∨ role = 3) → s.lead.hold = none → s.masterAway = false →
    s.leaderCp = some i → s.lead.takeover = none → s.mirrorLag = 0 → s.cpRuns (1 - i) = true → s.hal.frozen = true →
    ∃ t a : State, exec (.handover n [1]) s = .next t ∧ t = a.answered n 0x5000 0x08 0 ∧
      a.lead.holder = some (1 - i) ∧ a.lead.epoch = s.lead.epoch % 0xFFFFFFFF + 1 ∧
      a.lead.expiry = s.aon + 1000 * tickMs ∧
      a.lead.takeover = some ⟨1 - i, s.lead.epoch % 0xFFFFFFFF + 1, !s.lead.grantedThisStart⟩ ∧
      a.lead.cp0.leads = false ∧ a.lead.cp1.leads = false ∧ a.lead.hold = none ∧ a.lead.links = s.lead.links ∧
      a = { s.touch n with set := a.set, setA := a.setA, setB := a.setB, slotB := a.slotB, recorder := a.recorder,
                           lead := a.lead, journal := a.journal, mgmt := a.mgmt, out := a.out })

/-- CRED_STAGE, CRED_ENROL, CRED_REMOVE (R454, R456, R457): segments of a certificate are staged; a KEYHOLDER enrols it in an
empty slot or empties a slot whose credential is no KEYHOLDER's, which closes its sessions; with an empty table a CLAIM
session enrols its own certificate as KEYHOLDER and takes that role; an update of the record that the pack or the flash does
not allow leaves every credential as it is. -/
def Obligations.CredentialsAreEnrolledAndRemoved : Prop :=
  (∀ (s : State) (n role : Nat) (v : Bytes), s.InSession n role → (role = 0 ∨ role = 3) → 2 ≤ v.length → v.length ≤ 1026 →
    beAt v 0 2 = 0 →
    exec (.credStage n v) s =
      .next ({ s.touch n with mgmt := { (s.touch n).mgmt with credStage := v.drop 2 } }.answered n 0x1100 0x0B 0)) ∧
  (∀ (s : State) (n role : Nat) (v : Bytes), s.InSession n role → (role = 0 ∨ role = 3) → 2 ≤ v.length → v.length ≤ 1026 →
    beAt v 0 2 = s.mgmt.credStage.length → s.mgmt.credStage ≠ [] → s.mgmt.credStage.length + (v.length - 2) ≤ 2032 →
    exec (.credStage n v) s =
      .next ({ s.touch n with mgmt := { (s.touch n).mgmt with credStage := s.mgmt.credStage ++ v.drop 2 } }.answered
        n 0x1100 0x0B 0)) ∧
  (∀ (s : State) (n slot as_ : Nat), s.InSession n 3 → slot < 8 → s.nv.creds.length = 8 →
    (as_ = 1 ∨ as_ = 2 ∨ as_ = 4 ∨ (as_ = 3 ∧ s.keyholders < 2)) → s.credential? slot = none →
    Config.certValid s.mgmt.credStage = true →
    (∀ x, some x ∈ s.nv.creds → x.cert ≠ s.mgmt.credStage) → s.pack.packState = 1 →
    Config.nvWriteFails s.aon (s.nv.seq + 1) = false →
    ∃ t a : State, exec (.credEnrol n (beBytes 2 (slot + 8 * as_))) s = .next t ∧ t = a.answered n 0x1100 0x0A 0 ∧
      a.credential? slot = some ⟨as_, s.mgmt.credStage, s.ms⟩ ∧
      (∀ k, k ≠ slot → a.credential? k = s.credential? k) ∧ a.nv.seq = s.nv.seq + 1 ∧
      a.nv.lifecycle = s.nv.lifecycle ∧ a.nv.pending = s.nv.pending ∧ a.keys.slots = s.keys.slots ∧
      a.keys.fuses = s.keys.fuses ∧ Recorded { s.touch n with keys := a.keys } a) ∧
  (∀ (s : State) (n slot : Nat) (x : Session), s.mgmt.dtls = true → s.session? n = some x → x.role = 0 → slot < 8 →
    s.nv.creds = List.replicate 8 none → x.cert = s.mgmt.credStage → Config.certValid s.mgmt.credStage = true →
    s.pack.packState = 1 → Config.nvWriteFails s.aon (s.nv.seq + 1) = false →
    ∃ t a : State, exec (.credEnrol n (beBytes 2 (slot + 24))) s = .next t ∧ t = a.answered n 0x1100 0x0A 0 ∧
      a.credential? slot = some ⟨3, s.mgmt.credStage, s.ms⟩ ∧
      (a.session? n).map Session.role = some 3 ∧ (a.session? n).bind Session.slot = some slot ∧
      a = { s.touch n with recorder := a.recorder, set := a.set, setA := a.setA, setB := a.setB, slotB := a.slotB,
                           keys := a.keys, mgmt := a.mgmt }) ∧
  (∀ (s : State) (n slot : Nat) (x : Credential), s.InSession n 3 → slot < 8 → s.nv.creds.length = 8 →
    s.credential? slot = some x → x.role ≠ 3 → s.pack.packState = 1 →
    Config.nvWriteFails s.aon (s.nv.seq + 1) = false →
    ∃ t a : State, exec (.credRemove n [BitVec.ofNat 8 slot]) s = .next t ∧ t = a.answered n 0x1100 0x0C 0 ∧
      a.credential? slot = none ∧ (∀ k, k ≠ slot → a.credential? k = s.credential? k) ∧
      (∀ k y, a.session? k = some y → y.slot ≠ some slot) ∧ (∀ b ∈ a.mgmt.approvals, b.initiator ≠ slot) ∧
      a = { s.touch n with recorder := a.recorder, set := a.set, setA := a.setA, setB := a.setB, slotB := a.slotB,
                           keys := a.keys, mgmt := a.mgmt }) ∧
  (∀ (s : State) (n slot : Nat) (x : Credential), s.InSession n 3 → slot < 8 → s.nv.creds.length = 8 →
    s.credential? slot = some x → x.role ≠ 3 →
    (s.pack.packState ≠ 1 → exec (.credRemove n [BitVec.ofNat 8 slot]) s =
      .next (((s.touch n).record 0x01400020 0x4FF0 none []).answered n 0x1100 0x0C 0x01400020)) ∧
    (s.pack.packState = 1 → Config.nvWriteFails s.aon (s.nv.seq + 1) = true →
      exec (.credRemove n [BitVec.ofNat 8 slot]) s =
        .next (((s.touch n).record 0x04400022 0x4FF0 none []).answered n 0x1100 0x0C 0x04400022)))

/-- POLICY_STAGE, POLICY_COMMIT (R465, R466): the first segment of a context's stage area begins it anew; a well-formed
object with the K_min in force is put in force with its SHA-384 digest. -/
def Obligations.PoliciesAreStagedAndCommitted : Prop :=
  (∀ (s : State) (n role c : Nat) (v : Bytes), s.InSession n role → (role = 2 ∨ role = 3) → 8 ≤ v.length → v.length ≤ 1032 →
    beAt v 0 1 = c → c < 16 → zeroAt v 1 3 = true → beAt v 4 4 = 0 →
    exec (.policyStage n v) s =
      .next ({ s.touch n with mgmt := { (s.touch n).mgmt with
        policyStage := updAt s.mgmt.policyStage c fun _ => v.drop 8 } }.answered n 0x3100 0x01 0)) ∧
  (∀ (s : State) (n role : Nat) (c : Byte) (stage : Bytes), s.InSession n role → (role = 2 ∨ role = 3) → c.toNat < 16 →
    s.masterAway = false → s.mgmt.policyStage.getD c.toNat [] = stage → policyOk stage = true →
    policyKmin (policyObject stage) = s.kminInForce c.toNat → s.set.policies.length = 16 →
    ∃ t : State, exec (.policyCommit n [c]) s = .next t ∧
      t.policy c.toNat = some ⟨policyObject stage, sha384 (policyObject stage), policyKmin (policyObject stage)⟩ ∧
      (∀ d, d ≠ c.toNat → t.policy d = s.policy d) ∧ t.set = { s.set with policies := t.set.policies } ∧
      t = { s.touch n with set := t.set, setA := t.setA, setB := t.setB, slotB := t.slotB }.answered n 0x3100 0x02 0)

/-- ALERT_ACK, SESSION_CURSOR_WRITE, DICTIONARY_WRITE (R451, R461, R479, R480, R541): a number up to LAST_SEQ is
acknowledged; a cursor up to LAST_SEQ + 1 stands in its session; any entry that passes checks 1 to 7 takes its own effect,
and one that fails them is answered with the code of the first and unchanged. -/
def Obligations.OtherEntriesAreWritten : Prop :=
  (∀ (s : State) (n role : Nat) (v : Bytes), s.InSession n role → (role = 2 ∨ role = 3) → v.length = 8 → 1 ≤ beNat v →
    beNat v ≤ s.recorder.lastSeq →
    exec (.alertAck n v) s = .next ({ s.touch n with recorder := { s.recorder with acked := max s.recorder.acked (beNat v) } }.answered
      n 0x1600 0x0B 0)) ∧
  (∀ (s : State) (n role : Nat) (v : Bytes), s.InSession n role → (1 ≤ role ∧ role ≤ 4) → v.length = 8 → 1 ≤ beNat v →
    beNat v ≤ s.recorder.lastSeq + 1 →
    exec (.sessionCursorWrite n v) s =
      .next (((s.touch n).updSession n fun x => { x with cursor := beNat v }).answered n 0x1600 0x04 0)) ∧
  (∀ (s : State) (n index sub : Nat) (v : Bytes) (x : Session), s.mgmt.dtls = true → s.session? n = some x →
    v.length ≤ 1176 → (s.touch n).writeCheck x.role (wholeItem index sub v) = 0 →
    (s.touch n).isDual index sub v = false →
    ∃ a code, (s.touch n).writeEffect n x.role false index sub ((s.touch n).wholeValue (wholeItem index sub v)) = (code, a) ∧
      exec (.dictionaryWrite n index sub v) s = .next (a.answered n index sub code)) ∧
  (∀ (s : State) (n index sub code : Nat) (v : Bytes) (x : Session), s.mgmt.dtls = true → s.session? n = some x →
    v.length ≤ 1176 → (s.touch n).writeCheck x.role (wholeItem index sub v) = code → code ≠ 0 →
    exec (.dictionaryWrite n index sub v) s = .next ((s.touch n).answered n index sub code)) ∧
  (∀ (s : State) (n role : Nat) (v : Bytes), s.InSession n role → (role = 2 ∨ role = 3) → v.length = 2 → 30 ≤ beNat v →
    beNat v ≤ 3600 →
    ∃ t, exec (.dictionaryWrite n 0x1100 0x0F v) s = .next t ∧
      t.set = { s.set with mgmt := { s.set.mgmt with sessionIdle := beNat v } } ∧
      t = { s.touch n with set := t.set, setA := t.setA, setB := t.setB, slotB := t.slotB }.answered n 0x1100 0x0F 0)

-- Sessions and messages (R451 to R468, R479, R500)

/-- YUNOV_READ, RECORDS_READ, repeated requests (R459, R460, R473, R479): a request repeated with the REQ_ID of a kept
response is answered with that response and has no effect; items that pass their checks are answered with the entries' values; a read
of RECORDS moves the session's cursor past the last record returned; nothing else changes. -/
def Obligations.RequestsAreAnswered : Prop :=
  (∀ (s : State) (n now : Nat) (b r : Bytes) (x : Session), s.mgmt.dtls = true → s.session? n = some x →
    x.keptFor (s.at now).aon (readMsg b).reqId = some r →
    ((readMsg b).type = 1 → exec (.yunovRead n b now) s = .next (((s.at now).touch n).emit (.yunov n r))) ∧
    ((readMsg b).type = 2 → exec (.yunovWrite n b now) s = .next (((s.at now).touch n).emit (.yunov n r))) ∧
    ((readMsg b).type = 3 → exec (.yunovApprove n b now) s = .next (((s.at now).touch n).emit (.yunov n r))) ∧
    ((readMsg b).type = 4 → exec (.yunovSubscribe n b now) s = .next (((s.at now).touch n).emit (.yunov n r))) ∧
    ((readMsg b).type = 5 → exec (.yunovUnsubscribe n b now) s = .next (((s.at now).touch n).emit (.yunov n r)))) ∧
  (∀ (s u : State) (n now : Nat) (b r : Bytes) (x : Session) (items : List YItem), s.mgmt.dtls = true →
    s.session? n = some x → u = (s.at now).touch n → x.keptFor (s.at now).aon (readMsg b).reqId = none →
    (readMsg b).wellFormed = true → (readMsg b).type = 1 →
    parseItems false (readMsg b).count (readMsg b).body = some items → (∀ i ∈ items, readCheck x.role i = 0) →
    (items.flatMap (u.readItem x.cursor)).length ≤ 1184 →
    r = makeMsg 6 items.length (readMsg b).reqId 0 0xFF (items.flatMap (u.readItem x.cursor)) →
    ∃ t, exec (.yunovRead n b now) s = .next t ∧ t.out = s.out ++ [.yunov n r] ∧
      ((∀ i ∈ items, ¬(i.index = 0x1600 ∧ i.sub = 5)) → t = ((u.keep n (readMsg b).reqId r).emit (.yunov n r)).trackIdle) ∧
      ((∃ i ∈ items, i.index = 0x1600 ∧ i.sub = 5) →
        t = (((u.advanceCursor n).keep n (readMsg b).reqId r).emit (.yunov n r)).trackIdle)) ∧
  (∀ (s : State) (n : Nat) (x : Session), s.mgmt.dtls = true → s.session? n = some x → x.role ≠ 0 →
    ∃ t, exec (.recordsRead n) s = .next t ∧
      t.out = s.out ++ [.entryRead n 0x1600 0x05 ((s.touch n).entryValue x.cursor 0x1600 0x05)] ∧
      (∀ q, (s.recordsFrom x.cursor).getLast? = some q → (t.session? n).map Session.cursor = some (q.seq + 1)) ∧
      ((s.recordsFrom x.cursor) = [] → (t.session? n).map Session.cursor = some x.cursor) ∧
      t = { s with mgmt := t.mgmt, out := t.out })

/-- YUNOV_WRITE (R459, R461, R541): the items of a WRITE act together: if one fails its checks none acts, and the response
names its code and place; otherwise, with none that needs two operators, each acts in turn. -/
def Obligations.WriteMessagesActTogether : Prop :=
  ∀ (s u : State) (n now : Nat) (b r : Bytes) (x : Session) (items : List YItem), s.mgmt.dtls = true →
    s.session? n = some x → u = (s.at now).touch n → x.keptFor (s.at now).aon (readMsg b).reqId = none →
    (readMsg b).wellFormed = true → (readMsg b).type = 2 →
    parseItems true (readMsg b).count (readMsg b).body = some items →
    (∀ k c i, items[k]? = some i → u.writeCheck x.role i = c → c ≠ 0 →
      (∀ j y, j < k → items[j]? = some y → u.writeCheck x.role y = 0) →
      r = makeMsg 6 0 (readMsg b).reqId c k [] →
      exec (.yunovWrite n b now) s = .next (((u.keep n (readMsg b).reqId r).emit (.yunov n r)).trackIdle)) ∧
    ((∀ i ∈ items, u.writeCheck x.role i = 0 ∧ u.isDual i.index i.sub i.value = false) → (applyItems n x.role u 0 items u).status = 0 →
      r = makeMsg 6 0 (readMsg b).reqId 0 0xFF [] →
      exec (.yunovWrite n b now) s =
        .next ((((applyItems n x.role u 0 items u).state.keep n (readMsg b).reqId r).emit (.yunov n r)).trackIdle)) ∧
    (∀ i j v, items = [i, j] → u.writeCheck x.role i = 0 → u.writeCheck x.role j = 0 →
      u.isDual i.index i.sub i.value = false → u.isDual j.index j.sub j.value = false →
      u.itemEffect n x.role false i = (0, v) → (v.itemEffect n x.role false j).1 = 0 →
      r = makeMsg 6 0 (readMsg b).reqId 0 0xFF [] →
      exec (.yunovWrite n b now) s =
        .next ((((v.itemEffect n x.role false j).2.keep n (readMsg b).reqId r).emit (.yunov n r)).trackIdle))

/-- YUNOV_APPROVE, APPROVAL_EXPIRY (R463, R468): a KEYHOLDER who has not approved a waiting request approves it by its ID and
digest; with the second approval it acts; 60 s after its initiation it expires. -/
def Obligations.ApprovalsCountAndExpire : Prop :=
  (∀ (s u : State) (n now slot : Nat) (b r : Bytes) (x : Session) (a : Approval), s.mgmt.dtls = true →
    s.session? n = some x → x.role = 3 → x.slot = some slot → u = (s.at now).touch n →
    x.keptFor (s.at now).aon (readMsg b).reqId = none → (readMsg b).wellFormed = true → (readMsg b).type = 3 →
    (readMsg b).count = 0 → (readMsg b).body.length = 52 →
    (s.mgmt.approvals.find? fun a => a.id == beAt (readMsg b).body 0 4 && decide ((s.at now).aon ≤ a.deadline)) = some a →
    (readMsg b).body.drop 4 = a.digest → slot ∉ a.approvedBy →
    (a.approvedBy = [] → r = makeMsg 6 0 (readMsg b).reqId 0 0xFF [] →
      ∃ t, exec (.yunovApprove n b now) s = .next t ∧
        t.mgmt.approvals = updIf s.mgmt.approvals (fun y => y.id == a.id) (fun y => { y with approvedBy := [slot] }) ∧
        t.out = s.out ++ [.yunov n r] ∧
        t = { s.at now with mgmt := t.mgmt, power := t.power, out := t.out }) ∧
    (a.approvedBy ≠ [] →
      r = makeMsg 6 0 (readMsg b).reqId (u.actApproved a).status (u.actApproved a).item (u.actApproved a).body →
      exec (.yunovApprove n b now) s =
        .next ((((u.actApproved a).state.keep n (readMsg b).reqId r).emit (.yunov n r)).trackIdle))) ∧
  (∀ (s : State) (id now : Nat) (a : Approval), a ∈ s.mgmt.approvals → a.id = id → a.deadline < (s.at now).aon →
    exec (.approvalExpiry id now) s =
      .next ({ s.at now with mgmt := { s.mgmt with approvals := s.mgmt.approvals.filter fun a => a.id != id } }.record
        0x05010011 0x4FF0 none []))

/-- YUNOV_SUBSCRIBE, YUNOV_UNSUBSCRIBE, SUBSCRIPTION_EVAL, NOTIFY_FLUSH (R464, R500): subscriptions join and leave a
session; every 100 ms a changed value is sent once; 16 queued records, or the oldest 1 ms old, are sent in one NOTIFY. -/
def Obligations.SubscriptionsNotify : Prop :=
  (∀ (s u : State) (n now : Nat) (b r : Bytes) (x y : Session) (items : List YItem), s.mgmt.dtls = true →
    s.session? n = some x → x.role ≠ 0 → u = (s.at now).touch n → x.keptFor (s.at now).aon (readMsg b).reqId = none →
    (readMsg b).wellFormed = true → (readMsg b).type = 4 →
    parseItems true (readMsg b).count (readMsg b).body = some items → (∀ i ∈ items, subscribeCheck i = 0) →
    u.subscribeAll 0 items x = .ok y → r = makeMsg 6 0 (readMsg b).reqId 0 0xFF [] →
    ∃ t, exec (.yunovSubscribe n b now) s = .next t ∧ (t.session? n).map Session.subs = some y.subs ∧
      (t.session? n).map Session.recordSub = some y.recordSub ∧ t.out = s.out ++ [.yunov n r] ∧
      (∀ k, k ≠ n → t.session? k = s.session? k) ∧
      t = { s.at now with mgmt := t.mgmt, power := t.power, out := t.out }) ∧
  (∀ (s u : State) (n now : Nat) (b r : Bytes) (x : Session) (items : List YItem), s.mgmt.dtls = true →
    s.session? n = some x → x.role ≠ 0 → u = (s.at now).touch n → x.keptFor (s.at now).aon (readMsg b).reqId = none →
    (readMsg b).wellFormed = true → (readMsg b).type = 5 →
    parseItems true (readMsg b).count (readMsg b).body = some items →
    (∀ i ∈ items, ∃ e, entryDef i.index i.sub = .ok e) → r = makeMsg 6 0 (readMsg b).reqId 0 0xFF [] →
    ∃ t, exec (.yunovUnsubscribe n b now) s = .next t ∧
      (t.session? n).map Session.subs = some (items.foldl Session.unsubscribe x).subs ∧
      (t.session? n).map Session.recordSub = some (items.foldl Session.unsubscribe x).recordSub ∧
      t.out = s.out ++ [.yunov n r] ∧ (∀ k, k ≠ n → t.session? k = s.session? k) ∧
      t = { s.at now with mgmt := t.mgmt, power := t.power, out := t.out }) ∧
  (∀ (s : State) (n now : Nat) (x : Session), s.mgmt.dtls = true → s.session? n = some x →
    ∃ t, exec (.subscriptionEval n now) s = .next t ∧
      (t.session? n).map Session.subs =
        some (x.subs.map fun e => { e with value := (s.at now).entryValue x.cursor e.index e.sub }) ∧
      ((∀ e ∈ x.subs, (s.at now).entryValue x.cursor e.index e.sub = e.value) → t = s.at now) ∧
      (∀ e v, x.subs = [e] → (s.at now).entryValue x.cursor e.index e.sub = v → v ≠ e.value → v.length ≤ 1024 →
        t.out = s.out ++ [.yunov n (makeMsg 7 1 ((x.notifySeq + 1) % 2 ^ 32) 0 0xFF
          (YItem.mk e.index e.sub (match entryDef e.index e.sub with | .ok d => d.type | .error _ => 0) 0 v.length v).bytes)]) ∧
      t = { s.at now with mgmt := t.mgmt, out := t.out }) ∧
  (∀ (s : State) (n now : Nat) (x : Session), s.mgmt.dtls = true → s.session? n = some x → x.queue ≠ [] →
    (16 ≤ x.queue.length ∨ x.queuedSince + tickMs ≤ (s.at now).aon) →
    ∃ t, exec (.notifyFlush n now) s = .next t ∧ (t.session? n).map Session.queue = some (x.queue.drop 16) ∧
      t.out = s.out ++ [.yunov n (makeMsg 7 (min 16 x.queue.length) ((x.notifySeq + 1) % 2 ^ 32) 0 0xFF
        ((x.queue.take 16).map recordItem).flatten)] ∧
      t = { s.at now with mgmt := t.mgmt, out := t.out })

/-- DTLS_CLIENT_HELLO, SESSION_IDLE_EXPIRY, MGMT_ADDRESS_EFFECT (R451, R453): a handshake under an enrolled credential with
fewer than two sessions opens one in the first free place, another is refused; a silent session and, when a management
address changes, every session closes. -/
def Obligations.SessionsOpenAndClose : Prop :=
  (∀ (s : State) (now slot place : Nat) (x : Credential), s.mgmt.dtls = true → s.nv.creds[slot]? = some (some x) →
    (∀ k y, k < slot → s.credential? k = some y → y.cert ≠ x.cert) →
    (s.mgmt.sessions.filter fun y => (y.map fun z => z.slot == some slot).getD false).length < 2 →
    s.mgmt.sessions[place]? = some none → place < 8 → (∀ k, k < place → s.session? k ≠ none) →
    ∃ t, exec (.dtlsClientHello x.cert true now) s = .next t ∧
      t.mgmt.sessions.length = s.mgmt.sessions.length ∧
      Recorded { s.at now with mgmt := { s.mgmt with
        sessions := s.mgmt.sessions.set place (some (Session.open_ (some slot) x.role x.cert (s.at now).aon)) } } t) ∧
  (∀ (s : State) (cert : Bytes) (now : Nat), s.mgmt.dtls = true →
    exec (.dtlsClientHello cert false now) s =
      .next ((({ s.at now with out := s.out ++ [Output.handshakeRefused] }).record 0x05010014 0x4FF0 none []))) ∧
  (∀ (s : State) (n now : Nat) (x : Session), s.mgmt.dtls = true → s.session? n = some x →
    x.lastMsg + s.set.mgmt.sessionIdle * tickS ≤ (s.at now).aon →
    exec (.sessionIdleExpiry n now) s =
      .next ({ s.at now with mgmt := { s.mgmt with sessions := updAt s.mgmt.sessions n fun _ => none } }.record
        0x05010013 0x4FF0 none [])) ∧
  (∀ (s : State) (now t0 : Nat) (m : MgmtSettings) (rest : List (Nat × MgmtSettings)),
    s.mgmt.addrEffects = (t0, m) :: rest → t0 ≤ (s.at now).aon →
    ∃ t, exec (.mgmtAddressEffect now) s = .next t ∧ t.mgmt.inUse = m ∧ t.mgmt.addrEffects = rest ∧
      (∀ k, t.session? k = none) ∧ Recorded { s.at now with mgmt := t.mgmt } t)

/-- CLEAR_READ, CHALLENGE, SIGNED_WAKE (R421, R452, R462, R475): while no DTLS service runs, Burgee answers reads of the
sideband's entries, gives a nonce for 10 s and one use, and takes a wake signed for it as wake source 3. -/
def Obligations.ClearServiceAnswers : Prop :=
  (∀ (s : State) (b : Bytes) (now : Nat) (items : List YItem), s.portServed = true → s.mgmt.dtls = false →
    beAt b 0 1 = 1 → (readMsg b).wellFormed = true → (readMsg b).type = 8 →
    parseItems false (readMsg b).count (readMsg b).body = some items → (∀ i ∈ items, clearCheck i = 0) →
    (items.flatMap ((s.at now).readItem 1)).length ≤ 1184 →
    exec (.clearRead b now) s = .next ((s.at now).emit (.clear (makeMsg 6 items.length (readMsg b).reqId 0 0xFF
      (items.flatMap ((s.at now).readItem 1)))))) ∧
  (∀ (s : State) (b : Bytes) (now : Nat), s.portServed = true → s.mgmt.dtls = false → beAt b 0 1 = 1 →
    (readMsg b).wellFormed = true → (readMsg b).type = 9 → (readMsg b).count = 0 → (readMsg b).body = [] →
    ∃ t nonce, exec (.challenge b now) s = .next t ∧ nonce = padTo 32 (Config.randomBytes s.draws 32) ∧
      t.mgmt = { s.mgmt with nonce := some (nonce, (s.at now).aon + 10 * tickS) } ∧ t.draws = s.draws + 1 ∧
      t.out = s.out ++ [.clear (makeMsg 6 0 (readMsg b).reqId 0 0xFF nonce)] ∧
      t = { s.at now with mgmt := t.mgmt, draws := t.draws, out := t.out }) ∧
  (∀ (s u : State) (b : Bytes) (now : Nat), s.portServed = true → s.mgmt.dtls = false → beAt b 0 1 = 1 →
    (readMsg b).wellFormed = true → (readMsg b).type = 10 → (readMsg b).count = 0 → (readMsg b).body.length = 97 →
    u = { s.at now with mgmt := { s.mgmt with nonce := none } } →
    ((s.at now).wakeSigned (readMsg b).body = true →
      exec (.signedWake b now) s =
        .next ((u.wakeRequest 3).emit (.clear (makeMsg 6 0 (readMsg b).reqId 0 0xFF [])))) ∧
    ((s.at now).wakeSigned (readMsg b).body = false →
      exec (.signedWake b now) s = .next (u.emit (.clear (makeMsg 6 0 (readMsg b).reqId 0x01010007 0xFF [])))))

/-- SMBUS_PROCESS_CALL, SMBUS_ALERT_RESPONSE (R467, R480): command 0x10 with a right PEC is answered with STATUS 0, the
type and the value of an entry of the subset; a wrong transfer is NACKed; the alert response address is answered while an
alert cause stands. -/
def Obligations.SidebandAnswers : Prop :=
  (∀ (s : State) (i1 i0 sub seg : Byte) (e : EntryDef), s.start.t0.isSome = true →
    entryDef (beNat [i1, i0]) sub.toNat = .ok e → e.access ≠ .wo → inSubset (beNat [i1, i0]) sub.toNat = true →
    ∃ t v, exec (.smbusProcessCall [0x10, 4, i1, i0, sub, seg, pec [0x94, 0x10, 4, i1, i0, sub, seg]]) s = .next t ∧
      v = s.entryValue 1 (beNat [i1, i0]) sub.toNat ∧
      t = { s with out := s.out ++ [.smbus (some ([0, BitVec.ofNat 8 e.type] ++
        slice (if e.type = tyOct then padTo e.len v else v) (253 * seg.toNat) 253))] }) ∧
  (∀ (s : State) (b : Bytes), s.start.t0.isSome = true → b.length ≠ 7 →
    exec (.smbusProcessCall b) s = .next { s with out := s.out ++ [.smbus none] }) ∧
  (∀ s : State, s.start.t0.isSome = true → s.alertCauses ≠ 0 →
    exec .smbusAlertResponse s = .next { s with out := s.out ++ [.smbus (some [0x94])] }) ∧
  (∀ s : State, s.start.t0.isSome = true → s.alertCauses = 0 →
    exec .smbusAlertResponse s = .next { s with out := s.out ++ [.smbus none] })

-- The event recorder (R484 to R501)

/-- RECORD_WRITE (R12, R484, R486, R487, R489, R491, R497, R504): an EVENT with a token left and room is numbered one past the counter
and stored in its Hoist's buffer, taking a token; an ALARM takes none and calls for a flush; while no CP runs the record
goes to the AON store, unnumbered; a code of class FAULT-RECOVERED counts in tier 1; a code of detail 0 is no code and
nothing is recorded. -/
def Obligations.RecordsAreNumberedAndStored : Prop :=
  (∀ (s u : State) (source code now : Nat) (ctx : Option Nat) (p : Bytes) (r : Record), u = s.at now →
    severityOf code = .event → code < 2 ^ 32 → code / 0x1000000 ≠ 2 → code % 0x10000 ≠ 0 → u.writerOf source = .h0 → s.recorder.tokens .h0 code ≠ 0 →
    s.recorder.h0.general < 4032 → r = { u.formRecord .event false code source ctx p with seq := s.recorder.counter + 1 } →
    ∃ t, exec (.recordWrite source code ctx p now) s = .next t ∧ t.recorder.counter = s.recorder.counter + 1 ∧
      t.recorder.lastSeq = s.recorder.counter + 1 ∧ t.recorder.h0.held = s.recorder.h0.held ++ [r] ∧
      t.recorder.tokens .h0 code = s.recorder.tokens .h0 code - 1 ∧ t.recorder.h1 = s.recorder.h1 ∧
      t.recorder.aon = s.recorder.aon ∧ t.recorder.lastAlarm = s.recorder.lastAlarm ∧ t.recorder.fixed = s.recorder.fixed ∧
      t.recorder.circ = s.recorder.circ ∧ t = { u with recorder := t.recorder, mgmt := t.mgmt }) ∧
  (∀ (s u : State) (source code now : Nat) (ctx : Option Nat) (p : Bytes) (r : Record), u = s.at now →
    severityOf code = .alarm → code % 0x10000 ≠ 0 → u.writerOf source = .h0 → s.recorder.h0.general < 4032 →
    r = { u.formRecord .alarm false code source ctx p with seq := s.recorder.counter + 1 } →
    ∃ t, exec (.recordWrite source code ctx p now) s = .next t ∧ t.recorder.counter = s.recorder.counter + 1 ∧
      t.recorder.lastAlarm = s.recorder.counter + 1 ∧ t.recorder.h0.held = s.recorder.h0.held ++ [r] ∧
      t.recorder.h0.due = true ∧ t.recorder.buckets = s.recorder.buckets ∧
      t = { u with recorder := t.recorder, mgmt := t.mgmt }) ∧
  (∀ (s u : State) (source code now : Nat) (ctx : Option Nat) (p : Bytes), u = s.at now → severityOf code = .alarm →
    code % 0x10000 ≠ 0 → s.start.cpRuns = (false, false) → s.recorder.aon.length < 64 →
    exec (.recordWrite source code ctx p now) s = .next { u with recorder := { s.recorder with
      aon := s.recorder.aon ++ [{ u.formRecord .alarm false code source ctx p with aonHeld := true }] } }) ∧
  (∀ (s : State) (source code now : Nat) (ctx : Option Nat) (p : Bytes), code / 0x1000000 = 2 → code % 0x10000 ≠ 0 →
    ∃ t, exec (.recordWrite source code ctx p now) s = .next t ∧
      t.set.faultCounts = updAt s.set.faultCounts 0 (fun n => min (n + 1) 0xFFFFFFFF) ∧
      t = { s.at now with set := t.set, setA := t.setA, setB := t.setB, slotB := t.slotB, recorder := t.recorder,
                          mgmt := t.mgmt }) ∧
  (∀ (s : State) (source code now : Nat) (ctx : Option Nat) (p : Bytes), code % 0x10000 = 0 →
    exec (.recordWrite source code ctx p now) s = .next (s.at now))

/-- TOKEN_REFILL, SUMMARY_TICK (R497, R498, R500): every bucket gains a token, up to 64; each code suppressed in the second
gets one summary record, and its count starts again. -/
def Obligations.TokensAndSummaries : Prop :=
  (∀ (s : State) (now : Nat) (w : Writer) (code : Nat), (∀ b ∈ s.recorder.buckets, b.tokens < 64) →
    s.recorder.buckets.Pairwise (fun a b => ¬(a.writer = b.writer ∧ a.code = b.code)) →
    ∃ t, exec (.tokenRefill now) s = .next t ∧
      t.recorder.tokens w code = min 64 (s.recorder.tokens w code + 1) ∧
      t = { s.at now with recorder := { s.recorder with buckets := t.recorder.buckets } }) ∧
  (∀ (s : State) (now : Nat) (x : Suppressed), s.recorder.suppressed = [x] → 0 < x.count → x.writer = .h0 →
    s.recorder.h0.general < 4032 → (∀ y, some y ∈ s.mgmt.sessions → y.refused = 0 ∧ y.recordSub = 0) →
    ∃ t r, exec (.summaryTick now) s = .next t ∧ t.recorder.h0.held = s.recorder.h0.held ++ [r] ∧ r.summary = true ∧
      r.code = BitVec.ofNat 32 x.code.toNat ∧ r.payload = padTo 32 x.payload ∧ r.seq = s.recorder.counter + 1 ∧
      t.recorder.suppressed = [{ x with count := 0, contexts := 0, moduleRecord := false }] ∧
      t = { s.at now with recorder := t.recorder, mgmt := t.mgmt })

/-- FLUSH_START, FLUSH_COMPLETE, FLASH_RETRY (R492, R494 to R496): a called-for flush takes every record held now; when it
has been programmed its positions free, and records up to number 16,384 stand in the fixed area; a second block failing in
succession puts the buffer into buffer-only mode, from which a retry starts a flush. -/
def Obligations.FlushesProgramRecords : Prop :=
  (∀ (s : State) (now : Nat), s.recorder.h0.running = false → s.recorder.h0.due = true → s.recorder.h0.bufferOnly = false →
    s.start.hoistReset.1 = false →
    exec (.flushStart 0 now) s = .next { s.at now with recorder := { s.recorder with h0 := { s.recorder.h0 with
      running := true, due := false, flushing := s.recorder.h0.held.map Record.seq } } }) ∧
  (∀ (s : State) (now : Nat), s.recorder.h0.running = true → s.recorder.h0.loss = .none →
    ∃ t, exec (.flushComplete 0 true now) s = .next t ∧
      t.recorder.h0.held = (s.recorder.h0.held.filter fun r => !s.recorder.h0.flushing.contains r.seq) ∧
      t.recorder.h0.running = false ∧ t.recorder.lastFlushMs = (s.at now).ms ∧ t.set = { s.set with flushes := min (s.set.flushes + 1) 0xFFFFFFFF } ∧
      (∀ r ∈ s.recorder.h0.held, r.seq ∈ s.recorder.h0.flushing → r.seq ≤ 16384 → r ∈ t.recorder.fixed) ∧
      (∀ r ∈ s.recorder.fixed, r ∈ t.recorder.fixed) ∧ t.recorder.counter = s.recorder.counter ∧
      t.recorder.h1 = s.recorder.h1 ∧
      t = { s.at now with set := t.set, setA := t.setA, setB := t.setB, slotB := t.slotB, recorder := t.recorder }) ∧
  (∀ (s : State) (now : Nat), s.recorder.h0.running = true → s.recorder.h0.badBlocks = 1 →
    ∃ t, exec (.flushComplete 0 false now) s = .next t ∧ t.recorder.h0.bufferOnly = true ∧ t.recorder.h0.running = false ∧
      t.recorder.fixed = s.recorder.fixed ∧ t.recorder.circ = s.recorder.circ ∧
      t = { s.at now with set := t.set, setA := t.setA, setB := t.setB, slotB := t.slotB, recorder := t.recorder,
                          mgmt := t.mgmt }) ∧
  (∀ (s : State) (now : Nat), s.recorder.h0.bufferOnly = true → s.recorder.h0.running = false →
    s.start.hoistReset.1 = false →
    exec (.flashRetry 0 now) s = .next { s.at now with recorder := { s.recorder with h0 := { s.recorder.h0 with
      running := true, flushing := s.recorder.h0.held.map Record.seq } } })

-- Contexts and keys (R334 to R338, R349, R358, R361)

/-- CONTEXT_LOST, TEARDOWN_ABANDON_STEP, TEARDOWN_UNLOAD_STEP, TEARDOWN_SRAM_ZEROED, SCRUB_COMPLETE (R334 to R338): a lost
context goes to TEARDOWN, its keys invalid; at the next window boundary outside HOLD its rounds end, its connections close
and its queues stop; at the next loop boundary its plan is unloaded with its rounds; after the zeroing of its SRAM its memory
keys are discarded; when its pages are zeroed the receipt stands and it is FREE; lines and pages that fail twice are retired
and the receipt says so. -/
def Obligations.TeardownTakesItsSteps : Prop :=
  (∀ (s : State) (c now : Nat), (s.ctxSet c).state = .active → s.set.ctx.length = 16 → s.ctxs.length = 16 →
    ∃ t, exec (.contextLost c now) s = .next t ∧ (t.ctxSet c).state = .teardown ∧
      (t.ctx c).teardown.map Teardown.cause = some 2 ∧ t.teardownStep c = some .accepted ∧ (t.ctx c).salt = [] ∧
      (∀ k ∈ t.keys.slots, k.world ≠ c) ∧ (∀ d, d ≠ c → t.ctxSet d = s.ctxSet d ∧ t.ctx d = s.ctx d) ∧
      (t.ctx c).memory = (s.ctx c).memory ∧
      t = { s.at now with set := t.set, setA := t.setA, setB := t.setB, slotB := t.slotB, recorder := t.recorder,
                          keys := t.keys, journal := t.journal, mgmt := t.mgmt, host := t.host, ctxs := t.ctxs,
                          plans := t.plans }) ∧
  (∀ (s : State) (c : Nat) (x : Teardown), c < 16 → (s.ctx c).teardown = some x → x.step = .accepted →
    s.hal.beatCount % 256 = 0 → x.stepBeat < s.hal.beatCount → s.lead.hold = none →
    (s.grixo.conns.map Conn.index).Nodup →
    ∃ t, exec (.teardownAbandonStep c) s = .next t ∧ t.teardownStep c = some .abandoned ∧
      (∀ r ∈ t.rounds, r.ctx = c → r.state.live = false ∧ r.state ≠ .opening ∧ r.delivering = false) ∧
      (t.rounds.filter fun r => r.ctx != c) = (s.rounds.filter fun r => r.ctx != c) ∧
      (∀ y ∈ t.grixo.conns, y.ctx = c → y.state = .closed) ∧ (∀ q, q < 64 → (t.queue c q).state ≠ .active) ∧
      (∀ d, d ≠ c → t.ctx d = s.ctx d) ∧ (t.ctx c).memory = (s.ctx c).memory ∧
      t = { s with set := t.set, setA := t.setA, setB := t.setB, slotB := t.slotB, recorder := t.recorder, keys := t.keys,
                   journal := t.journal, mgmt := t.mgmt, host := t.host, ctxs := t.ctxs, clusters := t.clusters,
                   rounds := t.rounds, grixo := t.grixo, out := t.out }) ∧
  (∀ (s : State) (c : Nat), s.teardownStep c = some .abandoned → s.hal.beatCount % 4096 = 0 → s.lead.hold = none →
    c < s.plans.length →
    ∃ t, exec (.teardownUnloadStep c) s = .next t ∧ t.teardownStep c = some .zeroing ∧ (t.plan c).state = .none ∧
      ((s.plan c).state ≠ .none → ∀ r ∈ t.rounds, r.ctx ≠ c) ∧ (∀ d, d ≠ c → t.plan d = s.plan d) ∧
      (t.rounds.filter fun r => r.ctx != c) = (s.rounds.filter fun r => r.ctx != c) ∧
      t = { s with set := t.set, setA := t.setA, setB := t.setB, slotB := t.slotB, recorder := t.recorder,
                   journal := t.journal, mgmt := t.mgmt, ctxs := t.ctxs, plans := t.plans, clusters := t.clusters,
                   rounds := t.rounds, grixo := t.grixo, out := t.out }) ∧
  (∀ (s : State) (c : Nat) (line : Option Nat), s.teardownStep c = some .zeroing → c < 16 → s.set.ctx.length = 16 →
    ∃ t, exec (.teardownSramZeroed c line) s = .next t ∧ t.teardownStep c = some .scrubbing ∧ (t.ctx c).mem = .none ∧
      (t.ctxSet c).state = .scrubbing ∧ (∀ d, d ≠ c → t.ctxSet d = s.ctxSet d ∧ t.ctx d = s.ctx d) ∧
      (line.isSome = true → (t.ctx c).teardown.map Teardown.retired = some true) ∧
      t = { s with set := t.set, setA := t.setA, setB := t.setB, slotB := t.slotB, recorder := t.recorder,
                   journal := t.journal, mgmt := t.mgmt, ctxs := t.ctxs }) ∧
  (∀ (s : State) (c now : Nat) (pages : List Nat) (x : Teardown), (s.ctx c).teardown = some x → x.step = .scrubbing →
    (s.start.stage = some 2 ∨ s.start.stage = some 3) → c < 16 → s.set.ctx.length = 16 →
    ∃ t, exec (.scrubComplete c pages now) s = .next t ∧ (t.ctxSet c).state = .free ∧ (t.ctx c).memory = [] ∧
      (t.ctx c).teardown = none ∧
      (t.ctxSet c).receipt = { x with
          seq := s.keys.teardownSeq + 1, retired := x.retired || pages.sum != 0 }.receipt c (s.ctxSet c).quota.sum
        (s.at now).ms ∧
      t.keys = { s.keys with
        teardownSeq := s.keys.teardownSeq + 1
        retiredPages := if pages.sum = 0 then s.keys.retiredPages
          else (List.range 4).map fun d => s.keys.retiredPages.getD d 0 + pages.getD d 0 } ∧
      t.grixo.conns = (s.grixo.conns.filter fun y => y.ctx != c) ∧
      (∀ d, d ≠ c → t.ctxSet d = s.ctxSet d ∧ t.ctx d = s.ctx d) ∧
      t = { s.at now with set := t.set, setA := t.setA, setB := t.setB, slotB := t.slotB, recorder := t.recorder,
                          keys := t.keys, journal := t.journal, mgmt := t.mgmt, ctxs := t.ctxs, grixo := t.grixo })

/-- MEM_SWEEP_COMPLETE, TAMPER_ASSERT, KEY_MASK_REFRESH (R349, R358, R361): with its last Canton swept the old generation is
discarded; a tamper clears every key, DRBG and plan, counts itself and restarts the module at stage A; a mask refresh changes
no key value. -/
def Obligations.KeysAreSweptZeroisedAndMasked : Prop :=
  (∀ (s : State) (c canton : Nat), (s.ctxSet c).state = .active → (s.ctx c).mem.sweeping = [canton] → c < s.ctxs.length →
    ∃ t, exec (.memSweepComplete c canton) s = .next t ∧ (t.ctx c).mem.live = 1 ∧ (t.ctx c).mem.oldKey = [] ∧
      (t.ctx c).mem.sweeping = [] ∧ (t.ctx c).mem.generation = (s.ctx c).mem.generation ∧
      (t.ctx c).memory = (s.ctx c).memory ∧ (∀ d, d ≠ c → t.ctx d = s.ctx d) ∧ Recorded { s with ctxs := t.ctxs } t) ∧
  (∀ (s : State) (c canton other : Nat), (s.ctxSet c).state = .active → canton ∈ (s.ctx c).mem.sweeping →
    other ∈ (s.ctx c).mem.sweeping → other ≠ canton →
    exec (.memSweepComplete c canton) s = .next (s.updCtx c fun x => { x with mem := { (s.ctx c).mem with
      sweeping := (s.ctx c).mem.sweeping.filter fun d => d != canton } })) ∧
  (∀ (s : State) (cause now : Nat), s.start.t0.isSome = true → 1 ≤ cause → cause ≤ 4 →
    ∃ t, exec (.tamperAssert cause now) s = .next t ∧ t.keys.slots = [] ∧ t.keys.grixo = [] ∧ t.keys.blobs = [] ∧
      t.keys.tamperCount = min (s.keys.tamperCount + 1) 0xFFFFFFFF ∧ t.keys.tamperCause = cause ∧
      t.keys.fuses = s.keys.fuses ∧ t.drbgs = List.replicate 512 .reset ∧ t.rounds = [] ∧
      t.plans = List.replicate 16 .reset ∧ t.start.stage = none ∧ t.start.cause = 0x11 ∧
      t.start.t0 = some (s.at now).aon ∧ t.power.powered = s.power.powered &&& 1 ∧
      (∀ c, c < 16 → s.set.ctx.length = 16 → (s.ctxSet c).state = .active → (t.ctxSet c).state = .teardown) ∧
      t.out = s.out ∧ t.hal.beatCount = s.hal.beatCount) ∧
  (∀ (s : State) (now : Nat), (s.start.cpRuns.1 || s.start.cpRuns.2) = true →
    exec (.keyMaskRefresh now) s = .next { s.at now with keys := { s.keys with maskEpoch := s.keys.maskEpoch + 1 } })

-- Ports and transport timers (R257 to R261, R267 to R275, R283, R284, R288, R293)

/-- SUBPORT_UP, SUBPORT_DOWN, SUBPORT_FEC_TAKEDOWN, SUBPORT_RETRAIN, NEXT_HOP_REFRESH, ADDRESS_RESOLUTION_RX (R260, R261): a
sub-port with lock and a resolved next hop of an enabled family comes up and goes down; more than 16 uncorrectable codewords
take it down for one second; the gateways are asked for every 30 s, and while one is unresolved; only a request for the
Hoist's own address is answered (the layouts of frames are those of their standards, log entry 55). -/
def Obligations.SubPortsComeUpAndGoDown : Prop :=
  (∀ (s : State) (lane now : Nat) (hop6 hop4 : Option Bytes), s.portUsable lane = true → (s.port lane).training = true →
    (s.port lane).up = false → ((hop6.isSome && s.family (lane / 32) false) || (hop4.isSome && s.family (lane / 32) true)) = true →
    lane < s.grixo.ports.length →
    ∃ t, exec (.subportUp lane hop6 hop4 now) s = .next t ∧ (t.port lane).up = true ∧ (t.port lane).locked = true ∧
      (t.port lane).hop6 = (if s.family (lane / 32) false then hop6 else none) ∧
      (t.port lane).hop4 = (if s.family (lane / 32) true then hop4 else none) ∧
      (∀ v4, s.family (lane / 32) v4 = true → Output.frame lane (s.hopRequest lane v4) ∈ t.out) ∧
      (t.port lane).drops = (s.port lane).drops ∧ (∀ l, l ≠ lane → t.port l = s.port l) ∧
      t = { s.at now with set := t.set, setA := t.setA, setB := t.setB, slotB := t.slotB, recorder := t.recorder,
                          mgmt := t.mgmt, ctxs := t.ctxs, grixo := t.grixo, out := t.out }) ∧
  (∀ (s : State) (lane now : Nat), (s.port lane).up = true →
    ∃ t, exec (.subportDown lane now) s = .next t ∧ (t.port lane).up = false ∧ (t.port lane).locked = false ∧
      (t.port lane).training = (s.port lane).training ∧ (∀ l, l ≠ lane → t.port l = s.port l) ∧
      t = { s.at now with set := t.set, setA := t.setA, setB := t.setB, slotB := t.slotB, recorder := t.recorder,
                          mgmt := t.mgmt, ctxs := t.ctxs, grixo := t.grixo, out := t.out }) ∧
  (∀ (s : State) (lane k now : Nat), (s.port lane).training = true → 16 < k →
    ∃ t, exec (.subportFecTakedown lane k now) s = .next t ∧ (t.port lane).up = false ∧ (t.port lane).training = false ∧
      (t.port lane).retrainAt = some ((s.at now).aon + tickS) ∧ (∀ l, l ≠ lane → t.port l = s.port l) ∧
      t.stats = { s.stats with fec := updAt s.stats.fec (lane / 4) (· + k) } ∧
      t = { s.at now with set := t.set, setA := t.setA, setB := t.setB, slotB := t.slotB, recorder := t.recorder,
                          mgmt := t.mgmt, ctxs := t.ctxs, grixo := t.grixo, stats := t.stats, out := t.out }) ∧
  (∀ (s : State) (lane k now : Nat), k ≤ 16 →
    exec (.subportFecTakedown lane k now) s =
      .next { s.at now with stats := { s.stats with fec := updAt s.stats.fec (lane / 4) (· + k) } }) ∧
  (∀ (s : State) (lane now b : Nat), (s.port lane).retrainAt = some b → b ≤ (s.at now).aon → s.portUsable lane = true →
    ∃ t, exec (.subportRetrain lane now) s = .next t ∧
      t.port lane = { s.port lane with training := true, retrainAt := none } ∧ (∀ l, l ≠ lane → t.port l = s.port l) ∧
      t = { s.at now with grixo := { s.grixo with ports := t.grixo.ports } }) ∧
  (∀ (s : State) (lane now : Nat) (a6 a4 : Option Bytes), (s.port lane).locked = true →
    ((s.port lane).resolvedAt + 30 * tickS ≤ (s.at now).aon ∨ ∃ v4, s.unresolved lane v4 = true) →
    ∃ t, exec (.nextHopRefresh lane a6 a4 now) s = .next t ∧
      (t.port lane).up = ((a6.isSome && s.family (lane / 32) false) || (a4.isSome && s.family (lane / 32) true)) ∧
      (t.port lane).resolvedAt = (s.at now).aon ∧
      (∀ v4, s.family (lane / 32) v4 = true → Output.frame lane (s.hopRequest lane v4) ∈ t.out) ∧
      (∀ l, l ≠ lane → t.port l = s.port l) ∧
      t = { s.at now with set := t.set, setA := t.setA, setB := t.setB, slotB := t.slotB, recorder := t.recorder,
                          mgmt := t.mgmt, ctxs := t.ctxs, grixo := t.grixo, out := t.out }) ∧
  (∀ (s : State) (lane : Nat) (f fd fr : Bytes), f = fd ++ fr → s.listens lane = true → Frame.sound f = true →
    Frame.dstMac f = List.replicate 6 0xFF → Frame.etherType f = 0x0806 →
    slice (Frame.data f) 0 8 = [0, 1, 8, 0, 6, 4, 0, 1] →
    (slice (Frame.data f) 24 4 = s.hoistAddr (lane / 32) true → s.family (lane / 32) true = true →
      exec (.addressResolutionRx lane fd fr) s =
        .next { s with out := s.out ++ [.frame lane (etherFrame (slice (Frame.data f) 8 6) (s.macOf lane) 0x0806
          (arpPacket 2 (s.macOf lane) (s.hoistAddr (lane / 32) true) (slice (Frame.data f) 8 6)
            (slice (Frame.data f) 14 4)))] }) ∧
    (slice (Frame.data f) 24 4 ≠ s.hoistAddr (lane / 32) true → exec (.addressResolutionRx lane fd fr) s = .next s)) ∧
  (∀ (s : State) (lane : Nat) (f fd fr : Bytes) (v : IpView), f = fd ++ fr → s.listens lane = true → Frame.sound f = true →
    ((Frame.dstMac f).getD 0 0).getLsbD 0 = true → Frame.etherType f = 0x86DD → ipView false (Frame.data f) = some v →
    v.proto = 58 → v.hops = 255 → inetSum (pseudoHeader false v.src v.dst 58 v.body.length ++ v.body) = 0 →
    slice v.body 0 2 = [135, 0] → 24 ≤ v.body.length →
    (slice v.body 8 16 = s.hoistAddr (lane / 32) false → s.family (lane / 32) false = true →
      ∃ r, exec (.addressResolutionRx lane fd fr) s = .next { s with out := s.out ++ [.frame lane r] }) ∧
    (slice v.body 8 16 ≠ s.hoistAddr (lane / 32) false → exec (.addressResolutionRx lane fd fr) s = .next s)) ∧
  (∀ (s : State) (lane : Nat) (f fd fr : Bytes), f = fd ++ fr → s.listens lane = true → Frame.sound f = false →
    exec (.addressResolutionRx lane fd fr) s = .next (s.dropAt lane))

/-- ACK_DELAY_EXPIRY, RETX_TIMER_EXPIRY, PATH_HOLD_EXPIRY, PROBE_TIMEOUT (R267, R268, R272, R274, R275, R288): an
acknowledgement goes out ACK_DELAY after the first packet it owes; a packet whose timer has run out is lost and goes again,
and at RETX_LIMIT its connection fails; after PATH_HOLD one PROBE goes out on a suspended path; without a reply the hold
begins again. A timer works on the record once it is resident. -/
def Obligations.TransportTimersFire : Prop :=
  (∀ (s u : State) (i now b : Nat) (c d : Conn), s.conn? i = some c → c.ackDueAt = some b → b ≤ (s.at now).aon →
    (s.at now).makeResident i = some u → u.conn? i = some d →
    exec (.ackDelayExpiry i now) s = .next ((u.sendAcks i).pumpWaiting d.ctx (connHoist i))) ∧
  (∀ (s : State) (i m k now : Nat) (c : Conn) (x : TxMsg) (p : TxPacket), s.conn? i = some c → c.state = .open →
    (c.tx.filter fun y => y.id == m) = [x] → x.packets[k]? = some p → p.sent = true → p.acked = false → p.lost = false →
    p.due ≤ (s.at now).aon → s.upLanes (connHoist i) c.ipv4 ≠ [] →
    (p.retries < s.set.ports.retxLimit →
      exec (.retxTimerExpiry i m k now) s = .next ((s.at now).declareLost i [(p.path, p.order)] true)) ∧
    (s.set.ports.retxLimit ≤ p.retries →
      exec (.retxTimerExpiry i m k now) s = .next ((s.at now).failConn i 0x05200006))) ∧
  (∀ (s v u : State) (i path now q : Nat) (c d : Conn), s.conn? i = some c → c.state = .open →
    (c.pathStates.getD path .new).suspended = true → (c.pathStates.getD path .new).probing = false →
    (c.pathStates.getD path .new).holdUntil ≤ (s.at now).aon →
    (s.at now).makeResident i = some v → v.conn? i = some d →
    v.putPacket d path 7 0 (beBytes 6 d.txCtrl) 0 0 (ctrlPayload d 5 0) = some (u, q) →
    exec (.pathHoldExpiry i path now) s = .next (u.updConn i fun c =>
      { c with txCtrl := (c.txCtrl + 1) % 2 ^ 48
               pathStates := updAt c.pathStates path fun q => { q with probing := true, holdUntil := u.aon + u.rtoTicks 0 } })) ∧
  (∀ (s u : State) (i path now : Nat) (c d : Conn), s.conn? i = some c → (c.pathStates.getD path .new).suspended = true →
    (c.pathStates.getD path .new).probing = true → (c.pathStates.getD path .new).holdUntil < (s.at now).aon →
    (s.at now).makeResident i = some u → u.conn? i = some d →
    exec (.probeTimeout i path now) s = .next (u.updConn i fun c => { c with
      pathStates := updAt c.pathStates path fun q => { q with probing := false, holdUntil := (s.at now).aon + s.holdTicks } }))

/-- CONN_REQ_RESEND, CONN_CLOSE_RESEND, MODULE_SEND_DEQUEUE, RECORD_FETCH (R283, R284, R285, R288, R293): a request not
answered in its time is sent again, or its connection fails; a closing that is due sends its CONN_CLOSE and is done with the
third; the oldest message of the send area goes out once credit covers it beside what is owed; a fetched record becomes
resident and its waiting packets are processed in order; with a bad CRC its connection has failed. -/
def Obligations.ConnectionTimersFire : Prop :=
  (∀ (s : State) (i now : Nat) (c : Conn), s.conn? i = some c → c.state = .requesting → c.reqDue ≤ (s.at now).aon →
    (c.reqSent ≤ s.set.ports.retxLimit → exec (.connReqResend i now) s = .next ((s.at now).sendReq i)) ∧
    (s.set.ports.retxLimit < c.reqSent → exec (.connReqResend i now) s = .next ((s.at now).failConn i 0x05200024))) ∧
  (∀ (s u : State) (i now : Nat) (k k' : Closing) (before after : List Closing),
    s.grixo.closing = before ++ k :: after → (∀ x ∈ before, x.conn.index ≠ i) → k.conn.index = i →
    k.due ≤ (s.at now).aon → (s.at now).sendClosing k = (k', u) →
    exec (.connCloseResend i now) s = .next { u with grixo := { u.grixo with
      closing := before ++ (if k'.left = 0 then after else k' :: after) } }) ∧
  (∀ (s u : State) (i : Nat) (c : Conn) (m : Bytes) (rest : List Bytes), s.conn? i = some c → c.state = .open →
    c.sendArea = m :: rest → c.unsentCredits + creditsFor (m.take 8192).length ≤ (c.inLive s.us).sum →
    s.readyToSend i = (true, u) →
    exec (.moduleSendDequeue i) s = .next ((u.updConn i fun c => { c with sendArea := rest }).newMsg i 1 m 0 0 none)) ∧
  (∀ (s u : State) (i now : Nat) (b : Bool) (c : Conn) (x : Nat × Bytes × Nat × Bytes)
    (xs : List (Nat × Bytes × Nat × Bytes)), s.conn? i = some c → c.resident = false → c.missQueue = x :: xs →
    ((s.at now).updConn i fun d => { d with intact := d.intact && b }).makeResident i = some u →
    exec (.recordFetch i b now) s =
      .next (c.missQueue.foldl (fun s x => s.process x.1 x.2.1 x.2.2.1 x.2.2.2)
        (u.updConn i fun c => { c with missQueue := [] })) ∧
    (b = false → ∀ d, u.conn? i = some d → d.state = .failed))

-- Furl levels and wakes (R405, R412 to R423)

/-- IDLE_TIMER_EXPIRY, FURL_RETRY_TIMER, BLOCK_READY, BLOCK_REFUSE, FURL_ENTRY_COMPLETE (R413, R415 to R419, R423): the idle
time of an enabled timer starts entry to its level, a refusal 60 s ago to the refused one; blocks stop one by one; a claim
or a refusal abandons the entry; after the last READY the entry is committed and the removed domains go off, latched. -/
def Obligations.FurlIsEnteredBlockByBlock : Prop :=
  (∀ (s : State) (now k ms : Nat), s.idle = true → s.power.entry = none → s.power.committed = none →
    (s.at now).power.retryAt = none → (k, ms) ∈ s.idleTimers → ms ≤ (s.at now).idleMs → s.power.furl < k →
    (∀ x ∈ s.idleTimers, k < x.1 → (s.at now).idleMs < x.2) →
    exec (.idleTimerExpiry now) s = .next { s.at now with power := { (s.at now).power with
      entry := some ⟨k, furlBlocks s.power.furl k, []⟩, retryAt := none } }) ∧
  (∀ (s : State) (now b k : Nat), s.idle = true → s.power.entry = none → s.power.committed = none →
    s.power.retryAt = some (b, k) → b + 60 * tickS ≤ (s.at now).aon → s.power.furl < k →
    exec (.furlRetryTimer now) s = .next { s.at now with power := { (s.at now).power with
      entry := some ⟨k, furlBlocks s.power.furl k, []⟩, retryAt := none } }) ∧
  (∀ (s : State) (now d : Nat) (rest : List Nat) (e : FurlEntry), s.power.entry = some e → s.idle = true →
    e.remaining = d :: rest →
    ∃ t, exec (.blockReady now) s = .next t ∧
      (rest ≠ [] → t.hal = s.hal ∧
        t.power = { (s.at now).power with entry := some { e with remaining := rest, ready := d :: e.ready } }) ∧
      (rest = [] → t.hal = { s.hal with frozen := true, pendingLevel := none } ∧
        t.power = { (s.at now).power with entry := none, committed := some e.target }) ∧
      (d = 4 → t.mgmt.dtls = false) ∧ (d = 4 → rest ≠ [] → s.recorder.h0.bufferOnly = false → t.recorder.h0.held = []) ∧
      (d = 1 → ∀ k, t.session? k = none) ∧ (d ≠ 8 → d ≠ 9 → t.host = s.host) ∧
      t = { s.at now with set := t.set, setA := t.setA, setB := t.setB, slotB := t.slotB, recorder := t.recorder,
                          hal := t.hal, power := t.power, mgmt := t.mgmt, host := t.host }) ∧
  (∀ (s : State) (now : Nat) (e : FurlEntry), s.power.entry = some e → s.idle = false →
    exec (.blockReady now) s = .next ({ s.at now with
      power := { (s.at now).power with entry := none, retryAt := none }
      mgmt := if e.ready.contains 4 then { s.mgmt with dtls := true } else s.mgmt }.record 0x05020021 0x6FF0 none
        [BitVec.ofNat 8 e.target])) ∧
  (∀ (s : State) (code now d : Nat) (rest : List Nat) (e : FurlEntry), s.power.entry = some e → s.idle = true →
    e.remaining = d :: rest →
    exec (.blockRefuse code now) s = .next ({ s.at now with
      power := { (s.at now).power with entry := none, retryAt := some ((s.at now).aon, e.target) }
      mgmt := if e.ready.contains 4 then { s.mgmt with dtls := true } else s.mgmt }.record 0x05020022 (domainSource d) none
        (leBytes 4 code))) ∧
  (∀ (s : State) (now k : Nat), s.power.committed = some k → 1 ≤ k → k ≤ 3 → s.power.latchedWakes = [] →
    ∃ t, exec (.furlEntryComplete now) s = .next t ∧ t.power.furl = k ∧ t.power.committed = none ∧
      t.power.powered = s.power.powered &&& furlDomains k ∧
      t.power.latched = s.power.latched ||| (~~~furlDomains k &&& 0xFFFFFE) ∧
      t.set.furlCounts = updAt s.set.furlCounts (k - 1) (fun n => min (n + 1) 0xFFFFFFFF) ∧
      (s.power.furl = 0 → t.clusters = clustersReset) ∧
      (s.power.furl ≤ 1 → 2 ≤ k → t.start.cpRuns = (false, false) ∧ t.keys.slots = [] ∧ t.lead.holder = none) ∧
      (1 ≤ s.power.furl → k ≤ 1 → t.keys = s.keys ∧ t.lead = s.lead) ∧
      t = { s.at now with set := t.set, setA := t.setA, setB := t.setB, slotB := t.slotB, recorder := t.recorder,
                          start := t.start, power := t.power, sensors := t.sensors, keys := t.keys, att := t.att,
                          lead := t.lead, journal := t.journal, mgmt := t.mgmt, host := t.host, ctxs := t.ctxs,
                          clusters := t.clusters, drbgs := t.drbgs, grixo := t.grixo, draws := t.draws })

/-- WAKE_REQ_PIN, WAKE_AT_EXPIRY, WAKE_F1_COMPLETE (R386, R418, R420 to R422): a wake source ends an entry that runs, is
latched past the commit point, and in a furl level begins the wake of that level; in F0 it does nothing; a WAKE-F1 ends in
F0 at PL0, beats resuming at the next PPS edge, and the leader asks for SERVICE for the clusters that passed. -/
def Obligations.WakeSourcesEndFurl : Prop :=
  (∀ (s : State) (now : Nat), s.power.entry = none → s.power.committed = none → s.power.waking = none →
    (s.power.furl = 0 → exec (.wakeReqPin now) s = .next (s.at now)) ∧
    (s.power.furl = 1 → ∃ t, exec (.wakeReqPin now) s = .next t ∧
      t.power = { (s.at now).power with waking := some 4, wakeT0 := (s.at now).aon, latchedWakes := [] } ∧
      t.start = { s.start with stageStart := (s.at now).aon, nextDomain := 12 } ∧
      Recorded { s.at now with power := t.power, start := t.start } t) ∧
    (s.power.furl = 2 ∨ s.power.furl = 3 → ∃ t, exec (.wakeReqPin now) s = .next t ∧
      t.start.t0 = some (s.at now).aon ∧ t.start.kind = (if s.power.furl = 2 then 4 else 3) ∧ t.start.cause = 0x20 ∧
      t.start.wakeSource = 4 ∧ t.start.stage = none ∧ t.power.furl = 0 ∧
      t.power.powered = s.power.powered &&& (if s.power.furl = 2 then 3 else 1) ∧ t.hal.beatCount = s.hal.beatCount ∧
      t.hal.frozen = s.hal.frozen ∧ t.keys.slots = [] ∧ t.mgmt = .reset ∧ t.out = s.out)) ∧
  (∀ (s : State) (now : Nat) (e : FurlEntry), s.power.entry = some e → 1 ≤ e.target → e.target ≤ 3 →
    ∃ t, exec (.wakeReqPin now) s = .next t ∧ t.power = { (s.at now).power with entry := none, retryAt := none } ∧
      t.hal = s.hal ∧ t.start = s.start ∧ t.keys = s.keys ∧ t.out = s.out) ∧
  (∀ (s : State) (now k : Nat), s.power.entry = none → s.power.committed = some k → 1 ≤ k → k ≤ 3 →
    exec (.wakeReqPin now) s = .next { s.at now with power := { (s.at now).power with
      latchedWakes := s.power.latchedWakes ++ [4] } }) ∧
  (∀ (s : State) (now : Nat), s.power.wakeAt ≠ 0 → s.power.wakeAt ≤ (s.at now).ms → s.power.entry = none →
    s.power.committed = none → s.power.waking = none →
    (s.power.furl = 0 → exec (.wakeAtExpiry now) s = .next { s.at now with power := { (s.at now).power with wakeAt := 0 } }) ∧
    (s.power.furl = 3 → ∃ t, exec (.wakeAtExpiry now) s = .next t ∧ t.power.wakeAt = 0 ∧ t.start.wakeSource = 5 ∧
      t.start.kind = 3 ∧ t.start.t0 = some (s.at now).aon ∧ t.power.furl = 0 ∧
      t.power.powered = s.power.powered &&& 1 ∧ t.hal.beatCount = s.hal.beatCount ∧ t.out = s.out)) ∧
  (∀ (s : State) (w now : Nat), s.power.furl = 1 → s.power.waking = some w → s.domainsOn 12 23 = true →
    (∀ d ∈ s.start.dieState.take 4, d ≠ 3) → s.start.cantonReady.length = 4 →
    ∃ t, exec (.wakeF1Complete true now) s = .next t ∧ t.power.furl = 0 ∧ t.power.waking = none ∧ t.power.railLevel = 0 ∧
      t.hal = { s.hal with level := 0, resumeAtEdge := s.hal.frozen } ∧ t.keys.slots = s.keys.slots ∧
      (∀ i, i < 64 → i < s.clusters.length → s.noLeader = false → s.stageCDone = true →
        (s.cluster i).position.isSome = true → (s.cluster i).selfTestPassed = true → (s.cluster i).failed = false →
        (s.cluster i).owner = .maintenance → (s.cluster i).request = none →
        (t.cluster i).request = some (.service, s.hal.beatCount)) ∧
      t = { s.at now with set := t.set, setA := t.setA, setB := t.setB, slotB := t.slotB, recorder := t.recorder,
                          hal := t.hal, start := t.start, power := t.power, keys := t.keys, lead := t.lead,
                          journal := t.journal, mgmt := t.mgmt, clusters := t.clusters, draws := t.draws })

-- Start-up and resets (R317, R335 to R337, R386 to R404, R447)

/-- POWER_ON, DOMAIN_ENABLE, DOMAIN_REGULATION_MISS, STAGE_B_COMPLETE, STAGE_C_COMPLETE, STAGE_DEADLINE_MISS,
PLL_LOCK_TIMEOUT, CP_WATCHDOG_EXPIRY, BURGEE_FIRMWARE_RESTART (R386 to R389, R393, R396, R398, R400, R452): power starts the
operating time at 0; domains come up in order, each at its time; a miss restarts the module twice in succession, then stops
it, a regulation miss with every domain off but AON and MGT (log entry 36); stage B starts the DTLS service and stage C
enters stage D, each training the die links that come with it. -/
def Obligations.StartUpGoesByStages : Prop :=
  (∀ (s : State) (now : Nat), s.start.t0 = none → s.hal.pendingLevel = none →
    ∃ t, exec (.powerOn now) s = .next t ∧ t.aon = 0 ∧ t.start.t0 = some 0 ∧ t.start.kind = 1 ∧ t.start.stage = none ∧
      t.start.misses = 0 ∧ t.start.nextDomain = 1 ∧ t.power = { Power.reset with powered := 1, regulated := 1 } ∧
      (s.recorder.lastInFlash = none → t.start.cause = 1) ∧
      (∀ r, s.recorder.lastInFlash = some r → r.code = 0x05700006 → r.cycles = s.set.powerCycles → t.start.cause = 2) ∧
      t.hal = { Halyard.reset with use := s.set.hal } ∧ t.set = s.set ∧ t.setA = s.setA ∧ t.setB = s.setB ∧
      t.keys.slots = [] ∧ t.keys.fuses = s.keys.fuses ∧ t.keys.tamperCount = 0 ∧ t.keys.tamperCause = 0 ∧
      t.recorder.acked = (s.recorder.lastInFlash.map Record.seq).getD 0 ∧ t.recorder.fixed = s.recorder.fixed ∧ t.recorder.circ = s.recorder.circ ∧ t.recorder.aon = [] ∧
      t.plans = List.replicate 16 .reset ∧ t.rounds = [] ∧ t.lead.epoch = 0 ∧ t.mgmt = .reset ∧ t.host = .reset ∧
      t.draws = s.draws ∧ t.out = s.out ∧ t.pending = s.pending) ∧
  (∀ (s : State) (now d : Nat), s.starting = true → s.start.nextDomain = d → d ≤ 23 → (domainTime d).1 = s.start.stage →
    s.start.stageStart + (domainTime d).2 * tickMs ≤ (s.at now).aon →
    (d ≤ 11 ∨ s.power.emergencyThermal = false ∨ 150 ≤ s.sensors.flow) →
    (s.domainOn d = true → exec (.domainEnable now) s = .next { s.at now with start := { s.start with nextDomain := d + 1 } }) ∧
    (s.domainOn d = false → ∃ t, exec (.domainEnable now) s = .next t ∧ t.start.nextDomain = d + 1 ∧
      t.power = { (s.at now).power with powered := s.power.powered ||| (1 <<< d), regulated := s.power.regulated ||| (1 <<< d) } ∧
      (d ≠ 8 → d ≠ 9 → t.host = s.host ∧ t.draws = s.draws ∧ t.start.wakeN = s.start.wakeN) ∧
      t.start.stage = s.start.stage ∧ t.start.t0 = s.start.t0 ∧
      t = { s.at now with start := t.start, power := t.power, host := t.host, draws := t.draws })) ∧
  (∀ (s : State) (d now : Nat), s.starting = true → 1 ≤ d → d < s.start.nextDomain → s.hal.pendingLevel = none →
    (s.start.misses < 2 → ∃ t, exec (.domainRegulationMiss d now) s = .next t ∧ t.start.misses = s.start.misses + 1 ∧
      t.start.t0 = some (s.at now).aon ∧ t.start.kind = 2 ∧ t.start.cause = 0x13 ∧ t.start.retry = true ∧
      t.start.stage = none ∧ t.start.stopped = none ∧ t.power.powered = s.power.powered &&& 1 ∧ t.out = s.out) ∧
    (2 ≤ s.start.misses → ∃ t, exec (.domainRegulationMiss d now) s = .next t ∧
      t.start = { s.start with
        misses := s.start.misses + 1, stopped := some ((s.start.stage.map (· + 1)).getD 0), cpRuns := (false, false)
        cantonReady := List.replicate 4 false, cantonReset := List.replicate 4 false
        dieState := [0, 0, 0, 0] ++ s.start.dieState.drop 4 } ∧
      t.power.powered = s.power.powered &&& 3 ∧ t.power.regulated = s.power.regulated &&& 3 ∧ t.mgmt.dtls = false ∧
      Recorded { ((s.at now).powerOff 0xFFFFFC).loseCantons with
        start := t.start, mgmt := { s.mgmt with dtls := false } } t)) ∧
  (∀ (s : State) (pll : Bool) (now : Nat), s.starting = true → s.start.stage = some 0 → s.start.cpRuns = (true, true) →
    s.domainsOn 2 9 = true → (∀ l, s.lead.links[12]? = some l → l.down = false) → s.lead.holder.isSome = true →
    (pll = true ∨ s.start.pllLocked = true) → (s.at now).stageLate = false →
    ∃ t, exec (.stageBComplete ⟨pll, now⟩) s = .next t ∧ t.start.stage = some 1 ∧ t.start.stageStart = (s.at now).aon ∧
      t.start.clocksSwitched = true ∧ t.start.pllLocked = true ∧ t.start.cpRuns = (true, true) ∧
      t.lead = { s.lead with links := t.lead.links } ∧ (∀ i, i ≠ 12 → t.lead.links[i]? = s.lead.links[i]?) ∧
      (∀ l, t.lead.links[12]? = some l → l.down = false ∧ l.fails = 0) ∧
      Recorded { s.at now with start := t.start, lead := t.lead, mgmt := { s.mgmt with dtls := true }, draws := t.draws } t) ∧
  (∀ (s : State) (now : Nat), s.starting = true → s.start.stage = some 1 → s.domainsOn 10 23 = true →
    (∀ l ∈ s.lead.links.take 12, l.down = false) → (∀ d ∈ s.start.dieState.take 4, d ≠ 3) →
    (s.at now).stageLate = false → s.set.ctx.length = 16 → s.ctxs.length = 16 →
    ∃ t, exec (.stageCComplete now) s = .next t ∧ t.start.stage = some 3 ∧ t.start.misses = 0 ∧
      t.hal = { s.hal with resumeAtEdge := s.hal.frozen } ∧ t.keys.saltD = padTo 32 (Config.randomBytes (s.draws + 12) 32) ∧
      (∀ c, c < 16 → ((s.ctxSet c).state = .teardown ∨ (s.ctxSet c).state = .scrubbing) →
        (t.ctxSet c).state = .scrubbing ∧ t.teardownStep c = some .scrubbing) ∧
      (∀ c, c < 16 → (s.ctxSet c).state = .active →
        (t.ctxSet c).state = .active ∧ (t.ctx c).memory = [] ∧ (t.ctx c).mem.live = 1 ∧
        (t.ctx c).mem.generation = (if (t.memKey c 1).take 32 = (t.memKey c 1).drop 32 then 2 else 1)) ∧
      (∀ l, l < s.grixo.ports.length → s.portUsable l = true → (t.port l).training = true) ∧
      t = { s.at now with set := t.set, setA := t.setA, setB := t.setB, slotB := t.slotB, recorder := t.recorder,
                          hal := t.hal, start := t.start, keys := t.keys, lead := t.lead, mgmt := t.mgmt, ctxs := t.ctxs,
                          clusters := t.clusters, grixo := t.grixo, draws := t.draws }) ∧
  (∀ (s : State) (now : Nat), s.starting = true → (s.at now).stageLate = true → s.hal.pendingLevel = none →
    (s.start.misses < 2 → ∃ t, exec (.stageDeadlineMiss now) s = .next t ∧ t.start.misses = s.start.misses + 1 ∧
      t.start.t0 = some (s.at now).aon ∧ t.start.cause = 0x13 ∧ t.start.retry = true ∧ t.start.stage = none) ∧
    (2 ≤ s.start.misses → ∃ t, exec (.stageDeadlineMiss now) s = .next t ∧
      t.start.stopped = some ((s.start.stage.map (· + 1)).getD 0) ∧ Recorded { s.at now with start := t.start } t)) ∧
  (∀ (s : State) (now b : Nat), s.starting = true → s.start.pllLocked = false → s.start.t0 = some b →
    b + 1000 * tickMs ≤ (s.at now).aon →
    exec (.pllLockTimeout now) s =
      .next ({ s.at now with start := { s.start with stopped := some 1 } }.record 0x04030018 0x6FF0 none [])) ∧
  (∀ (s : State) (now k : Nat), s.start.stage = some k → 1 ≤ k → k ≤ 3 → s.power.furl < 2 →
    ((s.cpRuns 0 = false ∨ s.lead.cp0.liveAt + 2000 * tickMs ≤ (s.at now).aon) →
      (s.cpRuns 1 = false ∨ s.lead.cp1.liveAt + 2000 * tickMs ≤ (s.at now).aon) →
      ∃ t, exec (.cpWatchdogExpiry now) s = .next t ∧ t.start.t0 = some (s.at now).aon ∧ t.start.kind = 2 ∧
        t.start.cause = 0x15 ∧ t.start.retry = false ∧ t.start.stage = none ∧ t.power.powered = s.power.powered &&& 1 ∧
        t.keys.slots = [] ∧ t.out = s.out) ∧
    (s.cpRuns 0 = true → s.lead.cp0.liveAt + 2000 * tickMs ≤ (s.at now).aon → s.cpRuns 1 = true →
      (s.at now).aon < s.lead.cp1.liveAt + 2000 * tickMs →
      exec (.cpWatchdogExpiry now) s = .next ((s.at now).resetHoist 0))) ∧
  (∀ (s : State) (now : Nat), exec (.burgeeFirmwareRestart now) s = .next (s.at now))

/-- STAGE_A_COMPLETE, SECURE_BOOT_COMPLETE, HOIST_RESET, HOIST_RESET_COMPLETE (R341, R363, R369 to R371, R381, R390, R396, R398,
R433, R462): stage A runs a verified image and takes the settings of the valid slot, or stops in ROM recovery; a Hoist's CP
runs a verified image, and with both, roots and registers agree or stage B stops; a HOIST reset clears its domains, connections and leadership. -/
def Obligations.FirmwareStartsAndHoistsReset : Prop :=
  (∀ (s u : State) (now : Nat) (x : SettingsSlot) (r : NvRecord), s.starting = true → s.start.stage = none →
    s.domainOn 1 = true → s.pack.measureAt = none → (s.at now).stageLate = false → (s.at now).bootBurgee = some u →
    u.setA = some x → s.keys.nvA = some r → r.pending = 0xFF → r.lifecycle = s.keys.fuses.code → s.keys.fuses ≠ .scrapped →
    ∃ t, exec (.stageAComplete true false true false ⟨true, now⟩) s = .next t ∧ t.start.stage = some 0 ∧ t.start.stopped = none ∧
      (s.start.kind = 1 → t.set.powerCycles = (x.values.powerCycles + 1) % 2 ^ 24) ∧ t.set.hal = x.values.hal ∧
      t.set.mgmt = x.values.mgmt ∧ t.mgmt.inUse = x.values.mgmt ∧ t.keys.fuses = s.keys.fuses ∧ t.keys.nvSlotB = false ∧
      t.power = { (s.at now).power with latched := s.power.latched &&& 0xFFFFFC } ∧
      t.att.mr0.length = 2 ∧ t.att.mr1 = t.att.mr0 ∧
      t = { s.at now with set := t.set, setA := t.setA, setB := t.setB, slotB := t.slotB, recorder := t.recorder,
                          hal := t.hal, start := t.start, power := t.power, keys := t.keys, att := t.att, mgmt := t.mgmt }) ∧
  (∀ (s : State) (now : Nat) (f1 f2 f3 f4 f5 : Bool), s.starting = true → s.start.stage = none → s.domainOn 1 = true →
    s.pack.measureAt = none → (s.at now).stageLate = false →
    Fw.select s.lifecycle 1 s.att.burgeeA.bytes s.att.burgeeB.bytes = none →
    exec (.stageAComplete f1 f2 f3 f4 ⟨f5, now⟩) s =
      .next ({ s.at now with start := { s.start with stopped := some 0 } }.record 0x04410003 0x6FF0 none [])) ∧
  (∀ (s : State) (h now : Nat) (a b c d : Bytes) (slotB fallback : Bool), s.starting = true → s.start.stage = some 0 →
    h ≤ 1 → s.cpRuns h = false → s.domainOn (2 + h) = true → s.domainOn (4 + h) = true →
    Fw.select s.lifecycle 2 s.att.cpA.bytes s.att.cpB.bytes = some (slotB, fallback) →
    (s.cpRuns (1 - h) = true → a = b ∧ c = d) →
    ∃ t, exec (.secureBootComplete h a b c d now) s = .next t ∧ t.cpRuns h = true ∧ t.cpRuns (1 - h) = s.cpRuns (1 - h) ∧
      (if h = 0 then t.start.retryStatus.1 else t.start.retryStatus.2) = false ∧
      (s.cpRuns (1 - h) = true → t.att.mr0 = t.att.mr1 ∧ t.att.mr0.length = 6 ∧ t.att.m = sha384 t.att.mr0.flatten) ∧
      t.start.stage = some 0 ∧
      t = { s.at now with set := t.set, setA := t.setA, setB := t.setB, slotB := t.slotB, recorder := t.recorder,
                          start := t.start, keys := t.keys, att := t.att, lead := t.lead, mgmt := t.mgmt,
                          draws := t.draws }) ∧
  (∀ (s : State) (h now : Nat) (a b c d : Bytes) (slotB fallback : Bool), s.starting = true → s.start.stage = some 0 →
    h ≤ 1 → s.cpRuns h = false → s.domainOn (2 + h) = true → s.domainOn (4 + h) = true →
    Fw.select s.lifecycle 2 s.att.cpA.bytes s.att.cpB.bytes = some (slotB, fallback) → s.cpRuns (1 - h) = true →
    (a ≠ b ∨ c ≠ d) →
    ∃ u : State, exec (.secureBootComplete h a b c d now) s =
        .next (({ u with start := { u.start with stopped := some 1 } }).record
          (if a ≠ b then 0x04400025 else 0x04410005) 0x6FF0 none []) ∧
      u.cpRuns h = true ∧ u.keys = s.keys ∧ u.att.mr0 = s.att.mr0 ∧ u.att.mr1 = s.att.mr1 ∧ u.att.m = s.att.m ∧
      u = { s.at now with set := u.set, setA := u.setA, setB := u.setB, slotB := u.slotB, recorder := u.recorder,
                          start := u.start, att := u.att, lead := u.lead, mgmt := u.mgmt }) ∧
  (∀ (s : State) (h now : Nat) (a b c d : Bytes), s.starting = true → s.start.stage = some 0 → h ≤ 1 →
    s.cpRuns h = false → s.domainOn (2 + h) = true → s.domainOn (4 + h) = true →
    Fw.select s.lifecycle 2 s.att.cpA.bytes s.att.cpB.bytes = none →
    exec (.secureBootComplete h a b c d now) s =
      .next ({ s.at now with start := { s.start with stopped := some 1 } }.record 0x04410004 0x6FF0 none [])) ∧
  (∀ (s : State) (h now k : Nat), s.start.stage = some k → 1 ≤ k → k ≤ 3 → h ≤ 1 → s.power.furl < 2 →
    s.start.hoistReset = (false, false) → exec (.hoistReset h now) s = .next ((s.at now).resetHoist h)) ∧
  (∀ (s : State) (h : Nat), h ≤ 1 →
    (s.resetHoist h).power.powered = s.power.powered &&& ~~~hoistMask h ∧ (s.resetHoist h).cpRuns h = false ∧
    (s.resetHoist h).cpRuns (1 - h) = s.cpRuns (1 - h) ∧
    (if h = 0 then (s.resetHoist h).start.hoistReset.1 else (s.resetHoist h).start.hoistReset.2) = true ∧
    (∀ c ∈ (s.resetHoist h).grixo.conns, connHoist c.index ≠ h) ∧
    (∀ c, c < 16 → 16 * h + c < s.host.vfs.length → (s.resetHoist h).vf (16 * h + c) = .reset) ∧
    (s.lead.holder ≠ some h → (s.resetHoist h).lead.holder = s.lead.holder ∧ (s.resetHoist h).lead.epoch = s.lead.epoch) ∧
    (s.lead.holder = some h → s.cpRuns (1 - h) = true →
      (s.resetHoist h).lead.holder = some (1 - h) ∧ (s.resetHoist h).lead.epoch = s.lead.epoch % 0xFFFFFFFF + 1) ∧
    (s.lead.holder = some h → s.cpRuns (1 - h) = false → (s.resetHoist h).lead.holder = none) ∧
    (s.resetHoist h).hal = s.hal ∧ (s.resetHoist h).clusters = s.clusters ∧ (s.resetHoist h).rounds = s.rounds ∧
    (s.resetHoist h).drbgs = s.drbgs ∧ (s.resetHoist h).aon = s.aon ∧ (s.resetHoist h).pending = s.pending) ∧
  (∀ (s : State) (h now : Nat) (mr : Bytes), h ≤ 1 →
    (if h = 0 then s.start.hoistReset.1 else s.start.hoistReset.2) = true → 4 + h < s.start.dieState.length →
    ∃ t, exec (.hoistResetComplete h mr mr now) s = .next t ∧ t.cpRuns h = true ∧
      (if h = 0 then t.start.hoistReset.1 else t.start.hoistReset.2) = false ∧ t.start.dieState[4 + h]? = some 2 ∧
      t.power = { (s.at now).power with powered := s.power.powered ||| hoistMask h
                                        regulated := s.power.regulated ||| hoistMask h
                                        latched := s.power.latched &&& ~~~hoistMask h } ∧
      (if h = 0 then t.lead.cp0.leads else t.lead.cp1.leads) = false ∧ (h = 0 → t.mgmt.dtls = true) ∧
      t = { s.at now with set := t.set, setA := t.setA, setB := t.setB, slotB := t.slotB, recorder := t.recorder,
                          start := t.start, power := t.power, att := t.att, lead := t.lead, journal := t.journal,
                          mgmt := t.mgmt, host := t.host, grixo := t.grixo, draws := t.draws }) ∧
  (∀ (s : State) (h now : Nat) (mr0 mr1 : Bytes), h ≤ 1 →
    (if h = 0 then s.start.hoistReset.1 else s.start.hoistReset.2) = true → mr0 ≠ mr1 →
    exec (.hoistResetComplete h mr0 mr1 now) s = .next ((s.at now).record 0x04410005 0x6FF0 none []))

/-- CANTON_RESET, CANTON_RESET_COMPLETE, CANTON_TEST_FAILED, WAKE_N_TIMEOUT, PERST_ASSERT, PERST_DEASSERT, PCIE_LINK_DOWN, FLR
(R318, R372, R395, R401, R402, R421, R446, R447): a Canton's reset clears its clusters and the plans that use it, no other; its
stage C steps end with no failed cluster, one replaced by the spare, or a failed Canton; a host reset clears VFs. -/
def Obligations.CantonsAndEndpointsReset : Prop :=
  (∀ (s : State) (k now : Nat), s.ready = true → k ≤ 3 → s.power.furl = 0 → s.clusters.length = 64 →
    s.start.cantonReset.length = 4 →
    ∃ t, exec (.cantonReset k now) s = .next t ∧ t.start.cantonReset[k]? = some true ∧
      (∀ i, i < 16 → t.cluster (16 * k + i) = Cluster.reset k i) ∧
      (∀ c, c < 16 → (s.at now).planOn c k = false → t.plan c = s.plan c) ∧
      (∀ c, c < 16 → c < s.plans.length → (s.at now).planOn c k = true → (t.plan c).state = .none) ∧
      t = { s.at now with set := t.set, setA := t.setA, setB := t.setB, slotB := t.slotB, recorder := t.recorder,
                          start := t.start, keys := t.keys, lead := t.lead, journal := t.journal, mgmt := t.mgmt,
                          host := t.host, ctxs := t.ctxs, plans := t.plans, clusters := t.clusters, drbgs := t.drbgs,
                          rounds := t.rounds, grixo := t.grixo, draws := t.draws, out := t.out }) ∧
  (∀ (s : State) (k now : Nat), k ≤ 3 → s.start.cantonReset[k]? = some true → s.clusters.length = 64 →
    s.start.dieState.length = 6 → s.start.cantonReady.length = 4 → s.start.cantonReset.length = 4 →
    s.start.substituted.length = 4 →
    (∃ t, exec (.cantonResetComplete k 0 now) s = .next t ∧ t.start.dieState[k]? = some 2 ∧
      t.start.cantonReady[k]? = some true ∧ t.start.cantonReset[k]? = some false ∧
      (∀ i, i < 16 → (t.cluster (16 * k + i)).selfTestPassed = true) ∧
      (∀ i, i < 13 → ∀ l, t.lead.links[i]? = some l → (l.a = k ∨ l.b = k) → l.down = false) ∧
      t = { s.at now with set := t.set, setA := t.setA, setB := t.setB, slotB := t.slotB, recorder := t.recorder,
                          start := t.start, lead := t.lead, journal := t.journal, mgmt := t.mgmt, clusters := t.clusters,
                          draws := t.draws }) ∧
    (∀ j : Fin 15, ∃ t, exec (.cantonResetComplete k (2 ^ j.val) now) s = .next t ∧ t.start.dieState[k]? = some 2 ∧
      t.start.substituted[k]? = some j.val ∧ (t.cluster (16 * k + j.val)).failed = true ∧
      (t.cluster (16 * k + j.val)).position = none ∧ (t.cluster (16 * k + 15)).position = some (15 * k + j.val))) ∧
  (∀ (s : State) (k f a b now : Nat), k ≤ 3 → s.start.cantonReset[k]? = some true → s.start.cantonReady[k]? = some false →
    a < b → b < 16 → f.testBit a = true → f.testBit b = true →
    exec (.cantonResetComplete k f now) s = .next ({ s.at now with start := { s.start with
      dieState := updAt s.start.dieState k fun _ => 3 } }.record 0x04020005 (srcCanton k) none [])) ∧
  (∀ (s : State) (k now : Nat), k ≤ 3 → s.start.dieState[k]? = some 1 →
    exec (.cantonTestFailed k false now) s = .next ({ s.at now with start := { s.start with
      dieState := updAt s.start.dieState k fun _ => 3 } }.record 0x04020005 (srcCanton k) none []) ∧
    exec (.cantonTestFailed k true now) s = .next (({ s.at now with start := { s.start with
      dieState := updAt s.start.dieState k fun _ => 3 } }.record 0x04410006 (srcCanton k) none []).record
        0x04020005 (srcCanton k) none [])) ∧
  (∀ (s : State) (now b : Nat), s.start.wakeN.1 = some b → b + 10 * tickS ≤ (s.at now).aon →
    exec (.wakeNTimeout 0 now) s = .next ({ s.at now with start := { s.start with
      wakeN := (none, s.start.wakeN.2) } }.record 0x0502000C 0x6FF0 none [0])) ∧
  (∀ (s : State) (now : Nat), s.start.perst.1 = false → s.domainOn 8 = true → s.host.vfs.length = 32 →
    ∃ t, exec (.perstAssert 0 now) s = .next t ∧ t.start = { s.start with perst := (true, s.start.perst.2) } ∧
      t.host.ep0 = .reset ∧ t.host.ep1 = s.host.ep1 ∧ (∀ v, v < 16 → t.vf v = .reset) ∧
      (∀ v, 16 ≤ v → s.bound v = false → t.vf v = s.vf v) ∧
      t = { s.at now with set := t.set, setA := t.setA, setB := t.setB, slotB := t.slotB, recorder := t.recorder,
                          start := t.start, mgmt := t.mgmt, host := t.host, plans := t.plans, grixo := t.grixo }) ∧
  (∀ (s : State) (now : Nat), s.start.perst.1 = true → s.power.furl = 0 → s.power.entry = none → s.power.committed = none →
    ∃ t, exec (.perstDeassert 0 now) s = .next t ∧
      t.start = { s.start with perst := (false, s.start.perst.2), wakeN := (none, s.start.wakeN.2) } ∧
      (s.domainOn 8 = true → t.host.ep0.up = true ∧ t.draws = s.draws + 1) ∧
      (s.domainOn 8 = false → t.host = s.host ∧ t.draws = s.draws) ∧ t.host.ep1 = s.host.ep1 ∧ t.host.vfs = s.host.vfs ∧
      t = { s.at now with start := t.start, host := t.host, draws := t.draws }) ∧
  (∀ s : State, s.start.perst.1 = false → s.domainOn 8 = true → s.host.vfs.length = 32 →
    ∃ t, exec (.pcieLinkDown 0) s = .next t ∧ t.host.ep0 = .reset ∧ t.host.ep1 = s.host.ep1 ∧
      (∀ v, v < 16 → t.vf v = .reset) ∧
      t = { s with set := t.set, setA := t.setA, setB := t.setB, slotB := t.slotB, recorder := t.recorder,
                   mgmt := t.mgmt, host := t.host, plans := t.plans, grixo := t.grixo }) ∧
  (∀ (s : State) (v : Nat), s.domainOn (8 + vfEndpoint v) = true → v < 32 → s.host.vfs.length = 32 →
    ∃ t, exec (.flr v) s = .next t ∧ t.vf v = .reset ∧ (∀ w, w ≠ v → s.bound w = false → t.vf w = s.vf w) ∧
      (s.bound v = true → ∀ q, q < 64 → (t.queue (vfCtx v) q).state ≠ .active) ∧
      (s.bound v = false → t.grixo = s.grixo ∧ t.plans = s.plans) ∧
      t = { s with set := t.set, setA := t.setA, setB := t.setB, slotB := t.slotB, recorder := t.recorder,
                   mgmt := t.mgmt, host := t.host, plans := t.plans, grixo := t.grixo })

-- Leadership, HOLD and faults (R25, R22, R154, R428 to R450)

/-- JACK_REQUEST, JACK_RENEWAL_TIMER, JACK_RENEWAL, JACK_EXPIRY, SELF_DEMOTION, NO_HOLDER_RX, CP_STATUS, BURGEE_HOLD_DETECT,
BEACON, STALE_INSTRUCTION, JOURNAL_MIRROR (R428 to R432, R441): the preferred CP is granted at once with the next epoch for
1,000 ms; a renewal of the present epoch extends EXPIRY, an older one is refused and its sender yields; 10 ms past EXPIRY there is
no holder. That the other CP waits only while the preferred one is heard of is the model's reading (log entry 32). -/
def Obligations.OneLeaderByLease : Prop :=
  (∀ (s : State) (cp now : Nat), cp ≤ 1 → s.lead.holder = none → s.cpRuns cp = true → s.att.m ≠ [] →
    s.set.leaderPreference = cp → (s.cp (1 - cp)).requested = none →
    ∃ t, exec (.jackRequest cp now) s = .next t ∧ t.lead.holder = some cp ∧
      t.lead.epoch = s.lead.epoch % 0xFFFFFFFF + 1 ∧ t.lead.expiry = (s.at now).aon + 1000 * tickMs ∧
      t.lead.takeover = some ⟨cp, s.lead.epoch % 0xFFFFFFFF + 1, !s.lead.grantedThisStart⟩ ∧
      (t.cp cp).expiry = (s.at now).aon + 990 * tickMs ∧ (t.cp cp).epoch = s.lead.epoch % 0xFFFFFFFF + 1 ∧
      t.lead.cp0.leads = false ∧ t.lead.cp1.leads = false ∧ t.lead.hold = s.lead.hold ∧ t.lead.links = s.lead.links ∧
      t.out = s.out ++ [.leaseMessage cp 1 (s.lead.epoch % 0xFFFFFFFF + 1)] ∧
      t = { s.at now with set := t.set, setA := t.setA, setB := t.setB, slotB := t.slotB, recorder := t.recorder,
                          lead := t.lead, mgmt := t.mgmt, out := t.out }) ∧
  (∀ (s : State) (cp now : Nat), cp ≤ 1 → s.lead.holder = none → s.cpRuns cp = true → s.att.m ≠ [] →
    s.set.leaderPreference = 1 - cp →
    ((s.at now).contends (1 - cp) = true → (s.cp cp).requested = none →
      ∃ t, exec (.jackRequest cp now) s = .next t ∧ (t.cp cp).requested = some (s.at now).aon ∧ t.lead.holder = none ∧
        t.lead.epoch = s.lead.epoch ∧ t.cp (1 - cp) = s.cp (1 - cp) ∧ t = { s.at now with lead := t.lead }) ∧
    (∀ b, (s.cp cp).requested = some b → b + 100 * tickMs ≤ (s.at now).aon →
      ∃ t, exec (.jackRequest cp now) s = .next t ∧ t.lead.holder = some cp ∧
        t.lead.epoch = s.lead.epoch % 0xFFFFFFFF + 1 ∧ t.lead.expiry = (s.at now).aon + 1000 * tickMs)) ∧
  (∀ (s : State) (cp now : Nat), cp ≤ 1 → s.lead.holder = some cp → (s.at now).aon < (s.cp cp).expiry →
    (s.cp cp).renewalSent = none → (s.cp cp).expiry ≤ (s.at now).aon + 740 * tickMs →
    exec (.jackRenewalTimer cp now) s =
      .next (((s.at now).updCp cp fun c => { c with renewalSent := some (s.at now).aon }).emit
        (.leaseMessage cp 5 (s.cp cp).epoch))) ∧
  (∀ (s : State) (cp now b : Nat), cp ≤ 1 → s.cpRuns cp = true → s.lead.holder = some cp → s.lead.hold = none →
    (s.cp cp).renewalSent = some b →
    ∃ t, exec (.jackRenewal cp s.lead.epoch now) s = .next t ∧ t.lead.expiry = (s.at now).aon + 1000 * tickMs ∧
      t.lead.holder = some cp ∧ t.lead.epoch = s.lead.epoch ∧ t.lead.takeover = s.lead.takeover ∧
      t.cp cp = { s.cp cp with liveAt := (s.at now).aon, messageAt := (s.at now).aon, expiry := b + 990 * tickMs,
                               renewalSent := none } ∧
      t.cp (1 - cp) = s.cp (1 - cp) ∧ t.out = s.out ++ [.leaseMessage cp 2 s.lead.epoch] ∧
      t = { s.at now with lead := t.lead, out := t.out }) ∧
  (∀ (s : State) (cp e now : Nat), cp ≤ 1 → s.cpRuns cp = true → e < s.lead.epoch →
    ∃ t, exec (.jackRenewal cp e now) s = .next t ∧ (t.cp cp).leads = false ∧ t.lead.holder = s.lead.holder ∧
      t.lead.expiry = s.lead.expiry ∧ t.lead.epoch = s.lead.epoch ∧ t.out = s.out ++ [.leaseMessage cp 3 s.lead.epoch] ∧
      Recorded { s.at now with lead := t.lead, out := t.out } t) ∧
  (∀ (s : State) (now cp : Nat), s.lead.holder = some cp → s.lead.expiry + 10 * tickMs ≤ (s.at now).aon →
    ∃ t, exec (.jackExpiry now) s = .next t ∧ t.lead.holder = none ∧ t.lead.takeover = none ∧
      t.lead.epoch = s.lead.epoch ∧ t.lead.cp0.leads = s.lead.cp0.leads ∧ t.lead.cp1.leads = s.lead.cp1.leads ∧
      t.out = s.out ++ [.leaseMessage 0 4 s.lead.epoch, .leaseMessage 1 4 s.lead.epoch] ∧
      t = { s.at now with lead := t.lead, out := t.out }) ∧
  (∀ (s : State) (cp now : Nat), cp ≤ 1 → (s.cp cp).expiry ≤ (s.at now).aon → (s.cp cp).leads = true →
    ∃ t, exec (.selfDemotion cp now) s = .next t ∧ t.cp cp = { s.cp cp with leads := false, renewalSent := none } ∧
      t.cp (1 - cp) = s.cp (1 - cp) ∧ t.lead.holder = s.lead.holder ∧ t.lead.epoch = s.lead.epoch ∧
      Recorded { s.at now with lead := t.lead } t) ∧
  (∀ (s : State) (cp now : Nat), cp ≤ 1 → s.lead.holder = none → s.cpRuns cp = true → s.att.m ≠ [] →
    s.set.leaderPreference = cp → (s.cp (1 - cp)).requested = none →
    ∃ t, exec (.noHolderRx cp now) s = .next t ∧ t.lead.holder = some cp ∧
      t.lead.epoch = s.lead.epoch % 0xFFFFFFFF + 1 ∧ (t.cp cp).leads = false ∧
      t = { s.at now with set := t.set, setA := t.setA, setB := t.setB, slotB := t.slotB, recorder := t.recorder,
                          lead := t.lead, mgmt := t.mgmt, out := t.out }) ∧
  (∀ (s : State) (now : Nat),
    (s.cpRuns 0 = true → exec (.cpStatus 0 now) s = .next { s.at now with lead := { s.lead with
      cp0 := { s.lead.cp0 with liveAt := (s.at now).aon, messageAt := (s.at now).aon }, burgeeHold := false } }) ∧
    (s.cpRuns 1 = true → exec (.cpStatus 1 now) s = .next { s.at now with lead := { s.lead with
      cp1 := { s.lead.cp1 with liveAt := (s.at now).aon, messageAt := (s.at now).aon }, burgeeHold := false } })) ∧
  (∀ (s : State) (cp now : Nat), s.lead.cp0.messageAt + 1500 * tickMs ≤ (s.at now).aon →
    s.lead.cp1.messageAt + 1500 * tickMs ≤ (s.at now).aon → cp ≤ 1 → s.cpRuns cp = true →
    (s.at now).aon < (s.cp cp).liveAt + 2000 * tickMs →
    exec (.burgeeHoldDetect now) s = .next { s.at now with lead := { s.lead with burgeeHold := true } }) ∧
  (∀ (s : State) (i now : Nat), s.leaderCp = some i → (s.at now).aon < (s.cp i).expiry →
    s.lead.lastBeacon + 10 * tickMs ≤ (s.at now).aon →
    ∃ t, exec (.beacon now) s = .next t ∧ t.lead.lastBeacon = (s.at now).aon ∧
      t.lead.unitEpochs.length = s.lead.unitEpochs.length ∧
      (∀ u e, s.lead.unitEpochs[u]? = some e →
        t.lead.unitEpochs[u]? = some (if u < 4 then max e (s.cp i).epoch else e)) ∧
      t = { s.at now with lead := { s.lead with lastBeacon := t.lead.lastBeacon, unitEpochs := t.lead.unitEpochs }
                          out := s.out ++ [.beacon (s.cp i).epoch] }) ∧
  (∀ (s : State) (i now : Nat), s.leaderCp = some i → (s.cp i).expiry ≤ (s.at now).aon →
    ∃ t, exec (.beacon now) s = .next t ∧ (t.cp i).leads = false ∧ t.out = s.out ∧
      t.lead.unitEpochs = s.lead.unitEpochs ∧ Recorded { s.at now with lead := t.lead } t) ∧
  (∀ (s : State) (u e x now : Nat), s.lead.unitEpochs[u]? = some x →
    (x ≤ e → exec (.staleInstruction u e now) s = .next (s.at now)) ∧
    (e < x → ∃ t, exec (.staleInstruction u e now) s = .next t ∧ (s.lead.cp0.epoch = e → t.lead.cp0.leads = false) ∧
      (s.lead.cp1.epoch = e → t.lead.cp1.leads = false) ∧ (s.lead.cp0.epoch ≠ e → t.lead.cp0 = s.lead.cp0) ∧
      (s.lead.cp1.epoch ≠ e → t.lead.cp1 = s.lead.cp1) ∧ t.lead.unitEpochs = s.lead.unitEpochs ∧
      t.lead.holder = s.lead.holder ∧ Recorded { s.at now with lead := t.lead } t)) ∧
  (∀ (s : State) (i now : Nat), s.leaderCp = some i → s.cpRuns (1 - i) = true →
    exec (.journalMirror now) s =
      .next { s.at now with journal := { s.journal with applied := min s.journal.seq (s.journal.applied + 1) } })

/-- HOLD_ENTRY, HOLD_END, HOLD_LIMIT_EXPIRY, TAKEOVER_COMPLETE (R434 to R437, R442): 300 ms without a beacon the module is in
HOLD, no lead issued after the running window; the takeover of the granted CP fences every unit with its epoch, and HOLD
ends at the next window boundary; a HOLD of HOLD_LIMIT resets the module. -/
def Obligations.HoldWaitsForATakeover : Prop :=
  (∀ (s : State) (now : Nat), s.lead.hold = none → (∃ x l, s.lead.unitEpochs = x :: l ∧ x ≠ 0) → s.power.furl < 2 →
    s.lead.lastBeacon + 300 * tickMs ≤ (s.at now).aon →
    ∃ t, exec (.holdEntry now) s = .next t ∧ t.lead = { s.lead with
        hold := some (s.at now).aon, holdBeat := (s.hal.beatCount / 256 + 1) * 256, holdEnding := false } ∧
      t.set.holdCount = min (s.set.holdCount + 1) 0xFFFFFFFF ∧ t.power.entry = none ∧ t.power.furl = s.power.furl ∧
      t.power.committed = s.power.committed ∧
      t = { s.at now with set := t.set, setA := t.setA, setB := t.setB, slotB := t.slotB, recorder := t.recorder,
                          lead := t.lead, power := t.power, mgmt := t.mgmt }) ∧
  (∀ (s : State) (b : Nat), s.lead.hold = some b → s.lead.holdEnding = true → s.hal.beatCount % 256 = 0 →
    s.noLeader = false → s.journal.records.length < journalRing → s.clusters.length = 64 →
    ∃ t, exec .holdEnd s = .next t ∧
      t.lead = { s.lead with hold := none, holdEnding := false, holdBeat := s.hal.beatCount } ∧
      t.journal.seq = s.journal.seq + 1 ∧ (∀ r ∈ s.journal.records, r ∈ t.journal.records) ∧
      (∀ c, c < s.plans.length → t.plan c = { s.plan c with startAfter := max (s.plan c).startAfter s.hal.beatCount }) ∧
      (∀ i o x, i < 64 → (s.cluster i).request = some (o, x) → x + 256 ≤ s.hal.beatCount →
        (t.cluster i).owner = o ∧ (t.cluster i).request = none) ∧
      ((∀ i, i < 64 → (s.cluster i).banks = []) → t.rounds = s.rounds) ∧
      t = { s with set := t.set, setA := t.setA, setB := t.setB, slotB := t.slotB, recorder := t.recorder, lead := t.lead,
                   journal := t.journal, mgmt := t.mgmt, plans := t.plans, clusters := t.clusters, drbgs := t.drbgs,
                   rounds := t.rounds, draws := t.draws }) ∧
  (∀ (s : State) (now b : Nat), s.lead.hold = some b → s.set.holdLimit ≠ 0 →
    b + s.set.holdLimit * tickS ≤ (s.at now).aon →
    ∃ t, exec (.holdLimitExpiry now) s = .next t ∧ t.start.t0 = some (s.at now).aon ∧ t.start.kind = 2 ∧
      t.start.cause = 0x14 ∧ t.start.stage = none ∧ t.lead.hold = none ∧ t.lead.epoch = s.lead.epoch ∧
      t.power.powered = s.power.powered &&& 1 ∧ t.rounds = [] ∧ t.hal.beatCount = s.hal.beatCount ∧ t.out = s.out) ∧
  (∀ (s : State) (now : Nat) (x : Takeover), s.lead.takeover = some x → x.cp ≤ 1 → s.lead.holder = some x.cp →
    (s.at now).aon < (s.cp x.cp).expiry → s.journal.records.length < journalRing →
    ∃ t, exec (.takeoverComplete now) s = .next t ∧ (t.cp x.cp).leads = true ∧ t.lead.takeover = none ∧
      t.lead.unitEpochs = s.lead.unitEpochs.map (fun e => max e x.epoch) ∧ t.lead.lastBeacon = (s.at now).aon ∧
      t.lead.holdEnding = s.lead.hold.isSome ∧ t.lead.hold = s.lead.hold ∧ t.lead.holder = some x.cp ∧
      t.lead.epoch = s.lead.epoch ∧ t.journal.seq = s.journal.seq + 1 ∧ t.journal.applied = s.journal.seq ∧
      (x.first = false → t.set.leaderChanges = min (s.set.leaderChanges + 1) 0xFFFFFFFF) ∧
      (x.first = true → t.set.leaderChanges = s.set.leaderChanges) ∧
      (∀ c, c < 16 → (t.plan c).state ≠ .checking ∧ (t.plan c).state ≠ .unloading) ∧
      (∀ i, i < 64 → i < s.clusters.length →
        let k := s.cluster i
        t.cluster i = if s.start.cantonReady.getD (i / 16) false && s.stageCDone && k.request.isNone && k.position.isSome &&
            k.selfTestPassed && !k.failed && k.owner == .maintenance then
          { k with tableLoaded := true, request := some (.service, s.hal.beatCount) } else k) ∧
      t.out = s.out ++ [.beacon x.epoch] ∧ t.rounds = s.rounds ∧ t.keys.slots.length = s.keys.slots.length ∧
      t = { s.at now with set := t.set, setA := t.setA, setB := t.setB, slotB := t.slotB, recorder := t.recorder,
                          keys := t.keys, lead := t.lead, journal := t.journal, mgmt := t.mgmt, host := t.host,
                          plans := t.plans, clusters := t.clusters, out := t.out })

/-- CLUSTER_FAULT, SPARE_TAKEOVER, SPARE_BECOMES_SERVICE, DATA_FAULT, DIE_LINK_DOWN, DIE_LINK_RETRAIN_FAIL (R22, R25, R154, R444 to
R447): a fault is replayed, a second within 4,096 beats fails the cluster; the spare takes its block and, at a window
boundary, its position; a data fault voids what it struck, ends its context, or resets the module; a link that goes down rolls back
the commits that it cuts. -/
def Obligations.FaultsAreContained : Prop :=
  (∀ (s : State) (k p : Nat), k < 64 → s.clusters.length = 64 → s.lead.lastFault.length = 64 → (s.cluster k).failed = false →
    (s.cluster k).position = some p → s.clusterAt p = k →
    (∀ x, s.lead.lastFault[k]? = some (some x) → x + 4096 < s.hal.beatCount) →
    ∃ t, exec (.clusterFault k 0) s = .next t ∧ (t.cluster k).span = none ∧
      (∀ b ∈ (t.cluster k).banks, b ∈ (s.cluster k).banks) ∧
      (t.cluster k).failed = false ∧ (t.cluster k).position = some p ∧
      (∀ i, i ≠ k → t.cluster i = s.cluster i) ∧
      ((s.cluster k).span = none → (∀ r ∈ s.rounds, r.ring.working = [] ∧ ∀ o ∈ r.owners, o.commit.state ≠ 1) →
        t.rounds = s.rounds ∧ (t.cluster k).banks = (s.cluster k).banks) ∧
      t.lead = { s.lead with lastFault := s.lead.lastFault.set k (some s.hal.beatCount) } ∧
      t = { s with set := t.set, setA := t.setA, setB := t.setB, slotB := t.slotB, recorder := t.recorder, lead := t.lead,
                   mgmt := t.mgmt, ctxs := t.ctxs, clusters := t.clusters, rounds := t.rounds }) ∧
  (∀ (s : State) (k : Nat), k < 64 → s.clusters.length = 64 → (s.cluster k).failed = false →
    ∃ t, exec (.clusterFault k 1) s = .next t ∧ (t.cluster k).failed = true ∧ (t.cluster k).span = none ∧
      (t.cluster k).banks = [] ∧ (t.cluster k).request = some (.maintenance, s.hal.beatCount) ∧ t.hal = s.hal ∧
      t.start = s.start ∧ t.power = s.power ∧ t.aon = s.aon ∧ t.drbgs = s.drbgs ∧ t.pending = s.pending) ∧
  (∀ (s : State) (c : Nat), c < 4 → s.clusters.length = 64 → (s.cluster (16 * c + 15)).failed = false →
    (s.cluster (16 * c + 15)).position = none →
    ((s.cluster (16 * c + 15)).owner = .service →
      exec (.clusterFault (16 * c + 15) 2) s = .next (s.record 0x01500031 (srcCluster (16 * c + 15)) none [])) ∧
    ((s.cluster (16 * c + 15)).owner = .maintenance → ∃ t, exec (.clusterFault (16 * c + 15) 2) s = .next t ∧
      t.cluster (16 * c + 15) = { s.cluster (16 * c + 15) with unavailable := true, selfTestPassed := false } ∧
      (∀ i, i ≠ 16 * c + 15 → t.cluster i = s.cluster i) ∧
      t = { s with clusters := t.clusters, lead := { s.lead with spareState := s.lead.spareState.set c 14 } })) ∧
  (∀ (s : State) (c k w : Nat), c < 4 → s.clusters.length = 64 → s.takeoverOf c = some k →
    (s.cluster k).takeoverWindow = some w → w < s.window → s.noLeader = false → s.lead.hold = none →
    (s.cluster (16 * c + 15)).tableLoaded = false → (s.cluster (16 * c + 15)).selfTestPassed = true →
    (s.cluster (16 * c + 15)).failed = false → (s.cluster (16 * c + 15)).unavailable = false →
    ∃ t, exec (.spareTakeover c) s = .next t ∧ (t.cluster (16 * c + 15)).tableLoaded = true ∧
      (t.cluster (16 * c + 15)).request = some (.service, s.hal.beatCount) ∧ (t.cluster k).span = none ∧
      (t.cluster k).banks = [] ∧
      t = { s with set := t.set, setA := t.setA, setB := t.setB, slotB := t.slotB, recorder := t.recorder,
                   mgmt := t.mgmt, ctxs := t.ctxs, clusters := t.clusters, rounds := t.rounds }) ∧
  (∀ (s : State) (c k p b : Nat), c < 4 → s.clusters.length = 64 → s.takeoverOf c = some k →
    (s.cluster k).position = some p → s.hal.beatCount % 256 = 0 → s.lead.hold = none →
    (s.cluster (16 * c + 15)).tableLoaded = true → (s.cluster (16 * c + 15)).request = some (.service, b) →
    b + 256 ≤ s.hal.beatCount → s.lead.spareState.length = 4 →
    ∃ t, exec (.spareBecomesService c) s = .next t ∧ (t.cluster (16 * c + 15)).position = some p ∧
      (t.cluster (16 * c + 15)).owner = .service ∧ (t.cluster k).position = none ∧ (t.cluster k).takeoverWindow = none ∧
      t.lead = { s.lead with spareState := s.lead.spareState.set c (k % 16) } ∧
      (∀ i, i ≠ k → i ≠ 16 * c + 15 → t.cluster i = s.cluster i) ∧
      (∀ x, x < s.plans.length →
        t.plan x = { s.plan x with startAfter := max (s.plan x).startAfter (s.hal.beatCount + 1) }) ∧
      t = { s with set := t.set, setA := t.setA, setB := t.setB, slotB := t.slotB, recorder := t.recorder, lead := t.lead,
                   journal := t.journal, mgmt := t.mgmt, plans := t.plans, clusters := t.clusters, drbgs := t.drbgs,
                   rounds := t.rounds, draws := t.draws }) ∧
  (∀ (s : State) (c h k : Nat),
    exec (.dataFault c h 8 k) s = .next { s with stats := { s.stats with hbmEcc := updAt s.stats.hbmEcc k (· + 1) } } ∧
    exec (.dataFault c h 9 k) s = .next { s with stats := { s.stats with sramEcc := updAt s.stats.sramEcc k (· + 1) } } ∧
    exec (.dataFault c h 14 k) s = .next { s with lead := { s.lead with
      links := updAt s.lead.links k fun l => { l with replays := l.replays + 1 } } }) ∧
  (∀ (s : State) (c h x : Nat) (r : Round) (im : PlanImage) (o : OwnerSet), s.round? c h = some r → s.image c = some im →
    (r.owners.filter fun y => y.set == x / 8)[x % 8]? = some o → r.owner? o.position (x / 8) = some o →
    o.commit.state ≠ 1 →
    ∃ t q, exec (.dataFault c h 15 x) s = .next t ∧ t.round? c h = some q ∧
      q.owner? o.position (x / 8) = some { o with
        active := [], activeCount := 0, shadow := [], sections := [], taint := false, read := o.mark } ∧
      (q.cursorAt o.position o.cursor).pos = 0 ∧ q = { r with owners := q.owners, cursors := q.cursors } ∧
      (∀ i, i ≠ s.clusterAt o.position → t.cluster i = s.cluster i) ∧
      (∀ b ∈ (t.cluster (s.clusterAt o.position)).banks, b.secret = true ∨ ¬(b.ctx = c ∧ b.cohort = h ∧ b.tileSet = x / 8)) ∧
      t = { s with set := t.set, setA := t.setA, setB := t.setB, slotB := t.slotB, recorder := t.recorder,
                   mgmt := t.mgmt, ctxs := t.ctxs, clusters := t.clusters, rounds := t.rounds }) ∧
  (∀ (s : State) (c h k : Nat) (r : Round) (im : PlanImage), s.round? c h = some r → s.image c = some im →
    k < r.sets.length → (r.set k).unmask ≠ 1 →
    ∃ t q, exec (.dataFault c h 2 k) s = .next t ∧ t.round? c h = some q ∧ (q.set k).unmask = 2 ∧ (q.set k).cause = 3 ∧
      (q.set k).dataFault = true ∧ (∀ j, j ≠ k → q.set j = r.set j) ∧ q = { r with sets := q.sets, ring := q.ring } ∧
      (∀ x, r.ring.tiles[k]? = some x → ∃ y, q.ring.tiles[k]? = some y ∧ y.agg.status = 2 ∧ y.agg.cause = 4 ∧
        y.store = x.store ∧ ∀ o, y.out = some o → o.status = 2 ∧ o.cause = 4) ∧
      t = { s with set := t.set, setA := t.setA, setB := t.setB, slotB := t.slotB, recorder := t.recorder,
                   mgmt := t.mgmt, rounds := t.rounds }) ∧
  (∀ (s : State) (c h k : Nat), (s.ctxSet c).state = .active → s.set.ctx.length = 16 →
    ∃ t, exec (.dataFault c h 4 k) s = .next t ∧ (t.ctxSet c).state = .teardown ∧
      (∀ d, d ≠ c → t.ctxSet d = s.ctxSet d ∧ t.ctx d = s.ctx d) ∧
      t = { s with set := t.set, setA := t.setA, setB := t.setB, slotB := t.slotB, recorder := t.recorder, keys := t.keys,
                   journal := t.journal, mgmt := t.mgmt, host := t.host, ctxs := t.ctxs, plans := t.plans }) ∧
  (∀ (s : State) (c h i k : Nat), 5 ≤ i → i ≤ 7 →
    ∃ t, exec (.dataFault c h i k) s = .next t ∧ t.start.t0 = some s.aon ∧ t.start.kind = 2 ∧ t.start.cause = 0x14 ∧
      t.start.stage = none ∧ t.rounds = [] ∧ t.keys.slots = [] ∧ t.power.powered = s.power.powered &&& 1 ∧ t.out = s.out) ∧
  (∀ (s : State) (i now : Nat) (l : DieLink), s.lead.links[i]? = some l → l.down = false →
    ∃ t, exec (.dieLinkDown i false now) s = .next t ∧
      t.lead.links[i]? = some { l with down := true, replays := l.replays + 16 } ∧
      (∀ j, j ≠ i → t.lead.links[j]? = s.lead.links[j]?) ∧
      (s.cutCommits l = [] → t = { s.at now with lead := { s.lead with links := t.lead.links } }) ∧
      t = { s.at now with set := t.set, setA := t.setA, setB := t.setB, slotB := t.slotB, recorder := t.recorder,
                          mgmt := t.mgmt, ctxs := t.ctxs, clusters := t.clusters, rounds := t.rounds
                          lead := { s.lead with links := t.lead.links } }) ∧
  (∀ (s : State) (i now c h : Nat) (l : DieLink) (o : OwnerSet) (r : Round), s.lead.links[i]? = some l → l.down = false →
    s.cutCommits l = [(c, h, o)] → s.round? c h = some r → r.owner? o.position o.set = some o →
    (r.set o.set).lastSeq ≠ o.commit.seq →
    ∃ t q, exec (.dieLinkDown i false now) s = .next t ∧ t.round? c h = some q ∧
      q.owner? o.position o.set = some { o with
        active := [], activeCount := 0, shadow := [], sections := [], taint := false, read := o.mark
        commit := { o.commit with state := 0 } } ∧
      (q.cursorAt o.position o.cursor).pos = 0 ∧ q = { r with owners := q.owners, cursors := q.cursors }) ∧
  (∀ (s : State) (i now : Nat) (l : DieLink), s.lead.links[i]? = some l →
    ∃ t m, exec (.dieLinkDown i true now) s = .next t ∧ t.lead.links[i]? = some m ∧ m.down = false ∧ m.fails = 0 ∧
      m.session = leNat (padTo 4 (Config.randomBytes s.draws 4)) ∧ (∀ j, j ≠ i → t.lead.links[j]? = s.lead.links[j]?) ∧
      t.draws = s.draws + 1 ∧
      (l.down = true ∨ s.cutCommits l = [] →
        Recorded { s.at now with lead := { s.lead with links := t.lead.links }, draws := t.draws } t) ∧
      t = { s.at now with set := t.set, setA := t.setA, setB := t.setB, slotB := t.slotB, recorder := t.recorder,
                          mgmt := t.mgmt, ctxs := t.ctxs, clusters := t.clusters, rounds := t.rounds, draws := t.draws
                          lead := { s.lead with links := t.lead.links } }) ∧
  (∀ (s : State) (i now : Nat) (l : DieLink), s.lead.links[i]? = some l → l.down = true → l.fails < 3 → l.a = 4 → l.b = 5 →
    s.start.stage ≠ some 0 →
    ∃ t, exec (.dieLinkRetrainFail i now) s = .next t ∧
      Recorded { s.at now with lead := { s.lead with links := updAt s.lead.links i fun l => { l with fails := 3 } } } t) ∧
  (∀ (s : State) (i k now : Nat) (l : DieLink), s.lead.links[i]? = some l → l.down = true → l.fails < 3 → l.a < 4 →
    k = (if l.b < 4 then l.b else l.a) → s.ready = true → s.power.furl = 0 → s.start.cantonReset.length = 4 →
    ∃ t, exec (.dieLinkRetrainFail i now) s = .next t ∧ t.start.cantonReset[k]? = some true ∧
      (∀ i, i < 16 → 16 * k + i < s.clusters.length → t.cluster (16 * k + i) = Cluster.reset k i) ∧ t.hal = s.hal) ∧
  (∀ (s : State) (k p x : Nat), k < 64 → s.clusters.length = 64 → (s.cluster k).failed = false →
    (s.cluster k).position = some p → s.lead.lastFault[k]? = some (some x) → s.hal.beatCount ≤ x + 4096 →
    ∃ t, exec (.clusterFault k 0) s = .next t ∧ (t.cluster k).failed = true ∧ (t.cluster k).span = none ∧
      (t.cluster k).banks = [] ∧ (t.cluster k).request = some (.maintenance, s.hal.beatCount) ∧ t.hal = s.hal ∧
      t.start = s.start ∧ t.power = s.power ∧ t.aon = s.aon ∧ t.drbgs = s.drbgs ∧ t.pending = s.pending)

-- The reserve pack (R493, R513 to R524)

/-- PACK_INSERT, PACK_REMOVE, PACK_MEASUREMENT, SERVICE_HOURS_TICK, POWER_FAIL_WARNING, HOLDUP_COMPLETE (R493, R514 to R520,
R524): a pack is measured 1 s after its insertion; it is healthy with its capacitance, age and discharges in bounds; the power-fail
warning leaves AON and H0's SEC, CP and FAB powered, and the hold-up's flush ends with everything off, or with a MODULE reset
of cause 0x02 if 12 V has returned. -/
def Obligations.PackHoldsUpTheFlush : Prop :=
  (∀ (s : State) (now : Nat), s.pack.present = false → s.start.t0.isSome = true →
    exec (.packInsert now) s = .next ({ s.at now with pack := { s.pack with
      present := true, measureAt := some (s.at now).aon } }.record 0x05700005 0x6FF0 none [])) ∧
  (∀ (s : State) (now : Nat), s.pack.present = true → s.start.t0.isSome = true → s.pack.holdup = none →
    ∃ t, exec (.packRemove now) s = .next t ∧ t.pack = { s.pack with
        present := false, packState := 0, measureAt := if s.start.stage.isNone then s.pack.measureAt else none } ∧
      Recorded { s.at now with pack := t.pack } t) ∧
  (∀ (s : State) (now b drop : Nat) (eeprom : Bytes) (h : PackHeader), s.pack.measureAt = some b → s.start.t0.isSome = true →
    b + tickS ≤ (s.at now).aon → s.pack.present = true → s.pack.powerFailRecord = false → packHeader eeprom = some h →
    5000 ≤ packCap drop → 10 * packCap drop ≤ 13 * h.ratedCap → 1200 ≤ packEnergy (packCap drop) →
    h.serviceHours < 70128 → h.discharges < 200000 →
    ∃ t, exec (.packMeasurement drop true eeprom now) s = .next t ∧ t.pack.packState = 1 ∧
      t.pack.measuredCap = packCap drop ∧ t.pack.holdupMj = packEnergy (packCap drop) ∧ t.pack.eolCause = 0 ∧
      t.pack.measureAt = none ∧ t.pack.header = some { h with logNext := (h.logNext + 1) % 32 } ∧
      t.pack.lastMeasuredMs = (s.at now).ms ∧ t.pack.present = true ∧
      t = { s.at now with pack := t.pack }.record 0x05700001 0x6FF0 none []) ∧
  (∀ (s : State) (now b drop : Nat) (eeprom : Bytes) (reached : Bool), s.pack.measureAt = some b → s.start.t0.isSome = true →
    b + tickS ≤ (s.at now).aon → s.pack.present = true →
    (reached = false ∨ packHeader eeprom = none ∨ packCap drop < 5000) →
    ∃ t, exec (.packMeasurement drop reached eeprom now) s = .next t ∧ t.pack.packState = 3 ∧ t.pack.measureAt = none ∧
      t = { s.at now with pack := t.pack }.record 0x04700004 0x6FF0 none []) ∧
  (∀ (s : State) (now : Nat) (h : PackHeader), s.pack.header = some h → s.pack.present = true → s.start.t0.isSome = true →
    (h.serviceHours + 1 < 70128 → h.discharges < 200000 → exec (.serviceHoursTick now) s = .next { s.at now with
      pack := { s.pack with header := some { h with serviceHours := h.serviceHours + 1 } } }) ∧
    (s.pack.packState = 1 → 70128 ≤ h.serviceHours + 1 → h.discharges < 200000 →
      exec (.serviceHoursTick now) s = .next ({ s.at now with
        pack := { s.pack with header := some { h with serviceHours := h.serviceHours + 1 }, packState := 2
                              eolCause := 2 } }.record 0x04700003 0x6FF0 none []))) ∧
  (∀ (s : State) (mv now : Nat), s.start.t0.isSome = true → s.pack.holdup = none →
    ∃ t, exec (.powerFailWarning mv now) s = .next t ∧ t.pack = { s.pack with holdup := some ((s.at now).ms, mv) } ∧
      t.power = { (s.at now).power with powered := s.power.powered &&& 0x000055, regulated := s.power.regulated &&& 0x000055
                                        latched := s.power.latched ||| 0xFFFFAA } ∧
      t.recorder.h0 = s.recorder.h0 ∧ t.recorder.h1 = .empty ∧
      (s.start.cpRuns = (true, true) → s.hoistLinkDown = false → t.recorder.powerFail = s.recorder.h1.held.take 4096) ∧
      t.clusters = clustersReset ∧ t.drbgs = List.replicate 512 .reset ∧ t.host = .reset ∧ t.grixo = .reset ∧
      t.mgmt = { s.mgmt with dtls := false } ∧ t.start.cpRuns = (s.start.cpRuns.1, false) ∧
      t = { s.at now with recorder := t.recorder, start := t.start, power := t.power, sensors := t.sensors, pack := t.pack,
                          clusters := t.clusters, drbgs := t.drbgs, host := t.host, grixo := t.grixo, mgmt := t.mgmt }) ∧
  (∀ (s : State) (now : Nat) (x : Nat × Nat), s.pack.holdup = some x →
    ∃ t, exec (.holdupComplete false now) s = .next t ∧ t.pack = { s.pack with holdup := none } ∧ t.power.powered = 0 ∧
      t.power.regulated = 0 ∧ t.start = { s.start with t0 := none, stage := none, cpRuns := (false, false) } ∧
      t.recorder.flushed = (s.pack.present && s.pack.packState == 1 && s.start.cpRuns.1) ∧
      (t.recorder.flushed = true → t.recorder.h0 = .empty ∧ t.recorder.lastSeq = s.recorder.counter + 1) ∧
      (t.recorder.flushed = true → s.recorder.counter < 16384 →
        ∃ r ∈ t.recorder.fixed, r.code = 0x05700006 ∧ r.seq = s.recorder.counter + 1) ∧
      (t.recorder.flushed = false → t.recorder.fixed = s.recorder.fixed ∧ t.recorder.circ = s.recorder.circ) ∧
      t = { s.at now with recorder := t.recorder, start := t.start, power := t.power, pack := t.pack }) ∧
  (∀ (s : State) (now : Nat) (x : Nat × Nat), s.pack.holdup = some x →
    ∃ t, exec (.holdupComplete true now) s = .next t ∧ t.start.kind = 2 ∧ t.start.cause = 2 ∧
      t.start.t0 = some (s.at now).aon ∧ t.start.stage = none ∧ t.pack.holdup = none ∧
      t.power.powered = s.power.powered &&& 1 ∧ t.rounds = [] ∧ t.ctxs = s.ctxs.map Ctx.restarted ∧
      (s.hal.pendingLevel = none →
        t.recorder.flushed = (s.pack.present && s.pack.packState == 1 && s.start.cpRuns.1)))

-- The slot tables (R85 to R101, R130 to R158)

/-- SLOT_ISSUE, PREFETCH_FILL, IDLE, CONT and the opcodes on dummy operands (R26, R92 to R97, R130): an entry of a SERVICE
cluster starts its span, on real operands where the lead has work, and the next entry is read; a fill stages a bank of 32
buffers for the next entry; a span on dummy operands does no work. -/
def Obligations.SlotsIssueToClusters : Prop :=
  (∀ (s : State) (k p c : Nat) (d : Descriptor) (key : Bytes), k < 64 → s.clusters.length = 64 →
    (s.cluster k).position = some p →
    (s.cluster k).owner = .service → (s.cluster k).failed = false → s.hal.frozen = false → (s.cluster k).banks = [] →
    (((s.cluster k).ahead = some (s.hal.beatCount, some (c, d)) ∧ key = (s.cluster k).aheadKey) ∨
      ((s.cluster k).ahead = none ∧ s.tableEntry p s.entry = some (c, d) ∧ key = s.readKey (some (c, d)))) →
    d.opcode ≠ 0 → d.opcode ≠ 0xF0 → s.lead.hold = none → c < s.ctxs.length →
    ∃ t, exec (.slotIssue k) s = .next t ∧
      t.cluster k = { s.cluster k with
        span := some { ctx := c, lead := s.entry, beats := 1, desc := d, dummy := !(s.leadReal p c d), done := false
                       key := key }
        ahead := some (s.hal.beatCount + 1, s.tableEntry p ((s.entry + 1) % 4096))
        aheadKey := s.readKey (s.tableEntry p ((s.entry + 1) % 4096)) } ∧
      (∀ i, i ≠ k → t.cluster i = s.cluster i) ∧
      t.ctxs = (s.count c fun n => if s.leadReal p c d then { n with beatsReal := n.beatsReal + 1 }
        else { n with beatsDummy := n.beatsDummy + 1 }).ctxs ∧
      t = { s with ctxs := t.ctxs, clusters := t.clusters }) ∧
  (∀ (s : State) (k p : Nat), k < 64 → s.clusters.length = 64 → (s.cluster k).position = some p →
    (s.cluster k).owner = .service → (s.cluster k).failed = false → s.hal.frozen = false → (s.cluster k).banks = [] →
    (s.cluster k).ahead = none → s.tableEntry p s.entry = none →
    ∃ t, exec (.slotIssue k) s = .next t ∧ (t.cluster k).span = none ∧ (∀ i, i ≠ k → t.cluster i = s.cluster i) ∧
      t = { s with clusters := t.clusters }) ∧
  (∀ (s : State) (k p c : Nat) (d : Descriptor) (sp : RunningSpan), k < 64 → s.clusters.length = 64 →
    (s.cluster k).position = some p → (s.cluster k).owner = .service → (s.cluster k).failed = false →
    s.hal.frozen = false → (s.cluster k).banks = [] → (s.cluster k).ahead = none →
    s.tableEntry p s.entry = some (c, d) → d.opcode = 0xF0 → (s.cluster k).span = some sp → sp.ctx = c →
    sp.lead + d.span = s.entry →
    ∃ t, exec (.slotIssue k) s = .next t ∧ (t.cluster k).span = some sp ∧
      t = { s with ctxs := t.ctxs, clusters := t.clusters }) ∧
  (∀ (s : State) (k : Nat), ((s.cluster k).owner ≠ .service ∨ (s.cluster k).position = none) →
    exec (.slotIssue k) s = .next s ∧ exec (.prefetchFill k) s = .next s) ∧
  (∀ (s : State) (k : Nat), (s.cluster k).fillWaits s.entry = true → exec (.prefetchFill k) s = .next s) ∧
  (∀ (s : State) (k : Nat), exec (.idle k) s = .next s) ∧
  (∀ (s : State) (k : Nat) (sp : RunningSpan), (s.cluster k).span = some sp → k < 64 → s.clusters.length = 64 →
    ∃ t, exec (.cont k) s = .next t ∧ (t.cluster k).span = some { sp with beats :=
        if sp.beats < sp.desc.span then sp.beats + 1 else sp.beats } ∧
      (∀ i, i ≠ k → t.cluster i = s.cluster i) ∧ t = { s with clusters := t.clusters }) ∧
  (∀ (s : State) (k p c : Nat) (d : Descriptor) (im : PlanImage) (r : Round) (cd : CursorDef) (o : OwnerSet),
    k < 64 → s.clusters.length = 64 → (s.cluster k).position = some p → (s.cluster k).owner = .service →
    (s.cluster k).failed = false → s.hal.frozen = false → s.lead.hold = none → (s.cluster k).fillWaits s.entry = false →
    (∀ b ∈ (s.cluster k).banks, b.entry ≠ (s.entry + 1) % 4096) → s.tableEntry p ((s.entry + 1) % 4096) = some (c, d) →
    d.opcode = 0x01 → s.leadReal p c d = true → s.image c = some im → s.round? c d.cohort = some r →
    im.cursor p d.cursor = some cd → r.owner? p o.set = some o →
    o.set = (im.groupSets d.cohort p cd (r.cursorAt p d.cursor).group).getD ((r.cursorAt p d.cursor).pos %
      max 1 (im.groupSets d.cohort p cd (r.cursorAt p d.cursor).group).length) 0 →
    ∃ t b q x, exec (.prefetchFill k) s = .next t ∧
      t.cluster k = { s.cluster k with banks := (s.cluster k).banks ++ [b] } ∧ b.entry = (s.entry + 1) % 4096 ∧
      b.ctx = c ∧ b.cohort = d.cohort ∧ b.cursor = d.cursor ∧ b.tileSet = o.set ∧ b.secret = false ∧
      b.buffers.length = 32 ∧
      (∀ y, some y ∈ b.buffers → o.read ≤ y.record ∧ (o.release ≤ o.read → y.record < x.read)) ∧
      (o.busy = true → x.read = o.read ∧ ∀ y ∈ b.buffers, y = none) ∧
      t.round? c d.cohort = some q ∧ q.owner? p o.set = some x ∧ o.read ≤ x.read ∧ x.read ≤ o.read + 32 ∧
      x.active = o.active ∧ x.commit = o.commit ∧ q.sets = r.sets ∧ q.intake.ledger = r.intake.ledger ∧
      (∀ i, i ≠ k → t.cluster i = s.cluster i) ∧
      t = { s with set := t.set, setA := t.setA, setB := t.setB, slotB := t.slotB, recorder := t.recorder,
                   mgmt := t.mgmt, ctxs := t.ctxs, clusters := t.clusters, rounds := t.rounds, grixo := t.grixo }) ∧
  (∀ (s : State) (k p c : Nat) (d : Descriptor) (r : Round) (im : PlanImage),
    k < 64 → s.clusters.length = 64 → (s.cluster k).position = some p → (s.cluster k).owner = .service →
    (s.cluster k).failed = false → s.hal.frozen = false → s.lead.hold = none → (s.cluster k).fillWaits s.entry = false →
    (∀ b ∈ (s.cluster k).banks, b.entry ≠ (s.entry + 1) % 4096) → s.tableEntry p ((s.entry + 1) % 4096) = some (c, d) →
    d.opcode = 0x06 → s.leadReal p c d = true → s.round? c d.cohort = some r → s.image c = some im →
    let frames := (r.intake.secretQueue.filter fun w => !((s.bankedSecrets c d.cohort).contains (Frame.header w.bytes))).take 32
    let opens := fun (w : WaitFrame) =>
      (r.openFrame (Frame.header w.bytes) (Frame.payload w.bytes) (Frame.tag w.bytes)).isSome
    ∃ t b q, exec (.prefetchFill k) s = .next t ∧
      t.cluster k = { s.cluster k with banks := (s.cluster k).banks ++ [b] } ∧ b.entry = (s.entry + 1) % 4096 ∧
      b.ctx = c ∧ b.cohort = d.cohort ∧ b.secret = true ∧ b.buffers.map Option.isSome = frames.map opens ∧
      t.round? c d.cohort = some q ∧
      (∀ w, w ∈ q.intake.secretQueue ↔ w ∈ r.intake.secretQueue ∧ (w ∈ frames → opens w = true)) ∧ q.owners = r.owners ∧
      q.mask = r.mask ∧ (∀ i, i ≠ k → t.cluster i = s.cluster i) ∧
      t = { s with set := t.set, setA := t.setA, setB := t.setB, slotB := t.slotB, recorder := t.recorder,
                   mgmt := t.mgmt, ctxs := t.ctxs, clusters := t.clusters, rounds := t.rounds, grixo := t.grixo }) ∧
  (∀ (s : State) (k : Nat) (sp : RunningSpan), k < 64 → s.clusters.length = 64 → (s.cluster k).span = some sp →
    (s.cluster k).position.isSome = true →
    ∀ x ∈ [(Instr.accum k, 0x01), (.commit k, 0x02), (.selfmask k, 0x03), (.paircorr k, 0x04), (.shamir k, 0x05),
           (.secretin k, 0x06), (.seedacc k, 0x07), (.lwrmask k, 0x08), (.ctadd k, 0x10), (.ptmul k, 0x11),
           (.ntt k, 0x12), (.intt k, 0x13), (.tensor k, 0x14), (.keysw k, 0x15), (.rotate k, 0x16), (.relin k, 0x17),
           (.modred k, 0x18), (.c1out k, 0x19), (.dscomb k, 0x1A), (.finish k, 0x20), (.peerfwd k, 0x30)],
      (sp.desc.opcode = x.2 → sp.done = false → sp.dummy = true → s.spanCost sp ≤ sp.beats →
        exec x.1 s = .next (s.spanDone k sp)) ∧
      (sp.desc.opcode ≠ x.2 ∨ sp.done = true ∨ sp.beats < s.spanCost sp → exec x.1 s = .next s))

/-- ACCUM, COMMIT, COMMIT_DRAIN, DRAIN_BOUND_EXCEEDED, PEERFWD, SECRETIN (R132, R137 to R157, R163): staged chunks enter
the active buffer; a COMMIT cuts and swaps each set of the group, or rolls a tainted one back; the drain passes the commit points; a
drain past its bound fails its cluster; a leaf queues its PEER frames; staged secrets are stored. -/
def Obligations.ChunksAreCommittedOnce : Prop :=
  (∀ (s : State) (k p : Nat) (sp : RunningSpan) (im : PlanImage) (r : Round) (c : CursorDef) (b : Bank) (o : OwnerSet),
    s.Carries k 0x01 p sp → s.OnRound sp im r → im.cursor p sp.desc.cursor = some c →
    (s.cluster k).banks.find? (fun b => b.entry == sp.lead && b.ctx == sp.ctx && !b.secret) = some b →
    r.owner? p b.tileSet = some o →
    let tm := im.template sp.desc.cohort
    let staged := b.buffers.filterMap id
    let o' := staged.foldl (fun o x => (o.addStaged im tm x).addSection x) o
    ∃ t q, exec (.accum k) s = .next t ∧ t.round? sp.ctx sp.desc.cohort = some q ∧
      (q.owner? p b.tileSet).map (fun y => (y.active, y.activeCount, y.sections, y.read, y.mark)) =
        some (o'.active, o'.activeCount, o'.sections, o'.read, o'.mark) ∧
      (q.cursorAt p sp.desc.cursor).pos = ((r.cursorAt p sp.desc.cursor).pos + 1) %
        max 1 (im.groupSets sp.desc.cohort p c (r.cursorAt p sp.desc.cursor).group).length ∧
      (q.cursorAt p sp.desc.cursor).group = (r.cursorAt p sp.desc.cursor).group ∧
      q = { r with owners := q.owners, cursors := q.cursors, intake := q.intake } ∧
      (t.cluster k).banks = (s.cluster k).banks.filter (fun b => b.entry != sp.lead) ∧
      (t.cluster k).span = some { sp with done := true } ∧ (∀ i, i ≠ k → t.cluster i = s.cluster i) ∧
      (tm.isRing = false ∨ o'.unequalGroups (max 1 tm.setTiles) staged = [] →
        q.owner? p b.tileSet = some o' ∧ q.intake = r.intake ∧ t = { s with clusters := t.clusters, rounds := t.rounds }) ∧
      t = { s with set := t.set, setA := t.setA, setB := t.setB, slotB := t.slotB, recorder := t.recorder,
                   mgmt := t.mgmt, ctxs := t.ctxs, clusters := t.clusters, rounds := t.rounds, grixo := t.grixo }) ∧
  (∀ (s : State) (k p : Nat) (sp : RunningSpan) (im : PlanImage) (r : Round) (c : CursorDef),
    s.Carries k 0x02 p sp → s.OnRound sp im r → im.cursor p sp.desc.cursor = some c →
    (im.groupSets sp.desc.cohort p c (r.cursorAt p sp.desc.cursor).group).Nodup →
    ∃ t q, exec (.commit k) s = .next t ∧ t.round? sp.ctx sp.desc.cohort = some q ∧
      (q.cursorAt p sp.desc.cursor).group = ((r.cursorAt p sp.desc.cursor).group + 1) %
        max 1 (im.groups sp.desc.cohort p c) ∧
      (q.cursorAt p sp.desc.cursor).pos = 0 ∧
      (∀ j o, j ∈ im.groupSets sp.desc.cohort p c (r.cursorAt p sp.desc.cursor).group →
        r.owner? p j = some o → o.taint = false → ((im.template sp.desc.cohort).isRing = false ∨ o.splits = false) →
        ∃ n, r.nextSeq ≤ n ∧ n < q.nextSeq ∧ q.owner? p j = some { o with
          shadow := if o.single then o.shadow else o.active, active := if o.single then o.active else [], activeCount := 0
          commit := { seq := n, tile := (im.template sp.desc.cohort).firstTile j, cluster := srcCluster k, state := 1
                      newSel := 1 - (r.set j).sel, markFrom := o.mark, cut := o.read, added := o.activeCount
                      nextGroup := (q.cursorAt p sp.desc.cursor).group, fold := false, beat := s.hal.beatCount
                      entry := sp.lead } }) ∧
      (∀ j o, j ∈ im.groupSets sp.desc.cohort p c (r.cursorAt p sp.desc.cursor).group → r.owner? p j = some o →
        (o.taint = true ∨ ((im.template sp.desc.cohort).isRing = true ∧ o.splits = true)) → o.commit.state ≠ 1 →
        q.owner? p j = some { o with
          active := [], activeCount := 0, shadow := [], sections := [], taint := false, read := o.mark }) ∧
      (∀ j, j ∉ im.groupSets sp.desc.cohort p c (r.cursorAt p sp.desc.cursor).group →
        q.owner? p j = r.owner? p j) ∧
      t = { s with set := t.set, setA := t.setA, setB := t.setB, slotB := t.slotB, recorder := t.recorder,
                   mgmt := t.mgmt, ctxs := t.ctxs, clusters := t.clusters, rounds := t.rounds }) ∧
  (∀ (s : State) (k p ctx j : Nat) (im : PlanImage) (r : Round) (o : OwnerSet), (s.cluster k).position = some p →
    s.image ctx = some im → s.round? ctx j = some r → o.commit.state = 1 → o.commit.fold = false →
    (r.set o.set).lock = false → o.set < r.sets.length → o.position = p → (s.cluster k).failed = false →
    (∀ x ∈ im.commitRoutes o, s.routeDown x = false) →
    r.owners.filter (fun x => x.position == p && x.set == o.set) = [o] →
    ∃ t q, exec (.commitDrain k ctx j) s = .next t ∧ t.round? ctx j = some q ∧
      q.owner? p o.set = some { o with bin := o.bin.drop (o.commit.cut - o.release), mark := o.commit.cut
                                       release := o.commit.cut, shadow := [], active := if o.single then [] else o.active
                                       sections := o.sections.filter fun x => decide (o.commit.cut ≤ x.1)
                                       commit := { o.commit with state := 2 } } ∧
      (q.set o.set).count = (r.set o.set).count + o.commit.added ∧
      (q.set o.set).commits = (r.set o.set).commits + 1 ∧ (q.set o.set).lastSeq = o.commit.seq ∧
      ((r.set o.set).unmask ≠ 2 → (r.set o.set).dataFault = false → (q.set o.set).copy = addSet
        (im.modulus (im.template j)) (max 1 (im.template j).setTiles) (r.set o.set).copy
          (if o.single then o.active else o.shadow)) ∧
      (∀ x ∈ o.bin.take (o.commit.cut - o.release), x.cont = false → x.skip = false → x.peer = false →
        (Frame.slot x.header, Frame.tile x.header) ∈ q.intake.ledger ∧
        (Frame.slot x.header, Frame.tile x.header) ∉ q.intake.pending) ∧
      (∀ i x, o.bin[i]? = some x → i < o.commit.cut - o.release → x.cont = false → x.skip = false → x.peer = true →
        (Frame.slot x.header, o.set) ∈ q.intake.peerBits ∧
        ∀ z ∈ sectionSlots (Frame.slot x.header) ((assocGet o.sections (o.release + i)).getD []),
          (z, Frame.tile x.header) ∈ q.intake.ledger) ∧
      q = { r with sets := q.sets, owners := q.owners, intake := q.intake, chunks := q.chunks } ∧
      t = { s with ctxs := t.ctxs, rounds := t.rounds }) ∧
  (∀ (s : State) (k p : Nat) (im : PlanImage) (r : Round) (o : OwnerSet), k < 64 →
    s.clusters.length = 64 → (s.cluster k).position = some p → r ∈ s.rounds → o ∈ r.owners → o.position = p →
    o.commit.state = 1 → s.image r.ctx = some im → im.drainDue r.planDigest r.template o ≤ s.hal.beatCount →
    ∃ t, exec (.drainBoundExceeded k) s = .next t ∧ t.hal = s.hal ∧ t.start = s.start ∧ t.power = s.power ∧
      t.aon = s.aon ∧ t.drbgs = s.drbgs ∧ t.pending = s.pending ∧
      (s.lead.links.any DieLink.down = false → (t.cluster k).failed = true) ∧
      (s.lead.links.any DieLink.down = true → t = { s with
        set := t.set, setA := t.setA, setB := t.setB, slotB := t.slotB, recorder := t.recorder, mgmt := t.mgmt
        ctxs := t.ctxs, clusters := t.clusters, rounds := t.rounds })) ∧
  (∀ (s : State) (k p : Nat), (s.cluster k).position = some p →
    (∀ r ∈ s.rounds, ∀ o ∈ r.owners, o.position = p → o.commit.state ≠ 1) → exec (.drainBoundExceeded k) s = .next s) ∧
  (∀ (s : State) (k p : Nat) (sp : RunningSpan) (im : PlanImage) (r : Round) (c : CursorDef) (key : Bytes) (x : Conn),
    s.Carries k 0x30 p sp → s.OnRound sp im r → im.cursor p sp.desc.cursor = some c → r.root = some key →
    s.conn? r.rootConn = some x → x.state = .open → r.peerAgain = [] →
    (s.routeDown (im.route sp.desc.dstRoute) = true → exec (.peerfwd k) s = .next ((s.spanDone k sp).countTier 1)) ∧
    (s.routeDown (im.route sp.desc.dstRoute) = false → ∃ t q, exec (.peerfwd k) s = .next t ∧ t.round? sp.ctx sp.desc.cohort = some q ∧
      (let n := max 1 (im.template sp.desc.cohort).setTiles
       let at_ := (r.cursorAt p sp.desc.cursor).pos
       let m := min (max 1 (32 / n)) (c.count - at_)
       let tiles := (List.range m).flatMap fun j => (List.range n).map fun i => (c.first + at_ + j) * n + i
       (q.cursorAt p sp.desc.cursor).pos = at_ + m ∧ t.conn? r.rootConn = some { x with
         sendArea := x.sendArea ++ tiles.map (r.peerFrame (im.template sp.desc.cohort)) }) ∧
      q = { r with cursors := q.cursors } ∧ (t.cluster k).span = some { sp with done := true } ∧
      t = { s with clusters := t.clusters, rounds := t.rounds, grixo := { s.grixo with conns := t.grixo.conns } })) ∧
  (∀ (s : State) (k p : Nat) (sp : RunningSpan) (r : Round) (b : Bank), s.Carries k 0x06 p sp →
    s.round? sp.ctx sp.desc.cohort = some r →
    (s.cluster k).banks.find? (fun b => b.entry == sp.lead && b.ctx == sp.ctx && b.secret) = some b →
    ∃ t q, exec (.secretin k) s = .next t ∧ t.round? sp.ctx sp.desc.cohort = some q ∧
      (∀ w, w ∈ q.intake.secretQueue ↔ w ∈ r.intake.secretQueue ∧
        ∀ x ∈ b.buffers.filterMap id, Frame.header w.bytes ≠ x.header) ∧
      (t.cluster k).banks = (s.cluster k).banks.filter (fun b => b.entry != sp.lead) ∧
      (t.cluster k).span = some { sp with done := true } ∧ (∀ i, i ≠ k → t.cluster i = s.cluster i) ∧
      t = { s with set := t.set, setA := t.setA, setB := t.setB, slotB := t.slotB, recorder := t.recorder,
                   mgmt := t.mgmt, ctxs := t.ctxs, clusters := t.clusters, rounds := t.rounds, grixo := t.grixo
                   stats := t.stats }) ∧
  (∀ (s : State) (k p : Nat) (sp : RunningSpan) (r : Round) (b : Bank) (x : Staged), s.Carries k 0x06 p sp →
    s.round? sp.ctx sp.desc.cohort = some r →
    (s.cluster k).banks.find? (fun b => b.entry == sp.lead && b.ctx == sp.ctx && b.secret) = some b →
    b.buffers.filterMap id = [x] → (r.intake.secretQueue.any fun w => Frame.header w.bytes == x.header) = true →
    let taken := { r with intake := { r.intake with
      secretQueue := r.intake.secretQueue.filter fun w => !(Frame.header w.bytes == x.header) } }
    (x.reservedSet = false → (s.roundKey? r 0 (some masterAu)).isSome = true →
      ∃ t, exec (.secretin k) s = .next t ∧ t.round? sp.ctx sp.desc.cohort = some (taken.storeSecret x) ∧
        t = { s with clusters := t.clusters, rounds := t.rounds }) ∧
    (x.reservedSet = true →
      ∃ t, exec (.secretin k) s = .next t ∧ t.round? sp.ctx sp.desc.cohort = some taken ∧
        t.stats.intakeRejects = s.stats.intakeRejects + 1) ∧
    (x.reservedSet = false → Frame.kind x.header ≠ 3 → s.roundKey? r 0 (some masterAu) = none →
      ∃ t, exec (.secretin k) s = .next t ∧ t.round? sp.ctx sp.desc.cohort = some taken ∧
        Recorded { s with clusters := t.clusters, rounds := t.rounds } t))

-- Mask removal (R161 to R189)

/-- SELFMASK, PAIRCORR, SHAMIR, SEEDACC, LWRMASK, PAIRWISE_RECOMPUTE, FOLD (R51, R166, R172 to R188): each opcode takes its
items from its list and touches no committed sum; an item in order adds its keystream or seed, one whose secret is not held makes its tile VOID; a
complete group is folded into the committed copies. -/
def Obligations.MasksAreRemoved : Prop :=
  (∀ (s : State) (k p : Nat) (sp : RunningSpan) (im : PlanImage) (r : Round) (l : WorkList),
    ∀ x ∈ [(Instr.selfmask k, 0x03, masterKs, ListKind.self, 8), (.paircorr k, 0x04, masterKs, .pair, 8),
           (.shamir k, 0x05, masterAu, .shamir, 8),
           (.seedacc k, 0x07, masterAu, .seedAcc, seedItems (im.template sp.desc.cohort)),
           (.lwrmask k, 0x08, masterRg, .lwr, 8)],
      s.Carries k x.2.1 p sp → s.OnRound sp im r → r.list? p x.2.2.2.1 = some l →
      (s.roundKey? r 0 (some x.2.2.1)).isSome = true →
      ∃ t q, exec x.1 s = .next t ∧ t.round? sp.ctx sp.desc.cohort = some q ∧
        q.list? p x.2.2.2.1 = some { l with consumed := l.consumed + min x.2.2.2.2 (l.items.length - l.consumed) } ∧
        (∀ j, { q.set j with unmask := (r.set j).unmask, cause := (r.set j).cause } = r.set j) ∧
        (∀ j, (r.set j).unmask = 1 ∨ (r.set j).unmask = 2 → (q.set j).unmask = (r.set j).unmask) ∧
        q = { r with sets := q.sets, owners := q.owners, mask := q.mask } ∧
        (t.cluster k).span = some { sp with done := true } ∧ (∀ i, i ≠ k → t.cluster i = s.cluster i) ∧
        t = { s with set := t.set, setA := t.setA, setB := t.setB, slotB := t.slotB, recorder := t.recorder,
                     mgmt := t.mgmt, clusters := t.clusters, rounds := t.rounds }) ∧
  (∀ (s : State) (k p : Nat) (sp : RunningSpan) (im : PlanImage) (r : Round) (x : Item), s.Carries k 0x03 p sp →
    s.OnRound sp im r → (r.takeItems p .self 8).1 = [x] →
    (s.roundKey? r 0 (some masterKs)).isSome = true → x.kind = 1 → (r.set x.tile).unmask = 0 →
    (im.unmaskSets sp.desc.cohort p).any (fun y => y.2 == x.tile) = true → r.inOrder im sp.desc.cohort p .self x = true →
    (x.slot, x.tile) ∈ r.intake.ledger → (r.mask.secrets.getD x.slot .new).stateSelf = 3 →
    ∃ t, exec (.selfmask k) s = .next t ∧ t.round? sp.ctx sp.desc.cohort = some
      ((((r.takeItems p .self 8).2.noteItem p .self x)).addMask im sp.desc.cohort p x.tile false
        (elemsOf (im.template sp.desc.cohort).format (keystream (im.template sp.desc.cohort).prg
          (r.mask.secrets.getD x.slot .new).selfSeed x.tile 1)))) ∧
  (∀ (s : State) (k p : Nat) (sp : RunningSpan) (im : PlanImage) (r : Round) (x : Item), s.Carries k 0x03 p sp →
    s.OnRound sp im r → (r.takeItems p .self 8).1 = [x] →
    (s.roundKey? r 0 (some masterKs)).isSome = true → x.kind = 1 → (r.set x.tile).unmask = 0 →
    x.tile < r.sets.length → (r.mask.secrets.getD x.slot .new).stateSelf ≠ 3 →
    ∃ t q, exec (.selfmask k) s = .next t ∧ t.round? sp.ctx sp.desc.cohort = some q ∧ (q.set x.tile).unmask = 2 ∧
      (q.set x.tile).cause = 2 ∧ q.owners = r.owners) ∧
  (∀ (s : State) (k p : Nat) (sp : RunningSpan) (im : PlanImage) (r : Round) (x : Item) (y : PairRec),
    s.Carries k 0x04 p sp → s.OnRound sp im r → (r.takeItems p .pair 8).1 = [x] →
    (s.roundKey? r 0 (some masterKs)).isSome = true → x.kind = 2 →
    (r.set x.tile).unmask = 0 → (im.unmaskSets sp.desc.cohort p).any (fun y => y.2 == x.tile) = true →
    r.inOrder im sp.desc.cohort p .pair x = true → (x.slot, x.tile) ∈ r.intake.ledger →
    (x.peer, x.tile) ∉ r.intake.ledger → x.flag = decide (x.peer < x.slot) → r.pair? x.peer x.slot = some y →
    isNeighbour (im.template sp.desc.cohort) (im.template sp.desc.cohort).offsets x.slot x.peer = true →
    ∃ t, exec (.paircorr k) s = .next t ∧ t.round? sp.ctx sp.desc.cohort = some
      (((r.takeItems p .pair 8).2.noteItem p .pair x).addMask im sp.desc.cohort p x.tile x.flag
        (elemsOf (im.template sp.desc.cohort).format (keystream (im.template sp.desc.cohort).prg y.seed x.tile 2)))) ∧
  (∀ (s : State) (k p : Nat) (sp : RunningSpan) (im : PlanImage) (r : Round) (x : Item) (v : Bytes),
    s.Carries k 0x05 p sp → s.OnRound sp im r → (r.takeItems p .shamir 8).1 = [x] →
    (s.roundKey? r 0 (some masterAu)).isSome = true → x.kind = 3 → x.flag = false →
    (r.mask.secrets.getD x.slot .new).stateSelf = 2 → x.slot < r.mask.secrets.length →
    reconstruct (im.template sp.desc.cohort).threshold (r.sharesOf x.slot 1) = some v →
    ∃ t q, exec (.shamir k) s = .next t ∧ t.round? sp.ctx sp.desc.cohort = some q ∧
      q.mask.secrets = updAt r.mask.secrets x.slot (fun y => { y with stateSelf := 3, selfSeed := v }) ∧
      q.sets = r.sets ∧ q.mask.recompute = r.mask.recompute) ∧
  (∀ (s : State) (k p : Nat) (sp : RunningSpan) (im : PlanImage) (r : Round) (x : Item) (v : Bytes),
    s.Carries k 0x05 p sp → s.OnRound sp im r → (r.takeItems p .shamir 8).1 = [x] →
    (s.roundKey? r 0 (some masterAu)).isSome = true → x.kind = 3 → x.flag = true →
    (r.mask.secrets.getD x.slot .new).stateKey = 2 → x.slot < r.mask.secrets.length →
    reconstruct (im.template sp.desc.cohort).threshold (r.sharesOf x.slot 2) = some v →
    ∃ t q, exec (.shamir k) s = .next t ∧ t.round? sp.ctx sp.desc.cohort = some q ∧
      q.mask.secrets = updAt r.mask.secrets x.slot (fun y => { y with stateKey := 3, privateKey := v }) ∧
      q.mask.recompute = r.mask.recompute ++
        (r.recomputeFor (im.template sp.desc.cohort) x.slot).map (fun i => (x.slot, i)) ∧ q.sets = r.sets) ∧
  (∀ (s : State) (k p : Nat) (sp : RunningSpan) (im : PlanImage) (r : Round) (x : Item), s.Carries k 0x05 p sp →
    s.OnRound sp im r → (r.takeItems p .shamir 8).1 = [x] →
    (s.roundKey? r 0 (some masterAu)).isSome = true → x.kind = 3 → x.flag = false →
    (r.mask.secrets.getD x.slot .new).stateSelf = 2 → x.slot < r.mask.secrets.length →
    reconstruct (im.template sp.desc.cohort).threshold (r.sharesOf x.slot 1) = none →
    ∃ t q, exec (.shamir k) s = .next t ∧ t.round? sp.ctx sp.desc.cohort = some q ∧
      q.mask.secrets = updAt r.mask.secrets x.slot (fun y => { y with stateSelf := 4 }) ∧
      (r.state ≠ .unmasking → q.sets = r.sets) ∧
      (r.state = .unmasking → ∀ j, j < r.sets.length → j ∈ r.needsSelf (im.template sp.desc.cohort) x.slot → (r.set j).unmask = 0 →
        (q.set j).unmask = 2 ∧ (q.set j).cause = 1)) ∧
  (∀ (s : State) (k p : Nat) (sp : RunningSpan) (im : PlanImage) (r : Round) (x : Item), s.Carries k 0x03 p sp →
    s.OnRound sp im r → (r.takeItems p .self 8).1 = [x] → s.roundKey? r 0 (some masterKs) = none → x.kind = 1 →
    (r.set x.tile).unmask = 0 → (im.unmaskSets sp.desc.cohort p).any (fun y => y.2 == x.tile) = true →
    r.inOrder im sp.desc.cohort p .self x = true → (x.slot, x.tile) ∈ r.intake.ledger →
    (r.mask.secrets.getD x.slot .new).stateSelf = 3 → x.slot < r.mask.secrets.length →
    ∃ t q, exec (.selfmask k) s = .next t ∧ t.round? sp.ctx sp.desc.cohort = some q ∧ q.owners = r.owners ∧
      (q.mask.secrets.getD x.slot .new).stateSelf = 4 ∧ (q.mask.secrets.getD x.slot .new).selfSeed = []) ∧
  (∀ (s : State) (ctx j d i : Nat) (r : Round), s.round? ctx j = some r → (d, i) ∈ r.mask.recompute →
    (r.state = .closed ∨ r.state = .unmasking) → (r.mask.secrets.getD d .new).stateKey = 3 →
    (s.roundKey? r 0 none).isSome = true →
    (∃ t, exec (.pairwiseRecompute ctx j d i false) s = .next t ∧ t.round? ctx j = some { r with mask := { r.mask with
        recompute := r.mask.recompute.filter fun x => decide (x ≠ (d, i))
        pairs := putPairRec ⟨d, i, pairwiseSeed (r.mask.secrets.getD d .new).privateKey
          (r.mask.secrets.getD i .new).publicKey r.cohortId r.number i d⟩ r.mask.pairs } } ∧
      t = { s with rounds := t.rounds }) ∧
    (∃ t, exec (.pairwiseRecompute ctx j d i true) s = .next t ∧ t.round? ctx j = some r ∧ Recorded s t)) ∧
  (∀ (s : State) (k p : Nat) (sp : RunningSpan) (im : PlanImage) (r : Round) (x : Item), s.Carries k 0x07 p sp →
    s.OnRound sp im r → (r.takeItems p .seedAcc (seedItems (im.template sp.desc.cohort))).1 = [x] →
    (s.roundKey? r 0 (some masterAu)).isSome = true → x.kind = 4 →
    r.inOrder im sp.desc.cohort p .seedAcc x = true →
    ((im.unmaskSets sp.desc.cohort p).all fun y => r.intake.ledger.contains (x.slot, y.2)) = true →
    ∃ t q, exec (.seedacc k) s = .next t ∧ t.round? sp.ctx sp.desc.cohort = some q ∧ q.sets = r.sets ∧
      q.mask.baseSums = addSeed (im.template sp.desc.cohort).seedMod p ((assocGet r.mask.seeds x.slot).getD [])
        r.mask.baseSums ∧ q.mask.partSums = r.mask.partSums) ∧
  (∀ (s : State) (k p : Nat) (sp : RunningSpan) (im : PlanImage) (r : Round) (x : Item), s.Carries k 0x07 p sp →
    s.OnRound sp im r → (r.takeItems p .seedAcc (seedItems (im.template sp.desc.cohort))).1 = [x] →
    (s.roundKey? r 0 (some masterAu)).isSome = true → x.kind = 5 →
    r.inOrder im sp.desc.cohort p .seedAcc x = true → (x.slot, x.tile) ∈ r.intake.ledger →
    ((im.unmaskSets sp.desc.cohort p).all fun y => r.intake.ledger.contains (x.slot, y.2)) = false →
    (im.unmaskSets sp.desc.cohort p).any (fun y => y.2 == x.tile) = true → (r.set x.tile).unmask = 0 →
    ∃ t q, exec (.seedacc k) s = .next t ∧ t.round? sp.ctx sp.desc.cohort = some q ∧ q.sets = r.sets ∧
      q.mask.partSums = addSeed (im.template sp.desc.cohort).seedMod x.tile ((assocGet r.mask.seeds x.slot).getD [])
        r.mask.partSums ∧ q.mask.baseSums = r.mask.baseSums) ∧
  (∀ (s : State) (k p : Nat) (sp : RunningSpan) (im : PlanImage) (r : Round) (x : Item), s.Carries k 0x08 p sp →
    s.OnRound sp im r → (r.takeItems p .lwr 8).1 = [x] →
    (s.roundKey? r 0 (some masterRg)).isSome = true → x.kind = 6 → (r.set x.tile).unmask = 0 →
    (im.unmaskSets sp.desc.cohort p).any (fun y => y.2 == x.tile) = true → r.inOrder im sp.desc.cohort p .lwr x = true →
    ∃ t, exec (.lwrmask k) s = .next t ∧ t.round? sp.ctx sp.desc.cohort = some
      (((r.takeItems p .lwr 8).2.noteItem p .lwr x).addMask im sp.desc.cohort p x.tile false
        (lwrMaskTile (im.template sp.desc.cohort) x.tile (addTile (im.template sp.desc.cohort).seedMod
          ((assocGet r.mask.baseSums p).getD (List.replicate (im.template sp.desc.cohort).lwrLambda 0))
          ((assocGet r.mask.partSums x.tile).getD []))))) ∧
  (∀ (s : State) (k p ctx j g f : Nat) (im : PlanImage) (r : Round), (s.cluster k).position = some p →
    (s.cluster k).failed = false → (∀ l ∈ s.lead.links, l.down = false) → (im.template j).isLeaf = false →
    (∀ o ∈ r.owners, o.position = p → o.commit.state ≠ 1) →
    s.image ctx = some im → s.round? ctx j = some r → r.state = .unmasking → (im.template j).isRing = false →
    (im.unmaskSets j p).find? (fun x => (r.set x.2).unmask == 0) = some (g, f) → r.groupComplete im j p g = true →
    ∃ t q, exec (.fold k ctx j) s = .next t ∧ t.round? ctx j = some q ∧
      (∀ n o, (g, n) ∈ im.unmaskSets j p → (r.set n).unmask = 0 → (r.set n).dataFault = false →
        (r.set n).lock = false → n < r.sets.length → r.owners.filter (fun o => o.isAt p n) = [o] →
        (q.set n).unmask = 1 ∧ (q.set n).commits = (r.set n).commits + 1 ∧ (q.set n).count = (r.set n).count ∧
        (q.set n).copy = addSet (im.modulus (im.template j)) 1 (r.set n).copy o.active ∧
        (q.owner? p n).map OwnerSet.active = some [] ∧ r.nextSeq ≤ (q.set n).foldSeq ∧ (q.set n).foldSeq < q.nextSeq) ∧
      (∀ n, (r.set n).unmask ≠ 0 → q.set n = r.set n) ∧ (∀ n, (g, n) ∉ im.unmaskSets j p → q.set n = r.set n) ∧
      q = { r with sets := q.sets, owners := q.owners, nextSeq := q.nextSeq } ∧ t = { s with rounds := t.rounds }) ∧
  (∀ (s : State) (k p ctx j : Nat) (im : PlanImage) (r : Round) (o : OwnerSet), (s.cluster k).position = some p →
    (s.cluster k).failed = false → (∀ l ∈ s.lead.links, l.down = false) → s.image ctx = some im →
    s.round? ctx j = some r → r.foldSwap im j k s.hal.beatCount p = r →
    r.owners.filter (fun o => o.position == p && o.commit.state == 1 && o.commit.fold) = [o] →
    r.owners.filter (fun x => x.isAt p o.set) = [o] → (r.set o.set).unmask = 0 → (r.set o.set).dataFault = false →
    (r.set o.set).lock = false → o.set < r.sets.length →
    ∃ t q, exec (.fold k ctx j) s = .next t ∧ t.round? ctx j = some q ∧ (q.set o.set).unmask = 1 ∧
      (q.set o.set).foldSeq = o.commit.seq ∧ (q.set o.set).commits = (r.set o.set).commits + 1 ∧
      (q.set o.set).copy = addSet (im.modulus (im.template j)) 1 (r.set o.set).copy
        (if o.single then o.active else o.shadow) ∧
      (∀ n, n ≠ o.set → q.set n = r.set n) ∧ q = { r with sets := q.sets, owners := q.owners } ∧
      t = { s with rounds := t.rounds })

-- Ring sequences and decryption (R190 to R235)

/-- CTADD, PTMUL, NTT, INTT, TENSOR, MODRED, KEYSW, ROTATE, RELIN, C1OUT, RING_STAGE_IN_OUT, DSCOMB (R197 to R210, R213,
R216 to R219, R228 to R234): a descriptor whose check passes gives the working copy its new limbs, form, level and noise; one whose check
fails leaves the limbs and makes the tile VOID or SPENT; staging moves tiles out and in. -/
def Obligations.RingTilesAreWorkedOn : Prop :=
  (∀ (s : State) (k p : Nat) (sp : RunningSpan) (im : PlanImage) (r : Round) (w : WorkingCopy) (y : RingTile),
    ∀ x ∈ [(Instr.ctadd k, 0x10, (List.zip (im.chainOf (im.template sp.desc.cohort)).data (List.zip w.limbs
              (s.aggLimbs sp.ctx sp.desc.cohort w.tile (im.template sp.desc.cohort)))).map
                fun (q, a, b) => List.zipWith (addPoly q) a b),
           (.ptmul k, 0x11, ((List.zip (im.chainOf (im.template sp.desc.cohort)).data w.limbs).zipIdx).map fun (z, m) =>
              z.2.map fun c => mulPoly z.1 c ((fun b => (chunks 8 (List.length b) b).map leNat) (s.readMem sp.ctx
                ((im.evalRegion sp.desc).base + (w.tile * (im.template sp.desc.cohort).limbs + m) * 8 *
                  (im.template sp.desc.cohort).degreeN) (8 * (im.template sp.desc.cohort).degreeN)))),
           (.ntt k, 0x12, perLimb (im.chainOf (im.template sp.desc.cohort)).data w.limbs
              fun q cs => cs.map (ntt q (im.template sp.desc.cohort).logN)),
           (.intt k, 0x13, perLimb (im.chainOf (im.template sp.desc.cohort)).data w.limbs
              fun q cs => cs.map (intt q (im.template sp.desc.cohort).logN)),
           (.tensor k, 0x14, (List.zip (im.chainOf (im.template sp.desc.cohort)).data (List.zip w.limbs
              (s.aggLimbs sp.ctx sp.desc.cohort w.tile (im.template sp.desc.cohort)))).map fun (q, a, b) =>
                [mulPoly q (a.getD 0 []) (b.getD 0 []),
                 addPoly q (mulPoly q (a.getD 0 []) (b.getD 1 [])) (mulPoly q (a.getD 1 []) (b.getD 0 [])),
                 mulPoly q (a.getD 1 []) (b.getD 1 [])]),
           (.modred k, 0x18, joinComponents [
              modReduce (im.template sp.desc.cohort).logN (im.template sp.desc.cohort).plaintextMod
                ((im.chainOf (im.template sp.desc.cohort)).data.take w.header.level) (component w.limbs 0),
              modReduce (im.template sp.desc.cohort).logN (im.template sp.desc.cohort).plaintextMod
                ((im.chainOf (im.template sp.desc.cohort)).data.take w.header.level) (component w.limbs 1)])],
      s.Carries k x.2.1 p sp → s.OnRound sp im r → r.working? p sp.desc.cursor = some w → r.ringTile w.tile = some y →
      slotStart im (im.template sp.desc.cohort) sp.desc y.agg w.header true = (0, 0, 0) →
      ∃ t q, exec x.1 s = .next t ∧ t.round? sp.ctx sp.desc.cohort = some q ∧
        q.working? p sp.desc.cursor = some { w with
          header := { outHeader im (im.template sp.desc.cohort) x.2.1 y.agg w.header with status := 0, cause := 0 }
          limbs := x.2.2, step := w.step + 1 } ∧
        q = { r with ring := { r.ring with working := q.ring.working } } ∧ (t.cluster k).span = some { sp with done := true } ∧
        (∀ i, i ≠ k → t.cluster i = s.cluster i) ∧ t = { s with clusters := t.clusters, rounds := t.rounds }) ∧
  (∀ (s : State) (k p : Nat) (sp : RunningSpan) (im : PlanImage) (r : Round) (w : WorkingCopy) (y : RingTile)
    (a b : List (List Nat)),
    let tm := im.template sp.desc.cohort
    let h := sp.keyHeader
    ∀ x ∈ [(Instr.keysw k, 0x15, component w.limbs 1,
              joinComponents [addLimbs (im.chainOf tm).data (component w.limbs 0) a, b], h.target),
           (.rotate k, 0x16, (component w.limbs 1).map (galois tm.logN sp.desc.param1), joinComponents
              [addLimbs (im.chainOf tm).data ((component w.limbs 0).map (galois tm.logN sp.desc.param1)) a, b], w.header.keyId),
           (.relin k, 0x17, component w.limbs 2, joinComponents [addLimbs (im.chainOf tm).data (component w.limbs 0) a,
              addLimbs (im.chainOf tm).data (component w.limbs 1) b], w.header.keyId)],
      s.Carries k x.2.1 p sp → s.OnRound sp im r → r.working? p sp.desc.cursor = some w → r.ringTile w.tile = some y →
      h.belongs im tm sp.desc w.header (im.evalRegion sp.desc) = true →
      slotStart im tm sp.desc y.agg w.header true = (0, 0, 0) →
      (s.switchPoly sp.ctx im tm sp.desc h w.header.level x.2.2.1 = some (a, b) →
        ∃ t q, exec x.1 s = .next t ∧ t.round? sp.ctx sp.desc.cohort = some q ∧
          q.working? p sp.desc.cursor = some { w with
            header := { outHeader im tm x.2.1 y.agg w.header with status := 0, cause := 0, keyId := x.2.2.2.2 }
            limbs := x.2.2.2.1, step := w.step + 1 } ∧
          q = { r with ring := { r.ring with working := q.ring.working } } ∧
          t = { s with clusters := t.clusters, rounds := t.rounds }) ∧
      (s.switchPoly sp.ctx im tm sp.desc h w.header.level x.2.2.1 = none →
        ∃ t q v, exec x.1 s = .next t ∧ t.round? sp.ctx sp.desc.cohort = some q ∧
          q.working? p sp.desc.cursor = some v ∧ v.limbs = Config.spoiledCopy s.hal.beatCount w.limbs ∧
          v.step = w.step + 1 ∧ v.header.status = 2 ∧ v.header.cause = 3 ∧ v.header.causeOpcode = x.2.1 ∧
          t = { s with set := t.set, setA := t.setA, setB := t.setB, slotB := t.slotB, recorder := t.recorder,
                       mgmt := t.mgmt, clusters := t.clusters, rounds := t.rounds })) ∧
  (∀ (s : State) (k p : Nat) (sp : RunningSpan) (im : PlanImage) (r : Round) (w : WorkingCopy) (y : RingTile),
    let tm := im.template sp.desc.cohort
    let fits := sp.keyHeader.belongs im tm sp.desc w.header (im.evalRegion sp.desc)
    ∀ x ∈ [(Instr.ctadd k, 0x10, true), (.ptmul k, 0x11, true), (.ntt k, 0x12, true), (.intt k, 0x13, true),
           (.tensor k, 0x14, true), (.keysw k, 0x15, fits), (.rotate k, 0x16, fits), (.relin k, 0x17, fits),
           (.modred k, 0x18, true), (.c1out k, 0x19, true)],
      s.Carries k x.2.1 p sp → s.OnRound sp im r → r.working? p sp.desc.cursor = some w → r.ringTile w.tile = some y →
      (slotStart im tm sp.desc y.agg w.header x.2.2).1 ≠ 0 →
      ∃ t q v, exec x.1 s = .next t ∧ t.round? sp.ctx sp.desc.cohort = some q ∧
        q.working? p sp.desc.cursor = some v ∧ v.limbs = w.limbs ∧ v.step = w.step + 1 ∧ v.sealed = w.sealed ∧
        v.header.status = (slotStart im tm sp.desc y.agg w.header x.2.2).1 ∧
        v.header.cause = (slotStart im tm sp.desc y.agg w.header x.2.2).2.1 ∧
        q = { r with ring := { r.ring with working := q.ring.working, tiles := q.ring.tiles } } ∧
        t = { s with set := t.set, setA := t.setA, setB := t.setB, slotB := t.slotB, recorder := t.recorder,
                     mgmt := t.mgmt, clusters := t.clusters, rounds := t.rounds }) ∧
  (∀ (s : State) (k p : Nat) (sp : RunningSpan) (im : PlanImage) (r : Round) (w : WorkingCopy) (y : RingTile)
    (key : Bytes),
    let tm := im.template sp.desc.cohort
    s.Carries k 0x19 p sp → s.OnRound sp im r → r.working? p sp.desc.cursor = some w → r.ringTile w.tile = some y →
    slotStart im tm sp.desc y.agg w.header true = (0, 0, 0) → r.state = .closed → r.ring.exportBlock = false →
    (s.routeDown (im.route sp.desc.dstRoute) = true → ∃ t q, exec (.c1out k) s = .next t ∧
      t.round? sp.ctx sp.desc.cohort = some q ∧ (∀ v ∈ q.ring.working, v.tile ≠ w.tile) ∧ q.ring.exports = r.ring.exports ∧
      (t.cluster k).span = none ∧ t.grixo = s.grixo) ∧
    (s.routeDown (im.route sp.desc.dstRoute) = false → s.roundKey? r 1 (some masterAu) = some key → ∃ t q v, exec (.c1out k) s = .next t ∧ t.round? sp.ctx sp.desc.cohort = some q ∧
      q.working? p sp.desc.cursor = some v ∧ v.sealed = true ∧ v.limbs = w.limbs ∧ v.step = w.step + 1 ∧
      (∀ m ∈ r.c1Messages tm w.tile w.header.level (component w.limbs 1) key,
        (∀ e ∈ r.ring.exports, e.1 ≠ m.1) → m ∈ q.ring.exports) ∧
      (∀ e ∈ r.ring.exports, e ∈ q.ring.exports) ∧
      (∀ i x c, r.intake.sessions.filter (fun x => x.role == 1 && x.stored && x.conn == i) = [x] →
        s.conn? i = some c → c.state = .open → t.conn? i = some { c with sendArea := c.sendArea ++
          (r.c1Messages tm w.tile w.header.level (component w.limbs 1) key).map Prod.snd }) ∧
      q = { r with ring := { r.ring with working := q.ring.working, exports := q.ring.exports } } ∧
      t = { s with clusters := t.clusters, rounds := t.rounds, grixo := { s.grixo with conns := t.grixo.conns } })) ∧
  (∀ (s : State) (k p ctx j i g : Nat) (im : PlanImage) (r : Round) (b : Block) (c : CursorDef) (y : RingTile),
    (s.cluster k).position = some p → s.image ctx = some im → s.round? ctx j = some r → im.block p = some b →
    b.gapSince i s.entry = some g → r.frozen = true → r.state = .closed → (im.template j).isRing = true →
    b.cursors.zipIdx.filter (fun x => x.1.kind == 3 && x.1.cohort == j && !(b.ringDescs x.2).isEmpty) = [(c, i)] →
    (r.cursorAt p i).pos < c.count → r.working? p i = none → r.ringTile (c.first + (r.cursorAt p i).pos) = some y →
    ∃ t q, exec (.ringStageInOut k ctx j) s = .next t ∧ t.round? ctx j = some q ∧
      q.working? p i = some { position := p, cursor := i, tile := c.first + (r.cursorAt p i).pos, header := y.agg
                              limbs := limbsOf (im.template j) (r.set (c.first + (r.cursorAt p i).pos)).copy
                              step := 0, sealed := false, real := decide (r.frozenBeat + g ≤ s.hal.beatCount) } ∧
      q = { r with ring := { r.ring with working := q.ring.working } } ∧ t = { s with rounds := t.rounds }) ∧
  (∀ (s : State) (k p ctx j i : Nat) (im : PlanImage) (r : Round) (b : Block) (c : CursorDef),
    (s.cluster k).position = some p → s.image ctx = some im → s.round? ctx j = some r → im.block p = some b →
    b.cursors.zipIdx.filter (fun x => x.1.kind == 3 && x.1.cohort == j && !(b.ringDescs x.2).isEmpty) = [(c, i)] →
    b.gapSince i s.entry = none → ∃ t, exec (.ringStageInOut k ctx j) s = .next t ∧
      t.round? ctx j = some r) ∧
  (∀ (s : State) (k p ctx j i g : Nat) (im : PlanImage) (r : Round) (b : Block) (c : CursorDef) (y : RingTile)
    (w : WorkingCopy), (s.cluster k).position = some p → s.image ctx = some im → s.round? ctx j = some r →
    im.block p = some b → b.gapSince i s.entry = some g → r.frozen = true → r.state = .closed → (im.template j).isRing = true →
    b.cursors.zipIdx.filter (fun x => x.1.kind == 3 && x.1.cohort == j && !(b.ringDescs x.2).isEmpty) = [(c, i)] →
    r.working? p i = some w → b.baseLength i ≤ w.step → r.ringTile w.tile = some y →
    ∃ t q, exec (.ringStageInOut k ctx j) s = .next t ∧ t.round? ctx j = some q ∧
      q.ringTile w.tile = some { y with
        out := some { w.header with exported := w.sealed || w.header.exported }, store := w.limbs } ∧
      (q.cursorAt p i).pos = (r.cursorAt p i).pos + 1 ∧
      (∀ v, q.working? p i = some v → v.tile = c.first + (r.cursorAt p i).pos + 1 ∧ v.step = 0) ∧
      (c.count ≤ (r.cursorAt p i).pos + 1 → q.working? p i = none) ∧
      q = { r with cursors := q.cursors, ring := { r.ring with working := q.ring.working, tiles := q.ring.tiles } } ∧
      t = { s with rounds := t.rounds }) ∧
  (∀ (s : State) (k p : Nat) (sp : RunningSpan) (im : PlanImage) (r : Round) (x : Item) (y : RingTile) (o : CtHeader),
    let tm := im.template sp.desc.cohort
    let n := x.tile / max 1 tm.setTiles
    let r' := (r.takeItems p .dsComb 1).2
    s.Carries k 0x1A p sp → s.OnRound sp im r → (r.takeItems p .dsComb 1).1 = [x] → r.ringTile n = some y →
    y.out = some o → (s.roundKey? r 0 (some masterRg)).isSome = true →
    (r'.decryptRefusal im sp.desc.cohort p x = 0 → slotStart im tm sp.desc y.agg o true = (0, 0, 0) →
      ∃ t q, exec (.dscomb k) s = .next t ∧ t.round? sp.ctx sp.desc.cohort = some q ∧
        q = (r'.noteItem p .dsComb x).storeDecoded tm n (outHeader im tm 0x1A y.agg o)
          (r'.decodeTile im tm n o.level y x) ∧
        (q.ringTile n).map RingTile.out = some (some { outHeader im tm 0x1A y.agg o with decoded := true }) ∧
        t = { s with clusters := t.clusters, rounds := t.rounds }) ∧
    (r'.decryptRefusal im sp.desc.cohort p x = 0 → (slotStart im tm sp.desc y.agg o true).1 ≠ 0 →
      ∃ t q z, exec (.dscomb k) s = .next t ∧ t.round? sp.ctx sp.desc.cohort = some q ∧
        (q.ringTile n).map RingTile.out = some (some z) ∧ z.decoded = o.decoded ∧ q.sets = r.sets ∧
        z.status = (slotStart im tm sp.desc y.agg o true).1 ∧ z.cause = (slotStart im tm sp.desc y.agg o true).2.1) ∧
    (x.kind ≠ 0 → r'.decryptRefusal im sp.desc.cohort p x ≠ 0 → n < r.sets.length →
      ∃ t q, exec (.dscomb k) s = .next t ∧ t.round? sp.ctx sp.desc.cohort = some q ∧ q.ring = r.ring ∧
        (o.decoded = true → q.sets = r.sets) ∧
        (o.decoded = false → (r.set n).unmask ≠ 1 → (q.set n).unmask = 2 ∧ (q.set n).cause = 2)) ∧
    (x.kind = 0 → exec (.dscomb k) s = .next ((s.spanDone k sp).updRound sp.ctx sp.desc.cohort fun _ => r')))

-- The finish stage (R236 to R252)

/-- FINISH, FINISH_FILL_WRITEBACK, DRBG_RESEED, DRBG_ERROR (R240 to R252): a filled item runs its scale attempts with the
noise of its core; a VOID input stops it; outputs are written back at the fill, which takes the cursor's next eight tiles; a
generator is reseeded after 2^20 requests and an error silences it. -/
def Obligations.OutputsAreFinished : Prop :=
  (∀ (s : State) (k p : Nat) (sp : RunningSpan) (im : PlanImage) (r : Round), s.Carries k 0x20 p sp → s.OnRound sp im r →
    ∃ t q, exec (.finish k) s = .next t ∧ t.round? sp.ctx sp.desc.cohort = some q ∧
      (let mine := (r.finishItems.filter fun x =>
         x.position == p && x.cursor == sp.desc.cursor && x.result.isNone).take 8
       (q.cursorAt p sp.desc.cursor).pos = (r.cursorAt p sp.desc.cursor).pos + mine.length ∧
       ∀ x ∈ mine, ∃ y ∈ q.finishItems, y = { x with
           noise := y.noise, result := y.result, mark := y.mark, read := y.read } ∧ y.result.isSome = true ∧
         y.mark = y.read ∧ x.read + x.terms.length ≤ y.read) ∧
      q = { r with finishItems := q.finishItems, cursors := q.cursors } ∧
      (t.cluster k).span = some { sp with done := true } ∧ (∀ i, i ≠ k → t.cluster i = s.cluster i) ∧
      t = { s with set := t.set, setA := t.setA, setB := t.setB, slotB := t.slotB, recorder := t.recorder, mgmt := t.mgmt,
                   ctxs := t.ctxs, clusters := t.clusters, rounds := t.rounds, drbgs := t.drbgs, draws := t.draws }) ∧
  (∀ (s : State) (k p : Nat) (sp : RunningSpan) (im : PlanImage) (r : Round) (x : FinishItem) (spec : FinishSpec),
    let tm := im.template sp.desc.cohort
    let applied := spec.sigma != 0 && (s.drbg k x.core).instantiated && !(s.drbg k x.core).error
    let noise := if applied then noiseSamples spec.sigma
      (State.generate k x.core (fmtElems tm.format / 4096) (s.spanDone k sp)).1 else x.noise
    let ran := attempts tm spec x.terms (fun n => if n < x.cut.getD 4 then noise else []) applied 4 0
    let faults := ((r.finishRecs[x.tile]?).map FinishRec.faults).getD 0
    s.Carries k 0x20 p sp → s.OnRound sp im r → r.finishItems = [x] → x.position = p → x.cursor = sp.desc.cursor →
    x.result = none → policySpec r.policyObject r.cohortId = some spec →
    ((∀ i ∈ spec.inputs x.tile, r.inputState tm i = 0) →
      ∃ t q, exec (.finish k) s = .next t ∧ t.round? sp.ctx sp.desc.cohort = some q ∧ q.finishItems = [{ x.run (min 3 ran.2) with
        noise := noise, result := some { ran.1 with faults := faults } }]) ∧
    ((∃ i ∈ spec.inputs x.tile, r.inputState tm i = 3) →
      ∃ t q, exec (.finish k) s = .next t ∧ t.round? sp.ctx sp.desc.cohort = some q ∧ q.finishItems = [{ x.run 0 with
        noise := [], result := some ⟨3, 0, 0, false, [], faults⟩ }] ∧ t.drbgs = s.drbgs) ∧
    ((∀ i ∈ spec.inputs x.tile, r.inputState tm i ≠ 3) → (∃ i ∈ spec.inputs x.tile, r.inputState tm i = 4) →
      ∃ t q, exec (.finish k) s = .next t ∧ t.round? sp.ctx sp.desc.cohort = some q ∧ q.finishItems = [{ x.run 0 with
        noise := [], result := some ⟨4, 0, 0, false, [], faults⟩ }] ∧ t.drbgs = s.drbgs)) ∧
  (∀ (s : State) (k p ctx j : Nat) (im : PlanImage) (r : Round), (s.cluster k).position = some p →
    s.image ctx = some im → s.round? ctx j = some r → (r.state = .unmasking ∨ r.state = .finished) → r.finishPhase = true →
    ∃ t q, exec (.finishFillWriteback k ctx j) s = .next t ∧ t.round? ctx j = some q ∧
      (∀ x ∈ r.finishItems, ∀ f, x.position = p → x.result = some f → x.tile < r.finishRecs.length →
        (∀ y ∈ r.finishItems, y.tile = x.tile → y = x) → q.finishRecs[x.tile]? = some f) ∧
      (∀ x ∈ q.finishItems, x.position = p → x.result = none) ∧
      (∀ x ∈ r.finishItems, x.position ≠ p ∨ x.result = none → x ∈ q.finishItems) ∧
      q = { r with finishRecs := q.finishRecs, finishItems := q.finishItems } ∧ t = { s with rounds := t.rounds }) ∧
  (∀ (s : State) (k p ctx j i : Nat) (im : PlanImage) (r : Round) (b : Block) (c : CursorDef) (spec : FinishSpec),
    (s.cluster k).position = some p → s.image ctx = some im → s.round? ctx j = some r →
    (r.state = .unmasking ∨ r.state = .finished) → r.finishPhase = true → im.block p = some b → r.finishItems = [] → policySpec r.policyObject r.cohortId = some spec →
    b.cursors.zipIdx.filter (fun x => x.1.cohort == j && b.uses 0x20 x.2) = [(c, i)] →
    ∃ t q, exec (.finishFillWriteback k ctx j) s = .next t ∧ t.round? ctx j = some q ∧
      q.finishItems = ((((List.range c.count).map (· + c.first)).filter fun o =>
        ((r.finishRecs[o]?).map fun f => f.state == 0).getD false).take 8).zipIdx.map fun (o, n) =>
          ⟨p, i, n, o, (spec.inputs o).map (r.inputElements (im.template j)), [], 0, 0, none, none⟩) ∧
  (∀ (s : State) (k n : Nat), 8 * k + n < s.drbgs.length → (s.drbg k n).instantiated = true → (s.drbg k n).error = false →
    (2 ^ 20 ≤ (s.drbg k n).requests → exec (.drbgReseed k n) s = .next
      { s with drbgs := updAt s.drbgs (8 * k + n) fun d => d.reseed (s.draw 48).1, draws := s.draws + 1 }) ∧
    ((s.drbg k n).requests < 2 ^ 20 → exec (.drbgReseed k n) s = .next s) ∧
    (∃ t, exec (.drbgError k n) s = .next t ∧ (t.drbg k n).error = true ∧
      ((s.cluster k).span = none →
        Recorded { s with drbgs := updAt s.drbgs (8 * k + n) fun d => { d with error := true } } t) ∧
      t = { s with set := t.set, setA := t.setA, setB := t.setB, slotB := t.slotB, recorder := t.recorder, mgmt := t.mgmt,
                   rounds := t.rounds, drbgs := t.drbgs, draws := t.draws })) ∧
  (∀ (s : State) (k n p : Nat) (sp : RunningSpan) (im : PlanImage) (r : Round) (x : FinishItem) (spec : FinishSpec),
    (s.cluster k).span = some sp → (s.cluster k).position = some p → sp.desc.opcode = 0x20 → sp.done = false →
    sp.dummy = false → s.OnRound sp im r → policySpec r.policyObject r.cohortId = some spec → spec.sigma ≠ 0 →
    (r.nextItems p sp.desc.cursor).find? (fun x => x.core == n) = some x → x.cut = none →
    (s.drbg k n).instantiated = true → (s.drbg k n).error = false →
    ∃ t q y, exec (.drbgError k n) s = .next t ∧ t.round? sp.ctx sp.desc.cohort = some q ∧ y ∈ q.finishItems ∧
      y = { x with noise := y.noise, cut := some (min 3 (4 * (sp.beats - 1) / max 1 (s.spanCost sp))) })

-- Rounds and plans (R36 to R64, R85 to R112, R149, R165, R213, R251 to R256, R315)

/-- ROUND_OPEN, ROUND_OPEN_EFFECT, ROUND_CLOSE, ROUND_CLOSE_EFFECT, ROUND_DURATION_LIMIT, FREEZE, SECRET_PERIOD_END,
UNMASKING_ENTRY, REMOVAL_LIST_BUILD, FINISH_PHASE_BEGIN, ROUND_FINISHED, ROUND_ABANDON, RELEASE, DELIVERY_COMPLETE (R36 to R63, R149, R165,
R166, R179, R213, R251 to R256): a round passes its states in order, each at its boundary; nothing is released below K_min. -/
def Obligations.RoundsPassTheirStates : Prop :=
  (∀ (s : State) (v j : Nat) (e : Bytes) (rest : List Bytes) (im : PlanImage) (pol : Policy), s.Commands v 0x03 e rest →
    (s.roundOpenChecks (vfCtx v) e = .ok (im, j, pol) →
      ∃ t r, exec (.roundOpen v) s = .next t ∧ t.rounds = s.rounds ++ [r] ∧ t.opening? (vfCtx v) j = some r ∧
        r.number = leAt e 12 4 ∧ r.kmin = pol.kmin ∧ r.noiseRequired = policyNoise pol.object ∧
        r.policyDigest = pol.digest ∧ r.planDigest = (s.plan (vfCtx v)).digest ∧ r.saltR = (s.draw 32).1 ∧
        r.acceptedBeat = s.hal.beatCount ∧ r.slots.length = (if (im.template j).isRing then 4 else 2) ∧
        (t.vf v).running = some e ∧ t.draws = s.draws + 1 ∧
        t = { s with set := t.set, setA := t.setA, setB := t.setB, slotB := t.slotB, recorder := t.recorder,
                     keys := t.keys, journal := t.journal, mgmt := t.mgmt, host := t.host, rounds := t.rounds,
                     draws := t.draws }) ∧
    (∀ code, s.roundOpenChecks (vfCtx v) e = .error code →
      exec (.roundOpen v) s = .next ((s.taken v rest).leaderDone v e code 0 0))) ∧
  (∀ (s : State) (c j : Nat) (im : PlanImage) (r : Round), s.opening? c j = some r → s.image c = some im →
    s.atWindow = true → s.lead.hold = none → r.acceptedBeat < s.hal.beatCount →
    (s.round? c j).any Round.delivering = false →
    ∃ t q, exec (.roundOpenEffect c j) s = .next t ∧ t.round? c j = some q ∧ t.opening? c j = none ∧
      q = { r with state := .open, openBeat := s.hal.beatCount
                   roundKey := s.roundPrivate c r.cohortId r.number r.saltR
                   nextSeq := ((s.round? c j).map Round.nextSeq).getD r.nextSeq } ∧
      (let h := s.lead.holder.getD 0
       ∀ k ∈ t.keys.slots, k.hoist = h →
         (r.slotOn h 0 = some k.slot → r.slotOn h 1 ≠ some k.slot → k.value = (s.draw 32).1 ∧ k.attr.getLsbD 0 = true) ∧
         ((im.template j).isRing = true → r.slotOn h 1 = some k.slot →
           k.value = ((s.draw 32).2.draw 32).1 ∧ k.attr.getLsbD 0 = true)) ∧
      (c < s.plans.length → (assocGet (t.plan c).lastRound j) = some r.number) ∧
      t = { s with set := t.set, setA := t.setA, setB := t.setB, slotB := t.slotB, recorder := t.recorder, keys := t.keys,
                   journal := t.journal, mgmt := t.mgmt, host := t.host, plans := t.plans, rounds := t.rounds,
                   draws := t.draws }) ∧
  (∀ (s : State) (c j : Nat) (im : PlanImage) (r : Round), s.opening? c j = some r → s.image c = some im →
    s.atWindow = true → s.lead.hold = none → r.acceptedBeat < s.hal.beatCount →
    (s.round? c j).any Round.delivering = true →
    exec (.roundOpenEffect c j) s = exec (.roundOpenEffect c j) (s.deliver c j)) ∧
  (∀ (s : State) (v j : Nat) (e : Bytes) (rest : List Bytes) (r : Round), s.Commands v 0x04 e rest →
    s.cohortOf (vfCtx v) (leAt e 8 4) = some j → s.namedRound (vfCtx v) j (leAt e 12 4) = .ok r → r.state = .open →
    ∃ t, exec (.roundClose v) s = .next t ∧ t.round? (vfCtx v) j = some { r with
        closeAccepted := true, closeBeat := if r.closeAccepted then r.closeBeat else (s.window + 1) * 256 } ∧
      t = { s with set := t.set, setA := t.setA, setB := t.setB, slotB := t.slotB, recorder := t.recorder,
                   journal := t.journal, mgmt := t.mgmt, host := t.host, rounds := t.rounds }) ∧
  (∀ (s : State) (c j : Nat) (im : PlanImage) (r : Round), s.round? c j = some r → s.image c = some im →
    r.state = .open → s.atWindow = true → s.lead.hold = none →
    ∀ x ∈ [(Instr.roundCloseEffect c j, r.closeAccepted = true ∧ r.closeBeat ≤ s.hal.beatCount),
           (.roundDurationLimit c j, (im.template j).wR ≤ r.openWindows)], x.2 →
      ∃ t q, exec x.1 s = .next t ∧ t.round? c j = some q ∧ q = r.closed s.hal.beatCount ∧ q.state = .closed ∧
        q.sets = r.sets ∧ q.intake.ledger = r.intake.ledger ∧ q.intake.waiting = [] ∧
        (∀ o ∈ q.owners, (o.active = [] ∨ o.busy = true) ∧ o.read = o.write) ∧
        t = { s with set := t.set, setA := t.setA, setB := t.setB, slotB := t.slotB, recorder := t.recorder,
                     journal := t.journal, mgmt := t.mgmt, ctxs := t.ctxs, rounds := t.rounds, grixo := t.grixo }) ∧
  (∀ (s : State) (c j : Nat) (im : PlanImage) (r : Round), s.round? c j = some r → s.image c = some im →
    r.state = .closed → r.frozen = false → (∀ o ∈ r.owners, o.commit.state ≠ 1) →
    ∃ t q, exec (.freeze c j) s = .next t ∧ t.round? c j = some q ∧ q.frozen = true ∧ q.frozenBeat = s.hal.beatCount ∧
      q.state = .closed ∧ q.intake = r.intake ∧ q.owners = r.owners ∧
      (∀ k, (q.set k).copy = (r.set k).copy ∧ (q.set k).count = (r.set k).count) ∧
      ((im.template j).isLeaf = false → (im.template j).isPair = true →
        q.mask.secrets = r.secretRecords (im.template j) ∧ q.mask.requestPublished = true) ∧
      ((im.template j).isLeaf = false → (im.template j).isPair = false → (im.template j).isSum = false →
        q.ring.tiles = (List.range (im.template j).sets).map (fun k => ⟨r.aggHeader (im.template j) k, none, [], 0, []⟩) ∧
        (q.ring.exportBlock = true ↔ ∃ k, k < (im.template j).sets ∧ (r.set k).count < r.kmin)) ∧
      t = { s with set := t.set, setA := t.setA, setB := t.setB, slotB := t.slotB, recorder := t.recorder,
                   journal := t.journal, mgmt := t.mgmt, rounds := t.rounds }) ∧
  (∀ (s : State) (c j : Nat) (im : PlanImage) (r : Round), s.round? c j = some r → s.image c = some im →
    r.state = .closed → r.frozen = true → r.frozenBeat < s.hal.beatCount → s.atWindow = true → s.lead.hold = none →
    ∀ x ∈ [(Instr.secretPeriodEnd c j, (im.template j).wS ≤ r.closedWindows),
           (.unmaskingEntry c j, (im.template j).wS ≤ r.closedWindows ∨ r.earlyUnmasking im j = true)], x.2 →
      ∃ t q, exec x.1 s = .next t ∧ t.round? c j = some q ∧ q.state = .unmasking ∧ q.intake.waiting = [] ∧
        q.intake.secretQueue = [] ∧ q.intake.ledger = r.intake.ledger ∧ q.owners = r.owners ∧
        ((im.template j).isLeaf = false → (im.template j).isPair = true →
          ∀ y ∈ q.mask.secrets, y.stateSelf ≠ 1 ∧ y.stateKey ≠ 1) ∧
        t = { s with set := t.set, setA := t.setA, setB := t.setB, slotB := t.slotB, recorder := t.recorder,
                     journal := t.journal, mgmt := t.mgmt, ctxs := t.ctxs, rounds := t.rounds, grixo := t.grixo }) ∧
  (∀ (s : State) (c j : Nat) (im : PlanImage) (r : Round), s.round? c j = some r → s.image c = some im →
    r.state = .unmasking → (im.template j).isLeaf = false →
    ((im.template j).isPair = true ∨ (im.template j).isSum = true) →
    ∃ t q, exec (.removalListBuild c j) s = .next t ∧ t.round? c j = some q ∧ q = { r with mask := q.mask } ∧
      ((im.template j).isPair = true → s.atWindow = true →
        (∀ y ∈ r.mask.secrets, y.stateSelf ≠ 1 ∧ y.stateSelf ≠ 2) → ∀ p ∈ im.unmaskers j, r.list? p .self = none →
        q.list? p .self = some ⟨p, .self, r.selfItems im j p, 0, true⟩) ∧
      ((im.template j).isPair = true → s.atWindow = true →
        (∀ y ∈ r.mask.secrets, y.stateKey ≠ 1 ∧ y.stateKey ≠ 2) → r.mask.recompute = [] →
        ∀ p ∈ im.unmaskers j, r.list? p .pair = none → q.list? p .pair = some ⟨p, .pair, r.pairItems im j p, 0, true⟩) ∧
      ((im.template j).isPair = false → ∀ p ∈ im.unmaskers j, r.list? p .lwr = none → r.hasItem p .seedAcc = false →
        q.list? p .lwr = some ⟨p, .lwr, r.lwrItems im j p, 0, true⟩) ∧
      t = { s with rounds := t.rounds }) ∧
  (∀ (s : State) (c j : Nat) (im : PlanImage) (r : Round), s.round? c j = some r → s.image c = some im →
    r.state = .unmasking → s.atWindow = true → s.lead.hold = none →
    (r.finishPhase = false → (im.template j).isLeaf = false → r.finishReady (im.template j) = true →
      ∃ t, exec (.finishPhaseBegin c j) s = .next t ∧ t.round? c j = some { r with finishPhase := true } ∧
        t = { s with set := t.set, setA := t.setA, setB := t.setB, slotB := t.slotB, recorder := t.recorder,
                     journal := t.journal, mgmt := t.mgmt, rounds := t.rounds }) ∧
    (r.finishPhase = true → (∀ f ∈ r.finishRecs, f.state ≠ 0) →
      ∃ t, exec (.roundFinished c j) s = .next t ∧ t.round? c j = some { r with state := .finished } ∧
        t = { s with set := t.set, setA := t.setA, setB := t.setB, slotB := t.slotB, recorder := t.recorder,
                     journal := t.journal, mgmt := t.mgmt, rounds := t.rounds })) ∧
  (∀ (s : State) (v j : Nat) (e : Bytes) (rest : List Bytes) (r : Round), s.Commands v 0x05 e rest →
    s.cohortOf (vfCtx v) (leAt e 8 4) = some j → s.namedRound (vfCtx v) j (leAt e 12 4) = .ok r → r.state.live = true →
    ∃ t, exec (.roundAbandon v) s = .next t ∧ t.round? (vfCtx v) j = some (r.zeroed .abandoned) ∧
      t.keys.slots = s.keys.slots.filter (fun k => !(r.slots.contains (k.hoist, k.slot))) ∧
      t.clusters = s.clusters.map (fun x => x.forget (vfCtx v) j) ∧
      t = { s with set := t.set, setA := t.setA, setB := t.setB, slotB := t.slotB, recorder := t.recorder,
                   keys := { s.keys with slots := t.keys.slots }, journal := t.journal, mgmt := t.mgmt, host := t.host
                   clusters := t.clusters, rounds := t.rounds }) ∧
  (∀ (s : State) (v j : Nat) (e : Bytes) (rest : List Bytes) (im : PlanImage) (r : Round), s.Commands v 0x06 e rest →
    s.lead.hold = none → s.leaderAway v = false → s.cohortOf (vfCtx v) (leAt e 8 4) = some j →
    s.image (vfCtx v) = some im → (im.template j).isLeaf = false →
    s.namedRound (vfCtx v) j (leAt e 12 4) = .ok r →
    (s.releaseGate (vfCtx v) (im.template j) r = (0, 0) →
      r.state = .finished ∧ (∀ x ∈ r.sets, x.commits ≠ 0 ∧ r.kmin ≤ x.count) ∧
      (∀ f ∈ r.finishRecs, f.state ≠ 2 ∧ f.state ≠ 3 ∧ f.state ≠ 4 ∧ (r.noiseRequired = true → f.noise = true)) ∧
      ∃ t, exec (.release v) s = .next t ∧ t.round? (vfCtx v) j = some { r with
          state := .released, releaseBeat := s.hal.beatCount, delivering := true, releaseCmd := some v } ∧
        (t.vf v).running = some e ∧
        t = { s with set := t.set, setA := t.setA, setB := t.setB, slotB := t.slotB, recorder := t.recorder,
                     journal := t.journal, mgmt := t.mgmt, host := t.host, rounds := t.rounds }) ∧
    ((s.releaseGate (vfCtx v) (im.template j) r).1 ≠ 0 →
      exec (.release v) s = .next ((s.taken v rest).leaderDone v e (s.releaseGate (vfCtx v) (im.template j) r).1
        (s.releaseGate (vfCtx v) (im.template j) r).2 0))) ∧
  (∀ (s : State) (c j : Nat) (im : PlanImage) (r : Round) (reg : Region) (spec : FinishSpec), s.round? c j = some r →
    s.image c = some im → r.delivering = true → s.lead.hold = none → s.MemOk → c < s.ctxs.length →
    (im.regionsOf 7 j).head? = some reg → policySpec r.policyObject r.cohortId = some spec →
    ∃ t, exec (.deliveryComplete c j) s = .next t ∧
      t.round? c j = some { r.zeroed .released with delivering := false, delivered := true } ∧
      (∀ n, n = (r.outputImage (im.template j) spec).length →
        t.readMem c reg.base n = r.outputImage (im.template j) spec) ∧
      (∀ a, a < reg.base ∨ reg.base + (r.outputImage (im.template j) spec).length ≤ a →
        t.readMem c a 1 = s.readMem c a 1) ∧ (∀ d, d ≠ c → t.ctx d = s.ctx d) ∧
      t.keys.slots = s.keys.slots.filter (fun k => !(r.slots.contains (k.hoist, k.slot))) ∧
      t = { s with set := t.set, setA := t.setA, setB := t.setB, slotB := t.slotB, recorder := t.recorder,
                   keys := { s.keys with slots := t.keys.slots }, journal := t.journal, mgmt := t.mgmt, host := t.host
                   ctxs := t.ctxs, rounds := t.rounds, grixo := { s.grixo with releases := t.grixo.releases } })

/-- PLAN_SUBMIT, PLAN_CHECK_COMPLETE, PLAN_START, PLAN_UNLOAD, PLAN_UNLOAD_EFFECT, ROUND_QUERY, REQUEST_LIST, ATTEST, PEER_REPORT
(R91, R103, R109 to R111, R165, R314, R315, R375 to R378): a plan is checked, admitted with its digest, starts and ends at loop
boundaries; the queries answer from the round; a leaf accepts a root whose report passes. -/
def Obligations.PlansAndQueries : Prop :=
  (∀ (s : State) (v : Nat) (e : Bytes) (rest : List Bytes), s.Commands v 0x01 e rest → leAt e 8 8 % 4096 = 0 →
    vfCtx v < s.plans.length →
    (s.submitChecks (vfCtx v) = none →
      ∃ t, exec (.planSubmit v) s = .next t ∧
        t.plan (vfCtx v) = { s.plan (vfCtx v) with state := .checking, submitLength := leAt e 16 4 } ∧
        (t.vf v).running = some e ∧ t = { s with host := t.host, plans := t.plans }) ∧
    (∀ code, s.submitChecks (vfCtx v) = some code →
      ∃ t, exec (.planSubmit v) s = .next t ∧ t.plan (vfCtx v) = { s.plan (vfCtx v) with
          lastReject := (BitVec.ofNat 32 code, noField) } ∧ t.rounds = s.rounds ∧
        t = ((s.taken v rest).rejectPlan (vfCtx v) code noField).leaderDone v e code noField 0)) ∧
  (∀ (s : State) (c : Nat) (image b : Bytes), c < s.plans.length → (s.plan c).state = .checking → s.lead.hold = none →
    s.noLeader = false → b = padTo (min (s.plan c).submitLength 0x4000001) image →
    (s.admission c (s.plan c).submitLength b = none →
      ∃ t, exec (.planCheckComplete c image) s = .next t ∧
        t.plan c = { s.plan c with state := .loaded, image := some (readPlan b), digest := sha384 b
                                   loadedBeat := s.hal.beatCount, startAfter := 0, startBeat := 0
                                   unloadAccepted := none, lastRound := [] } ∧
        (∀ d, d ≠ c → t.plan d = s.plan d) ∧ t.rounds = s.rounds ∧
        t = { s with set := t.set, setA := t.setA, setB := t.setB, slotB := t.slotB, recorder := t.recorder,
                     journal := t.journal, mgmt := t.mgmt, host := t.host, ctxs := t.ctxs, plans := t.plans
                     grixo := { s.grixo with releases := t.grixo.releases } }) ∧
    (∀ code off, s.admission c (s.plan c).submitLength b = some (code, off) →
      ∃ t, exec (.planCheckComplete c image) s = .next t ∧ (t.plan c).state = .none ∧
        (t.plan c).lastReject = (BitVec.ofNat 32 code, off) ∧ (t.plan c).image = (s.plan c).image ∧
        (∀ d, d ≠ c → t.plan d = s.plan d) ∧
        t = { s with set := t.set, setA := t.setA, setB := t.setB, slotB := t.slotB, recorder := t.recorder,
                     journal := t.journal, mgmt := t.mgmt, host := t.host, ctxs := t.ctxs, plans := t.plans })) ∧
  (∀ (s : State) (c : Nat), c < s.plans.length → (s.plan c).state = .loaded → s.hal.beatCount % 4096 = 0 →
    s.lead.hold = none → s.lead.takeover = none → (s.plan c).loadedBeat + 256 ≤ s.hal.beatCount →
    (s.plan c).startAfter ≤ s.hal.beatCount → (∀ k ∈ s.clusters, k.takeoverWindow = none) →
    ∃ t, exec (.planStart c) s = .next t ∧
      t.plan c = { s.plan c with state := .running, startBeat := s.hal.beatCount } ∧
      (∀ d, d ≠ c → t.plan d = s.plan d) ∧
      Recorded { s with plans := t.plans, clusters := s.clusters.map fun k => { k with ahead := none } } t) ∧
  (∀ (s : State) (v : Nat) (e : Bytes) (rest : List Bytes), s.Commands v 0x02 e rest → vfCtx v < s.plans.length →
    ((s.plan (vfCtx v)).state = .loaded ∨ (s.plan (vfCtx v)).state = .running) →
    (s.rounds.any (fun r => r.ctx == vfCtx v && (r.state.live || r.state == .opening)) = false →
      ∃ t, exec (.planUnload v) s = .next t ∧ (t.vf v).running = some e ∧ t.plan (vfCtx v) = { s.plan (vfCtx v) with
          state := .unloading, unloadAccepted := some s.hal.beatCount } ∧ t = { s with host := t.host, plans := t.plans }) ∧
    (s.rounds.any (fun r => r.ctx == vfCtx v && (r.state.live || r.state == .opening)) = true →
      exec (.planUnload v) s = .next ((s.taken v rest).leaderDone v e 0x01300059 0 0))) ∧
  (∀ (s : State) (c b : Nat), c < s.plans.length → (s.plan c).state = .unloading → (s.plan c).unloadAccepted = some b →
    b < s.hal.beatCount → s.hal.beatCount % 4096 = 0 → s.lead.hold = none → s.lead.takeover = none →
    (∀ r ∈ s.rounds, r.ctx = c → r.delivering = false) → (s.grixo.conns.map Conn.index).Nodup →
    ∃ t, exec (.planUnloadEffect c) s = .next t ∧
      t.plan c = { PlanSlot.reset with lastReject := (s.plan c).lastReject } ∧
      t.rounds = s.rounds.filter (fun r => r.ctx != c) ∧
      (∀ x ∈ t.grixo.conns, x.ctx = c → x.kind = 1 → x.state = .closed) ∧
      (∀ x ∈ s.grixo.conns, (x.ctx ≠ c ∨ x.kind ≠ 1) →
        ∃ y ∈ t.grixo.conns, y = { x with resident := y.resident, intact := y.intact }) ∧
      t.clusters = s.clusters.map (fun k => k.without c) ∧
      t = { s with set := t.set, setA := t.setA, setB := t.setB, slotB := t.slotB, recorder := t.recorder,
                   journal := t.journal, mgmt := t.mgmt, host := t.host, ctxs := t.ctxs, plans := t.plans
                   clusters := t.clusters, rounds := t.rounds, grixo := t.grixo, out := t.out }) ∧
  (∀ (s : State) (v j : Nat) (e : Bytes) (rest : List Bytes) (r : Round), s.Commands v 0x07 e rest →
    s.cohortOf (vfCtx v) (leAt e 8 4) = some j → s.namedRound (vfCtx v) j (leAt e 12 4) = .ok r →
    exec (.roundQuery v) s = .next ((s.taken v rest).leaderDone v e 0 r.state.queryCode r.chunksShown)) ∧
  (∀ (s : State) (v j n : Nat) (e : Bytes) (rest : List Bytes) (r : Round) (im : PlanImage), s.Commands v 0x08 e rest →
    s.image (vfCtx v) = some im → s.cohortOf (vfCtx v) (leAt e 8 4) = some j →
    s.namedRound (vfCtx v) j (leAt e 12 4) = .ok r → r.state ≠ .released → r.state ≠ .abandoned → r.frozen = true →
    (im.template j).isPair = true → n = ceilDiv (im.template j).clientSlots 4 → n ≤ leAt e 24 4 →
    leAt e 16 8 % 64 = 0 →
    exec (.requestList v) s = .next (((s.taken v rest).toHost (vfCtx v) (leAt e 16 8)
      (r.requestObject (im.template j))).leaderDone v e 0 n 0)) ∧
  (∀ (s : State) (v j : Nat) (e : Bytes) (rest : List Bytes) (r : Round) (im : PlanImage), s.Commands v 0x09 e rest →
    s.image (vfCtx v) = some im → s.cohortOf (vfCtx v) (leAt e 8 4) = some j →
    s.namedRound (vfCtx v) j (leAt e 12 4) = .ok r → r.state ≠ .released → r.state ≠ .abandoned →
    leAt e 16 8 % 64 = 0 →
    ∃ t, exec (.attest v) s = .next t ∧
      t.out = s.out ++ [.hostWrite (s.ctxSet (vfCtx v)).endpoint (vfCtx v) (leAt e 16 8)
        (s.reportBody r im (slice e 24 32) ++ padTo 96 (ecdsaSign s.aliasKey (p384Private (s.draw 64).1)
          (s.reportBody r im (slice e 24 32))))] ∧
      t = { s with set := t.set, setA := t.setA, setB := t.setB, slotB := t.slotB, recorder := t.recorder,
                   journal := t.journal, mgmt := t.mgmt, host := t.host, ctxs := t.ctxs, draws := s.draws + 1
                   out := t.out }) ∧
  (∀ (s : State) (v j len : Nat) (e report chain : Bytes) (rest : List Bytes) (r : Round) (im : PlanImage),
    s.Commands v 0x0A e rest → (s.plan (vfCtx v)).state = .running → s.image (vfCtx v) = some im →
    s.cohortOf (vfCtx v) (leAt e 8 4) = some j → (im.template j).isLeaf = true →
    s.namedRound (vfCtx v) j (leAt e 12 4) = .ok r → r.state = .open → len = leAt e 24 4 → 1345 ≤ len → len ≤ 9536 →
    leAt e 16 8 % 64 = 0 → r.root = none →
    (s.rootChecks r im (padTo 1344 report ++ padTo (len - 1344) chain) (leAt e 28 2) = true →
      lowOrder (slice (padTo 1344 report ++ padTo (len - 1344) chain) 528 32) = false →
      ∃ t q, exec (.peerReport v report chain) s = .next t ∧ t.round? (vfCtx v) j = some q ∧
        q = { r with root := some (slice (padTo 1344 report ++ padTo (len - 1344) chain) 528 32), rootKey := q.rootKey
                     rootConn := leAt e 28 2, rootEnc := q.rootEnc } ∧
        (∀ x, s.conn? (leAt e 28 2) = some x → x.state = .open → t.conn? (leAt e 28 2) = some { x with sendArea :=
          x.sendArea ++ [leafSession r (im.template j).slotBase q.rootKey q.rootEnc] }) ∧
        t = { s with set := t.set, setA := t.setA, setB := t.setB, slotB := t.slotB, recorder := t.recorder,
                     journal := t.journal, mgmt := t.mgmt, host := t.host, ctxs := t.ctxs, rounds := t.rounds
                     grixo := { s.grixo with conns := t.grixo.conns }, draws := s.draws + 1 }) ∧
    (s.rootChecks r im (padTo 1344 report ++ padTo (len - 1344) chain) (leAt e 28 2) = false →
      ∃ t, exec (.peerReport v report chain) s = .next t ∧ t.rounds = s.rounds ∧ t.grixo = s.grixo ∧
        t = { s with set := t.set, setA := t.setA, setB := t.setB, slotB := t.slotB, recorder := t.recorder,
                     journal := t.journal, mgmt := t.mgmt, host := t.host, ctxs := t.ctxs }))

-- Frames (R113 to R131)

/-- FRAME_ARRIVAL, SESSION_ESTABLISH, BIN_COPY, NOTICE_BATCH_SEND (R116 to R127, R156): a frame that passes the checks in
order waits for its bin, its session or its SECRETIN; another is counted and its connection notified; the notices of a
leaf's root name PEER frames to be sent again (log entry 22); a session whose tag verifies is stored; a waiting frame enters
its bin when there is room; notices go out at window boundaries. -/
def Obligations.FramesAreTakenIn : Prop :=
  (∀ (s : State) (i id j : Nat) (c : Conn) (m : RxMsg) (f : Bytes) (im : PlanImage) (r : Round), s.conn? i = some c →
    c.kind = 1 → c.rx.find? (fun m => m.id == id && m.complete && !m.parts.isEmpty) = some m → f = m.bytes →
    (∀ x ∈ s.rounds, x.ctx = c.ctx → x.root.isSome = true → x.rootConn = i → noticeShape f = false) → frameShape f = true →
    s.image c.ctx = some im → s.cohortOf c.ctx (Frame.cohort f) = some j → s.round? c.ctx j = some r → r.number = Frame.round f →
    midChecks im j r f = 0 →
    (Frame.kind f = 6 ∨ ((r.session? (Frame.role f) (Frame.slot f)).map RoundSession.stored) = some true →
      lateChecks (im.template j).setTiles r f = 0 →
      ∃ t q, exec (.frameArrival i id) s = .next t ∧ t.round? c.ctx j = some q ∧ q = { r with intake := q.intake } ∧
        (Frame.kind f = 1 ∨ Frame.kind f = 5 → q.intake = { r.intake with
          waiting := r.intake.waiting ++ [⟨i, s.hal.beatCount, f, false⟩]
          pending := putPair (Frame.slot f, Frame.tile f) r.intake.pending }) ∧
        (Frame.kind f = 6 → q.intake = { r.intake with sessions := r.intake.sessions ++
          [⟨Frame.role f, Frame.slot f, [], Frame.payload f, false, i, f⟩] }) ∧
        (2 ≤ Frame.kind f → Frame.kind f ≤ 4 → q.intake = { r.intake with
          secretQueue := r.intake.secretQueue ++ [⟨i, s.hal.beatCount, f, false⟩] }) ∧
        t = { s with ctxs := t.ctxs, rounds := t.rounds
                     grixo := { s.grixo with
                       conns := t.grixo.conns, arrived := s.grixo.arrived.filter fun x => x != (i, id) } }) ∧
    (Frame.kind f ≠ 6 → ((r.session? (Frame.role f) (Frame.slot f)).map RoundSession.stored) = some false →
      ∃ t, exec (.frameArrival i id) s = .next t ∧ t.round? c.ctx j = some { r with intake := { r.intake with
          waiting := r.intake.waiting ++ [⟨i, s.hal.beatCount, f, true⟩] } } ∧
        t = { s with rounds := t.rounds
                     grixo := { s.grixo with
                       conns := t.grixo.conns, arrived := s.grixo.arrived.filter fun x => x != (i, id) } })) ∧
  (∀ (s : State) (i id j n : Nat) (c : Conn) (m : RxMsg) (f : Bytes) (im : PlanImage) (r : Round), s.conn? i = some c →
    c.kind = 1 → c.rx.find? (fun m => m.id == id && m.complete && !m.parts.isEmpty) = some m → f = m.bytes →
    noticeShape f = true → s.image c.ctx = some im → s.round? c.ctx j = some r → r.root.isSome = true → r.rootConn = i →
    (∀ x ∈ s.rounds, x.ctx = c.ctx → x.root.isSome = true → x.rootConn = i → x = r) →
    n = max 1 (im.template j).setTiles →
    ∃ t q, exec (.frameArrival i id) s = .next t ∧ t.round? c.ctx j = some q ∧ q = { r with peerAgain := q.peerAgain } ∧
      (∀ x ∈ r.peerAgain, x ∈ q.peerAgain) ∧
      (∀ k p, k < beAt f 6 2 → p = 32 + 32 * k → beAt f (p + 4) 1 = 5 → beAt f (p + 7) 1 = 1 →
        beAt f (p + 8) 4 = r.cohortId → beAt f (p + 12) 4 = r.number → beAt f (p + 20) 4 < (im.template j).tiles →
        ∀ y, im.forwarder j (beAt f (p + 20) 4 / n) = some y →
          ⟨y.1, y.2, beAt f (p + 20) 4 / n * n⟩ ∈ q.peerAgain) ∧
      t = { s with rounds := t.rounds
                   grixo := { s.grixo with
                     conns := t.grixo.conns, arrived := s.grixo.arrived.filter fun x => x != (i, id) } }) ∧
  (∀ (s : State) (i id j code : Nat) (c : Conn) (m : RxMsg) (f : Bytes) (im : PlanImage) (r : Round), s.conn? i = some c →
    c.kind = 1 → c.rx.find? (fun m => m.id == id && m.complete && !m.parts.isEmpty) = some m → f = m.bytes →
    (∀ x ∈ s.rounds, x.ctx = c.ctx → x.root.isSome = true → x.rootConn = i → noticeShape f = false) →
    c.state = .open → c.notices.length < 65536 →
    ((frameShape f = false ∧ code = 0x01100004) ∨
     (frameShape f = true ∧ s.cohortOf c.ctx (Frame.cohort f) = none ∧ code = 0x01100001) ∨
     (frameShape f = true ∧ s.image c.ctx = some im ∧ s.cohortOf c.ctx (Frame.cohort f) = some j ∧
       (s.round? c.ctx j = none ∨ (s.round? c.ctx j = some r ∧ r.number ≠ Frame.round f)) ∧ code = 0x01100002) ∨
     (frameShape f = true ∧ s.image c.ctx = some im ∧ s.cohortOf c.ctx (Frame.cohort f) = some j ∧
       s.round? c.ctx j = some r ∧ r.number = Frame.round f ∧ midChecks im j r f = code ∧ code ≠ 0) ∨
     (frameShape f = true ∧ s.image c.ctx = some im ∧ s.cohortOf c.ctx (Frame.cohort f) = some j ∧
       s.round? c.ctx j = some r ∧ r.number = Frame.round f ∧ midChecks im j r f = 0 ∧
       (Frame.kind f = 6 ∨ ((r.session? (Frame.role f) (Frame.slot f)).map RoundSession.stored) = some true) ∧
       lateChecks (im.template j).setTiles r f = code ∧ code ≠ 0)) →
    ∃ t, exec (.frameArrival i id) s = .next t ∧ t.stats.intakeRejects = s.stats.intakeRejects + 1 ∧
      (t.conn? i).map Conn.notices = some (c.notices ++ [noticeEntry code f 2]) ∧ t.rounds = s.rounds ∧
      t = { s with ctxs := t.ctxs, stats := { s.stats with intakeRejects := t.stats.intakeRejects }
                   grixo := { s.grixo with
                     conns := t.grixo.conns, arrived := s.grixo.arrived.filter fun x => x != (i, id) } }) ∧
  (∀ (s : State) (c j role slot : Nat) (im : PlanImage) (r : Round) (x : RoundSession), s.image c = some im →
    s.round? c j = some r → r.session? role slot = some x → x.stored = false →
    (∀ h key, hpkeReceive r.roundKey x.enc (sessionInfo r.cohortId r.number role slot) = some h →
      key = hpkeExport h (ascii "TA32 frame key") 32 →
      (gcmOpen key (Frame.nonce (Frame.header x.frame)) (Frame.header x.frame ++ x.enc) (Frame.tag x.frame)).isSome = true →
      ∃ t q, exec (.sessionEstablish c j role slot) s = .next t ∧ t.round? c j = some q ∧
        q.session? role slot = some { x with key := key, stored := true, frame := [] } ∧
        q = { r with intake := q.intake } ∧
        ((role = 1 → (im.template j).isRing = true → (s.roundKey? r 1 none).isSome = true) →
          t = { s with ctxs := t.ctxs, rounds := t.rounds, grixo := t.grixo, stats := t.stats }) ∧
        t = { s with set := t.set, setA := t.setA, setB := t.setB, slotB := t.slotB, recorder := t.recorder,
                     mgmt := t.mgmt, ctxs := t.ctxs, rounds := t.rounds, grixo := t.grixo, stats := t.stats }) ∧
    ((∀ h, hpkeReceive r.roundKey x.enc (sessionInfo r.cohortId r.number role slot) = some h →
        gcmOpen (hpkeExport h (ascii "TA32 frame key") 32) (Frame.nonce (Frame.header x.frame))
          (Frame.header x.frame ++ x.enc) (Frame.tag x.frame) = none) →
      ∃ t q, exec (.sessionEstablish c j role slot) s = .next t ∧ t.round? c j = some q ∧
        q.session? role slot = none ∧ q = { r with intake := q.intake } ∧
        t = { s with ctxs := t.ctxs, rounds := t.rounds, grixo := t.grixo, stats := t.stats })) ∧
  (∀ (s : State) (c j n k p i : Nat) (im : PlanImage) (r : Round) (w : WaitFrame) (l : List WaitFrame) (d : CursorDef)
    (o : OwnerSet), s.image c = some im → s.round? c j = some r → r.intake.waiting[n]? = some w → w.held = false →
    (Frame.kind w.bytes = 1 ∨ Frame.kind w.bytes = 5) → r.state = .open →
    ((im.template j).isSum = true → (im.template j).role = 0 →
      ∃ x ∈ r.mask.seeds, x.1 = Frame.slot w.bytes) →
    k = Frame.tile w.bytes / max 1 (im.template j).setTiles → im.ownerOf j k (Frame.slot w.bytes) = some (p, i) →
    r.binGroup (im.template j) w = some l → r.owner? p k = some o → im.cursor p i = some d →
    (k - d.first) / max 1 (im.residency j p).1 = (r.cursorAt p i).group →
    o.write - o.release + (groupRecords l).length ≤ o.capacity → s.copyCut im w p = false →
    ∃ t q, exec (.binCopy c j n) s = .next t ∧ t.round? c j = some q ∧
      q.owner? p k = some { o with bin := o.bin ++ groupRecords l, write := o.write + (groupRecords l).length } ∧
      q.intake.waiting = r.intake.waiting.filter (fun x => !(l.contains x)) ∧
      (∀ x ∈ l, (Frame.slot w.bytes, Frame.tile x.bytes) ∈ q.intake.pending) ∧
      q = { r with owners := q.owners, intake := q.intake } ∧ t = { s with rounds := t.rounds }) ∧
  (∀ (s : State) (i : Nat) (c : Conn), s.conn? i = some c → c.state = .open → s.hal.beatCount % 256 = 0 →
    (c.notices = [] → exec (.noticeBatchSend i) s = .next s) ∧
    (∀ m, m = noticeMessage s.hal.beatCount ((c.notices.take 255).map (s.noticeNow c.ctx)) → c.notices ≠ [] →
      (c.sendArea = [] → c.owedCredits + creditsFor m.length ≤ (c.inLive s.us).sum →
        ((s.readyToSend i).1 = true → (∀ y ∈ c.tx ++ c.waiting, y.type = 4 ∨ y.id < c.txNext) →
          ∃ t x k, exec (.noticeBatchSend i) s = .next t ∧ t.conn? i = some x ∧ 1 ≤ k ∧
            x.notices = c.notices.drop (255 * k) ∧ x.txNext = c.txNext + k ∧
            (c.notices.length ≤ 255 → k = 1) ∧ (∃ y ∈ x.tx, y.id = c.txNext ∧ y.type = 1 ∧ y.data = m) ∧
            (c.resident = true → t = { s with ctxs := t.ctxs, grixo := t.grixo, out := t.out }) ∧
            t = { s with set := t.set, setA := t.setA, setB := t.setB, slotB := t.slotB, recorder := t.recorder,
                         mgmt := t.mgmt, ctxs := t.ctxs, grixo := t.grixo, out := t.out }) ∧
        (∀ u, s.readyToSend i = (false, u) → exec (.noticeBatchSend i) s = .next u)) ∧
      (c.sendArea ≠ [] ∨ (c.inLive s.us).sum < c.owedCredits + creditsFor m.length →
        exec (.noticeBatchSend i) s = .next s)))

-- Grixo connections, queues and copies (R280 to R301, R315)

/-- CONN_CREATE, CONN_OPEN, CONN_CLOSE, CONN_DESTROY, CONN_SET_GRANT, QUEUE_CREATE, QUEUE_DESTROY, QUEUE_DESTROY_COMPLETE,
WINDOW_KEY_REPLACE, WINDOW_KEY_REVOKE, KEY_DRAIN_LIMIT, HOST_COPY_TO_CONTEXT, HOST_COPY_TO_HOST, HOST_COPY_COMPLETE, WQE_NOP, WQE_SEND,
WQE_RECV, WQE_WRITE, WQE_READ, WQE_WAIT_SATISFIED, WQE_COMPLETE (R281 to R284, R292, R294, R296, R298 to R301, R315): a context's
connections, queues, window keys and copies change as its commands and entries say; an operation on a record that cannot be
resident now waits (log entry 57). -/
def Obligations.ConnectionsAndQueuesWork : Prop :=
  (∀ (s : State) (v : Nat) (e : Bytes) (rest : List Bytes), s.Commands v 0x10 e rest →
    (s.connChecks (vfCtx v) e = none → exec (.connCreate v) s = .next (
      { s.taken v rest with grixo := { s.grixo with
          conns := s.grixo.conns ++ [newConn (s.freeIndex (leAt e 8 1))
            (nextGen ((assocGet s.grixo.gens (s.freeIndex (leAt e 8 1))).getD 0)) (vfCtx v) e
            (decide ((s.residents (vfCtx v) (leAt e 8 1)).length < (s.ctxSet (vfCtx v)).resident.get (leAt e 8 1))) s.us]
          gens := assocSet s.grixo.gens (s.freeIndex (leAt e 8 1))
            (nextGen ((assocGet s.grixo.gens (s.freeIndex (leAt e 8 1))).getD 0)) } }.complete v e 0
        (s.freeIndex (leAt e 8 1) + 65536 * nextGen ((assocGet s.grixo.gens (s.freeIndex (leAt e 8 1))).getD 0)) 0)) ∧
    (∀ code, s.connChecks (vfCtx v) e = some code →
      exec (.connCreate v) s = .next ((s.taken v rest).complete v e code 0 0))) ∧
  (∀ (s u : State) (v : Nat) (e : Bytes) (rest : List Bytes) (x : Conn), s.Commands v 0x11 e rest →
    s.connOf (vfCtx v) (commandIndex e) = some x → x.state = .closed → (x.resident = true ∨ x.intact = true) →
    (x.enc = true → (s.grixoSlot x.ctx (connHoist x.index)).isSome = true) →
    (s.taken v rest).makeResident x.index = some u →
    ∃ t y, exec (.connOpen v) s = .next t ∧ t.conn? x.index = some y ∧
      y.state = (if x.passive then .listen else .requesting) ∧
      y.first = beNat (padTo 4 (Config.randomBytes s.draws 4)) % 2 ^ 31 + 1 ∧
      y.keySlot = (if x.enc then (s.grixoSlot x.ctx (connHoist x.index)).getD 0xFFFF else 0xFFFF) ∧
      y.reqSent = (if x.passive then 0 else 1) ∧ y.index = x.index ∧ y.ctx = x.ctx ∧ y.grant = x.grant ∧
      y.gen = (if x.first = 0 then x.gen else nextGen x.gen) ∧ assocGet t.grixo.gens x.index = some y.gen ∧
      (x.resident = true → t = { s with keys := t.keys, host := t.host, ctxs := t.ctxs, grixo := t.grixo
                                        draws := s.draws + 1, out := t.out }) ∧
      t = { s with set := t.set, setA := t.setA, setB := t.setB, slotB := t.slotB, recorder := t.recorder
                   mgmt := t.mgmt, keys := t.keys, host := t.host, ctxs := t.ctxs, grixo := t.grixo
                   draws := s.draws + 1, out := t.out }) ∧
  (∀ (s u : State) (v : Nat) (e : Bytes) (rest : List Bytes) (x : Conn), s.Commands v 0x12 e rest →
    s.connOf (vfCtx v) (commandIndex e) = some x → (s.taken v rest).makeResident x.index = some u →
    (x.state ≠ .closed → ∃ t y k, exec (.connClose v) s = .next t ∧ t.conn? x.index = some y ∧ y.state = .closed ∧
      y.tx = [] ∧ y.waiting = [] ∧ y.reads = [] ∧ y.notices = [] ∧ y.sendArea = [] ∧
      t.grixo.closing = s.grixo.closing ++ [k] ∧ k.conn.index = x.index ∧ k.conn.gen = x.gen ∧ k.reason = 0 ∧
      ((k.left = 2 ∧ ∃ l f, t.out = s.out ++ [.frame l f]) ∨ (k.left = 3 ∧ t.out = s.out)) ∧
      t = { s with set := t.set, setA := t.setA, setB := t.setB, slotB := t.slotB, recorder := t.recorder,
                   mgmt := t.mgmt, host := t.host, ctxs := t.ctxs, grixo := t.grixo, out := t.out }) ∧
    (x.state = .closed → (x.resident = true ∨ x.intact = true) →
      exec (.connClose v) s = .next (u.complete v e 0 0 0))) ∧
  (∀ (s u : State) (v : Nat) (e : Bytes) (rest : List Bytes) (x : Conn), s.Commands v 0x13 e rest →
    s.connOf (vfCtx v) (commandIndex e) = some x → (x.state = .closed ∨ x.state = .failed) → 64 ≤ x.queue →
    (s.taken v rest).makeResident x.index = some u →
    ∃ t, exec (.connDestroy v) s = .next t ∧ t.grixo.conns = u.grixo.conns.filter (fun y => y.index != x.index) ∧
      t.grixo = { s.grixo with conns := t.grixo.conns } ∧
      (x.resident = true → t = { s with keys := t.keys, host := t.host, grixo := t.grixo }) ∧
      t = { s with set := t.set, setA := t.setA, setB := t.setB, slotB := t.slotB, recorder := t.recorder
                   mgmt := t.mgmt, keys := t.keys, host := t.host, ctxs := t.ctxs, grixo := t.grixo }) ∧
  (∀ (s u : State) (v : Nat) (e : Bytes) (rest : List Bytes) (x : Conn), s.Commands v 0x14 e rest →
    s.connOf (vfCtx v) (commandIndex e) = some x → 2 ≤ leAt e 16 1 → leAt e 16 1 ≤ 16 →
    (s.taken v rest).makeResident x.index = some u →
    u.grantOk x.ctx (connHoist x.index) x.kind x.landing (leAt e 12 4) x.index = true →
    exec (.connSetGrant v) s = .next ((u.updConn x.index fun y =>
      { y with grant := leAt e 12 4, expiry := leAt e 16 1 }).complete v e 0 0 0)) ∧
  (∀ (s : State) (v : Nat) (e : Bytes) (rest : List Bytes) (x : Conn),
    (∀ op ∈ [(Instr.connOpen v, 0x11), (.connClose v, 0x12), (.connDestroy v, 0x13), (.connSetGrant v, 0x14)],
      s.Commands v op.2 e rest → s.connOf (vfCtx v) (commandIndex e) = some x →
      (s.taken v rest).makeResident x.index = none → exec op.1 s = .next s)) ∧
  (∀ (s : State) (v : Nat) (e : Bytes) (rest : List Bytes),
    (∀ op ∈ [(Instr.connOpen v, 0x11), (.connClose v, 0x12), (.connDestroy v, 0x13), (.connSetGrant v, 0x14)],
      s.Commands v op.2 e rest → s.connOf (vfCtx v) (commandIndex e) = none →
      exec op.1 s = .next ((s.taken v rest).complete v e 0x0121001F 0 0))) ∧
  (∀ (s : State) (v q : Nat) (e : Bytes) (rest : List Bytes), s.Commands v 0x18 e rest → q = leAt e 8 1 → q ≤ 63 →
    2 ≤ leAt e 9 1 → leAt e 9 1 ≤ 65 → 4 ≤ leAt e 12 1 → leAt e 12 1 ≤ 16 → 4 ≤ leAt e 13 1 → leAt e 13 1 ≤ 16 →
    (s.queue (vfCtx v) q).state = .none → leAt e 16 8 % 4096 = 0 → leAt e 24 8 % 4096 = 0 →
    s.grixo.queues.length = 1024 →
    (leAt e 10 2 = 0xFFFF ∨ ∃ x, s.connOf (vfCtx v) (leAt e 10 2) = some x ∧ x.kind = 2 ∧ 64 ≤ x.queue) →
    ∃ t, exec (.queueCreate v) s = .next t ∧ t.queue (vfCtx v) q = { WorkQueue.reset with
        state := .active, conn := if leAt e 10 2 = 0xFFFF then none else some (leAt e 10 2), ringBase := leAt e 16 8
        ringLog := leAt e 12 1, cplBase := leAt e 24 8, cplLog := leAt e 13 1, vector := leAt e 9 1 } ∧
      (∀ x, leAt e 10 2 ≠ 0xFFFF → s.conn? (leAt e 10 2) = some x →
        t.conn? (leAt e 10 2) = some { x with queue := q }) ∧
      t = { s with host := t.host, grixo := { s.grixo with queues := t.grixo.queues, conns := t.grixo.conns } }) ∧
  (∀ (s : State) (v q : Nat) (e : Bytes) (rest : List Bytes), s.Commands v 0x19 e rest → q = leAt e 8 1 → q ≤ 63 →
    (s.queue (vfCtx v) q).state = .active → s.grixo.queues.length = 1024 →
    ((∀ x ∈ (s.queue (vfCtx v) q).started, x.done = true) →
      ∃ t, exec (.queueDestroy v) s = .next t ∧ t.queue (vfCtx v) q = .reset ∧ (t.vf v).running = none ∧
        t = { s with host := t.host, grixo := { s.grixo with queues := t.grixo.queues, conns := t.grixo.conns } }) ∧
    ((∃ x ∈ (s.queue (vfCtx v) q).started, x.done = false) →
      ∃ t, exec (.queueDestroy v) s = .next t ∧ t.queue (vfCtx v) q = { s.queue (vfCtx v) q with
          state := .destroying, fetched := [], destroyCmd := some (Cmd.id e) } ∧ (t.vf v).running = some e ∧
        t = { s with host := t.host, grixo := { s.grixo with queues := t.grixo.queues } })) ∧
  (∀ (s : State) (c q : Nat), c < 16 → q < 64 → s.grixo.queues.length = 1024 → (s.queue c q).state = .destroying →
    ((∀ x ∈ (s.queue c q).started, x.done = true) →
      ∃ t, exec (.queueDestroyComplete c q) s = .next t ∧ t.queue c q = .reset ∧
        (∀ i x, (s.queue c q).conn = some i → s.conn? i = some x → t.conn? i = some { x with queue := 0xFF }) ∧
        t = { s with host := t.host, grixo := { s.grixo with queues := t.grixo.queues, conns := t.grixo.conns } }) ∧
    ((∃ x ∈ (s.queue c q).started, x.done = false) → exec (.queueDestroyComplete c q) s = .next s)) ∧
  (∀ (s : State) (v k : Nat) (e : Bytes) (rest : List Bytes) (w : WindowKey), s.Commands v 0x1A e rest →
    w = s.windowKey (vfCtx v) → s.grixo.windowKeys.length = 16 → w.draining = none →
    (leAt e 8 1 = 1 → k = (s.drawWindowKey w).1 →
      ∃ t, exec (.windowKeyReplace v) s = .next t ∧ t.windowKey (vfCtx v) = ⟨some k,
          w.current.map fun x => (x, 2), (w.current.toList ++ w.previous).take 16⟩ ∧
        (∀ d, d ≠ vfCtx v → t.windowKey d = s.windowKey d) ∧
        t = { s with set := t.set, setA := t.setA, setB := t.setB, slotB := t.slotB, recorder := t.recorder,
                     mgmt := t.mgmt, host := t.host, grixo := t.grixo, draws := s.draws + 1 }) ∧
    (leAt e 8 1 = 2 →
      ∃ t, exec (.windowKeyRevoke v) s = .next t ∧ t.windowKey (vfCtx v) = ⟨none,
          w.current.map fun x => (x, 2), (w.current.toList ++ w.previous).take 16⟩ ∧
        t = { s with set := t.set, setA := t.setA, setB := t.setB, slotB := t.slotB, recorder := t.recorder,
                     mgmt := t.mgmt, host := t.host, grixo := t.grixo })) ∧
  (∀ (s : State) (v : Nat) (e : Bytes) (rest : List Bytes), s.Commands v 0x1A e rest →
    (s.windowKey (vfCtx v)).draining.isSome = true →
    (leAt e 8 1 = 1 → exec (.windowKeyReplace v) s = .next ((s.taken v rest).complete v e 0x01200028 0 0)) ∧
    (leAt e 8 1 = 2 → exec (.windowKeyRevoke v) s = .next ((s.taken v rest).complete v e 0x01200028 0 0))) ∧
  (∀ (s : State) (c k : Nat), c < 16 → s.grixo.windowKeys.length = 16 → (s.windowKey c).draining = some (k, 0) →
    (s.grixo.conns.map Conn.index).Nodup →
    ∃ t, exec (.keyDrainLimit c) s = .next t ∧ t.windowKey c = { s.windowKey c with draining := none } ∧
      (∀ x ∈ s.grixo.conns, x.ctx = c → x.kind = 2 → x.underOldKey k = true →
        (t.conn? x.index).map Conn.state = some .closed) ∧
      (∀ x ∈ s.grixo.conns, x.ctx ≠ c ∨ x.kind ≠ 2 ∨ x.underOldKey k = false →
        ∃ y, t.conn? x.index = some y ∧ y = { x with resident := y.resident, intact := y.intact }) ∧
      t = { s with set := t.set, setA := t.setA, setB := t.setB, slotB := t.slotB, recorder := t.recorder,
                   mgmt := t.mgmt, ctxs := t.ctxs, grixo := t.grixo, out := t.out }) ∧
  (∀ (s : State) (v : Nat) (e : Bytes) (rest : List Bytes), s.Commands v 0x1B e rest → leAt e 24 8 % 64 = 0 →
    1 ≤ leAt e 32 4 → leAt e 32 4 ≤ 2 ^ 30 →
    ∀ x ∈ [(Instr.hostCopyToContext v, 1, [kindEvalKey]), (.hostCopyToHost v, 2, [kindEvalKey, kindOutput])],
      leAt e 8 1 = x.2.1 →
      (s.inRegion (vfCtx v) x.2.2 (leAt e 16 8) (leAt e 32 4) = true →
        exec x.1 s = .next (s.updVf v fun y => { y with fetched := rest, running := some e, moved := 0 })) ∧
      (s.inRegion (vfCtx v) x.2.2 (leAt e 16 8) (leAt e 32 4) = false →
        exec x.1 s = .next ((s.taken v rest).complete v e 0x01210018 0 0))) ∧
  (∀ (s : State) (v stopped n code : Nat) (e data : Bytes), (s.vf v).running = some e → Cmd.opcode e = 0x1B →
    ((s.furled = false ∧ n = leAt e 32 4 ∧ code = 0) ∨
     (s.furled = true ∧ n = min stopped (leAt e 32 4) ∧ code = 0x0121001A)) →
    (leAt e 8 1 = 1 → s.MemOk → vfCtx v < s.ctxs.length →
      ∃ t l, exec (.hostCopyComplete v ⟨data, stopped⟩) s = .next t ∧
        t.readMem (vfCtx v) (leAt e 16 8) n = padTo n data ∧
        (∀ a, a < leAt e 16 8 ∨ leAt e 16 8 + n ≤ a →
          t.readMem (vfCtx v) a 1 = s.readMem (vfCtx v) a 1) ∧ (∀ d, d ≠ vfCtx v → t.ctx d = s.ctx d) ∧
        (t.vf v).held = (s.vf v).held ++ s.completion e code n 0 :: l ∧ (t.vf v).running = none ∧
        t = { s with host := t.host, ctxs := t.ctxs }) ∧
    (leAt e 8 1 = 2 →
      ∃ t l, exec (.hostCopyComplete v ⟨data, stopped⟩) s = .next t ∧
        t.out = s.out ++ [.hostWrite (s.ctxSet (vfCtx v)).endpoint (vfCtx v) (leAt e 24 8)
          (s.readMem (vfCtx v) (leAt e 16 8) n)] ∧
        (t.vf v).held = (s.vf v).held ++ s.completion e code n 0 :: l ∧ (t.vf v).running = none ∧
        (∀ c a n, t.readMem c a n = s.readMem c a n) ∧ t = { s with host := t.host, ctxs := t.ctxs, out := t.out })) ∧
  (∀ (s : State) (c q n code : Nat) (e : Bytes) (rest : List (Nat × Bytes)) (w : WorkQueue), w = s.queue c q →
    w.state = .active → w.held.length < 64 → w.fetched = (n, e) :: rest → s.mayStart c e = true → w.dead = false →
    ((Wqe.opcode e = 0 ∧ s.entryCode c w e = none ∧ code = 0) ∨ s.entryCode c w e = some code) →
    ∀ x ∈ [(Instr.wqeNop c q, Wqe.opcode e = 0 ∨ 4 < Wqe.opcode e), (.wqeSend c q, Wqe.opcode e = 1),
           (.wqeRecv c q, Wqe.opcode e = 2), (.wqeWrite c q, Wqe.opcode e = 3), (.wqeRead c q, Wqe.opcode e = 4),
           (.wqeWaitSatisfied c q, Wqe.wait e = true)], x.2 →
      (w.started = [] → exec x.1 s = .next (s.updQueue c q fun w => { w with
        fetched := rest, started := [], startedCount := w.startedCount + 1, count := (w.count + 1) % 2 ^ 32
        held := if Wqe.signal e || code != 0 then
          w.held ++ [queueCompletion q e code 0 ((w.count + 1) % 2 ^ 32)] else w.held })) ∧
      (∀ y, w.started.head? = some y → y.done = false → exec x.1 s = .next (s.updQueue c q fun w => { w with
        fetched := rest, started := w.started ++ [⟨n, e, true, BitVec.ofNat 32 code, 0, 0⟩]
        startedCount := w.startedCount + 1 }))) ∧
  (∀ (s : State) (c q n : Nat) (e : Bytes) (rest : List (Nat × Bytes)) (w : WorkQueue), w = s.queue c q →
    w.state = .active → w.held.length < 64 → w.fetched = (n, e) :: rest → s.mayStart c e = true → w.dead = false →
    s.entryCode c w e = none → (∀ y, w.started.head? = some y → y.done = false) →
    (Wqe.opcode e = 2 →
      ∀ x ∈ [(Instr.wqeRecv c q, true), (.wqeWaitSatisfied c q, Wqe.wait e)], x.2 = true →
        exec x.1 s = .next (s.updQueue c q fun w => { w with
          fetched := rest, started := w.started ++ [⟨n, e, false, 0, 0, w.recvCount + 1⟩]
          startedCount := w.startedCount + 1, recvCount := w.recvCount + 1 })) ∧
    (∀ x ∈ [(Instr.wqeSend c q, 1), (.wqeWrite c q, 3), (.wqeRead c q, 4)], Wqe.opcode e = x.2 →
      ∀ i u k, w.conn = some i → s.readyToSend i = (true, u) → u.conn? i = some k → 64 * c + q < s.grixo.queues.length →
      (∀ y ∈ k.tx ++ k.waiting, y.type = 4 ∨ y.id < k.txNext) →
      ∃ t y, exec x.1 s = .next t ∧ t.conn? i = some y ∧
        (t.queue c q).started = w.started ++ [⟨n, e, false, 0, 0, 0⟩] ∧ (t.queue c q).fetched = rest ∧
        (t.queue c q).count = w.count ∧ y.txNext = k.txNext + 1 ∧
        (∃ m ∈ y.tx, m.id = k.txNext ∧ m.type = (if x.2 = 1 then 1 else if x.2 = 3 then 2 else 3) ∧
          (x.2 ≠ 4 → m.data = s.readMem c (Wqe.localAddr e) (Wqe.length e) ∧ m.entry = some (q, n)) ∧
          (x.2 = 4 → m.data = beBytes 4 (Wqe.length e) ++ zeros 12) ∧
          (x.2 ≠ 1 → m.key = Wqe.remoteKey e ∧ m.addr = Wqe.remoteAddr e)) ∧
        (x.2 = 4 → ⟨k.txNext, Wqe.length e, Wqe.localAddr e, q, n, [], false⟩ ∈ y.reads) ∧
        ((s.conn? i).map Conn.resident = some true → t = { s with ctxs := t.ctxs, grixo := t.grixo, out := t.out }) ∧
        t = { s with set := t.set, setA := t.setA, setB := t.setB, slotB := t.slotB, recorder := t.recorder,
                     mgmt := t.mgmt, ctxs := t.ctxs, grixo := t.grixo, out := t.out }) ∧
    (∀ x ∈ [(Instr.wqeSend c q, 1), (.wqeWrite c q, 3), (.wqeRead c q, 4)], Wqe.opcode e = x.2 →
      ∀ i u, w.conn = some i → s.readyToSend i = (false, u) → exec x.1 s = .next u)) ∧
  (∀ (s : State) (c q n : Nat) (x : StartedEntry) (r : List StartedEntry) (w : WorkQueue), w = s.queue c q →
    w.started = x :: r → x.done = true → x.entry = n → w.dead = false → w.state = .active →
    (∀ y, r.head? = some y → y.done = false) →
    exec (.wqeComplete c q n) s = .next (s.updQueue c q fun w => { w with
      started := r, count := (w.count + 1) % 2 ^ 32
      held := if Wqe.signal x.bytes || x.status != 0 then
        w.held ++ [queueCompletion q x.bytes x.status.toNat x.moved ((w.count + 1) % 2 ^ 32)] else w.held }))

/-- RX_SEND_PACKET, RX_WRITE_PACKET, RX_READ_REQ, RX_READ_RESP, RX_ACK, RX_CREDIT, RX_CONN_REQ, RX_CONN_ACCEPT,
RX_CONN_REFUSE, RX_CONN_CLOSE, RX_PROBE, RX_PROBE_REPLY (R264 to R275, R283, R284, R289 to R291, R294, R295, R354): a
received frame is checked in order and dropped with the count of the check it fails; one that passes places its bytes,
acknowledges, credits or changes its connection's state; a sub-port that does not listen takes none (log entry 55). -/
def Obligations.PacketsAreReceived : Prop :=
  (∀ (s u : State) (l sp now : Nat) (fd fs fr a p : Bytes), u = s.at now →
    ∀ i ∈ [(Instr.rxSendPacket l fd fs fr now, 1, 0), (.rxWritePacket l fd fs fr now, 2, 0),
        (.rxReadReq l fd fs fr now, 3, 0), (.rxReadResp l fd fs fr now, 4, 0), (.rxAck l fd fs fr now, 5, 0),
        (.rxCredit l fd fs fr now, 6, 0), (.rxConnReq l fd fs fr now, 7, 1), (.rxConnAccept l fd fs fr now, 7, 2),
        (.rxConnRefuse l fd fs fr now, 7, 3), (.rxConnClose l fd fs fr now, 7, 4), (.rxProbe l fd fs fr now, 7, 5),
        (.rxProbeReply l fd fs fr now, 7, 6)],
    (s.listens l = false → exec i.1 s = .next u) ∧
    (s.listens l = true → s.datagram l (fd ++ fs ++ fr) = none →
      exec i.1 s = .next (if s.resolution l (fd ++ fs ++ fr) = .no then u.dropAt l else u)) ∧
    (s.listens l = true → s.datagram l (fd ++ fs ++ fr) = some (a, sp, p) →
      (packetShape p = false → exec i.1 s = .next (u.dropAt l)) ∧
      (packetShape p = true → Packet.type p = i.2.1 → (i.2.1 = 7 → Packet.ctrlSub (Packet.body p) = i.2.2) → i.2.2 ≠ 1 →
        ((∀ c, s.conn? (Packet.dstConn p) = some c → connHoist c.index ≠ l / 32) → exec i.1 s = .next (u.dropAt l)) ∧
        (∀ c, s.conn? (Packet.dstConn p) = some c → connHoist c.index = l / 32 →
          (c.resident = false → s.missUsed c.ctx (connHoist c.index) + p.length ≤ s.missShare c.ctx (connHoist c.index) →
            exec i.1 s = .next (u.updConn c.index fun c => { c with missQueue := c.missQueue ++ [(l, a, sp, p)] })) ∧
          (c.resident = false → s.missShare c.ctx (connHoist c.index) < s.missUsed c.ctx (connHoist c.index) + p.length →
            exec i.1 s = .next (u.dropOp l c 0x05200027)) ∧
          (c.resident = true → (c.state ≠ .requesting ∨ (i.2.2 ≠ 2 ∧ i.2.2 ≠ 3)) →
            (c.checkSix p a sp = false → exec i.1 s = .next (u.invalid l c)) ∧
            (c.checkSix p a sp = true → s.openOn c p = none → exec i.1 s = .next (u.tagFailed c))))))) ∧
  (∀ (s u : State) (l now : Nat) (fd fs fr p body : Bytes) (c : Conn), u = s.at now → s.Gets (fd ++ fs ++ fr) p l c body →
    dataShape c.kind p body = false →
    ∀ i ∈ [(Instr.rxSendPacket l fd fs fr now, 1), (.rxWritePacket l fd fs fr now, 2), (.rxReadReq l fd fs fr now, 3),
        (.rxReadResp l fd fs fr now, 4)],
      Packet.type p = i.2 → exec i.1 s = .next (u.dropAt l)) ∧
  (∀ (s u : State) (l now i id : Nat) (fd fs fr p body : Bytes) (c : Conn) (b : List Nat) (o : Option RxMsg), u = s.at now →
    s.Gets (fd ++ fs ++ fr) p l c body → Packet.type p = 1 → dataShape c.kind p body = true → i = Packet.index p →
    id = Packet.msgId p → c.rxCum ≤ id → id ≤ c.rxCum + 255 → o = c.rx.find? (fun m => m.id == id) →
    (∀ m, o = some m → m.last = Packet.last p ∧ m.type = 1 ∧ i ∉ m.bits) →
    (o = none → s.trackerFree c.ctx (connHoist c.index) = true) →
    takeFrom c.outBucket (creditsFor (Packet.length p)) = some b →
    (c.kind = 1 → s.landingCut c = true → exec (.rxSendPacket l fd fs fr now) s = .next u) ∧
    (c.kind = 1 → s.landingCut c = false →
      ∃ t y, exec (.rxSendPacket l fd fs fr now) s = .next t ∧ t.conn? c.index = some y ∧ y.outBucket = b ∧
      (∃ m ∈ y.rx, m.id = id ∧ m.type = 1 ∧ m.bits = (o.map RxMsg.bits).getD [] ++ [i] ∧
        m.parts = (o.map RxMsg.parts).getD [] ++ [(i, body)] ∧
        (m.complete = true ↔ ∀ k, k ≤ m.last → k ∈ m.bits) ∧
        m.carve = (if m.complete then roundUp (m.parts.map fun x => x.2.length).sum 4096 else 8192 * (m.last + 1)) ∧
        t.grixo.arrived = s.grixo.arrived ++ if m.complete then [(c.index, id)] else []) ∧
      (∀ d x n, t.readMem d x n = s.readMem d x n) ∧
      t = { u with set := t.set, setA := t.setA, setB := t.setB, slotB := t.slotB, recorder := t.recorder,
                   mgmt := t.mgmt, ctxs := t.ctxs, grixo := t.grixo, out := t.out }) ∧
    (∀ x, c.kind = 2 → s.recvFor c (Packet.keyOrSeq p) = some x → 8192 * i + body.length ≤ Wqe.length x.bytes →
      s.MemOk → c.ctx < s.ctxs.length →
      ∃ t y, exec (.rxSendPacket l fd fs fr now) s = .next t ∧ t.conn? c.index = some y ∧ y.outBucket = b ∧
        t.readMem c.ctx (Wqe.localAddr x.bytes + 8192 * i) body.length = body ∧
        (∀ n, n < Wqe.localAddr x.bytes + 8192 * i ∨ Wqe.localAddr x.bytes + 8192 * i + body.length ≤ n →
          t.readMem c.ctx n 1 = s.readMem c.ctx n 1) ∧
        (o = none → Packet.last p = 0 →
          (∀ y ∈ s.grixo.conns, y.waiting = [] ∨ y.resident = true ∨ y.intact = true) →
          { x with done := true, status := 0, moved := body.length } ∈ (t.queue c.ctx c.queue).started) ∧
        t = { u with set := t.set, setA := t.setA, setB := t.setB, slotB := t.slotB, recorder := t.recorder,
                     mgmt := t.mgmt, ctxs := t.ctxs, grixo := t.grixo, out := t.out })) ∧
  (∀ (s u : State) (l now id : Nat) (fd fs fr p body : Bytes) (c : Conn), u = s.at now → s.Gets (fd ++ fs ++ fr) p l c body →
    dataShape c.kind p body = true → id = Packet.msgId p → c.rxCum ≤ id → id ≤ c.rxCum + 255 →
    c.rx.find? (fun m => m.id == id) = none → s.trackerFree c.ctx (connHoist c.index) = true →
    (∀ b, Packet.type p = 2 → takeFrom c.outBucket (creditsFor (Packet.length p)) = some b →
      (s.windowKey c.ctx).current = some (Packet.keyOrSeq p) →
      s.inRegion c.ctx [kindEvalKey] (Packet.offset p) (Packet.length p) = true → s.MemOk → c.ctx < s.ctxs.length →
      ∃ t y, exec (.rxWritePacket l fd fs fr now) s = .next t ∧ t.conn? c.index = some y ∧ y.outBucket = b ∧
        t.readMem c.ctx (Packet.offset p) body.length = body ∧
        (∀ n, n < Packet.offset p ∨ Packet.offset p + body.length ≤ n → t.readMem c.ctx n 1 = s.readMem c.ctx n 1) ∧
        (∀ d n k, d ≠ c.ctx → t.readMem d n k = s.readMem d n k) ∧
        t = { u with set := t.set, setA := t.setA, setB := t.setB, slotB := t.slotB, recorder := t.recorder,
                     mgmt := t.mgmt, ctxs := t.ctxs, grixo := t.grixo, out := t.out }) ∧
    (∀ b len, Packet.type p = 3 → len = beAt body 0 4 → takeFrom c.outBucket (creditsFor len) = some b →
      (s.windowKey c.ctx).current = some (Packet.keyOrSeq p) →
      s.inRegion c.ctx [kindEvalKey, kindOutput] (Packet.offset p) len = true →
      (∀ m ∈ c.tx ++ c.waiting, m.type = 4 → m.id ≠ id) →
      ∃ t y, exec (.rxReadReq l fd fs fr now) s = .next t ∧ t.conn? c.index = some y ∧ y.outBucket = b ∧
        (∃ m ∈ y.tx ++ y.waiting, m.id = id ∧ m.type = 4 ∧ m.addr = Packet.offset p ∧ m.data.length = len ∧
          m.packets.length = ceilDiv len 8192 ∧
          ∀ k q, m.packets[k]? = some q → q.sent = true →
            slice m.data (8192 * k) 8192 = s.readMem c.ctx (Packet.offset p + 8192 * k) (min 8192 (len - 8192 * k))) ∧
        (∀ d n k, t.readMem d n k = s.readMem d n k) ∧
        t = { u with set := t.set, setA := t.setA, setB := t.setB, slotB := t.slotB, recorder := t.recorder,
                     mgmt := t.mgmt, ctxs := t.ctxs, grixo := t.grixo, out := t.out }) ∧
    (∀ i ∈ [(Instr.rxWritePacket l fd fs fr now, 2, Packet.length p), (.rxReadReq l fd fs fr now, 3, beAt body 0 4)],
      Packet.type p = i.2.1 → takeFrom c.outBucket (creditsFor i.2.2) ≠ none →
      (s.windowKey c.ctx).current ≠ some (Packet.keyOrSeq p) →
      ((s.windowKey c.ctx).draining.map Prod.fst) ≠ some (Packet.keyOrSeq p) →
      ∃ t k, exec i.1 s = .next t ∧ (t.conn? c.index).map Conn.state = some .failed ∧
        t.grixo.closing = s.grixo.closing ++ [k] ∧ k.conn.index = c.index ∧ k.reason = 0x05200020 ∧
        (∀ d n k, t.readMem d n k = s.readMem d n k) ∧
        t = { u with set := t.set, setA := t.setA, setB := t.setB, slotB := t.slotB, recorder := t.recorder,
                     mgmt := t.mgmt, ctxs := t.ctxs, grixo := t.grixo, out := t.out })) ∧
  (∀ (s u : State) (l now : Nat) (fd fs fr p body : Bytes) (c : Conn), u = s.at now → s.Gets (fd ++ fs ++ fr) p l c body →
    dataShape c.kind p body = true → Packet.msgId p < c.rxCum →
    ∀ i ∈ [(Instr.rxSendPacket l fd fs fr now, 1), (.rxWritePacket l fd fs fr now, 2), (.rxReadReq l fd fs fr now, 3)],
      Packet.type p = i.2 →
      ∃ t, exec i.1 s = .next t ∧ (∀ d n k, t.readMem d n k = s.readMem d n k) ∧
        t = { u with set := t.set, setA := t.setA, setB := t.setB, slotB := t.slotB, recorder := t.recorder,
                     mgmt := t.mgmt, ctxs := t.ctxs, grixo := t.grixo, out := t.out }) ∧
  (∀ (s u : State) (l now i : Nat) (fd fs fr p body : Bytes) (c : Conn) (r : OutRead), u = s.at now → s.Gets (fd ++ fs ++ fr) p l c body →
    Packet.type p = 4 → dataShape c.kind p body = true → c.reads.find? (fun r => r.id == Packet.msgId p) = some r →
    i = Packet.index p → Packet.last p = ceilDiv r.length 8192 - 1 → (i = Packet.last p → body.length = r.length - 8192 * i) →
    r.done = false → i ∉ r.bits → s.MemOk → c.ctx < s.ctxs.length →
    ∃ t, exec (.rxReadResp l fd fs fr now) s = .next t ∧ t.readMem c.ctx (r.dest + 8192 * i) body.length = body ∧
      (∀ n, n < r.dest + 8192 * i ∨ r.dest + 8192 * i + body.length ≤ n → t.readMem c.ctx n 1 = s.readMem c.ctx n 1) ∧
      (∀ x ∈ (s.queue c.ctx r.queue).started, x.entry = r.entry → x.done = false →
        (∀ k, k ≤ Packet.last p → k = i ∨ k ∈ r.bits) →
        (∀ y ∈ s.grixo.conns, y.waiting = [] ∨ y.resident = true ∨ y.intact = true) →
        { x with done := true, status := 0, moved := r.length } ∈ (t.queue c.ctx r.queue).started) ∧
      t = { u with set := t.set, setA := t.setA, setB := t.setB, slotB := t.slotB, recorder := t.recorder,
                   mgmt := t.mgmt, ctxs := t.ctxs, grixo := t.grixo, out := t.out }) ∧
  (∀ (s u : State) (l now : Nat) (fd fs fr p body : Bytes) (c : Conn), u = s.at now → s.Gets (fd ++ fs ++ fr) p l c body →
    (Packet.type p = 5 → ackShape body = true →
      ∃ t y, exec (.rxAck l fd fs fr now) s = .next t ∧ t.conn? c.index = some y ∧ y.state = .open ∧
        y.rxCtrl = max c.rxCtrl (Packet.ctrlSeq p) ∧
        (∀ m ∈ y.tx, ∃ n, m = { n with packets := m.packets, data := m.data } ∧
          (n ∈ c.waiting ∨ (n ∈ c.tx ∧ ∃ q ∈ m.packets, q.acked = false))) ∧
        (∀ m ∈ c.tx, m.type ≠ 4 → m.id < beAt body 0 4 → (∀ q ∈ m.packets, q.sent = true) →
          (∀ n ∈ c.tx, n.id = m.id → n = m) → (∀ n ∈ c.waiting, n.id ≠ m.id) → ∀ n ∈ y.tx, n.id ≠ m.id) ∧
        (∀ d n k, t.readMem d n k = s.readMem d n k) ∧
        t = { u with set := t.set, setA := t.setA, setB := t.setB, slotB := t.slotB, recorder := t.recorder,
                     mgmt := t.mgmt, ctxs := t.ctxs, grixo := t.grixo, out := t.out }) ∧
    (Packet.type p = 6 → body.length = 16 → 1 ≤ beAt body 12 1 → beAt body 12 1 ≤ 16 → zeroAt body 13 3 = true →
      ∃ t y, exec (.rxCredit l fd fs fr now) s = .next t ∧ t.conn? c.index = some y ∧
        y.inBase = (c.addGrant u.us (beAt body 8 4) (beAt body 12 1)).inBase ∧
        y.rxCtrl = max c.rxCtrl (Packet.ctrlSeq p) ∧
        (c.tx = [] → c.waiting = [] → c.ctrlQueue = [] →
          y.inBucket = (c.addGrant u.us (beAt body 8 4) (beAt body 12 1)).inBucket ∧
          t = { u with ctxs := t.ctxs, grixo := { s.grixo with conns := t.grixo.conns } }) ∧
        t = { u with set := t.set, setA := t.setA, setB := t.setB, slotB := t.slotB, recorder := t.recorder,
                     mgmt := t.mgmt, ctxs := t.ctxs, grixo := t.grixo, out := t.out }) ∧
    (Packet.type p = 7 → Packet.ctrlSub (Packet.body p) = 4 → body = Packet.body p → ctrlShape body = true →
      ∃ t y, exec (.rxConnClose l fd fs fr now) s = .next t ∧ t.conn? c.index = some y ∧ y.state = .closed ∧ y.tx = [] ∧
        y.waiting = [] ∧ y.reads = [] ∧ y.sendArea = [] ∧
        t = { u with set := t.set, setA := t.setA, setB := t.setB, slotB := t.slotB, recorder := t.recorder,
                     mgmt := t.mgmt, ctxs := t.ctxs, grixo := t.grixo }) ∧
    (Packet.type p = 7 → Packet.ctrlSub (Packet.body p) = 5 → body = Packet.body p → ctrlShape body = true →
      ∃ t y, exec (.rxProbe l fd fs fr now) s = .next t ∧ t.conn? c.index = some y ∧
        (∀ v lane, c.ctrlQueue = [] → u.putPacket c (Packet.path p) 7 0 (beBytes 6 c.txCtrl) 0 0 (ctrlPayload c 6 0) =
          some (v, lane) → t.out = v.out ∧ y.ctrlQueue = []) ∧
        (c.ctrlQueue = [] → u.putPacket c (Packet.path p) 7 0 (beBytes 6 c.txCtrl) 0 0 (ctrlPayload c 6 0) = none →
          t.out = s.out ∧ y.ctrlQueue = [(7, ctrlPayload c 6 0, some (Packet.path p))]) ∧
        t = { u with ctxs := t.ctxs, grixo := t.grixo, out := t.out }) ∧
    (Packet.type p = 7 → Packet.ctrlSub (Packet.body p) = 6 → body = Packet.body p → ctrlShape body = true →
      (c.pathStates.getD (Packet.path p) .new).suspended = true → (c.pathStates.getD (Packet.path p) .new).probing = true →
      u.aon ≤ (c.pathStates.getD (Packet.path p) .new).holdUntil →
      ∃ t y, exec (.rxProbeReply l fd fs fr now) s = .next t ∧ t.conn? c.index = some y ∧
        y.pathStates = updAt c.pathStates (Packet.path p) (fun _ => .new) ∧
        t = { u with set := t.set, setA := t.setA, setB := t.setB, slotB := t.slotB, recorder := t.recorder,
                     mgmt := t.mgmt, ctxs := t.ctxs, grixo := t.grixo })) ∧
  (∀ (s u : State) (l sp now : Nat) (fd fs fr a p body : Bytes), u = s.at now → s.listens l = true →
    s.datagram l (fd ++ fs ++ fr) = some (a, sp, p) → packetShape p = true → Packet.type p = 7 → body = Packet.body p →
    Packet.ctrlSub body = 1 → ctrlShape body = true →
    (∀ c, s.conn? (Packet.dstConn p) = some c → connHoist c.index = l / 32 → c.resident = true → a = c.remoteAddr →
      Packet.srcConn p = c.remoteConn → Packet.enc p = c.enc → (Packet.ctrlEnc body == 1) = c.enc → c.state = .listen →
      (openPacket c.enc (s.reqKey c p body) 0 p).isSome = true →
      ∃ t y, exec (.rxConnReq l fd fs fr now) s = .next t ∧ t.conn? c.index = some y ∧ y.state = .open ∧
        y.remoteGen = Packet.ctrlGen body ∧ y.remotePaths = Packet.ctrlPaths body ∧ y.rxCum = Packet.ctrlFirst body ∧
        y.txNext = c.first ∧ y.txOldest = c.first ∧ y.tx = [] ∧ y.rx = [] ∧ y.accepted = body ∧
        t = { u with ctxs := t.ctxs, grixo := t.grixo, out := t.out }) ∧
    ((∀ c, s.conn? (Packet.dstConn p) = some c → connHoist c.index = l / 32 → c.resident = true ∧
        (a ≠ c.remoteAddr ∨ Packet.srcConn p ≠ c.remoteConn ∨ Packet.enc p ≠ c.enc ∨ (Packet.ctrlEnc body == 1) ≠ c.enc ∨
          (c.state ≠ .listen ∧ (c.state = .open → c.passive = true → c.accepted ≠ body)))) →
      ∀ o, o = s.laneOf (32768 * (l / 32) + Packet.dstConn p % 32768) (a.take 12 == mapped4 []) 0 →
        (o = none → exec (.rxConnReq l fd fs fr now) s = .next u) ∧
        (∀ lane, o = some lane →
          ∃ g, exec (.rxConnReq l fd fs fr now) s = .next { u with out := s.out ++ [.frame lane g] }))) ∧
  (∀ (s u : State) (l sp now : Nat) (fd fs fr a p body : Bytes) (c : Conn), u = s.at now → s.listens l = true →
    s.datagram l (fd ++ fs ++ fr) = some (a, sp, p) → packetShape p = true → Packet.type p = 7 → body = Packet.body p →
    ctrlShape body = true → s.conn? (Packet.dstConn p) = some c → connHoist c.index = l / 32 → c.resident = true →
    c.state = .requesting → Packet.gen p = c.gen → Packet.srcConn p = c.remoteConn → a = c.remoteAddr →
    Packet.enc p = c.enc → (s.openOn c p).isSome = true →
    (Packet.ctrlSub body = 2 → sp = Packet.ctrlSport body + Packet.path p → Packet.path p < Packet.ctrlPaths body →
      (Packet.ctrlEnc body == 1) = c.enc →
      ∃ t y, exec (.rxConnAccept l fd fs fr now) s = .next t ∧ t.conn? c.index = some y ∧ y.state = .open ∧
        y.remoteGen = Packet.ctrlGen body ∧ y.remotePaths = Packet.ctrlPaths body ∧
        y.remoteSport = Packet.ctrlSport body ∧ y.rxCum = Packet.ctrlFirst body ∧ y.txNext = c.first ∧ y.tx = [] ∧
        t = { u with ctxs := t.ctxs, grixo := t.grixo }) ∧
    (Packet.ctrlSub body = 3 →
      ∃ t y, exec (.rxConnRefuse l fd fs fr now) s = .next t ∧ t.conn? c.index = some y ∧ y.state = .failed ∧ y.tx = [] ∧
        t = { u with set := t.set, setA := t.setA, setB := t.setB, slotB := t.slotB, recorder := t.recorder,
                     mgmt := t.mgmt, ctxs := t.ctxs, grixo := t.grixo }))

-- The registers of a virtual function (R309 to R317)

/-- CMD_DOORBELL, WQ_DOORBELL, CMD_RING_ENABLE, CMD_RING_DISABLE, AWAKE_CLAIM_SET, AWAKE_CLAIM_CLEAR, ERROR_STATUS_CLEAR,
COMPLETION_HEAD_WRITE, VF_REGISTER_WRITE, COMPLETION_POST, HOST_ACCESS_FAILURE (R309 to R317, R412, R421): a doorbell's entries are
fetched from HEAD on; a bad access is recorded and discarded; completions are posted while the ring has room; a failure of host memory
stops what it struck. -/
def Obligations.HostRegistersAct : Prop :=
  (∀ (s t : State) (v code : Nat), v < s.host.vfs.length → t = s.vfError v code →
    (t.vf v).err = true ∧ (t.vf v).errCode = BitVec.ofNat 32 code ∧
    (t.vf v).overflow = ((s.vf v).overflow || (s.vf v).err) ∧
    (t.vf v).errCount = min ((s.vf v).errCount + 1) 0xFFFFFFFF ∧ t = { s with host := t.host, out := t.out }) ∧
  (∀ (s t : State) (v st a b : Nat) (e : Bytes), v < s.host.vfs.length → t = s.complete v e st a b →
    (t.vf v).running = none ∧ (∃ l, (t.vf v).held = (s.vf v).held ++ s.completion e st a b :: l) ∧
    t = { s with host := t.host }) ∧
  (∀ (s : State) (v tail n : Nat) (l got : List Bytes) (x : Vf), x = s.vf v → v < s.host.vfs.length →
    (s.bound v = false → exec (.cmdDoorbell v tail l) s = .next (s.vfError v 0x01210010)) ∧
    (s.bound v = true → 4096 ≤ tail → exec (.cmdDoorbell v tail l) s = .next (s.vfError v 0x01210006)) ∧
    (s.bound v = true → tail < 4096 → (x.enable = false ∨ 2 ^ x.ringLog ≤ tail) →
      exec (.cmdDoorbell v tail l) s = .next (s.vfError v 0x01210013)) ∧
    (s.bound v = true → tail < 4096 → x.enable = true → tail < 2 ^ x.ringLog →
      n = min l.length ((tail + 2 ^ x.ringLog - x.head) % 2 ^ x.ringLog) → got = (l.take n).map (padTo 64) →
      (x.running.isSome = true ∨ ∀ e, (x.fetched ++ got).head? = some e → Cmd.malformed e = false) →
      ∃ t, exec (.cmdDoorbell v tail l) s = .next t ∧ t.vf v = { x with
          tail := tail, head := (x.head + n) % 2 ^ x.ringLog, fetchErr := false, fetched := x.fetched ++ got } ∧
        t = { s with host := t.host, ctxs := t.ctxs }) ∧
    (∀ e, s.bound v = true → tail < 4096 → x.enable = true → tail < 2 ^ x.ringLog →
      (tail + 2 ^ x.ringLog - x.head) % 2 ^ x.ringLog = 1 → l = [e] → x.running = none → x.fetched = [] →
      Cmd.malformed (padTo 64 e) = true →
      ∃ t, exec (.cmdDoorbell v tail l) s = .next t ∧ (t.vf v).fetched = [] ∧
        (t.vf v).held = x.held ++ [s.completion (padTo 64 e) 0x01210014 0 0])) ∧
  (∀ (s : State) (v q tail n : Nat) (l : List Bytes) (w : WorkQueue), w = s.queue (vfCtx v) q →
    (s.bound v = false → exec (.wqDoorbell v q tail l) s = .next (s.vfError v 0x01210010)) ∧
    (s.bound v = true → 65536 ≤ tail → exec (.wqDoorbell v q tail l) s = .next (s.vfError v 0x01210006)) ∧
    (s.bound v = true → tail < 65536 → (64 ≤ q ∨ w.state = .none) →
      exec (.wqDoorbell v q tail l) s = .next (s.vfError v 0x01210012)) ∧
    (s.bound v = true → tail < 65536 → q < 64 → w.state ≠ .none → 2 ^ w.ringLog ≤ tail →
      exec (.wqDoorbell v q tail l) s = .next (s.vfError v 0x01210013)) ∧
    (s.bound v = true → tail < 65536 → q < 64 → w.state = .destroying → tail < 2 ^ w.ringLog →
      exec (.wqDoorbell v q tail l) s = .next s) ∧
    (s.bound v = true → tail < 65536 → q < 64 → w.state = .active → tail < 2 ^ w.ringLog → w.dead = false →
      (∀ y, w.started.head? = some y → y.done = false) →
      n = min l.length ((tail + 2 ^ w.ringLog - w.head) % 2 ^ w.ringLog) →
      ∃ t, exec (.wqDoorbell v q tail l) s = .next t ∧ t.queue (vfCtx v) q = { w with
          tail := tail, head := (w.head + n) % 2 ^ w.ringLog, fetchErr := false
          fetched := w.fetched ++ ((l.take n).map (padTo 64)).zipIdx.map fun (e, i) =>
            (w.startedCount + w.fetched.length + i, e) } ∧
        t = { s with ctxs := t.ctxs, grixo := { s.grixo with queues := t.grixo.queues } })) ∧
  (∀ (s : State) (v : Nat) (x : Vf), x = s.vf v → v < s.host.vfs.length →
    (x.enable = false → 4 ≤ x.ringLog → x.ringLog ≤ 12 → 4 ≤ x.cplLog → x.cplLog ≤ 12 → x.ringBase ≠ 0 → x.cplBase ≠ 0 →
      exec (.cmdRingEnable v) s = .next (s.updVf v fun x => { x with enable := true })) ∧
    (x.enable = false → (x.ringLog < 4 ∨ 12 < x.ringLog ∨ x.cplLog < 4 ∨ 12 < x.cplLog ∨ x.ringBase = 0 ∨ x.cplBase = 0) →
      exec (.cmdRingEnable v) s = .next (s.vfError v 0x01210019)) ∧
    (x.enable = true → exec (.cmdRingEnable v) s = .next s) ∧
    (∃ t, exec (.cmdRingDisable v) s = .next t ∧ t = { s with host := t.host } ∧
      (x.fetched = [] → x.running = none → x.held = [] → t.vf v = { x with
        enable := false, head := 0, tail := 0, cplHead := 0, cplTail := 0, fetchErr := false }) ∧
      (x.fetched ≠ [] ∨ x.running ≠ none ∨ x.held ≠ [] → t.vf v = { x with enable := false })) ∧
    exec (.awakeClaimClear v) s = .next (s.updVf v fun x => { x with awake := false }) ∧
    ((s.bound v = false ∨ (s.power.furl = 0 ∧ s.power.entry = none ∧ s.power.committed = none)) →
      exec (.awakeClaimSet v) s = .next (s.updVf v fun x => { x with awake := true })) ∧
    (s.bound v = true → s.power.furl = 1 → s.power.entry = none → s.power.committed = none → s.power.waking = none →
      ∃ t, exec (.awakeClaimSet v) s = .next t ∧ (t.vf v).awake = true ∧
        t.power = { s.power with waking := some 6, wakeT0 := s.aon, latchedWakes := [] } ∧ t.hal = s.hal ∧
        t.keys = s.keys ∧ t.out = s.out) ∧
    (∀ e, s.bound v = true → s.power.entry = some e → e.target = 1 →
      ∃ t, exec (.awakeClaimSet v) s = .next t ∧ (t.vf v).awake = true ∧ t.power.entry = none ∧ t.hal = s.hal ∧
        t.out = s.out)) ∧
  (∀ (s : State) (v value : Nat),
    (value < 4 → exec (.errorStatusClear v value) s = .next (s.updVf v fun x => { x with
      err := x.err && !(value.testBit 0), overflow := x.overflow && !(value.testBit 1) })) ∧
    (4 ≤ value → exec (.errorStatusClear v value) s = .next (s.vfError v 0x01210006)) ∧
    (value < 4096 → exec (.completionHeadWrite v none value) s = .next (s.updVf v fun x => { x with
      cplHead := value, cplFailed := false })) ∧
    (4096 ≤ value → exec (.completionHeadWrite v none value) s = .next (s.vfError v 0x01210006)) ∧
    (∀ q, value < 65536 → q < 64 → s.bound v = true → exec (.completionHeadWrite v (some q) value) s =
      .next (s.updQueue (vfCtx v) q fun w => { w with cplHead := value, cplFailed := false })) ∧
    (∀ q, value < 65536 → q < 64 → s.bound v = false → exec (.completionHeadWrite v (some q) value) s = .next s)) ∧
  (∀ (s : State) (v o d : Nat),
    (∀ k, ((k ≠ 4 ∧ k ≠ 8) ∨ o % k ≠ 0) → exec (.vfRegisterWrite v o k d) s = .next (s.vfError v 0x01210008)) ∧
    (∀ code, o % 4 = 0 → s.regCheck v o (d % 2 ^ 32) = some code →
      exec (.vfRegisterWrite v o 4 d) s = .next (s.vfError v code)) ∧
    (o % 8 = 0 → s.regCheck v o (d % 2 ^ 32) = none → s.regCheck v (o + 4) (d / 2 ^ 32 % 2 ^ 32) = none →
      exec (.vfRegisterWrite v o 8 d) s = .next ((s.regWrite v o (d % 2 ^ 32)).regWrite v (o + 4) (d / 2 ^ 32 % 2 ^ 32))) ∧
    (d < 2 ^ 32 → s.regCheck v o d = none → o % 4 = 0 →
      (o = 0x20 → exec (.vfRegisterWrite v o 4 d) s = .next (s.updVf v fun x => { x with
        ringBase := x.ringBase / 2 ^ 32 * 2 ^ 32 + d })) ∧
      (o = 0x24 → exec (.vfRegisterWrite v o 4 d) s = .next (s.updVf v fun x => { x with
        ringBase := d * 2 ^ 32 + x.ringBase % 2 ^ 32 })) ∧
      (o = 0x28 → exec (.vfRegisterWrite v o 4 d) s = .next (s.updVf v fun x => { x with ringLog := d })) ∧
      (o = 0x30 → exec (.vfRegisterWrite v o 4 d) s = .next (s.updVf v fun x => { x with
        cplBase := x.cplBase / 2 ^ 32 * 2 ^ 32 + d })) ∧
      (o = 0x34 → exec (.vfRegisterWrite v o 4 d) s = .next (s.updVf v fun x => { x with
        cplBase := d * 2 ^ 32 + x.cplBase % 2 ^ 32 })) ∧
      (o = 0x38 → exec (.vfRegisterWrite v o 4 d) s = .next (s.updVf v fun x => { x with cplLog := d })) ∧
      (o = 0x0C → exec (.vfRegisterWrite v o 4 d) s = exec (.errorStatusClear v d) s) ∧
      (o = 0x40 → exec (.vfRegisterWrite v o 4 d) s = exec (.cmdDoorbell v d []) s) ∧
      (o = 0x48 → exec (.vfRegisterWrite v o 4 d) s = exec (.completionHeadWrite v none d) s) ∧
      (∀ q, q < 64 → (o = 0x1000 + 16 * q → exec (.vfRegisterWrite v o 4 d) s = exec (.wqDoorbell v q d []) s) ∧
        (o = 0x1008 + 16 * q → exec (.vfRegisterWrite v o 4 d) s = exec (.completionHeadWrite v (some q) d) s)) ∧
      (∀ n, n < 66 → o = 0x2008 + 16 * n → (s.vf v).pba.getD n false = false →
        exec (.vfRegisterWrite v o 4 d) s = .next (s.updVf v fun x => { x with
          msix := updAt x.msix n fun m => { m with data := d } })))) ∧
  (∀ (s : State) (v : Nat) (x : Vf) (k : Completion) (r : List Completion), x = s.vf v → v < s.host.vfs.length →
    s.bound v = true → x.held = k :: r →
    (x.cplFailed = false → (x.cplTail + 1) % 2 ^ x.cplLog ≠ x.cplHead → x.enable = true →
      ∃ t l, exec (.completionPost v none) s = .next t ∧ (t.vf v).held = r ∧
        (t.vf v).cplTail = (x.cplTail + 1) % 2 ^ x.cplLog ∧ (t.vf v).cplHead = x.cplHead ∧ t.out = s.out ++
          .hostWrite (s.ctxSet (vfCtx v)).endpoint (vfCtx v) (x.cplBase + 32 * x.cplTail) k.bytes :: l ∧
        (∀ m, x.msix[0]? = some m → l = if m.masked then [] else [.msix (vfEndpoint v) (vfCtx v) 0]) ∧
        t = { s with host := t.host, ctxs := t.ctxs, out := t.out }) ∧
    ((x.cplFailed = true ∨ (x.cplTail + 1) % 2 ^ x.cplLog = x.cplHead) → exec (.completionPost v none) s = .next s)) ∧
  (∀ (s : State) (v q : Nat) (w : WorkQueue) (k : Bytes) (r : List Bytes), w = s.queue (vfCtx v) q → s.bound v = true →
    w.held = k :: r → q < 64 →
    (w.cplFailed = false → (w.cplTail + 1) % 2 ^ w.cplLog ≠ w.cplHead →
      ∃ t l, exec (.completionPost v (some q)) s = .next t ∧ t.queue (vfCtx v) q = { w with
          held := r, cplTail := (w.cplTail + 1) % 2 ^ w.cplLog } ∧ t.out = s.out ++
          .hostWrite (s.ctxSet (vfCtx v)).endpoint (vfCtx v) (w.cplBase + 32 * w.cplTail) k :: l ∧
        (∀ m, (s.vf v).msix[w.vector]? = some m →
          l = if m.masked then [] else [.msix (vfEndpoint v) (vfCtx v) w.vector]) ∧
        t = { s with host := t.host, ctxs := t.ctxs, grixo := { s.grixo with queues := t.grixo.queues }, out := t.out }) ∧
    ((w.cplFailed = true ∨ (w.cplTail + 1) % 2 ^ w.cplLog = w.cplHead) →
      exec (.completionPost v (some q)) s = .next s)) ∧
  (∀ (s u : State) (v stopped : Nat) (q : Option Nat) (data : Bytes), v < s.host.vfs.length → u = s.vfError v 0x01210020 →
    (∀ k, s.failurePossible v k q = false → exec (.hostAccessFailure v k ⟨q, data, stopped⟩) s = .next s) ∧
    (s.failurePossible v 0 q = true →
      exec (.hostAccessFailure v 0 ⟨q, data, stopped⟩) s = .next (u.updVf v fun x => { x with fetchErr := true })) ∧
    (s.failurePossible v 2 q = true →
      exec (.hostAccessFailure v 2 ⟨q, data, stopped⟩) s = .next (u.updVf v fun x => { x with cplFailed := true })) ∧
    (∀ n, q = some n → s.failurePossible v 1 q = true → exec (.hostAccessFailure v 1 ⟨q, data, stopped⟩) s =
      .next (u.updQueue (vfCtx v) n fun w => { w with fetchErr := true })) ∧
    (∀ n, q = some n → s.failurePossible v 4 q = true → exec (.hostAccessFailure v 4 ⟨q, data, stopped⟩) s =
      .next (u.updQueue (vfCtx v) n fun w => { w with cplFailed := true })) ∧
    (∀ e, (s.vf v).running = some e → Cmd.opcode e = 0x1B → s.bound v = true →
      exec (.hostAccessFailure v 3 ⟨q, data, stopped⟩) s = .next
        ((u.moveCopy v e (min stopped (leAt e 32 4)) data).complete v e 0x01210020 (min stopped (leAt e 32 4)) 0)) ∧
    (∀ e, (s.vf v).running = some e → Cmd.opcode e = 0x01 → (s.plan (vfCtx v)).state = .checking → s.bound v = true →
      vfCtx v < s.plans.length →
      ∃ t, exec (.hostAccessFailure v 3 ⟨q, data, stopped⟩) s = .next t ∧ (t.plan (vfCtx v)).state = .none ∧ (t.vf v).running = none ∧
        t = { s with set := t.set, setA := t.setA, setB := t.setB, slotB := t.slotB, recorder := t.recorder,
                     journal := t.journal, mgmt := t.mgmt, host := t.host, plans := t.plans, out := t.out }))

-- Reset, and what every step keeps

/-- POWER-ON of a new module (R28, R69, R309, R321, R474): every cluster's owner is MAINTENANCE, every context is FREE, the
registers of every virtual function read their reset values, the Halyard is in START, entries hold their defaults, nothing waits, and
every context's memory is in canonical form. -/
def Obligations.ResetValues : Prop :=
  (∀ i, i < 64 → (State.reset.cluster i).owner = .maintenance ∧ (State.reset.cluster i).span = none) ∧
  (∀ c, c < 16 → (State.reset.ctxSet c).state = .free ∧ (State.reset.plan c).state = .none) ∧
  (∀ v, v < 32 → State.reset.bound v = false ∧ (State.reset.vf v).enable = false ∧ (State.reset.vf v).awake = false ∧
    (State.reset.vf v).err = false ∧ (State.reset.vf v).overflow = false ∧ (State.reset.vf v).errCode = 0 ∧
    (State.reset.vf v).errCount = 0 ∧ (State.reset.vf v).ringBase = 0 ∧ (State.reset.vf v).ringLog = 0 ∧
    (State.reset.vf v).cplBase = 0 ∧ (State.reset.vf v).cplLog = 0 ∧ (State.reset.vf v).head = 0 ∧
    (State.reset.vf v).cplHead = 0 ∧ (State.reset.vf v).cplTail = 0 ∧ (State.reset.vf v).msix.length = 66 ∧
    (∀ m ∈ (State.reset.vf v).msix, m.masked = true) ∧ (∀ b ∈ (State.reset.vf v).pba, b = false)) ∧
  State.reset.hal.state = .start ∧ State.reset.set.allowFreeRun = false ∧ State.reset.set.halyardOut = true ∧
  State.reset.set.tF1 = 30 ∧ State.reset.set.tF2 = 600 ∧ State.reset.set.tF3 = 0 ∧ State.reset.set.powerClassLimit = 3 ∧
  State.reset.set.ports.udpPort = 47400 ∧ State.reset.set.ports.rtoUs = 40 ∧ State.reset.set.ports.retxLimit = 8 ∧
  State.reset.set.ports.ackDelayNs = 4000 ∧ State.reset.set.ports.ackPackets = 64 ∧
  State.reset.set.ports.pathLossLimit = 8 ∧ State.reset.set.ports.pathHoldUs = 1000 ∧ State.reset.set.holdLimit = 0 ∧
  State.reset.rounds = [] ∧ State.reset.keys.slots = [] ∧ State.reset.mgmt.dtls = false ∧ State.reset.pending = [] ∧
  State.reset.MemOk

/-- Every step keeps every context's memory in canonical form, whatever it writes, loses or zeroes (R295, R357, R422; the
form is the model's, log entry 35). -/
def Obligations.EveryStepKeepsMemoryCanonical : Prop :=
  ∀ s t : State, s.MemOk → step s = .next t → t.MemOk
end

