-- ==== Sys2Proof/Laws/State.lean ====
section
/-!
SUPPORT. Laws/State.lean: what each named update of the state leaves alone, one lemma per field and update.
-/
namespace Sys2Proof.Machine

-- emit: may change out
@[simp] theorem State.emit_aon (s : State) (o : Output) : (s.emit o).aon = s.aon := rfl
@[simp] theorem State.emit_set (s : State) (o : Output) : (s.emit o).set = s.set := rfl
@[simp] theorem State.emit_setA (s : State) (o : Output) : (s.emit o).setA = s.setA := rfl
@[simp] theorem State.emit_setB (s : State) (o : Output) : (s.emit o).setB = s.setB := rfl
@[simp] theorem State.emit_slotB (s : State) (o : Output) : (s.emit o).slotB = s.slotB := rfl
@[simp] theorem State.emit_recorder (s : State) (o : Output) : (s.emit o).recorder = s.recorder := rfl
@[simp] theorem State.emit_hal (s : State) (o : Output) : (s.emit o).hal = s.hal := rfl
@[simp] theorem State.emit_start (s : State) (o : Output) : (s.emit o).start = s.start := rfl
@[simp] theorem State.emit_power (s : State) (o : Output) : (s.emit o).power = s.power := rfl
@[simp] theorem State.emit_sensors (s : State) (o : Output) : (s.emit o).sensors = s.sensors := rfl
@[simp] theorem State.emit_pack (s : State) (o : Output) : (s.emit o).pack = s.pack := rfl
@[simp] theorem State.emit_keys (s : State) (o : Output) : (s.emit o).keys = s.keys := rfl
@[simp] theorem State.emit_att (s : State) (o : Output) : (s.emit o).att = s.att := rfl
@[simp] theorem State.emit_lead (s : State) (o : Output) : (s.emit o).lead = s.lead := rfl
@[simp] theorem State.emit_journal (s : State) (o : Output) : (s.emit o).journal = s.journal := rfl
@[simp] theorem State.emit_mgmt (s : State) (o : Output) : (s.emit o).mgmt = s.mgmt := rfl
@[simp] theorem State.emit_host (s : State) (o : Output) : (s.emit o).host = s.host := rfl
@[simp] theorem State.emit_ctxs (s : State) (o : Output) : (s.emit o).ctxs = s.ctxs := rfl
@[simp] theorem State.emit_plans (s : State) (o : Output) : (s.emit o).plans = s.plans := rfl
@[simp] theorem State.emit_clusters (s : State) (o : Output) : (s.emit o).clusters = s.clusters := rfl
@[simp] theorem State.emit_drbgs (s : State) (o : Output) : (s.emit o).drbgs = s.drbgs := rfl
@[simp] theorem State.emit_rounds (s : State) (o : Output) : (s.emit o).rounds = s.rounds := rfl
@[simp] theorem State.emit_grixo (s : State) (o : Output) : (s.emit o).grixo = s.grixo := rfl
@[simp] theorem State.emit_stats (s : State) (o : Output) : (s.emit o).stats = s.stats := rfl
@[simp] theorem State.emit_pending (s : State) (o : Output) : (s.emit o).pending = s.pending := rfl
@[simp] theorem State.emit_draws (s : State) (o : Output) : (s.emit o).draws = s.draws := rfl

-- draw: may change draws
@[simp] theorem State.draw_aon (s : State) (n : Nat) : (s.draw n).2.aon = s.aon := rfl
@[simp] theorem State.draw_set (s : State) (n : Nat) : (s.draw n).2.set = s.set := rfl
@[simp] theorem State.draw_setA (s : State) (n : Nat) : (s.draw n).2.setA = s.setA := rfl
@[simp] theorem State.draw_setB (s : State) (n : Nat) : (s.draw n).2.setB = s.setB := rfl
@[simp] theorem State.draw_slotB (s : State) (n : Nat) : (s.draw n).2.slotB = s.slotB := rfl
@[simp] theorem State.draw_recorder (s : State) (n : Nat) : (s.draw n).2.recorder = s.recorder := rfl
@[simp] theorem State.draw_hal (s : State) (n : Nat) : (s.draw n).2.hal = s.hal := rfl
@[simp] theorem State.draw_start (s : State) (n : Nat) : (s.draw n).2.start = s.start := rfl
@[simp] theorem State.draw_power (s : State) (n : Nat) : (s.draw n).2.power = s.power := rfl
@[simp] theorem State.draw_sensors (s : State) (n : Nat) : (s.draw n).2.sensors = s.sensors := rfl
@[simp] theorem State.draw_pack (s : State) (n : Nat) : (s.draw n).2.pack = s.pack := rfl
@[simp] theorem State.draw_keys (s : State) (n : Nat) : (s.draw n).2.keys = s.keys := rfl
@[simp] theorem State.draw_att (s : State) (n : Nat) : (s.draw n).2.att = s.att := rfl
@[simp] theorem State.draw_lead (s : State) (n : Nat) : (s.draw n).2.lead = s.lead := rfl
@[simp] theorem State.draw_journal (s : State) (n : Nat) : (s.draw n).2.journal = s.journal := rfl
@[simp] theorem State.draw_mgmt (s : State) (n : Nat) : (s.draw n).2.mgmt = s.mgmt := rfl
@[simp] theorem State.draw_host (s : State) (n : Nat) : (s.draw n).2.host = s.host := rfl
@[simp] theorem State.draw_ctxs (s : State) (n : Nat) : (s.draw n).2.ctxs = s.ctxs := rfl
@[simp] theorem State.draw_plans (s : State) (n : Nat) : (s.draw n).2.plans = s.plans := rfl
@[simp] theorem State.draw_clusters (s : State) (n : Nat) : (s.draw n).2.clusters = s.clusters := rfl
@[simp] theorem State.draw_drbgs (s : State) (n : Nat) : (s.draw n).2.drbgs = s.drbgs := rfl
@[simp] theorem State.draw_rounds (s : State) (n : Nat) : (s.draw n).2.rounds = s.rounds := rfl
@[simp] theorem State.draw_grixo (s : State) (n : Nat) : (s.draw n).2.grixo = s.grixo := rfl
@[simp] theorem State.draw_stats (s : State) (n : Nat) : (s.draw n).2.stats = s.stats := rfl
@[simp] theorem State.draw_pending (s : State) (n : Nat) : (s.draw n).2.pending = s.pending := rfl
@[simp] theorem State.draw_out (s : State) (n : Nat) : (s.draw n).2.out = s.out := rfl

-- persist: may change set, setA, setB, slotB
@[simp] theorem State.persist_aon (s : State) (f : Settings → Settings) : (s.persist f).aon = s.aon := by unfold State.persist; dsimp only; split <;> rfl
@[simp] theorem State.persist_recorder (s : State) (f : Settings → Settings) : (s.persist f).recorder = s.recorder := by unfold State.persist; dsimp only; split <;> rfl
@[simp] theorem State.persist_hal (s : State) (f : Settings → Settings) : (s.persist f).hal = s.hal := by unfold State.persist; dsimp only; split <;> rfl
@[simp] theorem State.persist_start (s : State) (f : Settings → Settings) : (s.persist f).start = s.start := by unfold State.persist; dsimp only; split <;> rfl
@[simp] theorem State.persist_power (s : State) (f : Settings → Settings) : (s.persist f).power = s.power := by unfold State.persist; dsimp only; split <;> rfl
@[simp] theorem State.persist_sensors (s : State) (f : Settings → Settings) : (s.persist f).sensors = s.sensors := by unfold State.persist; dsimp only; split <;> rfl
@[simp] theorem State.persist_pack (s : State) (f : Settings → Settings) : (s.persist f).pack = s.pack := by unfold State.persist; dsimp only; split <;> rfl
@[simp] theorem State.persist_keys (s : State) (f : Settings → Settings) : (s.persist f).keys = s.keys := by unfold State.persist; dsimp only; split <;> rfl
@[simp] theorem State.persist_att (s : State) (f : Settings → Settings) : (s.persist f).att = s.att := by unfold State.persist; dsimp only; split <;> rfl
@[simp] theorem State.persist_lead (s : State) (f : Settings → Settings) : (s.persist f).lead = s.lead := by unfold State.persist; dsimp only; split <;> rfl
@[simp] theorem State.persist_journal (s : State) (f : Settings → Settings) : (s.persist f).journal = s.journal := by unfold State.persist; dsimp only; split <;> rfl
@[simp] theorem State.persist_mgmt (s : State) (f : Settings → Settings) : (s.persist f).mgmt = s.mgmt := by unfold State.persist; dsimp only; split <;> rfl
@[simp] theorem State.persist_host (s : State) (f : Settings → Settings) : (s.persist f).host = s.host := by unfold State.persist; dsimp only; split <;> rfl
@[simp] theorem State.persist_ctxs (s : State) (f : Settings → Settings) : (s.persist f).ctxs = s.ctxs := by unfold State.persist; dsimp only; split <;> rfl
@[simp] theorem State.persist_plans (s : State) (f : Settings → Settings) : (s.persist f).plans = s.plans := by unfold State.persist; dsimp only; split <;> rfl
@[simp] theorem State.persist_clusters (s : State) (f : Settings → Settings) : (s.persist f).clusters = s.clusters := by unfold State.persist; dsimp only; split <;> rfl
@[simp] theorem State.persist_drbgs (s : State) (f : Settings → Settings) : (s.persist f).drbgs = s.drbgs := by unfold State.persist; dsimp only; split <;> rfl
@[simp] theorem State.persist_rounds (s : State) (f : Settings → Settings) : (s.persist f).rounds = s.rounds := by unfold State.persist; dsimp only; split <;> rfl
@[simp] theorem State.persist_grixo (s : State) (f : Settings → Settings) : (s.persist f).grixo = s.grixo := by unfold State.persist; dsimp only; split <;> rfl
@[simp] theorem State.persist_stats (s : State) (f : Settings → Settings) : (s.persist f).stats = s.stats := by unfold State.persist; dsimp only; split <;> rfl
@[simp] theorem State.persist_pending (s : State) (f : Settings → Settings) : (s.persist f).pending = s.pending := by unfold State.persist; dsimp only; split <;> rfl
@[simp] theorem State.persist_draws (s : State) (f : Settings → Settings) : (s.persist f).draws = s.draws := by unfold State.persist; dsimp only; split <;> rfl
@[simp] theorem State.persist_out (s : State) (f : Settings → Settings) : (s.persist f).out = s.out := by unfold State.persist; dsimp only; split <;> rfl

-- updCtx: may change ctxs
@[simp] theorem State.updCtx_aon (s : State) (c : Nat) (f : Ctx → Ctx) : (s.updCtx c f).aon = s.aon := rfl
@[simp] theorem State.updCtx_set (s : State) (c : Nat) (f : Ctx → Ctx) : (s.updCtx c f).set = s.set := rfl
@[simp] theorem State.updCtx_setA (s : State) (c : Nat) (f : Ctx → Ctx) : (s.updCtx c f).setA = s.setA := rfl
@[simp] theorem State.updCtx_setB (s : State) (c : Nat) (f : Ctx → Ctx) : (s.updCtx c f).setB = s.setB := rfl
@[simp] theorem State.updCtx_slotB (s : State) (c : Nat) (f : Ctx → Ctx) : (s.updCtx c f).slotB = s.slotB := rfl
@[simp] theorem State.updCtx_recorder (s : State) (c : Nat) (f : Ctx → Ctx) : (s.updCtx c f).recorder = s.recorder := rfl
@[simp] theorem State.updCtx_hal (s : State) (c : Nat) (f : Ctx → Ctx) : (s.updCtx c f).hal = s.hal := rfl
@[simp] theorem State.updCtx_start (s : State) (c : Nat) (f : Ctx → Ctx) : (s.updCtx c f).start = s.start := rfl
@[simp] theorem State.updCtx_power (s : State) (c : Nat) (f : Ctx → Ctx) : (s.updCtx c f).power = s.power := rfl
@[simp] theorem State.updCtx_sensors (s : State) (c : Nat) (f : Ctx → Ctx) : (s.updCtx c f).sensors = s.sensors := rfl
@[simp] theorem State.updCtx_pack (s : State) (c : Nat) (f : Ctx → Ctx) : (s.updCtx c f).pack = s.pack := rfl
@[simp] theorem State.updCtx_keys (s : State) (c : Nat) (f : Ctx → Ctx) : (s.updCtx c f).keys = s.keys := rfl
@[simp] theorem State.updCtx_att (s : State) (c : Nat) (f : Ctx → Ctx) : (s.updCtx c f).att = s.att := rfl
@[simp] theorem State.updCtx_lead (s : State) (c : Nat) (f : Ctx → Ctx) : (s.updCtx c f).lead = s.lead := rfl
@[simp] theorem State.updCtx_journal (s : State) (c : Nat) (f : Ctx → Ctx) : (s.updCtx c f).journal = s.journal := rfl
@[simp] theorem State.updCtx_mgmt (s : State) (c : Nat) (f : Ctx → Ctx) : (s.updCtx c f).mgmt = s.mgmt := rfl
@[simp] theorem State.updCtx_host (s : State) (c : Nat) (f : Ctx → Ctx) : (s.updCtx c f).host = s.host := rfl
@[simp] theorem State.updCtx_plans (s : State) (c : Nat) (f : Ctx → Ctx) : (s.updCtx c f).plans = s.plans := rfl
@[simp] theorem State.updCtx_clusters (s : State) (c : Nat) (f : Ctx → Ctx) : (s.updCtx c f).clusters = s.clusters := rfl
@[simp] theorem State.updCtx_drbgs (s : State) (c : Nat) (f : Ctx → Ctx) : (s.updCtx c f).drbgs = s.drbgs := rfl
@[simp] theorem State.updCtx_rounds (s : State) (c : Nat) (f : Ctx → Ctx) : (s.updCtx c f).rounds = s.rounds := rfl
@[simp] theorem State.updCtx_grixo (s : State) (c : Nat) (f : Ctx → Ctx) : (s.updCtx c f).grixo = s.grixo := rfl
@[simp] theorem State.updCtx_stats (s : State) (c : Nat) (f : Ctx → Ctx) : (s.updCtx c f).stats = s.stats := rfl
@[simp] theorem State.updCtx_pending (s : State) (c : Nat) (f : Ctx → Ctx) : (s.updCtx c f).pending = s.pending := rfl
@[simp] theorem State.updCtx_draws (s : State) (c : Nat) (f : Ctx → Ctx) : (s.updCtx c f).draws = s.draws := rfl
@[simp] theorem State.updCtx_out (s : State) (c : Nat) (f : Ctx → Ctx) : (s.updCtx c f).out = s.out := rfl

-- updPlan: may change plans
@[simp] theorem State.updPlan_aon (s : State) (c : Nat) (f : PlanSlot → PlanSlot) : (s.updPlan c f).aon = s.aon := rfl
@[simp] theorem State.updPlan_set (s : State) (c : Nat) (f : PlanSlot → PlanSlot) : (s.updPlan c f).set = s.set := rfl
@[simp] theorem State.updPlan_setA (s : State) (c : Nat) (f : PlanSlot → PlanSlot) : (s.updPlan c f).setA = s.setA := rfl
@[simp] theorem State.updPlan_setB (s : State) (c : Nat) (f : PlanSlot → PlanSlot) : (s.updPlan c f).setB = s.setB := rfl
@[simp] theorem State.updPlan_slotB (s : State) (c : Nat) (f : PlanSlot → PlanSlot) : (s.updPlan c f).slotB = s.slotB := rfl
@[simp] theorem State.updPlan_recorder (s : State) (c : Nat) (f : PlanSlot → PlanSlot) : (s.updPlan c f).recorder = s.recorder := rfl
@[simp] theorem State.updPlan_hal (s : State) (c : Nat) (f : PlanSlot → PlanSlot) : (s.updPlan c f).hal = s.hal := rfl
@[simp] theorem State.updPlan_start (s : State) (c : Nat) (f : PlanSlot → PlanSlot) : (s.updPlan c f).start = s.start := rfl
@[simp] theorem State.updPlan_power (s : State) (c : Nat) (f : PlanSlot → PlanSlot) : (s.updPlan c f).power = s.power := rfl
@[simp] theorem State.updPlan_sensors (s : State) (c : Nat) (f : PlanSlot → PlanSlot) : (s.updPlan c f).sensors = s.sensors := rfl
@[simp] theorem State.updPlan_pack (s : State) (c : Nat) (f : PlanSlot → PlanSlot) : (s.updPlan c f).pack = s.pack := rfl
@[simp] theorem State.updPlan_keys (s : State) (c : Nat) (f : PlanSlot → PlanSlot) : (s.updPlan c f).keys = s.keys := rfl
@[simp] theorem State.updPlan_att (s : State) (c : Nat) (f : PlanSlot → PlanSlot) : (s.updPlan c f).att = s.att := rfl
@[simp] theorem State.updPlan_lead (s : State) (c : Nat) (f : PlanSlot → PlanSlot) : (s.updPlan c f).lead = s.lead := rfl
@[simp] theorem State.updPlan_journal (s : State) (c : Nat) (f : PlanSlot → PlanSlot) : (s.updPlan c f).journal = s.journal := rfl
@[simp] theorem State.updPlan_mgmt (s : State) (c : Nat) (f : PlanSlot → PlanSlot) : (s.updPlan c f).mgmt = s.mgmt := rfl
@[simp] theorem State.updPlan_host (s : State) (c : Nat) (f : PlanSlot → PlanSlot) : (s.updPlan c f).host = s.host := rfl
@[simp] theorem State.updPlan_ctxs (s : State) (c : Nat) (f : PlanSlot → PlanSlot) : (s.updPlan c f).ctxs = s.ctxs := rfl
@[simp] theorem State.updPlan_clusters (s : State) (c : Nat) (f : PlanSlot → PlanSlot) : (s.updPlan c f).clusters = s.clusters := rfl
@[simp] theorem State.updPlan_drbgs (s : State) (c : Nat) (f : PlanSlot → PlanSlot) : (s.updPlan c f).drbgs = s.drbgs := rfl
@[simp] theorem State.updPlan_rounds (s : State) (c : Nat) (f : PlanSlot → PlanSlot) : (s.updPlan c f).rounds = s.rounds := rfl
@[simp] theorem State.updPlan_grixo (s : State) (c : Nat) (f : PlanSlot → PlanSlot) : (s.updPlan c f).grixo = s.grixo := rfl
@[simp] theorem State.updPlan_stats (s : State) (c : Nat) (f : PlanSlot → PlanSlot) : (s.updPlan c f).stats = s.stats := rfl
@[simp] theorem State.updPlan_pending (s : State) (c : Nat) (f : PlanSlot → PlanSlot) : (s.updPlan c f).pending = s.pending := rfl
@[simp] theorem State.updPlan_draws (s : State) (c : Nat) (f : PlanSlot → PlanSlot) : (s.updPlan c f).draws = s.draws := rfl
@[simp] theorem State.updPlan_out (s : State) (c : Nat) (f : PlanSlot → PlanSlot) : (s.updPlan c f).out = s.out := rfl

-- updCluster: may change clusters
@[simp] theorem State.updCluster_aon (s : State) (k : Nat) (f : Cluster → Cluster) : (s.updCluster k f).aon = s.aon := rfl
@[simp] theorem State.updCluster_set (s : State) (k : Nat) (f : Cluster → Cluster) : (s.updCluster k f).set = s.set := rfl
@[simp] theorem State.updCluster_setA (s : State) (k : Nat) (f : Cluster → Cluster) : (s.updCluster k f).setA = s.setA := rfl
@[simp] theorem State.updCluster_setB (s : State) (k : Nat) (f : Cluster → Cluster) : (s.updCluster k f).setB = s.setB := rfl
@[simp] theorem State.updCluster_slotB (s : State) (k : Nat) (f : Cluster → Cluster) : (s.updCluster k f).slotB = s.slotB := rfl
@[simp] theorem State.updCluster_recorder (s : State) (k : Nat) (f : Cluster → Cluster) : (s.updCluster k f).recorder = s.recorder := rfl
@[simp] theorem State.updCluster_hal (s : State) (k : Nat) (f : Cluster → Cluster) : (s.updCluster k f).hal = s.hal := rfl
@[simp] theorem State.updCluster_start (s : State) (k : Nat) (f : Cluster → Cluster) : (s.updCluster k f).start = s.start := rfl
@[simp] theorem State.updCluster_power (s : State) (k : Nat) (f : Cluster → Cluster) : (s.updCluster k f).power = s.power := rfl
@[simp] theorem State.updCluster_sensors (s : State) (k : Nat) (f : Cluster → Cluster) : (s.updCluster k f).sensors = s.sensors := rfl
@[simp] theorem State.updCluster_pack (s : State) (k : Nat) (f : Cluster → Cluster) : (s.updCluster k f).pack = s.pack := rfl
@[simp] theorem State.updCluster_keys (s : State) (k : Nat) (f : Cluster → Cluster) : (s.updCluster k f).keys = s.keys := rfl
@[simp] theorem State.updCluster_att (s : State) (k : Nat) (f : Cluster → Cluster) : (s.updCluster k f).att = s.att := rfl
@[simp] theorem State.updCluster_lead (s : State) (k : Nat) (f : Cluster → Cluster) : (s.updCluster k f).lead = s.lead := rfl
@[simp] theorem State.updCluster_journal (s : State) (k : Nat) (f : Cluster → Cluster) : (s.updCluster k f).journal = s.journal := rfl
@[simp] theorem State.updCluster_mgmt (s : State) (k : Nat) (f : Cluster → Cluster) : (s.updCluster k f).mgmt = s.mgmt := rfl
@[simp] theorem State.updCluster_host (s : State) (k : Nat) (f : Cluster → Cluster) : (s.updCluster k f).host = s.host := rfl
@[simp] theorem State.updCluster_ctxs (s : State) (k : Nat) (f : Cluster → Cluster) : (s.updCluster k f).ctxs = s.ctxs := rfl
@[simp] theorem State.updCluster_plans (s : State) (k : Nat) (f : Cluster → Cluster) : (s.updCluster k f).plans = s.plans := rfl
@[simp] theorem State.updCluster_drbgs (s : State) (k : Nat) (f : Cluster → Cluster) : (s.updCluster k f).drbgs = s.drbgs := rfl
@[simp] theorem State.updCluster_rounds (s : State) (k : Nat) (f : Cluster → Cluster) : (s.updCluster k f).rounds = s.rounds := rfl
@[simp] theorem State.updCluster_grixo (s : State) (k : Nat) (f : Cluster → Cluster) : (s.updCluster k f).grixo = s.grixo := rfl
@[simp] theorem State.updCluster_stats (s : State) (k : Nat) (f : Cluster → Cluster) : (s.updCluster k f).stats = s.stats := rfl
@[simp] theorem State.updCluster_pending (s : State) (k : Nat) (f : Cluster → Cluster) : (s.updCluster k f).pending = s.pending := rfl
@[simp] theorem State.updCluster_draws (s : State) (k : Nat) (f : Cluster → Cluster) : (s.updCluster k f).draws = s.draws := rfl
@[simp] theorem State.updCluster_out (s : State) (k : Nat) (f : Cluster → Cluster) : (s.updCluster k f).out = s.out := rfl

-- updVf: may change host
@[simp] theorem State.updVf_aon (s : State) (v : Nat) (f : Vf → Vf) : (s.updVf v f).aon = s.aon := rfl
@[simp] theorem State.updVf_set (s : State) (v : Nat) (f : Vf → Vf) : (s.updVf v f).set = s.set := rfl
@[simp] theorem State.updVf_setA (s : State) (v : Nat) (f : Vf → Vf) : (s.updVf v f).setA = s.setA := rfl
@[simp] theorem State.updVf_setB (s : State) (v : Nat) (f : Vf → Vf) : (s.updVf v f).setB = s.setB := rfl
@[simp] theorem State.updVf_slotB (s : State) (v : Nat) (f : Vf → Vf) : (s.updVf v f).slotB = s.slotB := rfl
@[simp] theorem State.updVf_recorder (s : State) (v : Nat) (f : Vf → Vf) : (s.updVf v f).recorder = s.recorder := rfl
@[simp] theorem State.updVf_hal (s : State) (v : Nat) (f : Vf → Vf) : (s.updVf v f).hal = s.hal := rfl
@[simp] theorem State.updVf_start (s : State) (v : Nat) (f : Vf → Vf) : (s.updVf v f).start = s.start := rfl
@[simp] theorem State.updVf_power (s : State) (v : Nat) (f : Vf → Vf) : (s.updVf v f).power = s.power := rfl
@[simp] theorem State.updVf_sensors (s : State) (v : Nat) (f : Vf → Vf) : (s.updVf v f).sensors = s.sensors := rfl
@[simp] theorem State.updVf_pack (s : State) (v : Nat) (f : Vf → Vf) : (s.updVf v f).pack = s.pack := rfl
@[simp] theorem State.updVf_keys (s : State) (v : Nat) (f : Vf → Vf) : (s.updVf v f).keys = s.keys := rfl
@[simp] theorem State.updVf_att (s : State) (v : Nat) (f : Vf → Vf) : (s.updVf v f).att = s.att := rfl
@[simp] theorem State.updVf_lead (s : State) (v : Nat) (f : Vf → Vf) : (s.updVf v f).lead = s.lead := rfl
@[simp] theorem State.updVf_journal (s : State) (v : Nat) (f : Vf → Vf) : (s.updVf v f).journal = s.journal := rfl
@[simp] theorem State.updVf_mgmt (s : State) (v : Nat) (f : Vf → Vf) : (s.updVf v f).mgmt = s.mgmt := rfl
@[simp] theorem State.updVf_ctxs (s : State) (v : Nat) (f : Vf → Vf) : (s.updVf v f).ctxs = s.ctxs := rfl
@[simp] theorem State.updVf_plans (s : State) (v : Nat) (f : Vf → Vf) : (s.updVf v f).plans = s.plans := rfl
@[simp] theorem State.updVf_clusters (s : State) (v : Nat) (f : Vf → Vf) : (s.updVf v f).clusters = s.clusters := rfl
@[simp] theorem State.updVf_drbgs (s : State) (v : Nat) (f : Vf → Vf) : (s.updVf v f).drbgs = s.drbgs := rfl
@[simp] theorem State.updVf_rounds (s : State) (v : Nat) (f : Vf → Vf) : (s.updVf v f).rounds = s.rounds := rfl
@[simp] theorem State.updVf_grixo (s : State) (v : Nat) (f : Vf → Vf) : (s.updVf v f).grixo = s.grixo := rfl
@[simp] theorem State.updVf_stats (s : State) (v : Nat) (f : Vf → Vf) : (s.updVf v f).stats = s.stats := rfl
@[simp] theorem State.updVf_pending (s : State) (v : Nat) (f : Vf → Vf) : (s.updVf v f).pending = s.pending := rfl
@[simp] theorem State.updVf_draws (s : State) (v : Nat) (f : Vf → Vf) : (s.updVf v f).draws = s.draws := rfl
@[simp] theorem State.updVf_out (s : State) (v : Nat) (f : Vf → Vf) : (s.updVf v f).out = s.out := rfl

-- updRound: may change rounds
@[simp] theorem State.updRound_aon (s : State) (c t : Nat) (f : Round → Round) : (s.updRound c t f).aon = s.aon := rfl
@[simp] theorem State.updRound_set (s : State) (c t : Nat) (f : Round → Round) : (s.updRound c t f).set = s.set := rfl
@[simp] theorem State.updRound_setA (s : State) (c t : Nat) (f : Round → Round) : (s.updRound c t f).setA = s.setA := rfl
@[simp] theorem State.updRound_setB (s : State) (c t : Nat) (f : Round → Round) : (s.updRound c t f).setB = s.setB := rfl
@[simp] theorem State.updRound_slotB (s : State) (c t : Nat) (f : Round → Round) : (s.updRound c t f).slotB = s.slotB := rfl
@[simp] theorem State.updRound_recorder (s : State) (c t : Nat) (f : Round → Round) : (s.updRound c t f).recorder = s.recorder := rfl
@[simp] theorem State.updRound_hal (s : State) (c t : Nat) (f : Round → Round) : (s.updRound c t f).hal = s.hal := rfl
@[simp] theorem State.updRound_start (s : State) (c t : Nat) (f : Round → Round) : (s.updRound c t f).start = s.start := rfl
@[simp] theorem State.updRound_power (s : State) (c t : Nat) (f : Round → Round) : (s.updRound c t f).power = s.power := rfl
@[simp] theorem State.updRound_sensors (s : State) (c t : Nat) (f : Round → Round) : (s.updRound c t f).sensors = s.sensors := rfl
@[simp] theorem State.updRound_pack (s : State) (c t : Nat) (f : Round → Round) : (s.updRound c t f).pack = s.pack := rfl
@[simp] theorem State.updRound_keys (s : State) (c t : Nat) (f : Round → Round) : (s.updRound c t f).keys = s.keys := rfl
@[simp] theorem State.updRound_att (s : State) (c t : Nat) (f : Round → Round) : (s.updRound c t f).att = s.att := rfl
@[simp] theorem State.updRound_lead (s : State) (c t : Nat) (f : Round → Round) : (s.updRound c t f).lead = s.lead := rfl
@[simp] theorem State.updRound_journal (s : State) (c t : Nat) (f : Round → Round) : (s.updRound c t f).journal = s.journal := rfl
@[simp] theorem State.updRound_mgmt (s : State) (c t : Nat) (f : Round → Round) : (s.updRound c t f).mgmt = s.mgmt := rfl
@[simp] theorem State.updRound_host (s : State) (c t : Nat) (f : Round → Round) : (s.updRound c t f).host = s.host := rfl
@[simp] theorem State.updRound_ctxs (s : State) (c t : Nat) (f : Round → Round) : (s.updRound c t f).ctxs = s.ctxs := rfl
@[simp] theorem State.updRound_plans (s : State) (c t : Nat) (f : Round → Round) : (s.updRound c t f).plans = s.plans := rfl
@[simp] theorem State.updRound_clusters (s : State) (c t : Nat) (f : Round → Round) : (s.updRound c t f).clusters = s.clusters := rfl
@[simp] theorem State.updRound_drbgs (s : State) (c t : Nat) (f : Round → Round) : (s.updRound c t f).drbgs = s.drbgs := rfl
@[simp] theorem State.updRound_grixo (s : State) (c t : Nat) (f : Round → Round) : (s.updRound c t f).grixo = s.grixo := rfl
@[simp] theorem State.updRound_stats (s : State) (c t : Nat) (f : Round → Round) : (s.updRound c t f).stats = s.stats := rfl
@[simp] theorem State.updRound_pending (s : State) (c t : Nat) (f : Round → Round) : (s.updRound c t f).pending = s.pending := rfl
@[simp] theorem State.updRound_draws (s : State) (c t : Nat) (f : Round → Round) : (s.updRound c t f).draws = s.draws := rfl
@[simp] theorem State.updRound_out (s : State) (c t : Nat) (f : Round → Round) : (s.updRound c t f).out = s.out := rfl

-- updConn: may change grixo
@[simp] theorem State.updConn_aon (s : State) (i : Nat) (f : Conn → Conn) : (s.updConn i f).aon = s.aon := rfl
@[simp] theorem State.updConn_set (s : State) (i : Nat) (f : Conn → Conn) : (s.updConn i f).set = s.set := rfl
@[simp] theorem State.updConn_setA (s : State) (i : Nat) (f : Conn → Conn) : (s.updConn i f).setA = s.setA := rfl
@[simp] theorem State.updConn_setB (s : State) (i : Nat) (f : Conn → Conn) : (s.updConn i f).setB = s.setB := rfl
@[simp] theorem State.updConn_slotB (s : State) (i : Nat) (f : Conn → Conn) : (s.updConn i f).slotB = s.slotB := rfl
@[simp] theorem State.updConn_recorder (s : State) (i : Nat) (f : Conn → Conn) : (s.updConn i f).recorder = s.recorder := rfl
@[simp] theorem State.updConn_hal (s : State) (i : Nat) (f : Conn → Conn) : (s.updConn i f).hal = s.hal := rfl
@[simp] theorem State.updConn_start (s : State) (i : Nat) (f : Conn → Conn) : (s.updConn i f).start = s.start := rfl
@[simp] theorem State.updConn_power (s : State) (i : Nat) (f : Conn → Conn) : (s.updConn i f).power = s.power := rfl
@[simp] theorem State.updConn_sensors (s : State) (i : Nat) (f : Conn → Conn) : (s.updConn i f).sensors = s.sensors := rfl
@[simp] theorem State.updConn_pack (s : State) (i : Nat) (f : Conn → Conn) : (s.updConn i f).pack = s.pack := rfl
@[simp] theorem State.updConn_keys (s : State) (i : Nat) (f : Conn → Conn) : (s.updConn i f).keys = s.keys := rfl
@[simp] theorem State.updConn_att (s : State) (i : Nat) (f : Conn → Conn) : (s.updConn i f).att = s.att := rfl
@[simp] theorem State.updConn_lead (s : State) (i : Nat) (f : Conn → Conn) : (s.updConn i f).lead = s.lead := rfl
@[simp] theorem State.updConn_journal (s : State) (i : Nat) (f : Conn → Conn) : (s.updConn i f).journal = s.journal := rfl
@[simp] theorem State.updConn_mgmt (s : State) (i : Nat) (f : Conn → Conn) : (s.updConn i f).mgmt = s.mgmt := rfl
@[simp] theorem State.updConn_host (s : State) (i : Nat) (f : Conn → Conn) : (s.updConn i f).host = s.host := rfl
@[simp] theorem State.updConn_ctxs (s : State) (i : Nat) (f : Conn → Conn) : (s.updConn i f).ctxs = s.ctxs := rfl
@[simp] theorem State.updConn_plans (s : State) (i : Nat) (f : Conn → Conn) : (s.updConn i f).plans = s.plans := rfl
@[simp] theorem State.updConn_clusters (s : State) (i : Nat) (f : Conn → Conn) : (s.updConn i f).clusters = s.clusters := rfl
@[simp] theorem State.updConn_drbgs (s : State) (i : Nat) (f : Conn → Conn) : (s.updConn i f).drbgs = s.drbgs := rfl
@[simp] theorem State.updConn_rounds (s : State) (i : Nat) (f : Conn → Conn) : (s.updConn i f).rounds = s.rounds := rfl
@[simp] theorem State.updConn_stats (s : State) (i : Nat) (f : Conn → Conn) : (s.updConn i f).stats = s.stats := rfl
@[simp] theorem State.updConn_pending (s : State) (i : Nat) (f : Conn → Conn) : (s.updConn i f).pending = s.pending := rfl
@[simp] theorem State.updConn_draws (s : State) (i : Nat) (f : Conn → Conn) : (s.updConn i f).draws = s.draws := rfl
@[simp] theorem State.updConn_out (s : State) (i : Nat) (f : Conn → Conn) : (s.updConn i f).out = s.out := rfl

-- updQueue: may change grixo
@[simp] theorem State.updQueue_aon (s : State) (c q : Nat) (f : WorkQueue → WorkQueue) : (s.updQueue c q f).aon = s.aon := rfl
@[simp] theorem State.updQueue_set (s : State) (c q : Nat) (f : WorkQueue → WorkQueue) : (s.updQueue c q f).set = s.set := rfl
@[simp] theorem State.updQueue_setA (s : State) (c q : Nat) (f : WorkQueue → WorkQueue) : (s.updQueue c q f).setA = s.setA := rfl
@[simp] theorem State.updQueue_setB (s : State) (c q : Nat) (f : WorkQueue → WorkQueue) : (s.updQueue c q f).setB = s.setB := rfl
@[simp] theorem State.updQueue_slotB (s : State) (c q : Nat) (f : WorkQueue → WorkQueue) : (s.updQueue c q f).slotB = s.slotB := rfl
@[simp] theorem State.updQueue_recorder (s : State) (c q : Nat) (f : WorkQueue → WorkQueue) : (s.updQueue c q f).recorder = s.recorder := rfl
@[simp] theorem State.updQueue_hal (s : State) (c q : Nat) (f : WorkQueue → WorkQueue) : (s.updQueue c q f).hal = s.hal := rfl
@[simp] theorem State.updQueue_start (s : State) (c q : Nat) (f : WorkQueue → WorkQueue) : (s.updQueue c q f).start = s.start := rfl
@[simp] theorem State.updQueue_power (s : State) (c q : Nat) (f : WorkQueue → WorkQueue) : (s.updQueue c q f).power = s.power := rfl
@[simp] theorem State.updQueue_sensors (s : State) (c q : Nat) (f : WorkQueue → WorkQueue) : (s.updQueue c q f).sensors = s.sensors := rfl
@[simp] theorem State.updQueue_pack (s : State) (c q : Nat) (f : WorkQueue → WorkQueue) : (s.updQueue c q f).pack = s.pack := rfl
@[simp] theorem State.updQueue_keys (s : State) (c q : Nat) (f : WorkQueue → WorkQueue) : (s.updQueue c q f).keys = s.keys := rfl
@[simp] theorem State.updQueue_att (s : State) (c q : Nat) (f : WorkQueue → WorkQueue) : (s.updQueue c q f).att = s.att := rfl
@[simp] theorem State.updQueue_lead (s : State) (c q : Nat) (f : WorkQueue → WorkQueue) : (s.updQueue c q f).lead = s.lead := rfl
@[simp] theorem State.updQueue_journal (s : State) (c q : Nat) (f : WorkQueue → WorkQueue) : (s.updQueue c q f).journal = s.journal := rfl
@[simp] theorem State.updQueue_mgmt (s : State) (c q : Nat) (f : WorkQueue → WorkQueue) : (s.updQueue c q f).mgmt = s.mgmt := rfl
@[simp] theorem State.updQueue_host (s : State) (c q : Nat) (f : WorkQueue → WorkQueue) : (s.updQueue c q f).host = s.host := rfl
@[simp] theorem State.updQueue_ctxs (s : State) (c q : Nat) (f : WorkQueue → WorkQueue) : (s.updQueue c q f).ctxs = s.ctxs := rfl
@[simp] theorem State.updQueue_plans (s : State) (c q : Nat) (f : WorkQueue → WorkQueue) : (s.updQueue c q f).plans = s.plans := rfl
@[simp] theorem State.updQueue_clusters (s : State) (c q : Nat) (f : WorkQueue → WorkQueue) : (s.updQueue c q f).clusters = s.clusters := rfl
@[simp] theorem State.updQueue_drbgs (s : State) (c q : Nat) (f : WorkQueue → WorkQueue) : (s.updQueue c q f).drbgs = s.drbgs := rfl
@[simp] theorem State.updQueue_rounds (s : State) (c q : Nat) (f : WorkQueue → WorkQueue) : (s.updQueue c q f).rounds = s.rounds := rfl
@[simp] theorem State.updQueue_stats (s : State) (c q : Nat) (f : WorkQueue → WorkQueue) : (s.updQueue c q f).stats = s.stats := rfl
@[simp] theorem State.updQueue_pending (s : State) (c q : Nat) (f : WorkQueue → WorkQueue) : (s.updQueue c q f).pending = s.pending := rfl
@[simp] theorem State.updQueue_draws (s : State) (c q : Nat) (f : WorkQueue → WorkQueue) : (s.updQueue c q f).draws = s.draws := rfl
@[simp] theorem State.updQueue_out (s : State) (c q : Nat) (f : WorkQueue → WorkQueue) : (s.updQueue c q f).out = s.out := rfl

-- writeMem: may change ctxs
@[simp] theorem State.writeMem_aon (s : State) (c a : Nat) (b : Bytes) : (s.writeMem c a b).aon = s.aon := rfl
@[simp] theorem State.writeMem_set (s : State) (c a : Nat) (b : Bytes) : (s.writeMem c a b).set = s.set := rfl
@[simp] theorem State.writeMem_setA (s : State) (c a : Nat) (b : Bytes) : (s.writeMem c a b).setA = s.setA := rfl
@[simp] theorem State.writeMem_setB (s : State) (c a : Nat) (b : Bytes) : (s.writeMem c a b).setB = s.setB := rfl
@[simp] theorem State.writeMem_slotB (s : State) (c a : Nat) (b : Bytes) : (s.writeMem c a b).slotB = s.slotB := rfl
@[simp] theorem State.writeMem_recorder (s : State) (c a : Nat) (b : Bytes) : (s.writeMem c a b).recorder = s.recorder := rfl
@[simp] theorem State.writeMem_hal (s : State) (c a : Nat) (b : Bytes) : (s.writeMem c a b).hal = s.hal := rfl
@[simp] theorem State.writeMem_start (s : State) (c a : Nat) (b : Bytes) : (s.writeMem c a b).start = s.start := rfl
@[simp] theorem State.writeMem_power (s : State) (c a : Nat) (b : Bytes) : (s.writeMem c a b).power = s.power := rfl
@[simp] theorem State.writeMem_sensors (s : State) (c a : Nat) (b : Bytes) : (s.writeMem c a b).sensors = s.sensors := rfl
@[simp] theorem State.writeMem_pack (s : State) (c a : Nat) (b : Bytes) : (s.writeMem c a b).pack = s.pack := rfl
@[simp] theorem State.writeMem_keys (s : State) (c a : Nat) (b : Bytes) : (s.writeMem c a b).keys = s.keys := rfl
@[simp] theorem State.writeMem_att (s : State) (c a : Nat) (b : Bytes) : (s.writeMem c a b).att = s.att := rfl
@[simp] theorem State.writeMem_lead (s : State) (c a : Nat) (b : Bytes) : (s.writeMem c a b).lead = s.lead := rfl
@[simp] theorem State.writeMem_journal (s : State) (c a : Nat) (b : Bytes) : (s.writeMem c a b).journal = s.journal := rfl
@[simp] theorem State.writeMem_mgmt (s : State) (c a : Nat) (b : Bytes) : (s.writeMem c a b).mgmt = s.mgmt := rfl
@[simp] theorem State.writeMem_host (s : State) (c a : Nat) (b : Bytes) : (s.writeMem c a b).host = s.host := rfl
@[simp] theorem State.writeMem_plans (s : State) (c a : Nat) (b : Bytes) : (s.writeMem c a b).plans = s.plans := rfl
@[simp] theorem State.writeMem_clusters (s : State) (c a : Nat) (b : Bytes) : (s.writeMem c a b).clusters = s.clusters := rfl
@[simp] theorem State.writeMem_drbgs (s : State) (c a : Nat) (b : Bytes) : (s.writeMem c a b).drbgs = s.drbgs := rfl
@[simp] theorem State.writeMem_rounds (s : State) (c a : Nat) (b : Bytes) : (s.writeMem c a b).rounds = s.rounds := rfl
@[simp] theorem State.writeMem_grixo (s : State) (c a : Nat) (b : Bytes) : (s.writeMem c a b).grixo = s.grixo := rfl
@[simp] theorem State.writeMem_stats (s : State) (c a : Nat) (b : Bytes) : (s.writeMem c a b).stats = s.stats := rfl
@[simp] theorem State.writeMem_pending (s : State) (c a : Nat) (b : Bytes) : (s.writeMem c a b).pending = s.pending := rfl
@[simp] theorem State.writeMem_draws (s : State) (c a : Nat) (b : Bytes) : (s.writeMem c a b).draws = s.draws := rfl
@[simp] theorem State.writeMem_out (s : State) (c a : Nat) (b : Bytes) : (s.writeMem c a b).out = s.out := rfl

-- count: may change ctxs
@[simp] theorem State.count_aon (s : State) (c : Nat) (f : Counters → Counters) : (s.count c f).aon = s.aon := rfl
@[simp] theorem State.count_set (s : State) (c : Nat) (f : Counters → Counters) : (s.count c f).set = s.set := rfl
@[simp] theorem State.count_setA (s : State) (c : Nat) (f : Counters → Counters) : (s.count c f).setA = s.setA := rfl
@[simp] theorem State.count_setB (s : State) (c : Nat) (f : Counters → Counters) : (s.count c f).setB = s.setB := rfl
@[simp] theorem State.count_slotB (s : State) (c : Nat) (f : Counters → Counters) : (s.count c f).slotB = s.slotB := rfl
@[simp] theorem State.count_recorder (s : State) (c : Nat) (f : Counters → Counters) : (s.count c f).recorder = s.recorder := rfl
@[simp] theorem State.count_hal (s : State) (c : Nat) (f : Counters → Counters) : (s.count c f).hal = s.hal := rfl
@[simp] theorem State.count_start (s : State) (c : Nat) (f : Counters → Counters) : (s.count c f).start = s.start := rfl
@[simp] theorem State.count_power (s : State) (c : Nat) (f : Counters → Counters) : (s.count c f).power = s.power := rfl
@[simp] theorem State.count_sensors (s : State) (c : Nat) (f : Counters → Counters) : (s.count c f).sensors = s.sensors := rfl
@[simp] theorem State.count_pack (s : State) (c : Nat) (f : Counters → Counters) : (s.count c f).pack = s.pack := rfl
@[simp] theorem State.count_keys (s : State) (c : Nat) (f : Counters → Counters) : (s.count c f).keys = s.keys := rfl
@[simp] theorem State.count_att (s : State) (c : Nat) (f : Counters → Counters) : (s.count c f).att = s.att := rfl
@[simp] theorem State.count_lead (s : State) (c : Nat) (f : Counters → Counters) : (s.count c f).lead = s.lead := rfl
@[simp] theorem State.count_journal (s : State) (c : Nat) (f : Counters → Counters) : (s.count c f).journal = s.journal := rfl
@[simp] theorem State.count_mgmt (s : State) (c : Nat) (f : Counters → Counters) : (s.count c f).mgmt = s.mgmt := rfl
@[simp] theorem State.count_host (s : State) (c : Nat) (f : Counters → Counters) : (s.count c f).host = s.host := rfl
@[simp] theorem State.count_plans (s : State) (c : Nat) (f : Counters → Counters) : (s.count c f).plans = s.plans := rfl
@[simp] theorem State.count_clusters (s : State) (c : Nat) (f : Counters → Counters) : (s.count c f).clusters = s.clusters := rfl
@[simp] theorem State.count_drbgs (s : State) (c : Nat) (f : Counters → Counters) : (s.count c f).drbgs = s.drbgs := rfl
@[simp] theorem State.count_rounds (s : State) (c : Nat) (f : Counters → Counters) : (s.count c f).rounds = s.rounds := rfl
@[simp] theorem State.count_grixo (s : State) (c : Nat) (f : Counters → Counters) : (s.count c f).grixo = s.grixo := rfl
@[simp] theorem State.count_stats (s : State) (c : Nat) (f : Counters → Counters) : (s.count c f).stats = s.stats := rfl
@[simp] theorem State.count_pending (s : State) (c : Nat) (f : Counters → Counters) : (s.count c f).pending = s.pending := rfl
@[simp] theorem State.count_draws (s : State) (c : Nat) (f : Counters → Counters) : (s.count c f).draws = s.draws := rfl
@[simp] theorem State.count_out (s : State) (c : Nat) (f : Counters → Counters) : (s.count c f).out = s.out := rfl

-- setBuffer: may change recorder
@[simp] theorem State.setBuffer_aon (s : State) (w : Writer) (b : RecBuffer) : (s.setBuffer w b).aon = s.aon := rfl
@[simp] theorem State.setBuffer_set (s : State) (w : Writer) (b : RecBuffer) : (s.setBuffer w b).set = s.set := rfl
@[simp] theorem State.setBuffer_setA (s : State) (w : Writer) (b : RecBuffer) : (s.setBuffer w b).setA = s.setA := rfl
@[simp] theorem State.setBuffer_setB (s : State) (w : Writer) (b : RecBuffer) : (s.setBuffer w b).setB = s.setB := rfl
@[simp] theorem State.setBuffer_slotB (s : State) (w : Writer) (b : RecBuffer) : (s.setBuffer w b).slotB = s.slotB := rfl
@[simp] theorem State.setBuffer_hal (s : State) (w : Writer) (b : RecBuffer) : (s.setBuffer w b).hal = s.hal := rfl
@[simp] theorem State.setBuffer_start (s : State) (w : Writer) (b : RecBuffer) : (s.setBuffer w b).start = s.start := rfl
@[simp] theorem State.setBuffer_power (s : State) (w : Writer) (b : RecBuffer) : (s.setBuffer w b).power = s.power := rfl
@[simp] theorem State.setBuffer_sensors (s : State) (w : Writer) (b : RecBuffer) : (s.setBuffer w b).sensors = s.sensors := rfl
@[simp] theorem State.setBuffer_pack (s : State) (w : Writer) (b : RecBuffer) : (s.setBuffer w b).pack = s.pack := rfl
@[simp] theorem State.setBuffer_keys (s : State) (w : Writer) (b : RecBuffer) : (s.setBuffer w b).keys = s.keys := rfl
@[simp] theorem State.setBuffer_att (s : State) (w : Writer) (b : RecBuffer) : (s.setBuffer w b).att = s.att := rfl
@[simp] theorem State.setBuffer_lead (s : State) (w : Writer) (b : RecBuffer) : (s.setBuffer w b).lead = s.lead := rfl
@[simp] theorem State.setBuffer_journal (s : State) (w : Writer) (b : RecBuffer) : (s.setBuffer w b).journal = s.journal := rfl
@[simp] theorem State.setBuffer_mgmt (s : State) (w : Writer) (b : RecBuffer) : (s.setBuffer w b).mgmt = s.mgmt := rfl
@[simp] theorem State.setBuffer_host (s : State) (w : Writer) (b : RecBuffer) : (s.setBuffer w b).host = s.host := rfl
@[simp] theorem State.setBuffer_ctxs (s : State) (w : Writer) (b : RecBuffer) : (s.setBuffer w b).ctxs = s.ctxs := rfl
@[simp] theorem State.setBuffer_plans (s : State) (w : Writer) (b : RecBuffer) : (s.setBuffer w b).plans = s.plans := rfl
@[simp] theorem State.setBuffer_clusters (s : State) (w : Writer) (b : RecBuffer) : (s.setBuffer w b).clusters = s.clusters := rfl
@[simp] theorem State.setBuffer_drbgs (s : State) (w : Writer) (b : RecBuffer) : (s.setBuffer w b).drbgs = s.drbgs := rfl
@[simp] theorem State.setBuffer_rounds (s : State) (w : Writer) (b : RecBuffer) : (s.setBuffer w b).rounds = s.rounds := rfl
@[simp] theorem State.setBuffer_grixo (s : State) (w : Writer) (b : RecBuffer) : (s.setBuffer w b).grixo = s.grixo := rfl
@[simp] theorem State.setBuffer_stats (s : State) (w : Writer) (b : RecBuffer) : (s.setBuffer w b).stats = s.stats := rfl
@[simp] theorem State.setBuffer_pending (s : State) (w : Writer) (b : RecBuffer) : (s.setBuffer w b).pending = s.pending := rfl
@[simp] theorem State.setBuffer_draws (s : State) (w : Writer) (b : RecBuffer) : (s.setBuffer w b).draws = s.draws := rfl
@[simp] theorem State.setBuffer_out (s : State) (w : Writer) (b : RecBuffer) : (s.setBuffer w b).out = s.out := rfl

-- offerAll: may change mgmt
@[simp] theorem State.offerAll_aon (s : State) (r : Record) : (s.offerAll r).aon = s.aon := rfl
@[simp] theorem State.offerAll_set (s : State) (r : Record) : (s.offerAll r).set = s.set := rfl
@[simp] theorem State.offerAll_setA (s : State) (r : Record) : (s.offerAll r).setA = s.setA := rfl
@[simp] theorem State.offerAll_setB (s : State) (r : Record) : (s.offerAll r).setB = s.setB := rfl
@[simp] theorem State.offerAll_slotB (s : State) (r : Record) : (s.offerAll r).slotB = s.slotB := rfl
@[simp] theorem State.offerAll_recorder (s : State) (r : Record) : (s.offerAll r).recorder = s.recorder := rfl
@[simp] theorem State.offerAll_hal (s : State) (r : Record) : (s.offerAll r).hal = s.hal := rfl
@[simp] theorem State.offerAll_start (s : State) (r : Record) : (s.offerAll r).start = s.start := rfl
@[simp] theorem State.offerAll_power (s : State) (r : Record) : (s.offerAll r).power = s.power := rfl
@[simp] theorem State.offerAll_sensors (s : State) (r : Record) : (s.offerAll r).sensors = s.sensors := rfl
@[simp] theorem State.offerAll_pack (s : State) (r : Record) : (s.offerAll r).pack = s.pack := rfl
@[simp] theorem State.offerAll_keys (s : State) (r : Record) : (s.offerAll r).keys = s.keys := rfl
@[simp] theorem State.offerAll_att (s : State) (r : Record) : (s.offerAll r).att = s.att := rfl
@[simp] theorem State.offerAll_lead (s : State) (r : Record) : (s.offerAll r).lead = s.lead := rfl
@[simp] theorem State.offerAll_journal (s : State) (r : Record) : (s.offerAll r).journal = s.journal := rfl
@[simp] theorem State.offerAll_host (s : State) (r : Record) : (s.offerAll r).host = s.host := rfl
@[simp] theorem State.offerAll_ctxs (s : State) (r : Record) : (s.offerAll r).ctxs = s.ctxs := rfl
@[simp] theorem State.offerAll_plans (s : State) (r : Record) : (s.offerAll r).plans = s.plans := rfl
@[simp] theorem State.offerAll_clusters (s : State) (r : Record) : (s.offerAll r).clusters = s.clusters := rfl
@[simp] theorem State.offerAll_drbgs (s : State) (r : Record) : (s.offerAll r).drbgs = s.drbgs := rfl
@[simp] theorem State.offerAll_rounds (s : State) (r : Record) : (s.offerAll r).rounds = s.rounds := rfl
@[simp] theorem State.offerAll_grixo (s : State) (r : Record) : (s.offerAll r).grixo = s.grixo := rfl
@[simp] theorem State.offerAll_stats (s : State) (r : Record) : (s.offerAll r).stats = s.stats := rfl
@[simp] theorem State.offerAll_pending (s : State) (r : Record) : (s.offerAll r).pending = s.pending := rfl
@[simp] theorem State.offerAll_draws (s : State) (r : Record) : (s.offerAll r).draws = s.draws := rfl
@[simp] theorem State.offerAll_out (s : State) (r : Record) : (s.offerAll r).out = s.out := rfl

-- trackIdle: may change power
@[simp] theorem State.trackIdle_aon (s : State) : (s.trackIdle).aon = s.aon := rfl
@[simp] theorem State.trackIdle_set (s : State) : (s.trackIdle).set = s.set := rfl
@[simp] theorem State.trackIdle_setA (s : State) : (s.trackIdle).setA = s.setA := rfl
@[simp] theorem State.trackIdle_setB (s : State) : (s.trackIdle).setB = s.setB := rfl
@[simp] theorem State.trackIdle_slotB (s : State) : (s.trackIdle).slotB = s.slotB := rfl
@[simp] theorem State.trackIdle_recorder (s : State) : (s.trackIdle).recorder = s.recorder := rfl
@[simp] theorem State.trackIdle_hal (s : State) : (s.trackIdle).hal = s.hal := rfl
@[simp] theorem State.trackIdle_start (s : State) : (s.trackIdle).start = s.start := rfl
@[simp] theorem State.trackIdle_sensors (s : State) : (s.trackIdle).sensors = s.sensors := rfl
@[simp] theorem State.trackIdle_pack (s : State) : (s.trackIdle).pack = s.pack := rfl
@[simp] theorem State.trackIdle_keys (s : State) : (s.trackIdle).keys = s.keys := rfl
@[simp] theorem State.trackIdle_att (s : State) : (s.trackIdle).att = s.att := rfl
@[simp] theorem State.trackIdle_lead (s : State) : (s.trackIdle).lead = s.lead := rfl
@[simp] theorem State.trackIdle_journal (s : State) : (s.trackIdle).journal = s.journal := rfl
@[simp] theorem State.trackIdle_mgmt (s : State) : (s.trackIdle).mgmt = s.mgmt := rfl
@[simp] theorem State.trackIdle_host (s : State) : (s.trackIdle).host = s.host := rfl
@[simp] theorem State.trackIdle_ctxs (s : State) : (s.trackIdle).ctxs = s.ctxs := rfl
@[simp] theorem State.trackIdle_plans (s : State) : (s.trackIdle).plans = s.plans := rfl
@[simp] theorem State.trackIdle_clusters (s : State) : (s.trackIdle).clusters = s.clusters := rfl
@[simp] theorem State.trackIdle_drbgs (s : State) : (s.trackIdle).drbgs = s.drbgs := rfl
@[simp] theorem State.trackIdle_rounds (s : State) : (s.trackIdle).rounds = s.rounds := rfl
@[simp] theorem State.trackIdle_grixo (s : State) : (s.trackIdle).grixo = s.grixo := rfl
@[simp] theorem State.trackIdle_stats (s : State) : (s.trackIdle).stats = s.stats := rfl
@[simp] theorem State.trackIdle_pending (s : State) : (s.trackIdle).pending = s.pending := rfl
@[simp] theorem State.trackIdle_draws (s : State) : (s.trackIdle).draws = s.draws := rfl
@[simp] theorem State.trackIdle_out (s : State) : (s.trackIdle).out = s.out := rfl

-- advance: may change aon, sensors
@[simp] theorem State.advance_set (s : State) (t : Nat) : (s.advance t).set = s.set := rfl
@[simp] theorem State.advance_setA (s : State) (t : Nat) : (s.advance t).setA = s.setA := rfl
@[simp] theorem State.advance_setB (s : State) (t : Nat) : (s.advance t).setB = s.setB := rfl
@[simp] theorem State.advance_slotB (s : State) (t : Nat) : (s.advance t).slotB = s.slotB := rfl
@[simp] theorem State.advance_recorder (s : State) (t : Nat) : (s.advance t).recorder = s.recorder := rfl
@[simp] theorem State.advance_hal (s : State) (t : Nat) : (s.advance t).hal = s.hal := rfl
@[simp] theorem State.advance_start (s : State) (t : Nat) : (s.advance t).start = s.start := rfl
@[simp] theorem State.advance_power (s : State) (t : Nat) : (s.advance t).power = s.power := rfl
@[simp] theorem State.advance_pack (s : State) (t : Nat) : (s.advance t).pack = s.pack := rfl
@[simp] theorem State.advance_keys (s : State) (t : Nat) : (s.advance t).keys = s.keys := rfl
@[simp] theorem State.advance_att (s : State) (t : Nat) : (s.advance t).att = s.att := rfl
@[simp] theorem State.advance_lead (s : State) (t : Nat) : (s.advance t).lead = s.lead := rfl
@[simp] theorem State.advance_journal (s : State) (t : Nat) : (s.advance t).journal = s.journal := rfl
@[simp] theorem State.advance_mgmt (s : State) (t : Nat) : (s.advance t).mgmt = s.mgmt := rfl
@[simp] theorem State.advance_host (s : State) (t : Nat) : (s.advance t).host = s.host := rfl
@[simp] theorem State.advance_ctxs (s : State) (t : Nat) : (s.advance t).ctxs = s.ctxs := rfl
@[simp] theorem State.advance_plans (s : State) (t : Nat) : (s.advance t).plans = s.plans := rfl
@[simp] theorem State.advance_clusters (s : State) (t : Nat) : (s.advance t).clusters = s.clusters := rfl
@[simp] theorem State.advance_drbgs (s : State) (t : Nat) : (s.advance t).drbgs = s.drbgs := rfl
@[simp] theorem State.advance_rounds (s : State) (t : Nat) : (s.advance t).rounds = s.rounds := rfl
@[simp] theorem State.advance_grixo (s : State) (t : Nat) : (s.advance t).grixo = s.grixo := rfl
@[simp] theorem State.advance_stats (s : State) (t : Nat) : (s.advance t).stats = s.stats := rfl
@[simp] theorem State.advance_pending (s : State) (t : Nat) : (s.advance t).pending = s.pending := rfl
@[simp] theorem State.advance_draws (s : State) (t : Nat) : (s.advance t).draws = s.draws := rfl
@[simp] theorem State.advance_out (s : State) (t : Nat) : (s.advance t).out = s.out := rfl

-- at: may change aon, power, sensors
@[simp] theorem State.at_set (s : State) (now : Nat) : (s.at now).set = s.set := rfl
@[simp] theorem State.at_setA (s : State) (now : Nat) : (s.at now).setA = s.setA := rfl
@[simp] theorem State.at_setB (s : State) (now : Nat) : (s.at now).setB = s.setB := rfl
@[simp] theorem State.at_slotB (s : State) (now : Nat) : (s.at now).slotB = s.slotB := rfl
@[simp] theorem State.at_recorder (s : State) (now : Nat) : (s.at now).recorder = s.recorder := rfl
@[simp] theorem State.at_hal (s : State) (now : Nat) : (s.at now).hal = s.hal := rfl
@[simp] theorem State.at_start (s : State) (now : Nat) : (s.at now).start = s.start := rfl
@[simp] theorem State.at_pack (s : State) (now : Nat) : (s.at now).pack = s.pack := rfl
@[simp] theorem State.at_keys (s : State) (now : Nat) : (s.at now).keys = s.keys := rfl
@[simp] theorem State.at_att (s : State) (now : Nat) : (s.at now).att = s.att := rfl
@[simp] theorem State.at_lead (s : State) (now : Nat) : (s.at now).lead = s.lead := rfl
@[simp] theorem State.at_journal (s : State) (now : Nat) : (s.at now).journal = s.journal := rfl
@[simp] theorem State.at_mgmt (s : State) (now : Nat) : (s.at now).mgmt = s.mgmt := rfl
@[simp] theorem State.at_host (s : State) (now : Nat) : (s.at now).host = s.host := rfl
@[simp] theorem State.at_ctxs (s : State) (now : Nat) : (s.at now).ctxs = s.ctxs := rfl
@[simp] theorem State.at_plans (s : State) (now : Nat) : (s.at now).plans = s.plans := rfl
@[simp] theorem State.at_clusters (s : State) (now : Nat) : (s.at now).clusters = s.clusters := rfl
@[simp] theorem State.at_drbgs (s : State) (now : Nat) : (s.at now).drbgs = s.drbgs := rfl
@[simp] theorem State.at_rounds (s : State) (now : Nat) : (s.at now).rounds = s.rounds := rfl
@[simp] theorem State.at_grixo (s : State) (now : Nat) : (s.at now).grixo = s.grixo := rfl
@[simp] theorem State.at_stats (s : State) (now : Nat) : (s.at now).stats = s.stats := rfl
@[simp] theorem State.at_pending (s : State) (now : Nat) : (s.at now).pending = s.pending := rfl
@[simp] theorem State.at_draws (s : State) (now : Nat) : (s.at now).draws = s.draws := rfl
@[simp] theorem State.at_out (s : State) (now : Nat) : (s.at now).out = s.out := rfl

-- storeNumbered: may change recorder, mgmt
@[simp] theorem State.storeNumbered_aon (s : State) (w : Writer) (r : Record) : (s.storeNumbered w r).aon = s.aon := rfl
@[simp] theorem State.storeNumbered_set (s : State) (w : Writer) (r : Record) : (s.storeNumbered w r).set = s.set := rfl
@[simp] theorem State.storeNumbered_setA (s : State) (w : Writer) (r : Record) : (s.storeNumbered w r).setA = s.setA := rfl
@[simp] theorem State.storeNumbered_setB (s : State) (w : Writer) (r : Record) : (s.storeNumbered w r).setB = s.setB := rfl
@[simp] theorem State.storeNumbered_slotB (s : State) (w : Writer) (r : Record) : (s.storeNumbered w r).slotB = s.slotB := rfl
@[simp] theorem State.storeNumbered_hal (s : State) (w : Writer) (r : Record) : (s.storeNumbered w r).hal = s.hal := rfl
@[simp] theorem State.storeNumbered_start (s : State) (w : Writer) (r : Record) : (s.storeNumbered w r).start = s.start := rfl
@[simp] theorem State.storeNumbered_power (s : State) (w : Writer) (r : Record) : (s.storeNumbered w r).power = s.power := rfl
@[simp] theorem State.storeNumbered_sensors (s : State) (w : Writer) (r : Record) : (s.storeNumbered w r).sensors = s.sensors := rfl
@[simp] theorem State.storeNumbered_pack (s : State) (w : Writer) (r : Record) : (s.storeNumbered w r).pack = s.pack := rfl
@[simp] theorem State.storeNumbered_keys (s : State) (w : Writer) (r : Record) : (s.storeNumbered w r).keys = s.keys := rfl
@[simp] theorem State.storeNumbered_att (s : State) (w : Writer) (r : Record) : (s.storeNumbered w r).att = s.att := rfl
@[simp] theorem State.storeNumbered_lead (s : State) (w : Writer) (r : Record) : (s.storeNumbered w r).lead = s.lead := rfl
@[simp] theorem State.storeNumbered_journal (s : State) (w : Writer) (r : Record) : (s.storeNumbered w r).journal = s.journal := rfl
@[simp] theorem State.storeNumbered_host (s : State) (w : Writer) (r : Record) : (s.storeNumbered w r).host = s.host := rfl
@[simp] theorem State.storeNumbered_ctxs (s : State) (w : Writer) (r : Record) : (s.storeNumbered w r).ctxs = s.ctxs := rfl
@[simp] theorem State.storeNumbered_plans (s : State) (w : Writer) (r : Record) : (s.storeNumbered w r).plans = s.plans := rfl
@[simp] theorem State.storeNumbered_clusters (s : State) (w : Writer) (r : Record) : (s.storeNumbered w r).clusters = s.clusters := rfl
@[simp] theorem State.storeNumbered_drbgs (s : State) (w : Writer) (r : Record) : (s.storeNumbered w r).drbgs = s.drbgs := rfl
@[simp] theorem State.storeNumbered_rounds (s : State) (w : Writer) (r : Record) : (s.storeNumbered w r).rounds = s.rounds := rfl
@[simp] theorem State.storeNumbered_grixo (s : State) (w : Writer) (r : Record) : (s.storeNumbered w r).grixo = s.grixo := rfl
@[simp] theorem State.storeNumbered_stats (s : State) (w : Writer) (r : Record) : (s.storeNumbered w r).stats = s.stats := rfl
@[simp] theorem State.storeNumbered_pending (s : State) (w : Writer) (r : Record) : (s.storeNumbered w r).pending = s.pending := rfl
@[simp] theorem State.storeNumbered_draws (s : State) (w : Writer) (r : Record) : (s.storeNumbered w r).draws = s.draws := rfl
@[simp] theorem State.storeNumbered_out (s : State) (w : Writer) (r : Record) : (s.storeNumbered w r).out = s.out := rfl

-- storeHoist: may change recorder, mgmt
@[simp] theorem State.storeHoist_aon (s : State) (w : Writer) (r : Record) : (s.storeHoist w r).aon = s.aon := by unfold State.storeHoist; dsimp only; (repeat' split) <;> rfl
@[simp] theorem State.storeHoist_set (s : State) (w : Writer) (r : Record) : (s.storeHoist w r).set = s.set := by unfold State.storeHoist; dsimp only; (repeat' split) <;> rfl
@[simp] theorem State.storeHoist_setA (s : State) (w : Writer) (r : Record) : (s.storeHoist w r).setA = s.setA := by unfold State.storeHoist; dsimp only; (repeat' split) <;> rfl
@[simp] theorem State.storeHoist_setB (s : State) (w : Writer) (r : Record) : (s.storeHoist w r).setB = s.setB := by unfold State.storeHoist; dsimp only; (repeat' split) <;> rfl
@[simp] theorem State.storeHoist_slotB (s : State) (w : Writer) (r : Record) : (s.storeHoist w r).slotB = s.slotB := by unfold State.storeHoist; dsimp only; (repeat' split) <;> rfl
@[simp] theorem State.storeHoist_hal (s : State) (w : Writer) (r : Record) : (s.storeHoist w r).hal = s.hal := by unfold State.storeHoist; dsimp only; (repeat' split) <;> rfl
@[simp] theorem State.storeHoist_start (s : State) (w : Writer) (r : Record) : (s.storeHoist w r).start = s.start := by unfold State.storeHoist; dsimp only; (repeat' split) <;> rfl
@[simp] theorem State.storeHoist_power (s : State) (w : Writer) (r : Record) : (s.storeHoist w r).power = s.power := by unfold State.storeHoist; dsimp only; (repeat' split) <;> rfl
@[simp] theorem State.storeHoist_sensors (s : State) (w : Writer) (r : Record) : (s.storeHoist w r).sensors = s.sensors := by unfold State.storeHoist; dsimp only; (repeat' split) <;> rfl
@[simp] theorem State.storeHoist_pack (s : State) (w : Writer) (r : Record) : (s.storeHoist w r).pack = s.pack := by unfold State.storeHoist; dsimp only; (repeat' split) <;> rfl
@[simp] theorem State.storeHoist_keys (s : State) (w : Writer) (r : Record) : (s.storeHoist w r).keys = s.keys := by unfold State.storeHoist; dsimp only; (repeat' split) <;> rfl
@[simp] theorem State.storeHoist_att (s : State) (w : Writer) (r : Record) : (s.storeHoist w r).att = s.att := by unfold State.storeHoist; dsimp only; (repeat' split) <;> rfl
@[simp] theorem State.storeHoist_lead (s : State) (w : Writer) (r : Record) : (s.storeHoist w r).lead = s.lead := by unfold State.storeHoist; dsimp only; (repeat' split) <;> rfl
@[simp] theorem State.storeHoist_journal (s : State) (w : Writer) (r : Record) : (s.storeHoist w r).journal = s.journal := by unfold State.storeHoist; dsimp only; (repeat' split) <;> rfl
@[simp] theorem State.storeHoist_host (s : State) (w : Writer) (r : Record) : (s.storeHoist w r).host = s.host := by unfold State.storeHoist; dsimp only; (repeat' split) <;> rfl
@[simp] theorem State.storeHoist_ctxs (s : State) (w : Writer) (r : Record) : (s.storeHoist w r).ctxs = s.ctxs := by unfold State.storeHoist; dsimp only; (repeat' split) <;> rfl
@[simp] theorem State.storeHoist_plans (s : State) (w : Writer) (r : Record) : (s.storeHoist w r).plans = s.plans := by unfold State.storeHoist; dsimp only; (repeat' split) <;> rfl
@[simp] theorem State.storeHoist_clusters (s : State) (w : Writer) (r : Record) : (s.storeHoist w r).clusters = s.clusters := by unfold State.storeHoist; dsimp only; (repeat' split) <;> rfl
@[simp] theorem State.storeHoist_drbgs (s : State) (w : Writer) (r : Record) : (s.storeHoist w r).drbgs = s.drbgs := by unfold State.storeHoist; dsimp only; (repeat' split) <;> rfl
@[simp] theorem State.storeHoist_rounds (s : State) (w : Writer) (r : Record) : (s.storeHoist w r).rounds = s.rounds := by unfold State.storeHoist; dsimp only; (repeat' split) <;> rfl
@[simp] theorem State.storeHoist_grixo (s : State) (w : Writer) (r : Record) : (s.storeHoist w r).grixo = s.grixo := by unfold State.storeHoist; dsimp only; (repeat' split) <;> rfl
@[simp] theorem State.storeHoist_stats (s : State) (w : Writer) (r : Record) : (s.storeHoist w r).stats = s.stats := by unfold State.storeHoist; dsimp only; (repeat' split) <;> rfl
@[simp] theorem State.storeHoist_pending (s : State) (w : Writer) (r : Record) : (s.storeHoist w r).pending = s.pending := by unfold State.storeHoist; dsimp only; (repeat' split) <;> rfl
@[simp] theorem State.storeHoist_draws (s : State) (w : Writer) (r : Record) : (s.storeHoist w r).draws = s.draws := by unfold State.storeHoist; dsimp only; (repeat' split) <;> rfl
@[simp] theorem State.storeHoist_out (s : State) (w : Writer) (r : Record) : (s.storeHoist w r).out = s.out := by unfold State.storeHoist; dsimp only; (repeat' split) <;> rfl

-- record: may change recorder, mgmt, set, setA, setB, slotB
@[simp] theorem State.record_aon (s : State) (code source : Nat) (ctx : Option Nat) (p : Bytes) : (s.record code source ctx p).aon = s.aon := by unfold State.record; dsimp only; (repeat' split) <;> simp
@[simp] theorem State.record_hal (s : State) (code source : Nat) (ctx : Option Nat) (p : Bytes) : (s.record code source ctx p).hal = s.hal := by unfold State.record; dsimp only; (repeat' split) <;> simp
@[simp] theorem State.record_start (s : State) (code source : Nat) (ctx : Option Nat) (p : Bytes) : (s.record code source ctx p).start = s.start := by unfold State.record; dsimp only; (repeat' split) <;> simp
@[simp] theorem State.record_power (s : State) (code source : Nat) (ctx : Option Nat) (p : Bytes) : (s.record code source ctx p).power = s.power := by unfold State.record; dsimp only; (repeat' split) <;> simp
@[simp] theorem State.record_sensors (s : State) (code source : Nat) (ctx : Option Nat) (p : Bytes) : (s.record code source ctx p).sensors = s.sensors := by unfold State.record; dsimp only; (repeat' split) <;> simp
@[simp] theorem State.record_pack (s : State) (code source : Nat) (ctx : Option Nat) (p : Bytes) : (s.record code source ctx p).pack = s.pack := by unfold State.record; dsimp only; (repeat' split) <;> simp
@[simp] theorem State.record_keys (s : State) (code source : Nat) (ctx : Option Nat) (p : Bytes) : (s.record code source ctx p).keys = s.keys := by unfold State.record; dsimp only; (repeat' split) <;> simp
@[simp] theorem State.record_att (s : State) (code source : Nat) (ctx : Option Nat) (p : Bytes) : (s.record code source ctx p).att = s.att := by unfold State.record; dsimp only; (repeat' split) <;> simp
@[simp] theorem State.record_lead (s : State) (code source : Nat) (ctx : Option Nat) (p : Bytes) : (s.record code source ctx p).lead = s.lead := by unfold State.record; dsimp only; (repeat' split) <;> simp
@[simp] theorem State.record_journal (s : State) (code source : Nat) (ctx : Option Nat) (p : Bytes) : (s.record code source ctx p).journal = s.journal := by unfold State.record; dsimp only; (repeat' split) <;> simp
@[simp] theorem State.record_host (s : State) (code source : Nat) (ctx : Option Nat) (p : Bytes) : (s.record code source ctx p).host = s.host := by unfold State.record; dsimp only; (repeat' split) <;> simp
@[simp] theorem State.record_ctxs (s : State) (code source : Nat) (ctx : Option Nat) (p : Bytes) : (s.record code source ctx p).ctxs = s.ctxs := by unfold State.record; dsimp only; (repeat' split) <;> simp
@[simp] theorem State.record_plans (s : State) (code source : Nat) (ctx : Option Nat) (p : Bytes) : (s.record code source ctx p).plans = s.plans := by unfold State.record; dsimp only; (repeat' split) <;> simp
@[simp] theorem State.record_clusters (s : State) (code source : Nat) (ctx : Option Nat) (p : Bytes) : (s.record code source ctx p).clusters = s.clusters := by unfold State.record; dsimp only; (repeat' split) <;> simp
@[simp] theorem State.record_drbgs (s : State) (code source : Nat) (ctx : Option Nat) (p : Bytes) : (s.record code source ctx p).drbgs = s.drbgs := by unfold State.record; dsimp only; (repeat' split) <;> simp
@[simp] theorem State.record_rounds (s : State) (code source : Nat) (ctx : Option Nat) (p : Bytes) : (s.record code source ctx p).rounds = s.rounds := by unfold State.record; dsimp only; (repeat' split) <;> simp
@[simp] theorem State.record_grixo (s : State) (code source : Nat) (ctx : Option Nat) (p : Bytes) : (s.record code source ctx p).grixo = s.grixo := by unfold State.record; dsimp only; (repeat' split) <;> simp
@[simp] theorem State.record_stats (s : State) (code source : Nat) (ctx : Option Nat) (p : Bytes) : (s.record code source ctx p).stats = s.stats := by unfold State.record; dsimp only; (repeat' split) <;> simp
@[simp] theorem State.record_pending (s : State) (code source : Nat) (ctx : Option Nat) (p : Bytes) : (s.record code source ctx p).pending = s.pending := by unfold State.record; dsimp only; (repeat' split) <;> simp
@[simp] theorem State.record_draws (s : State) (code source : Nat) (ctx : Option Nat) (p : Bytes) : (s.record code source ctx p).draws = s.draws := by unfold State.record; dsimp only; (repeat' split) <;> simp
@[simp] theorem State.record_out (s : State) (code source : Nat) (ctx : Option Nat) (p : Bytes) : (s.record code source ctx p).out = s.out := by unfold State.record; dsimp only; (repeat' split) <;> simp

-- at: what of the power state and the sensors it leaves alone
@[simp] theorem State.at_power_powered (s : State) (now : Nat) : (s.at now).power.powered = s.power.powered := rfl
@[simp] theorem State.at_power_regulated (s : State) (now : Nat) : (s.at now).power.regulated = s.power.regulated := rfl
@[simp] theorem State.at_power_latched (s : State) (now : Nat) : (s.at now).power.latched = s.power.latched := rfl
@[simp] theorem State.at_power_inhibit (s : State) (now : Nat) : (s.at now).power.inhibit = s.power.inhibit := rfl
@[simp] theorem State.at_power_wakeAt (s : State) (now : Nat) : (s.at now).power.wakeAt = s.power.wakeAt := rfl
@[simp] theorem State.at_power_furl (s : State) (now : Nat) : (s.at now).power.furl = s.power.furl := rfl
@[simp] theorem State.at_power_entry (s : State) (now : Nat) : (s.at now).power.entry = s.power.entry := rfl
@[simp] theorem State.at_power_committed (s : State) (now : Nat) : (s.at now).power.committed = s.power.committed := rfl
@[simp] theorem State.at_power_latchedWakes (s : State) (now : Nat) : (s.at now).power.latchedWakes = s.power.latchedWakes := rfl
@[simp] theorem State.at_power_waking (s : State) (now : Nat) : (s.at now).power.waking = s.power.waking := rfl
@[simp] theorem State.at_power_wakeT0 (s : State) (now : Nat) : (s.at now).power.wakeT0 = s.power.wakeT0 := rfl
@[simp] theorem State.at_power_emergencyThermal (s : State) (now : Nat) : (s.at now).power.emergencyThermal = s.power.emergencyThermal := rfl
@[simp] theorem State.at_power_emergencyElectrical (s : State) (now : Nat) : (s.at now).power.emergencyElectrical = s.power.emergencyElectrical := rfl
@[simp] theorem State.at_power_tripped (s : State) (now : Nat) : (s.at now).power.tripped = s.power.tripped := rfl
@[simp] theorem State.at_power_trips (s : State) (now : Nat) : (s.at now).power.trips = s.power.trips := rfl
@[simp] theorem State.at_power_ramping (s : State) (now : Nat) : (s.at now).power.ramping = s.power.ramping := rfl
@[simp] theorem State.at_power_railLevel (s : State) (now : Nat) : (s.at now).power.railLevel = s.power.railLevel := rfl
@[simp] theorem State.at_sensors_dieTemp (s : State) (now : Nat) : (s.at now).sensors.dieTemp = s.sensors.dieTemp := rfl
@[simp] theorem State.at_sensors_inlet (s : State) (now : Nat) : (s.at now).sensors.inlet = s.sensors.inlet := rfl
@[simp] theorem State.at_sensors_flow (s : State) (now : Nat) : (s.at now).sensors.flow = s.sensors.flow := rfl
@[simp] theorem State.at_sensors_inputPower (s : State) (now : Nat) : (s.at now).sensors.inputPower = s.sensors.inputPower := rfl

end Sys2Proof.Machine
end

