-- ==== Sys2Proof/Laws/Memory.lean ====
section
/-!
SUPPORT. Laws/Memory.lean: the memory of a context (R295, R357): every operation keeps the canonical form, a read after
a write gives the byte written, and a write leaves every other byte alone.
-/
namespace Sys2Proof.Machine

variable {d : Nat → Byte} {m : List (Nat × Byte)} {a x : Nat} {v b : Byte}

/-- Every listed address is above `x`. -/
def Above (x : Nat) (m : List (Nat × Byte)) : Prop := ∀ p ∈ m, x < p.1

theorem memWf_cons : memWf d ((x, b) :: m) = true ↔ b ≠ d x ∧ Above x m ∧ memWf d m = true := by
  induction m generalizing x b with
  | nil => simp [memWf, Above]
  | cons p r ih =>
    obtain ⟨y, c⟩ := p
    have h := ih (x := y) (b := c)
    simp only [memWf, Above, Bool.and_eq_true, bne_iff_ne, decide_eq_true_eq, List.mem_cons, forall_eq_or_imp]
    constructor
    · rintro ⟨⟨h1, h2⟩, h3⟩
      refine ⟨h1, ⟨h2, fun p hp => ?_⟩, h3⟩
      exact Nat.lt_trans h2 ((h.1 h3).2.1 p hp)
    · rintro ⟨h1, ⟨h2, _⟩, h3⟩
      exact ⟨⟨h1, h2⟩, h3⟩

theorem memRead_above (h : ∀ p ∈ m, a < p.1) : memRead d m a = d a := by
  induction m with
  | nil => rfl
  | cons p r ih =>
    have := h p (by simp)
    simp only [memRead]
    rw [if_neg (by omega)]
    exact ih fun q hq => h q (by simp [hq])

theorem above_memWrite (hx : x < a) (h : Above x m) : Above x (memWrite d m a v) := by
  induction m with
  | nil => intro p hp; simp only [memWrite] at hp; split at hp <;> simp_all
  | cons q r ih =>
    obtain ⟨y, c⟩ := q
    have hr : Above x r := fun p hp => h p (by simp [hp])
    have hy : x < y := h (y, c) (by simp)
    intro p hp
    simp only [memWrite] at hp
    split at hp
    · rcases List.mem_cons.1 hp with rfl | hp
      · exact hy
      · exact ih hr p hp
    · split at hp
      · split at hp
        · exact hr p hp
        · rcases List.mem_cons.1 hp with rfl | hp
          · exact hx
          · exact hr p hp
      · split at hp
        · exact h p hp
        · rcases List.mem_cons.1 hp with rfl | hp
          · exact hx
          · exact h p hp

/-- A write keeps the canonical form. -/
theorem memWf_memWrite (h : memWf d m = true) : memWf d (memWrite d m a v) = true := by
  induction m with
  | nil => simp only [memWrite]; split <;> simp_all [memWf]
  | cons q r ih =>
    obtain ⟨y, c⟩ := q
    obtain ⟨h1, h2, h3⟩ := memWf_cons.1 h
    simp only [memWrite]
    split
    · rename_i hlt; exact memWf_cons.2 ⟨h1, above_memWrite hlt h2, ih h3⟩
    · split
      · rename_i hlt he
        split
        · exact h3
        · rename_i hv; subst he; exact memWf_cons.2 ⟨hv, h2, h3⟩
      · rename_i hlt he
        split
        · exact h
        · rename_i hv
          refine memWf_cons.2 ⟨hv, ?_, h⟩
          intro p hp
          rcases List.mem_cons.1 hp with rfl | hp
          · show a < y; omega
          · have := h2 p hp; omega

/-- Writing bytes keeps the canonical form. -/
theorem memWf_memWriteBytes (h : memWf d m = true) (l : Bytes) : memWf d (memWriteBytes d m a l) = true := by
  induction l generalizing m a with
  | nil => exact h
  | cons v r ih => exact ih (memWf_memWrite h)

/-- A read after a write of one byte. -/
theorem memRead_memWrite (h : memWf d m = true) :
    memRead d (memWrite d m a v) x = if x = a then v else memRead d m x := by
  induction m with
  | nil =>
    simp only [memWrite]
    split
    · rename_i hv
      by_cases hx : x = a
      · simp [memRead, hx, hv]
      · simp [memRead, hx]
    · by_cases hx : x = a
      · simp [memRead, hx]
      · simp [memRead, hx, Ne.symm hx]
  | cons q r ih =>
    obtain ⟨y, c⟩ := q
    obtain ⟨h1, h2, h3⟩ := memWf_cons.1 h
    have ih := ih h3
    simp only [memWrite]
    split
    · rename_i hlt
      simp only [memRead]
      by_cases hy : y = x
      · subst hy; simp; omega
      · simp [hy, ih]
    · split
      · rename_i hlt he
        subst he
        split
        · rename_i hv
          by_cases hx : x = y
          · subst hx
            simp [hv, memRead_above (d := d) (m := r) (a := x) h2]
          · simp [memRead, hx, Ne.symm hx]
        · by_cases hx : x = y
          · subst hx; simp [memRead]
          · simp [memRead, hx, Ne.symm hx]
      · rename_i hlt he
        have hay : ∀ p ∈ (y, c) :: r, a < p.1 := by
          intro p hp
          rcases List.mem_cons.1 hp with rfl | hp
          · show a < y; omega
          · have := h2 p hp; omega
        split
        · rename_i hv
          by_cases hx : x = a
          · subst hx; simp [memRead_above hay, hv]
          · simp [hx]
        · by_cases hx : x = a
          · subst hx; simp [memRead]
          · rw [memRead, if_neg (Ne.symm hx), if_neg hx]

/-- A byte outside the bytes written reads as before. -/
theorem memRead_memWriteBytes_outside (h : memWf d m = true) (l : Bytes) (hx : x < a ∨ a + l.length ≤ x) :
    memRead d (memWriteBytes d m a l) x = memRead d m x := by
  induction l generalizing m a with
  | nil => rfl
  | cons v r ih =>
    simp only [memWriteBytes, List.length_cons] at hx ⊢
    rw [ih (memWf_memWrite h) (by omega), memRead_memWrite h, if_neg (by omega)]

/-- The bytes written read back. -/
theorem memRead_memWriteBytes_inside (h : memWf d m = true) (l : Bytes) (i : Nat) (hi : i < l.length) :
    memRead d (memWriteBytes d m a l) (a + i) = l[i] := by
  induction l generalizing m a i with
  | nil => simp at hi
  | cons v r ih =>
    simp only [memWriteBytes]
    cases i with
    | zero =>
      rw [Nat.add_zero, memRead_memWriteBytes_outside (memWf_memWrite h) _ (by omega), memRead_memWrite h]
      simp
    | succ i =>
      have := ih (m := memWrite d m a v) (a := a + 1) (memWf_memWrite h) i (by simpa using hi)
      rw [show a + (i + 1) = a + 1 + i from by omega, this]
      simp

end Sys2Proof.Machine
end

