-- ==== Sys2Proof/Laws/Recorded.lean ====
section
/-!
SUPPORT. Laws/Recorded.lean: what writing event records leaves alone (R484 to R501).
-/
namespace Sys2Proof.Machine

variable {a b t : State}

theorem Recorded.refl (a : State) : Recorded a a := ⟨[], rfl⟩

theorem Recorded.one (a : State) (code source : Nat) (ctx : Option Nat) (p : Bytes) :
    Recorded a (a.record code source ctx p) := ⟨[(code, source, ctx, p)], rfl⟩

theorem Recorded.trans (h : Recorded a b) (k : Recorded b t) : Recorded a t := by
  obtain ⟨l, rfl⟩ := h
  obtain ⟨m, rfl⟩ := k
  exact ⟨l ++ m, by rw [List.foldl_append]⟩

/-- Writing records leaves a field alone that one record leaves alone. -/
theorem Recorded.keeps {α : Type} (f : State → α) (hf : ∀ s c so x p, f (State.record s c so x p) = f s)
    (h : Recorded a t) : f t = f a := by
  obtain ⟨l, rfl⟩ := h
  induction l generalizing a with
  | nil => rfl
  | cons r l ih => exact (ih (a := a.record r.1 r.2.1 r.2.2.1 r.2.2.2)).trans (hf a _ _ _ _)

theorem Recorded.foldl {α : Type} (l : List α) (g : State → α → State) (hg : ∀ s x, Recorded s (g s x)) (s : State) :
    Recorded s (l.foldl g s) := by
  induction l generalizing s with
  | nil => exact .refl s
  | cons x l ih => exact (hg s x).trans (ih (g s x))

end Sys2Proof.Machine
end

