-- ==== Sys2Proof/Laws/Writes.lean ====
section
/-!
SUPPORT. Laws/Writes.lean: what the write of one entry can come to (R458, R459, R463, R541).
-/
namespace Sys2Proof.Machine

variable {s : State} {n index sub : Nat} {v : Bytes} {x : Session}

theorem wholeItem_index : (wholeItem index sub v).index = index := rfl
theorem wholeItem_sub : (wholeItem index sub v).sub = sub := rfl
theorem wholeItem_value : (wholeItem index sub v).value = v := rfl

/-- A write that fails one of checks 1 to 7 is answered with its code and has no effect. -/
theorem rowWrite_rejected (hx : s.session? n = some x) (hd : s.mgmt.dtls = true) (hv : v.length ≤ 1176)
    (hc : (s.touch n).writeCheck x.role (wholeItem index sub v) ≠ 0) :
    s.rowWrite n index sub v =
      (s.touch n).answered n index sub ((s.touch n).writeCheck x.role (wholeItem index sub v)) := by
  have hv' : ¬ 1176 < v.length := by omega
  simp [State.rowWrite, hx, hd, hv', State.decideWrite, State.firstFailing, hc, State.answered]

/-- A write that passes checks 1 to 7 and needs no second operator has its effect at once, or is answered with the code by
which the entry refuses it. -/
theorem rowWrite_single (hx : s.session? n = some x) (hd : s.mgmt.dtls = true) (hv : v.length ≤ 1176)
    (hc : (s.touch n).writeCheck x.role (wholeItem index sub v) = 0) (hs : (s.touch n).isDual index sub v = false) :
    s.rowWrite n index sub v =
      ((s.touch n).itemEffect n x.role false (wholeItem index sub v)).2.answered n index sub
        ((s.touch n).itemEffect n x.role false (wholeItem index sub v)).1 := by
  have hv' : ¬ 1176 < v.length := by omega
  have hf : (s.touch n).firstFailing x.role [wholeItem index sub v] = none := by simp [State.firstFailing, hc]
  have hl : ([(wholeItem index sub v, 0)].filter fun y => (s.touch n).isDual y.1.index y.1.sub y.1.value) = [] := by
    simp [wholeItem_index, wholeItem_sub, wholeItem_value, hs]
  simp only [State.rowWrite, hx, hd, hv', State.decideWrite, hf, List.zipIdx_singleton, hl, Bool.not_true,
    Bool.false_eq_true, if_false, applyItems, State.answered]
  split <;> simp_all

/-- A write that needs two operators waits for their approvals. -/
theorem rowWrite_dual (hx : s.session? n = some x) (hd : s.mgmt.dtls = true) (hv : v.length ≤ 1176)
    (hc : (s.touch n).writeCheck x.role (wholeItem index sub v) = 0) (hs : (s.touch n).isDual index sub v = true) :
    s.rowWrite n index sub v =
      ((s.touch n).initiate x (wholeItem index sub v)).state.answered n index sub
        ((s.touch n).initiate x (wholeItem index sub v)).status := by
  have hv' : ¬ 1176 < v.length := by omega
  have hf : (s.touch n).firstFailing x.role [wholeItem index sub v] = none := by simp [State.firstFailing, hc]
  have hl : ([(wholeItem index sub v, 0)].filter fun y => (s.touch n).isDual y.1.index y.1.sub y.1.value) =
      [(wholeItem index sub v, 0)] := by
    simp [wholeItem_index, wholeItem_sub, wholeItem_value, hs]
  simp [State.rowWrite, hx, hd, hv', State.decideWrite, hf, hl, State.answered]

end Sys2Proof.Machine
end

