-- ==== Sys2Proof/Machine/Flags.lean ====
section
/-!
DEFINITION. Machine/Flags.lean: status words and what a read of the PF and VF register blocks returns (R303 to R309, R331).
A read changes nothing, so no command of the table stands for it.
-/
namespace Sys2Proof.Machine

/-- A flag in its bit. -/
def bitIf (b : Bool) (n : Nat) : Nat := if b then 2 ^ n else 0

/-- Register form of a bin's head: WRAP in bit 31, INDEX in bits 23 to 0 (R127). -/
def headWord (capacity count : Nat) : Nat :=
  count % max 1 capacity + (if count / max 1 capacity % 2 = 1 then 2 ^ 31 else 0)

/-- Bytes of a commit record of a bin of `capacity` records, with its CRC (R146). -/
def CommitRec.bytes (c : CommitRec) (capacity : Nat) : Bytes :=
  withCrc (leBytes 8 c.seq ++ leBytes 4 c.tile ++ leBytes 2 c.cluster ++ leBytes 1 c.state ++ leBytes 1 c.newSel ++
    leBytes 4 (headWord capacity c.markFrom) ++ leBytes 4 (headWord capacity c.cut) ++ leBytes 4 c.added ++
    leBytes 4 c.nextGroup ++ zeros 28)

/-- Bytes of the tile record of a set (R145). -/
def TileSet.bytes (x : TileSet) : Bytes :=
  leBytes 1 (x.sel % 2 + (if x.lock then 2 else 0)) ++ zeros 3 ++ leBytes 4 x.count ++ leBytes 4 x.commits ++ zeros 4 ++
  leBytes 8 x.lastSeq ++ zeros 8

/-- Bytes of the unmask record of a tile (R181). -/
def TileSet.unmaskBytes (x : TileSet) : Bytes :=
  leBytes 1 x.unmask ++ leBytes 1 x.cause ++ zeros 2 ++ leBytes 8 x.foldSeq ++ zeros 4

/-- Bytes of the secret record of a slot, with its CRC (R163). -/
def SecretRec.bytes (x : SecretRec) : Bytes :=
  withCrc (leBytes 1 x.stateSelf ++ leBytes 1 x.stateKey ++ leBytes 1 x.request ++ zeros 1 ++ leBytes 2 x.sharesSelf ++
    leBytes 2 x.sharesKey ++ (if x.stateSelf = 3 then x.selfSeed else zeros 32) ++
    (if x.stateKey = 3 then x.privateKey else zeros 32) ++ padTo 32 x.publicKey ++ zeros 20)

/-- Bytes of a pairwise seed record: j, i, s_ij and a CRC (R163, R177; the widths are the model's, log entry 90). -/
def PairRec.bytes (x : PairRec) : Bytes := withCrc (leBytes 6 x.dropped ++ leBytes 6 x.survivor ++ padTo 32 x.seed)

/-- Bytes of a share entry of 40 B: holder, kind and value (R163; the layout is the model's, log entry 90). -/
def Share.bytes (x : Share) : Bytes := leBytes 4 x.holder ++ leBytes 4 x.sub ++ padTo 32 x.value

/-- Bytes of a work-list item (R178; DECRYPT as R231 has it). -/
def Item.bytes (x : Item) : Bytes :=
  let head := leBytes 3 x.tile ++ leBytes 1 x.kind
  if x.kind = 7 then head ++ leBytes 8 x.members ++ leBytes 4 x.block
  else head ++ leBytes 4 x.slot ++ leBytes 4 (x.peer + (if x.flag then 2 ^ (if x.kind = 3 then 25 else 24) else 0)) ++ zeros 4

/-- Bytes of a ciphertext header, with its CRC (R212). -/
def CtHeader.bytes (h : CtHeader) : Bytes :=
  withCrc (leBytes 1 h.logN ++ leBytes 1 h.chain ++ leBytes 1 h.level ++ leBytes 1 h.form ++ leBytes 1 h.status ++
    leBytes 1 h.cause ++ leBytes 1 h.causeOpcode ++ leBytes 1 (bitIf h.exported 0 + bitIf h.decoded 1) ++
    leBytes 8 h.keyId ++ leBytes 4 h.noise ++ leBytes 4 h.cohortId ++ leBytes 4 h.tile ++ zeros 4 ++
    leBytes 8 h.plaintextMod ++ zeros 20)

/-- What admission loads into the lanes and TF units of a cluster for one template: the constants of its chain's primes,
the basis constants of each level, and λ, λ⁺ and CAP of the noise ledger (R196, R220). -/
structure LaneConstants where
  template : Nat
  primes : List PrimeConstants
  basis : List BasisConstants
  lambda : List (Nat × Nat)
  caps : List Nat

/-- The lane constants of a template of a plan. -/
def PlanImage.laneConstants (im : PlanImage) (t : Nat) : LaneConstants :=
  let tm := im.template t
  let c := im.chainOf tm
  let degrees := ((im.templates.filter fun x => x.isRing && x.chain == tm.chain).map Template.logN).eraseDups
  { template := t, primes := (c.data ++ c.special).map fun q => primeConstants q degrees,
    basis := (List.range tm.limbs).map fun l => (im.ringParams tm (l + 1)).basis,
    lambda := c.data.map fun q => (log2Down q, log2Up q),
    caps := (List.range tm.limbs).map fun l => noiseCap c.data tm.plaintextMod (l + 1) }

/-- The lane constants that a cluster holds: those of the ring templates that its block's entries serve, in every
admitted plan (R196). -/
def State.laneConstants (s : State) (k : Nat) : List (Nat × LaneConstants) :=
  match (s.cluster k).position with
  | none => []
  | some p => (List.range 16).flatMap fun c =>
      match s.image c with
      | none => []
      | some im =>
        let used := ((((im.block p).map Block.entries).getD []).map fun e => e.2.cohort).eraseDups
        (used.filter fun t => (im.template t).isRing).map fun t => (c, im.laneConstants t)

/-- VF_STATUS (R309). -/
def State.vfStatus (s : State) (v : Nat) : Nat :=
  vfCtx v * 2 ^ 16 + bitIf (s.bound v) 15 + bitIf s.ready 14 + bitIf s.inHold 13 + bitIf s.furled 12 +
  bitIf (s.bound v && s.claim (vfCtx v)) 11

/-- VF_CONTROL. -/
def Vf.control (x : Vf) : Nat := bitIf x.enable 0 + bitIf x.awake 1

/-- ERROR_STATUS. -/
def Vf.errorStatus (x : Vf) : Nat := bitIf x.err 0 + bitIf x.overflow 1

def QueueState.code : QueueState → Nat
  | .none => 0
  | .active => 1
  | .destroying => 2

/-- WQ_STATUS of a queue. -/
def WorkQueue.status (q : WorkQueue) : Nat := q.state.code * 2 ^ 30 + bitIf q.fetchErr 29 + q.head % 2 ^ 16

/-- MSIX_PBA as 16 bytes. -/
def Vf.pendingBits (x : Vf) : Bytes := leBytes 16 (x.pba.zipIdx.map fun (b, i) => bitIf b i).sum

/-- MSIX_TABLE in the PCIe format: message address, data and vector control. -/
def Vf.msixTable (x : Vf) : Bytes :=
  x.msix.flatMap fun m => leBytes 8 m.addr ++ leBytes 4 m.data ++ leBytes 4 (bitIf m.masked 0)

/-- The registers from 0x0000 to 0x004F. -/
def State.vfHead (s : State) (v : Nat) : Bytes :=
  let x := s.vf v
  let run := fun (n : Nat) => if x.enable then n else 0
  ascii "TLFV" ++ leBytes 4 (s.vfStatus v) ++ leBytes 4 x.control ++ leBytes 4 x.errorStatus ++ leBytes 4 x.errCode.toNat ++
  leBytes 4 x.errCount ++ zeros 8 ++ leBytes 8 x.ringBase ++ leBytes 4 x.ringLog ++ zeros 4 ++ leBytes 8 x.cplBase ++
  leBytes 4 x.cplLog ++ zeros 8 ++ leBytes 4 (run x.head) ++ leBytes 4 (run x.cplHead) ++ leBytes 4 (run x.cplTail)

/-- Registers of one queue. -/
def WorkQueue.registers (q : WorkQueue) : Bytes :=
  zeros 4 ++ leBytes 4 q.status ++ leBytes 4 q.cplHead ++ leBytes 4 q.cplTail

/-- The VF register block: byte `i` of BAR0 of a VF. A VF that is not bound shows no queue and no counts. -/
def State.vfBlock (s : State) (v i : Nat) : Byte :=
  let c := vfCtx v
  if i < 0x50 then (s.vfHead v).getD i 0
  else if 0x1000 ≤ i ∧ i < 0x1400 then
    (if s.bound v then ((s.queue c ((i - 0x1000) / 16)).registers).getD (i % 16) 0 else 0)
  else if 0x2000 ≤ i ∧ i < 0x2420 then (s.vf v).msixTable.getD (i - 0x2000) 0
  else if 0x3000 ≤ i ∧ i < 0x3010 then (s.vf v).pendingBits.getD (i - 0x3000) 0
  else if 0x8000 ≤ i ∧ i < 0x9000 then (if s.bound v then (s.counterBlock c).getD (i - 0x8000) 0 else 0)
  else 0

/-- What a register read of a VF returns (R309). -/
def State.vfRead (s : State) (v offset width : Nat) : Bytes := (List.range width).map fun i => s.vfBlock v (offset + i)

/-- The PF identity block of an endpoint (R305). -/
def State.identityBlock (s : State) (endpoint : Nat) : Bytes :=
  padTo 64 (ascii "TLRI" ++ leBytes 2 1 ++ leBytes 1 endpoint ++ [0xB1] ++ leBytes 8 Config.serial ++
    leBytes 1 s.lifecycle.code ++ leBytes 1 (s.start.stage.getD 0xFF) ++ zeros 2 ++ leBytes 4 s.att.cpBuild ++
    leBytes 4 s.att.burgeeBuild)

/-- A configuration request to an endpoint is answered with Request Retry Status (R306). -/
def State.retryStatus (s : State) (endpoint : Nat) : Bool :=
  if endpoint = 0 then s.start.retryStatus.1 else s.start.retryStatus.2

/-- Configuration values of the PF: Vendor ID, Device ID, Revision ID, Class Code (R304). -/
def pfConfig : Nat × Nat × Nat × Nat := (0x1F3D, 0x7A32, 0xB1, 0x120000)

/-- ALERT_N is asserted (R480). -/
def State.alert (s : State) : Bool := s.alertCauses != 0

end Sys2Proof.Machine
end

