-- ==== Sys2Proof/Machine/Stored.lean ====
section
/-!
DEFINITION. Machine/Stored.lean: data as it stands outside the parts that use it: secret-store entries sealed under the
store key (R161, R163), HBM units encrypted under a memory key (R23, R356), flits on a die link (R25, R354). State holds
the contents; every function here is what an observer of the medium would find.
-/
namespace Sys2Proof.Machine

-- The secret store (R161, R163, R230)

/-- Entries of a round's secret store, each at its byte offset: the areas follow one another in the order of R163's table
(log entry 90). -/
def Round.storeEntries (r : Round) (im : PlanImage) : List (Nat × Bytes) :=
  let t := im.template r.template
  let n := t.clientSlots
  let d := t.degree
  let words := fun (w : Nat) (v : List Nat) => v.flatMap fun x => leBytes w x
  let records := r.mask.secrets.zipIdx.map fun (x, i) => (128 * i, x.bytes)
  let shares := r.mask.shares.map fun x =>
    (128 * n + 40 * ((2 * x.owner + x.sub - 1) * d + (neighbours t t.offsets x.owner).idxOf x.holder), x.bytes)
  let pairs := r.mask.pairs.zipIdx.map fun (x, k) => (128 * n + 80 * d * n + 48 * k, x.bytes)
  let first := if t.isRoot then 0 else t.slotBase
  let rows := if t.isRoot then n else t.slotCount
  let seeds := r.mask.seeds.map fun (i, v) => (8 * t.lwrLambda * (i - first), words 8 v)
  let wide := if t.format = 3 then 16 else 8
  let sums := (r.mask.baseSums.map Prod.snd ++ r.mask.partSums.map Prod.snd).zipIdx.map fun (v, k) =>
    (8 * t.lwrLambda * rows + wide * t.lwrLambda * k, words wide v)
  let answers := r.ring.shares.zipIdx.map fun (x, k) => (4096 * k, words 8 x.residues)
  if t.isPair then records ++ shares ++ pairs else if t.isSum then seeds ++ sums else answers

/-- The store as HBM would show it below the memory key: every entry sealed with its offset as tweak, and nothing readable
once the store key's slot is invalid (R161, R162). -/
def State.sealedStore (s : State) (r : Round) (im : PlanImage) : List (Nat × Bytes) :=
  match s.roundKey? r 0 (some masterAu) with
  | none => []
  | some key => (r.storeEntries im).map fun (o, b) => (o, xtsSeal (Config.xtsKey key) o b)

/-- An entry as a stream port hands it to AU, KS or RG. -/
def State.openEntry (s : State) (r : Round) (master offset : Nat) (sealed : Bytes) : Option Bytes :=
  (s.roundKey? r 0 (some master)).map fun key => xtsOpen (Config.xtsKey key) offset sealed

-- HBM (R23, R356, R357)

/-- The key under which a Canton's pages of a context are encrypted: that of the old generation until its sweep is done
(R357, R358). -/
def State.pageKey (s : State) (c canton : Nat) : Bytes :=
  let m := (s.ctx c).mem
  if m.sweeping.contains canton then m.oldKey else m.key

/-- The bit of the page-generation map for every page of a context on a Canton: the parity of the generation under which it
is encrypted. A Canton's pages change together, when its sweep is done (R357, R358; log entry 90). -/
def State.pageBit (s : State) (c canton : Nat) : Bool :=
  let m := (s.ctx c).mem
  ((if m.sweeping.contains canton then m.generation - 1 else m.generation) % 2) == 1

/-- The module memory key, under which the journal and the module's other HBM lie (R343, R352). -/
def State.moduleKey (s : State) : Bytes :=
  derive (s.fixedKey "TA32 mem" 32) "TA32 xts" (beBytes 1 0xFF ++ zeros 4 ++ s.keys.saltD) 64

/-- The 64-byte unit of HBM that holds a context's byte at an address: its tweak is its physical address divided by 64. -/
def State.hbmUnit (s : State) (c a : Nat) : Bytes :=
  let place := Config.pagePlace c (a / 65536)
  let x := s.ctx c
  let clear := (List.range 64).map fun i => memRead (x.unlisted c) x.memory (a / 64 * 64 + i)
  xtsSeal (s.pageKey c place.1) ((place.2 * 65536 + a % 65536) / 64) clear

-- The control journal (R438, R439)

/-- The 256-byte journal record (R439). -/
def JournalRecord.bytes (r : JournalRecord) : Bytes :=
  withCrc (leBytes 8 r.seq ++ leBytes 4 r.epoch ++ leBytes 2 r.kind ++ leBytes 1 (r.context.getD 0xFF) ++ zeros 1 ++
    leBytes 8 r.beat ++ leBytes 8 r.timeMs ++ padTo 220 r.body)

/-- A record as a copy of the journal holds it: at its place in the ring, under the module memory key. -/
def State.storedJournal (s : State) (r : JournalRecord) : Bytes :=
  let unit := 4 * ((r.seq - 1) % journalRing)
  (List.range 4).flatMap fun k => xtsSeal s.moduleKey (Config.journalUnit + unit + k) (slice r.bytes (64 * k) 64)

-- Connection records (R285, R286)

def ConnState.code : ConnState → Nat
  | .closed => 0
  | .listen => 1
  | .requesting => 2
  | .open => 3
  | .failed => 4

/-- The 256-byte record of a connection (R285). -/
def Conn.record (c : Conn) : Bytes :=
  let flag := fun (b : Bool) (k : Nat) => if b then 2 ^ k else 0
  let words := fun (l : List Nat) => l.flatMap fun x => leBytes 4 x
  let paths := ((List.range 16).map fun p => flag (c.suspended p) p).sum
  withCrc (
    leBytes 2 c.index ++ leBytes 2 c.gen ++ leBytes 1 c.state.code ++ leBytes 1 c.kind ++ leBytes 1 c.ctx ++
    leBytes 1 (flag c.enc 0 + flag c.passive 1 + flag c.ipv4 2 + flag c.dir 3) ++ padTo 16 c.remoteAddr ++
    leBytes 2 c.remoteConn ++ leBytes 2 c.remoteGen ++ leBytes 2 c.remoteSport ++ leBytes 1 c.paths ++
    leBytes 1 c.remotePaths ++ leBytes 4 c.txNext ++ leBytes 4 c.txOldest ++ leBytes 4 c.rxCum ++ leBytes 4 c.txSendSeq ++
    leBytes 4 c.rxSendSeq ++ leBytes 8 c.txCtrl ++ leBytes 8 c.rxCtrl ++ leBytes 2 c.keySlot ++ leBytes 2 c.landing ++
    leBytes 4 c.grant ++ leBytes 1 c.expiry ++ leBytes 1 c.queue ++ leBytes 2 paths ++ leBytes 8 c.outBase ++
    words c.outBucket ++ leBytes 8 c.inBase ++ words c.inBucket ++ leBytes 8 c.lastUse ++ zeros 20)

/-- A record in the context store of its Hoist, on C0 or C2, 256 bytes for each of the Hoist's indices, under the memory key
of its context; nothing readable where the store was lost. -/
def State.storedRecord (s : State) (c : Conn) : Option Bytes :=
  let h := connHoist c.index
  let unit := Config.storeUnit h + 4 * (c.index % 32768)
  if c.resident ∨ !c.intact then none
  else some ((List.range 4).flatMap fun k => xtsSeal (s.pageKey c.ctx (2 * h)) (unit + k) (slice c.record (64 * k) 64))

-- Die links (R25, R354)

/-- Key of a die link in the direction from `a` to `b` (R343). -/
def State.linkKey (s : State) (a b : Nat) : Bytes :=
  derive (s.fixedKey "TA32 link" 32) "TA32 link" (beBytes 1 a ++ beBytes 1 b) 32

/-- Payload of the `k`-th flit group that a link carries from `a` since its training; the IV is the session number, then
the group's number (log entry 90). -/
def State.sealFlits (s : State) (l : DieLink) (fromA : Bool) (k : Nat) (payload : Bytes) : Bytes :=
  gcmSeal (if fromA then s.linkKey l.a l.b else s.linkKey l.b l.a) (beBytes 4 l.session ++ beBytes 8 k) [] payload

end Sys2Proof.Machine
end

