-- ==== Sys2Proof/WellFormed.lean ====
section
/-!
DEFINITION. WellFormed.lean: ranges of the operands that name a fixed part of the block. A command outside them has no
meaning on any module; `exec` answers it all the same.
-/
namespace Sys2Proof

/-- Number of a cluster, 16 · Canton + number (R18). -/
def clusterOk (k : Nat) : Bool := decide (k < 64)
/-- Number of a context (R321). -/
def ctxOk (c : Nat) : Bool := decide (c < 16)
/-- A context and the place of a template in its plan (R106). -/
def cohortOk (c t : Nat) : Bool := ctxOk c && decide (t < 256)
/-- A VF: 16 · endpoint + context (R307). -/
def vfOk (v : Nat) : Bool := decide (v < 32)
/-- A sub-port 4n + k (R257). -/
def laneOk (l : Nat) : Bool := decide (l < 64)
/-- A MAC address, if one is given. -/
def macOk (a : Option Bytes) : Bool := (a.map fun b => b.length == 6).getD true
/-- A connection index (R281). -/
def connOk (i : Nat) : Bool := decide (i < 65536)
/-- A work queue of a context or VF (R297). -/
def queueOk (q : Nat) : Bool := decide (q < 64)
/-- One of two Hoists, CPs or endpoints. -/
def hoistOk (h : Nat) : Bool := decide (h < 2)
def cantonOk (c : Nat) : Bool := decide (c < 4)
/-- A place of the session table (R453). -/
def sessionOk (n : Nat) : Bool := decide (n < 8)
/-- A reference over PTP, 2 or 3 (R68). -/
def ptpOk (r : Nat) : Bool := r == 2 || r == 3
/-- A reference, 1 to 3 (R67). -/
def refOk (r : Nat) : Bool := decide (1 ≤ r ∧ r ≤ 3)
/-- A die link, in the order of LINK_REPLAYS (R482). -/
def linkOk (l : Nat) : Bool := decide (l < 13)

/-- The operands of a command name parts that the block has. -/
def Instr.wellFormed (i : Instr) : Bool :=
  match i with
  | .ptpSyncRx r .. => ptpOk r
  | .ptpAnnounceRx x _ => ptpOk x.ref
  | .referenceQualified x _ => refOk x.ref
  | .referenceLost x _ => refOk x.ref
  | .halyardSettingWrite n sub _ => sessionOk n && decide (2 ≤ sub ∧ sub ≤ 6)
  | .thermalEmergency t _ _ _ | .emergencyClear t _ _ _ _ | .thermalTrip t _ => t.length == 6
  | .slotIssue k | .prefetchFill k | .idle k | .cont k | .accum k | .commit k | .drainBoundExceeded k | .selfmask k
  | .paircorr k | .shamir k | .secretin k | .seedacc k | .lwrmask k | .ctadd k | .ptmul k | .ntt k | .intt k | .tensor k
  | .keysw k | .rotate k | .relin k | .modred k | .c1out k | .dscomb k | .finish k | .peerfwd k => clusterOk k
  | .drbgReseed k n | .drbgError k n => clusterOk k && decide (n < 8)
  | .clusterFault k kind => clusterOk k && decide (kind ≤ 2)
  | .commitDrain k c t | .fold k c t | .ringStageInOut k c t | .finishFillWriteback k c t => clusterOk k && cohortOk c t
  | .pairwiseRecompute c t _ _ _ | .sessionEstablish c t _ _ | .binCopy c t _ => cohortOk c t
  | .roundOpenEffect c t | .roundCloseEffect c t | .roundDurationLimit c t | .freeze c t | .secretPeriodEnd c t
  | .unmaskingEntry c t | .removalListBuild c t | .finishPhaseBegin c t | .roundFinished c t
  | .deliveryComplete c t => cohortOk c t
  | .dataFault c t kind _ => cohortOk c t && decide (kind ≤ 15)
  | .frameArrival i _ | .noticeBatchSend i | .ackDelayExpiry i _ | .connReqResend i _ | .connCloseResend i _
  | .moduleSendDequeue i | .recordFetch i _ _ | .retxTimerExpiry i _ _ _ => connOk i
  | .pathHoldExpiry i p _ | .probeTimeout i p _ => connOk i && decide (p < 16)
  | .roundOpen v | .roundClose v | .roundAbandon v | .release v | .roundQuery v | .requestList v | .attest v
  | .peerReport v _ _ | .planSubmit v | .planUnload v | .connCreate v | .connOpen v | .connClose v | .connDestroy v
  | .connSetGrant v | .queueCreate v | .queueDestroy v | .windowKeyReplace v | .windowKeyRevoke v | .hostCopyToContext v
  | .hostCopyToHost v | .hostCopyComplete v _ | .cmdDoorbell v _ _ | .cmdRingEnable v | .cmdRingDisable v
  | .awakeClaimSet v | .awakeClaimClear v | .errorStatusClear v _ | .vfRegisterWrite v _ _ _ | .flr v => vfOk v
  | .wqDoorbell v q _ _ => vfOk v && queueOk q
  | .completionHeadWrite v q _ | .completionPost v q => vfOk v && queueOk (q.getD 0)
  | .hostAccessFailure v kind x => vfOk v && decide (kind ≤ 4) && queueOk (x.queue.getD 0)
  | .planCheckComplete c _ => ctxOk c
  | .planStart c | .planUnloadEffect c | .keyDrainLimit c | .contextLost c _ | .teardownAbandonStep c
  | .teardownUnloadStep c => ctxOk c
  | .teardownSramZeroed c r => ctxOk c && (r.map clusterOk).getD true
  | .scrubComplete c r _ => ctxOk c && decide (r.length ≤ 4)
  | .memSweepComplete c d => ctxOk c && cantonOk d
  | .queueDestroyComplete c q | .wqeNop c q | .wqeSend c q | .wqeRecv c q | .wqeWrite c q | .wqeRead c q
  | .wqeWaitSatisfied c q | .wqeComplete c q _ => ctxOk c && queueOk q
  | .ctxCreate n c _ | .ctxTeardown n c _ => sessionOk n && ctxOk c
  | .dmaSlotMapWrite n e _ => sessionOk n && hoistOk e
  | .perstAssert e _ | .perstDeassert e _ | .pcieLinkDown e | .wakeNTimeout e _ => hoistOk e
  | .rxSendPacket l .. | .rxWritePacket l .. | .rxReadReq l .. | .rxReadResp l .. | .rxAck l .. | .rxCredit l ..
  | .rxConnReq l .. | .rxConnAccept l .. | .rxConnRefuse l .. | .rxConnClose l .. | .rxProbe l ..
  | .rxProbeReply l .. => laneOk l
  | .subportUp l a b _ | .nextHopRefresh l a b _ => laneOk l && macOk a && macOk b
  | .subportDown l _ | .subportFecTakedown l _ _ | .subportRetrain l _ => laneOk l
  | .addressResolutionRx l .. => decide (l ≤ 64)
  | .tamperAssert cause _ => decide (1 ≤ cause ∧ cause ≤ 4)
  | .domainRegulationMiss d _ => decide (d < 24)
  | .hoistReset h _ | .hoistResetComplete h _ _ _ | .secureBootComplete h _ _ _ _ _ | .flushStart h _ | .flushComplete h _ _
  | .flashRetry h _ => hoistOk h
  | .cantonReset c _ | .cantonResetComplete c _ _ | .cantonTestFailed c _ _ | .spareTakeover c
  | .spareBecomesService c => cantonOk c
  | .jackRequest i _ | .jackRenewalTimer i _ | .jackRenewal i _ _ | .selfDemotion i _ | .noHolderRx i _
  | .cpStatus i _ => hoistOk i
  | .staleInstruction u _ _ => decide (u < 16)
  | .dieLinkDown l _ _ | .dieLinkRetrainFail l _ => linkOk l
  | .allowFreeRunWrite n _ | .refPriorityWrite n _ | .align n _ | .levelRequest n _ | .portEnableWrite n _
  | .portModeWrite n _ | .keyImport n _ | .keyDestroy n _ | .memRotate n _ | .zeroise n _ | .fwWrite n _ | .fwCommit n _
  | .lifecycleRequest n _ | .moduleReset n _ | .furlEnterCommand n _ | .furlWakeRequest n _ | .handover n _
  | .credStage n _ | .credEnrol n _ | .credRemove n _ | .policyStage n _ | .policyCommit n _ | .alertAck n _
  | .sessionCursorWrite n _ | .recordsRead n => sessionOk n
  | .padRelease n _ => decide (n ≤ 8)
  | .sessionIdleExpiry n _ | .yunovRead n _ _ | .yunovWrite n _ _ | .yunovApprove n _ _ | .yunovSubscribe n _ _
  | .yunovUnsubscribe n _ _ | .subscriptionEval n _ | .notifyFlush n _ => sessionOk n
  | .dictionaryWrite n index sub _ => sessionOk n && decide (index < 65536 ∧ sub < 256)
  | .recordWrite source code ctx _ _ => decide (source < 65536 ∧ code < 2 ^ 32) && ctxOk (ctx.getD 0)
  | .packMeasurement _ _ eeprom _ => eeprom.isEmpty || eeprom.length == 1024
  | .beatBoundary | .windowBoundary | .emergencyLevelEffect | .holdEnd | .smbusAlertResponse => true
  | .ppsEdge .. | .halyardLocked .. | .holdover60sExpiry .. | .freeRunTimeout .. | .railRampStart .. | .railReadyCheck ..
  | .electricalEmergency .. | .coolantWarning .. | .tripRestart .. | .keyMaskRefresh .. | .powerOn .. | .domainEnable ..
  | .stageAComplete .. | .stageBComplete .. | .stageCComplete .. | .stageDeadlineMiss .. | .pllLockTimeout ..
  | .cpWatchdogExpiry .. | .idleTimerExpiry .. | .blockReady .. | .blockRefuse .. | .furlRetryTimer ..
  | .furlEntryComplete .. | .wakeReqPin .. | .wakeAtExpiry .. | .wakeF1Complete .. | .jackExpiry ..
  | .burgeeHoldDetect .. | .beacon .. | .holdEntry .. | .takeoverComplete .. | .holdLimitExpiry .. | .journalMirror ..
  | .dtlsClientHello .. | .approvalExpiry .. | .clearRead .. | .challenge .. | .signedWake .. | .smbusProcessCall ..
  | .mgmtAddressEffect .. | .tokenRefill .. | .summaryTick .. | .packInsert .. | .packRemove .. | .serviceHoursTick ..
  | .powerFailWarning .. | .holdupComplete .. | .burgeeFirmwareRestart .. => true

end Sys2Proof
end

