-- ==== Sys2Proof/Tests/Slice0.lean ====
section
/-!
SUPPORT. Tests/Slice0.lean: for each statement of Certificates/Slice0/Obligations.lean that has hypotheses a witness, clause
by clause: test_<statement>_<clause> gives a state and operands that meet them together (where a hypothesis is a fact of an
opaque function or of a long computation, the theorem assumes it and names it h<place>). Then a smoke test of WellFormed and
published check values of the digests.
-/
open Sys2Proof Sys2Proof.Machine
set_option maxRecDepth 8000

/-- A module that has started: every domain up, both CPs running and CP 0 the leader, the Halyard LOCKED to reference 1
with a whole second run since the last edge, sessions 0 to 3 of an operator, two keyholders and a service engineer. -/
def testRun : State :=
  { State.reset with
    aon := 100 * tickS
    start := { Startup.reset with t0 := some 0, stage := some 3, cpRuns := (true, true), dieState := [2, 2, 2, 2, 2, 2],
                                  cantonReady := [true, true, true, true], clocksSwitched := true, pllLocked := true,
                                  retryStatus := (false, false), perst := (false, false) }
    power := { Power.reset with powered := 0xFFFFFF, regulated := 0xFFFFFF, latched := 0, idleSince := some (100 * tickS) }
    hal := { Halyard.reset with state := .locked, refActive := 1, qualified := [1], everLocked := true,
                                lastEdge := 99 * tickS, sinceEdge := tickS, seconds := 100, beatCount := 512 }
    lead := { Lead.reset with holder := some 0, epoch := 1, expiry := 101 * tickS, lastBeacon := 100 * tickS,
                              cp0 := ⟨true, 1, 101 * tickS, none, 100 * tickS, 100 * tickS, none⟩,
                              cp1 := ⟨false, 0, 0, none, 100 * tickS, 100 * tickS, none⟩ }
    att := { Attest.reset with m := [1] }
    pack := { Pack.reset with present := true, packState := 1 }
    keys := { Keys.reset with nvA := some { NvRecord.new with creds := [some ⟨2, [1], 0⟩, some ⟨3, [2], 0⟩, some ⟨3, [3], 0⟩,
                                                                        some ⟨4, [4], 0⟩, none, none, none, none] } }
    mgmt := { Mgmt.reset with
      dtls := true
      sessions := [some ⟨some 0, 2, [1], 0, 0, [], 1, [], 1, [], 0, 0⟩, some ⟨some 1, 3, [2], 0, 0, [], 1, [], 1, [], 0, 0⟩,
                   some ⟨some 2, 3, [3], 0, 0, [], 1, [], 1, [], 0, 0⟩, some ⟨some 3, 4, [4], 0, 0, [], 1, [], 1, [], 0, 0⟩,
                   none, none, none, none] } }

def Sys2Proof.Machine.State.hasHal (s : State) (f : Halyard → Halyard) : State := { s with hal := f s.hal }
def Sys2Proof.Machine.State.hasPower (s : State) (f : Power → Power) : State := { s with power := f s.power }
def Sys2Proof.Machine.State.hasStart (s : State) (f : Startup → Startup) : State := { s with start := f s.start }
def Sys2Proof.Machine.State.hasSet (s : State) (f : Settings → Settings) : State := { s with set := f s.set }
def Sys2Proof.Machine.State.hasLead (s : State) (f : Lead → Lead) : State := { s with lead := f s.lead }
def Sys2Proof.Machine.State.hasMgmt (s : State) (f : Mgmt → Mgmt) : State := { s with mgmt := f s.mgmt }
def Sys2Proof.Machine.State.hasSensors (s : State) (f : Sensors → Sensors) : State := { s with sensors := f s.sensors }
def Sys2Proof.Machine.State.hasKeys (s : State) (f : Keys → Keys) : State := { s with keys := f s.keys }
def Sys2Proof.Machine.State.hasGrixo (s : State) (f : Grixo → Grixo) : State := { s with grixo := f s.grixo }
def Sys2Proof.Machine.State.hasRecorder (s : State) (f : Recorder → Recorder) : State := { s with recorder := f s.recorder }
/-- The module with its contexts in use, four key slots a Hoist each. -/
def testUse : State :=
  { testRun.hasSet fun x => { x with ctx := x.ctx.map fun c => { c with state := .active, keySlots := ⟨4, 4⟩, resident := ⟨4, 4⟩, connLimit := ⟨4, 4⟩ } } with
    ctxs := testRun.ctxs.map fun x => { x with mem := ⟨1, 1, [], [5], []⟩, pagesAssigned := true, epoch := 1 } }
def testUseHold : State := testUse.hasPower fun p => { p with idleSince := none }
/-- The sessions of `testRun`. -/
def testSession0 : Session := ⟨some 0, 2, [1], 0, 0, [], 1, [], 1, [], 0, 0⟩
def testSession1 : Session := ⟨some 1, 3, [2], 0, 0, [], 1, [], 1, [], 0, 0⟩
/-- A policy object without finish specifications. -/
def testPolicy : Bytes := [0x54, 0x4C, 0x50, 0x4F, 1, 0, 0, 0, 0, 0, 0, 0, 0, 0, 0, 0, 64, 0, 0, 0] ++ List.replicate 44 0
def testEvent : Record := ⟨1, 0, 0, 0x05030002, 0x4FF0, .event, false, false, false, false, none, List.replicate 32 0⟩
/-- Connection 0 of context 2: OPEN, kind ROUND, two paths, resident. -/
def testConn : Conn :=
  { newConn 0 1 2 ([0, 0, 0, 0, 0, 0, 0, 0, 0, 1, 2, 0, 5, 0, 0, 0] ++ List.replicate 8 0 ++ List.replicate 16 9) true 100000000 with
    state := .open, remotePaths := 2, remoteGen := 1, remoteSport := 40000, inBucket := [100, 0, 0, 0, 0, 0, 0, 0, 0, 0, 0, 0, 0, 0, 0, 0],
    inBase := 100000000, txNext := 1, first := 1, remoteFirst := 1 }
/-- The module with addresses, trained sub-ports that are up, transmit allowance and one connection. -/
def testNetWith (c : Conn) : State :=
  { testUse with
    set := { testUse.set with ports := { testUse.set.ports with addr6 := (List.replicate 16 7, List.replicate 16 8) } }
    ctxs := testUse.ctxs.map fun x => { x with egress := ⟨100000, 100000⟩ }
    grixo := { testUse.grixo with macBase := [2, 0, 0, 0, 0, 0], conns := [c], ports := List.replicate 64 { SubPort.reset with training := true, up := true, locked := true, hop6 := some [1, 2, 3, 4, 5, 6] } } }
/-- A Neighbor Solicitation for the address whose bytes are all `b`, and its frame. -/
def testNs (b : Nat) : Bytes :=
  icmp6 (List.replicate 16 9) (solicitedNode (List.replicate 16 (BitVec.ofNat 8 b)))
    ([135] ++ zeros 7 ++ List.replicate 16 (BitVec.ofNat 8 b) ++ [1, 1, 2, 0, 0, 0, 0, 9])
def testNsFrame (b : Nat) : Bytes :=
  etherFrame [0x33, 0x33, 0xFF, 7, 7, 7] [2, 0, 0, 0, 0, 9] 0x86DD
    (ipPacket false (List.replicate 16 9) (solicitedNode (List.replicate 16 (BitVec.ofNat 8 b))) 0 0 58 255 (testNs b))
/-- A teardown that has come to a step. -/
def testTear (x : TeardownStep) : State :=
  { testUse with ctxs := testUse.ctxs.map fun c => { c with teardown := some ⟨x, 1, 1, 0, 1, 0, 0, 100000, false, false, 0⟩ } }
/-- A start that has completed a stage and comes to a domain. -/
def testStart (stage : Option Nat) (next : Nat) : State :=
  testUse.hasStart fun _ => { Startup.reset with t0 := some (100 * tickS), stage := stage, stageStart := 100 * tickS, nextDomain := next, cpRuns := (true, true) }
/-- An EEPROM whose first header copy is valid: rated capacitance 20,016 µF, nothing else set. -/
def testEeprom : Bytes := ascii "TLPK" ++ List.replicate 24 0 ++ [0x30, 0x4E] ++ List.replicate 30 0 ++ [203, 152, 76, 157]
/-- A module whose clusters serve. -/
def testServe : State := { testUse with clusters := testUse.clusters.map fun c => { c with owner := .service, selfTestPassed := true, tableLoaded := c.position.isSome } }
/-- One pair-masked cohort of two slots and one tile, whose two slots are neighbours. -/
def testTemplate : Template :=
  { Template.default with cohortId := 7, mode := 1, format := 1, prg := 1, clientSlots := 2, tiles := 1, slotCount := 2,
                          degree := 1, threshold := 2, wS := 1, wR := 1, lwrLambda := 1, lwrR := 1 }
def testDesc (op : Nat) : Descriptor := ⟨op, 2, 1, 0, 0, 1, 0xF, 0, 0, 0, 0, 0, 513, 0, 0⟩
/-- A plan with one cohort, owned by the cluster of position 0, whose entries 512 and 513 are of an opcode. -/
def testImage (t : Template) (op : Nat) : PlanImage :=
  { planId := 1, compilerBuild := 1, stages := [], routes := [⟨0, 4, 1, 1, 0, 64⟩], regions := [⟨6, 0, 0, 0, 0, 131072⟩], templates := [t],
    blocks := [⟨0, [⟨if t.isRing then 3 else 1, 0, 0, max 1 t.sets⟩], [(0, testDesc 1), (1, testDesc 2), (512, testDesc op), (513, testDesc op)]⟩],
    chains := [⟨[65537, 12289], [40961]⟩], binding := ⟨[], [9, 0, 0, 0, 0, 0, 0, 0], 2, false, []⟩, noiseMargin := 0, noise := [], eligible := [1, 0, 0, 0],
    cost := ⟨1, 1, 1, 0⟩ }
def testOwner : OwnerSet := ⟨0, 0, 0, [], 0, false, [], false, [], [], 4, 0, 0, 0, 0, CommitRec.free⟩
def testRound : Round :=
  { ctx := 2, template := 0, cohortId := 7, number := 1, state := .open, acceptedBeat := 0, openBeat := 256, closeBeat := 0,
    closeAccepted := false, openWindows := 0, closedWindows := 0, kmin := 2, noiseRequired := false, planDigest := [],
    policyDigest := [], policyObject := [], inputKeyId := 0, saltR := [], roundKey := [], slots := [(0, 0), (0, 1)],
    frozen := false, frozenBeat := 0, root := none, rootKey := [], rootConn := 0, rootEnc := [], nextSeq := 1, chunks := 0,
    chunksShown := 0, intake := .empty, sets := [TileSet.zero], owners := [testOwner], cursors := [],
    mask := { RoundMask.empty with secrets := [.new, .new] }, ring := .empty, peerAgain := [], finishPhase := false,
    finishRecs := [FinishRec.none], finishItems := [], releaseBeat := 0, delivering := false, delivered := false, releaseCmd := none }
/-- Context 2 runs a plan on every beat and a round; the cluster of position 0 serves and runs nothing. -/
def testPlan (im : PlanImage) (r : Round) : State :=
  { testNetWith testConn with
    set := { (testNetWith testConn).set with ctx := updAt ((testNetWith testConn).set.ctx.map fun c => { c with mask := 0 }) 2 fun c => { c with mask := BitVec.allOnes 256 } }
    clusters := testServe.clusters
    plans := updAt testUse.plans 2 fun p => { p with state := .running, image := some im, startBeat := 256 }
    keys := { (testNetWith testConn).keys with slots := [⟨0, 0, storeAttr 2 ||| 1#32, List.replicate 32 0⟩, ⟨0, 1, exportAttr 2 ||| 1#32, List.replicate 32 0⟩] }
    rounds := [r] }
def testSpan (op : Nat) : RunningSpan := ⟨2, 512, 64, testDesc op, false, false, []⟩
def testBank (secret : Bool) : Bank := ⟨2, 0, 512, secret, 0, 0, [none]⟩
/-- The cluster of position 0 runs a span of an opcode on a round. -/
def testOp (op : Nat) (t : Template) (r : Round) : State :=
  { testPlan (testImage t op) r with
    clusters := updAt testServe.clusters 0 fun c => { c with span := some (testSpan op), banks := [testBank (op == 6)] } }
/-- A round at its removal, with one work list. -/
def testRemoval (k : ListKind) (x : Item) : Round :=
  { testRound with state := .unmasking, frozen := true,
                   intake := { RoundIntake.empty with ledger := [(0, 0)] }
                   mask := { RoundMask.empty with secrets := [⟨3, 3, 0, 2, 2, List.replicate 32 1, [], [], true, true⟩, .new], lists := [⟨0, k, [x], 0, true⟩] } }
def testSum : Template := { testTemplate with mode := 2 }
/-- Two tiles, so that a slot may hold one of them only. -/
def testSum2 : Template := { testTemplate with mode := 2, tiles := 2 }
def testSumRound : Round := { testRemoval .seedAcc ⟨0, 5, 0, 0, false, 0, 0⟩ with sets := [TileSet.zero, TileSet.zero] }

/-- A ring cohort of degree 2 with two data primes and one special prime. -/
def testRing : Template :=
  { testTemplate with mode := 3, format := 4, logN := 1, limbs := 2, special := 1, dnum := 2, committee := 1, decThreshold := 1, plaintextMod := 3 }
def testHeader (form : Nat) : CtHeader := ⟨1, 0, 2, form, 0, 0, 0, false, false, 5, 0, 7, 0, 3⟩
def testCopy (form : Nat) : WorkingCopy :=
  ⟨0, 0, 0, testHeader form, [[[1, 2], [3, 4], [5, 6]], [[7, 8], [9, 10], [11, 12]]], 0, false, true⟩
/-- A CLOSED ring round with one tile, staged in at a FORM. -/
def testRingRound (form : Nat) : Round :=
  { testRound with state := .closed, frozen := true, sets := [{ TileSet.zero with copyA := [[1, 2, 3, 4, 5, 6, 7, 8]] }],
                   ring := { RoundRing.empty with tiles := [⟨testHeader 0, none, [], 0, []⟩], working := [testCopy form] } }
/-- The header of an evaluation key that belongs to the opcode, its DIGEST beginning with 5, and a span that latched it. -/
def testKey (kind op : Nat) : Bytes :=
  withCrc (ascii "TLEK" ++ [1, BitVec.ofNat 8 kind, 1, 0] ++ leBytes 8 5 ++ leBytes 8 5 ++ leBytes 8 (if op = 0x15 then 9 else 5) ++
    leBytes 8 (chainId ⟨[65537, 12289], [40961]⟩) ++ [1, 2, 2, 1, 2, 0, 0, 0] ++ zeros 8 ++ leBytes 8 65536 ++ leBytes 8 192 ++
    leBytes 48 5 ++ zeros 4)
def testKeySpan (kind op : Nat) : RunningSpan := { testSpan op with key := testKey kind op }
def testKeyOp (kind op form : Nat) : State :=
  { testOp op testRing (testRingRound form) with clusters := updAt testServe.clusters 0 fun c => { c with span := some (testKeySpan kind op) } }
/-- A policy object with one finish specification: cohort 7, output format 1, one term of weight 1. -/
def testSpecObject : Bytes :=
  [0x54, 0x4C, 0x50, 0x4F, 1, 0, 1, 0, 0, 0, 0, 0, 0, 0, 0, 0, 144, 0, 0, 0] ++ List.replicate 44 0 ++
  [7, 0, 0, 0, 1, 1, 0, 0, 1, 0, 0, 0, 1, 0, 0, 0] ++ List.replicate 48 0 ++ [0, 0, 0, 0, 1, 0, 0, 0] ++ List.replicate 8 0
def testSpec : FinishSpec := ⟨7, 1, 0, 0, 1, 1, 0, [⟨0, 0, 1⟩]⟩
/-- A command entry of 64 bytes from its byte 8 on. -/
def testEntry (op : Nat) (l : Bytes) : Bytes := padTo 64 ([BitVec.ofNat 8 op, 0, 1, 0, 0, 0, 0, 0] ++ l)
/-- Cohort 7, round 1. -/
def testNames : Bytes := [7, 0, 0, 0, 1, 0, 0, 0]
/-- The state with a command fetched by the VF of context 2. -/
def Sys2Proof.Machine.State.hasCmd (s : State) (e : Bytes) : State :=
  { s with host := { s.host with vfs := updAt s.host.vfs 2 fun x => { x with fetched := [e] } } }
/-- The FINISH stage of a round with one item filled. -/
def testFinish (items : List FinishItem) : Round :=
  { testRound with state := .unmasking, frozen := true, finishPhase := true, policyObject := testSpecObject, finishItems := items }
def testItem : FinishItem := ⟨0, 0, 0, 0, [[1, 2]], [], 0, 0, none, none⟩
/-- The cluster of position 0 in the last beat of a FINISH. -/
def testFinSpan : RunningSpan := { testSpan 0x20 with beats := 4096 }
def testFin (r : Round) : State :=
  { testPlan (testImage testTemplate 0x20) r with
    clusters := updAt testServe.clusters 0 fun c => { c with span := some testFinSpan } }
/-- The round of a FINISH whose specification adds noise. -/
def testNoisy : Round := { testFinish [testItem] with policyObject := testSpecObject.set 80 5 }
/-- An intake frame. -/
def testFrame (kind fmt role slot tile len : Nat) (payload : Bytes) : Bytes :=
  [BitVec.ofNat 8 kind, 1, BitVec.ofNat 8 fmt, BitVec.ofNat 8 role, 0, 0, 0, 7, 0, 0, 0, 1] ++ beBytes 3 slot ++ beBytes 3 tile ++ [0, 0] ++
  beBytes 4 len ++ Frame.nonceOf kind 0 tile ++ List.replicate 28 0 ++ payload ++ List.replicate 16 0
def testMsg (f : Bytes) : RxMsg := ⟨9, 1, 0, [0], 0, 0, false, false, [(0, f)], 0, true⟩
def testRx (f : Bytes) : Conn := { testConn with rx := [testMsg f] }
def testIntake (f : Bytes) (r : Round) : State :=
  { testPlan (testImage testTemplate 1) r with grixo := { (testNetWith (testRx f)).grixo with conns := [testRx f] } }
/-- A root's notice that asks for the frame of tile 0 again, delivered to a leaf. -/
def testNotice : Bytes := noticeMessage 512 [noticeEntry 1 (testFrame 5 1 0 0 0 0 []) 1]
def testLeafNotice : State :=
  { testPlan (testImage testTemplate 0x30) { testRound with root := some [] } with
    grixo := { (testNetWith testConn).grixo with conns := [testRx testNotice] } }
/-- A QUEUE connection on queue 0 of context 2, OPEN. -/
def testConn2 : Conn := { testConn with kind := 2, queue := 0, landing := 0xFFFF, outBucket := 100 :: List.replicate 15 0, rxCum := 1 }
def testQueue : WorkQueue := { WorkQueue.reset with state := .active, conn := some 0, ringLog := 4, cplLog := 4, vector := 2 }
/-- A QUEUE connection with its queue and a window key, and a plan whose EVAL_KEY region takes the first 128 KiB. -/
def testNet2 (c : Conn) (w : WorkQueue) : State :=
  { testPlan (testImage testRing 1) testRound with
    rounds := []
    grixo := { (testNetWith c).grixo with conns := [c], queues := updAt testUse.grixo.queues 128 fun _ => w
                                          windowKeys := updAt testUse.grixo.windowKeys 2 fun _ => ⟨some 5, none, []⟩ } }
/-- A work-queue entry of 64 bytes: 8 bytes at address 64, SIGNAL set; key 5 and remote address 128 where it has them. -/
def testWqe (op : Nat) : Bytes :=
  padTo 64 ([BitVec.ofNat 8 op, 2, 0, 0, 0, 0, 0, 0] ++ leBytes 4 (if op = 0 then 0 else 8) ++ leBytes 4 (if 3 ≤ op then 5 else 0) ++
    [64, 0, 0, 0, 0, 0, 0, 0] ++ leBytes 8 (if 3 ≤ op then 128 else 0))
/-- A Grixo packet of the peer of `testConn` on path 0. -/
def testPacket (type : Nat) (id6 : Bytes) (kos off : Nat) (body : Bytes) : Bytes :=
  grixoHeader type 0 0 0 5 1 body.length id6 kos off ++ body
def testPeer : Bytes := List.replicate 16 9
/-- The frame of a packet from the peer's port to the first sub-port of Hoist 0. -/
def testDatagram (sport : Nat) (p : Bytes) : Bytes :=
  etherFrame [2, 0, 0, 0, 0, 0] [2, 0, 0, 0, 0, 9] 0x86DD (ipPacket false testPeer (List.replicate 16 7) 0 0 17 64
    (udpDatagram false testPeer (List.replicate 16 7) sport 47400 p))
def testCtrl (sub : Nat) : Bytes :=
  [BitVec.ofNat 8 sub, 2, 0, 0, 0x9C, 0x40, 0, 3, 0, 0, 0, 7] ++ List.replicate 20 0
/-- VF 2 with its rings enabled. -/
def Sys2Proof.Machine.State.hasRing (s : State) (f : Vf → Vf) : State :=
  { s with host := { s.host with vfs := updAt s.host.vfs 2 fun x => f { x with enable := true, ringLog := 4, cplLog := 4, ringBase := 65536, cplBase := 131072 } } }
/-- A state whose contexts list no memory has its memory in canonical form. -/
theorem test_mem_ok (s : State) (h : (s.ctxs.all fun x => x.memory.isEmpty) = true) : s.MemOk := by
  intro c
  have hm : (s.ctx c).memory = [] := by
    unfold State.ctx
    rw [List.getD_eq_getElem?_getD]
    cases hc : s.ctxs[c]? with
    | none => rfl
    | some x => exact List.isEmpty_iff.mp (List.all_eq_true.mp h x (List.mem_of_getElem? hc))
  rw [hm]; rfl
/-- Both tiles of the sum-seed cohort are unmasked by the cluster of position 0. -/
theorem test_unmask_sets : (testImage testSum2 7).unmaskSets 0 0 = [(0, 0), (1, 1)] := by
  change List.mergeSort [(0, 0), (1, 1)] (fun a b : Nat × Nat => decide (a.1 < b.1 ∨ (a.1 = b.1 ∧ a.2 ≤ b.2))) = _
  exact List.mergeSort_of_pairwise (by decide)

theorem test_beats_run_at_the_level_in_force_2 :
  ∃ (s : State), s.start.t0.isSome = true ∧ s.hal.frozen = false ∧ s.hal.emergencyDue = none :=
  ⟨testRun, by decide⟩

theorem test_beats_run_at_the_level_in_force_3 :
  ∃ (s : State) (b : Nat), s.hal.emergencyDue = some b ∧ b < s.hal.beatCount ∧ s.hal.sinceEdge % 84 = 0 :=
  ⟨testRun.hasHal fun h => { h with emergencyDue := some 511, level := 3, sinceEdge := 84 }, 511, by decide⟩

theorem test_window_boundary_acts_1 :
  ∃ (s : State), s.hal.beatCount % 256 = 0 ∧ s.hal.windowDone ≠ some (s.hal.beatCount / 256) ∧ s.hal.frozen = false
    ∧ s.start.t0.isSome = true ∧ s.clusters.length = 64 :=
  ⟨testRun, by decide⟩

theorem test_window_boundary_acts_1_act :
  ∃ (s : State), s.hal.beatCount % 256 = 0 ∧ s.hal.windowDone ≠ some (s.hal.beatCount / 256) ∧ s.hal.frozen = false
    ∧ s.start.t0.isSome = true ∧ s.clusters.length = 64 :=
  ⟨{ testRun with clusters := clustersReset.map (fun k => { k with request := some (.service, 256) }), set := { testRun.set with ctx := testRun.set.ctx.map fun c => { c with state := .active } } },
    by decide⟩

theorem test_window_boundary_acts_1_hold :
  ∃ (s : State), s.hal.beatCount % 256 = 0 ∧ s.hal.windowDone ≠ some (s.hal.beatCount / 256) ∧ s.hal.frozen = false
    ∧ s.start.t0.isSome = true ∧ s.clusters.length = 64 :=
  ⟨testRun.hasLead fun l => { l with hold := some 0 }, by decide⟩

theorem test_pps_edge_acts_1 :
  ∃ (s : State), s.start.t0.isSome = true ∧ s.hal.state = .start ∧ s.hal.refActive = 0 :=
  ⟨testRun.hasHal fun h => { h with state := .start, refActive := 0, qualified := [] }, by decide⟩

theorem test_pps_edge_acts_2 :
  ∃ (s : State), s.start.t0.isSome = true ∧ s.hal.state ≠ .start ∧ ¬(s.hal.state = .acquiring ∧ s.hal.acqFrom =
    .start) ∧ (s.hal.frozen = true ∨ s.hal.sinceEdge = tickS) ∧ s.hal.emergencyDue = none :=
  ⟨testRun.hasHal fun h => { h with pendingLevel := some ⟨0, 101⟩, level := 3, pendingAlign := some ⟨101, 9⟩ },
    by decide⟩

theorem test_pps_edge_acts_2_ptp :
  ∃ (s : State), s.start.t0.isSome = true ∧ s.hal.state ≠ .start ∧ ¬(s.hal.state = .acquiring ∧ s.hal.acqFrom =
    .start) ∧ (s.hal.frozen = true ∨ s.hal.sinceEdge = tickS) ∧ s.hal.emergencyDue = none :=
  ⟨testRun.hasHal fun h => { h with refActive := 2, frozen := true, resumeAtEdge := true }, by decide⟩

theorem test_references_qualify_and_fail_1 :
  ∃ (s : State) (now : Nat), s.power.powered.getLsbD 1 = true ∧ (s.at now).aon < s.hal.lastSync.1 + 2 * syncTicks
    s.hal.use.ptpLogSync :=
  ⟨testRun.hasHal fun h => { h with lastSync := (100000005 * 42 - 1, 0) }, 100000005, by decide⟩

theorem test_references_qualify_and_fail_2 :
  ∃ (s : State) (now : Nat), s.power.powered.getLsbD 10 = true ∧ s.hal.lastSync.2 + 2 * syncTicks
    s.hal.use.ptpLogSync ≤ (s.at now).aon :=
  ⟨testRun, 100000005, by decide⟩

theorem test_references_qualify_and_fail_3 :
  ∃ (s : State) (ref domain transport : Nat), (domain ≠ s.hal.use.ptpDomain ∨ transport ≠ s.hal.use.ptpTransport ∨
    s.power.powered.getLsbD (if ref = 3 then 10 else 1) = false) :=
  ⟨testRun, 2, 1, 1, by decide⟩

theorem test_references_qualify_and_fail_5 :
  ∃ (s : State) (ref a b c hz : Nat), 1 ≤ ref ∧ ref ≤ 3 ∧ ref ∉ s.hal.qualified ∧ s.start.t0.isSome = true ∧
    s.start.pllLocked = true ∧ ((ref = 1 ∧ (∀ x ∈ [a, b, c], 999999000 ≤ x ∧ x ≤ 1000001000) ∧ s.hal.use.refInFreq =
    10 ∧ 9999800000 ≤ hz ∧ hz ≤ 10000200000) ∨ (ref = 2 ∧ s.hal.syncGood.1 = 16) ∨ (ref = 3 ∧ s.hal.syncGood.2 =
    16)) :=
  ⟨testRun.hasHal fun h => { h with state := .start, refActive := 0, qualified := [], syncGood := (16, 0), use := { h.use with refPriority := 0x132 } },
    2, 0, 0, 0, 0, by decide⟩

theorem test_references_qualify_and_fail_5_b :
  ∃ (s : State) (ref a b c hz : Nat), 1 ≤ ref ∧ ref ≤ 3 ∧ ref ∉ s.hal.qualified ∧ s.start.t0.isSome = true ∧
    s.start.pllLocked = true ∧ ((ref = 1 ∧ (∀ x ∈ [a, b, c], 999999000 ≤ x ∧ x ≤ 1000001000) ∧ s.hal.use.refInFreq =
    10 ∧ 9999800000 ≤ hz ∧ hz ≤ 10000200000) ∨ (ref = 2 ∧ s.hal.syncGood.1 = 16) ∨ (ref = 3 ∧ s.hal.syncGood.2 =
    16)) :=
  ⟨testRun.hasHal fun h => { h with syncGood := (0, 16) }, 3, 0, 0, 0, 0, by decide⟩

theorem test_references_qualify_and_fail_5_c :
  ∃ (s : State) (ref a b c hz : Nat), 1 ≤ ref ∧ ref ≤ 3 ∧ ref ∉ s.hal.qualified ∧ s.start.t0.isSome = true ∧
    s.start.pllLocked = true ∧ ((ref = 1 ∧ (∀ x ∈ [a, b, c], 999999000 ≤ x ∧ x ≤ 1000001000) ∧ s.hal.use.refInFreq =
    10 ∧ 9999800000 ≤ hz ∧ hz ≤ 10000200000) ∨ (ref = 2 ∧ s.hal.syncGood.1 = 16) ∨ (ref = 3 ∧ s.hal.syncGood.2 =
    16)) :=
  ⟨testRun.hasHal fun h => { h with state := .start, refActive := 0, qualified := [] }, 1, 999999000, 1000001000,
    1000000000, 9999800000, by decide⟩

theorem test_references_qualify_and_fail_6 :
  ∃ (s : State) (ref late now : Nat), ref ∈ s.hal.qualified ∧ (if ref = 1 then 2000 < late else getPair
    s.hal.lastSync ref + 3 * syncTicks s.hal.use.ptpLogSync ≤ (s.at now).aon) :=
  ⟨testRun, 1, 2001, 100000005, by decide⟩

theorem test_halyard_states_change_1 :
  ∃ (s : State) (p : Int), s.hal.state = .acquiring ∧ s.hal.refActive ≠ 0 ∧ -10000 ≤ p ∧ p ≤ 10000 :=
  ⟨testRun.hasHal fun h => { h with state := .acquiring }, 10000, by decide⟩

theorem test_halyard_states_change_1_b :
  ∃ (s : State) (p : Int), s.hal.state = .acquiring ∧ s.hal.refActive ≠ 0 ∧ -10000 ≤ p ∧ p ≤ 10000 :=
  ⟨testRun.hasHal fun h => { h with state := .acquiring, everLocked := false }, -10000, by decide⟩

theorem test_halyard_states_change_2 :
  ∃ (s : State) (now b : Nat), s.hal.holdoverSince = some b ∧ b + 60 * tickS ≤ (s.at now).aon ∧ s.hal.holdoverFlag =
    false :=
  ⟨testRun.hasHal fun h => { h with state := .holdover, holdoverSince := some (41 * tickS) }, 101000000, 41 * tickS,
    by decide⟩

theorem test_halyard_states_change_3 :
  ∃ (s : State) (now : Nat), s.hal.state = .start ∧ s.set.allowFreeRun = true ∧ s.hal.qualified = [] ∧ s.start.stage
    = some 3 ∧ s.start.stageCAt + 30 * tickS ≤ (s.at now).aon :=
  ⟨(testRun.hasHal fun h => { h with state := .start, qualified := [], refActive := 0 }).hasSet fun x => { x with allowFreeRun := true },
    100000000, by decide⟩

theorem test_rail_precedes_upward_change_1 :
  ∃ (s : State) (now : Nat) (x : LevelChange), s.hal.pendingLevel = some x ∧ s.hal.level < x.target ∧ s.hal.lastEdge
    + (x.edge - s.hal.seconds) * tickS ≤ (s.at now).aon + 1500 * tickMs :=
  ⟨testRun.hasHal fun h => { h with pendingLevel := some ⟨2, 102⟩ }, 100000000, ⟨2, 102⟩, by decide⟩

theorem test_rail_precedes_upward_change_2 :
  ∃ (s : State), s.hal.pendingLevel = none ∧ s.hal.level < s.power.railLevel :=
  ⟨testRun.hasPower fun p => { p with railLevel := 3 }, by decide⟩

theorem test_rail_precedes_upward_change_3 :
  ∃ (s : State) (now : Nat) (x : LevelChange), s.hal.pendingLevel = some x ∧ s.hal.level < x.target ∧ s.hal.lastEdge
    + (x.edge - s.hal.seconds) * tickS ≤ (s.at now).aon + 100 * tickMs ∧ s.power.ramping = true :=
  ⟨(testRun.hasHal fun h => { h with pendingLevel := some ⟨2, 102⟩ }).hasPower fun p => { p with ramping := true },
    101900000, ⟨2, 102⟩, by decide⟩

theorem test_rail_precedes_upward_change_4 :
  ∃ (s : State) (now : Nat) (x : LevelChange), s.hal.pendingLevel = some x ∧ s.hal.level < x.target ∧ s.hal.lastEdge
    + (x.edge - s.hal.seconds) * tickS ≤ (s.at now).aon + 100 * tickMs :=
  ⟨(testRun.hasHal fun h => { h with pendingLevel := some ⟨2, 102⟩ }).hasPower fun p => { p with ramping := true },
    101900000, ⟨2, 102⟩, by decide⟩

theorem test_emergencies_order_level0_1 :
  ∃ (s : State) (inlet : Int) (flow : Nat), s.start.t0.isSome = true ∧ s.power.emergencyThermal = false ∧ (45 <
    inlet ∨ flow < 150) :=
  ⟨testRun.hasHal fun h => { h with level := 3, pendingLevel := some ⟨2, 110⟩ }, 46, 300, by decide⟩

theorem test_emergencies_order_level0_2 :
  ∃ (s : State) (watts : Nat), s.start.t0.isSome = true ∧ s.power.emergencyElectrical = false ∧ 2400 < watts :=
  ⟨testRun.hasHal fun h => { h with level := 3 }, 2401, by decide⟩

theorem test_emergencies_order_level0_3 :
  ∃ (s : State) (temp : List Int) (inlet : Int) (flow now : Nat), s.power.emergencyThermal = true ∧ (s.at now).dieAt
    temp 91 = false ∧ inlet ≤ 40 ∧ 200 ≤ flow :=
  ⟨testRun.hasPower fun p => { p with emergencyThermal := true }, [60, 60, 60, 60, 60, 60], 40, 200, 100000001,
    by decide⟩

theorem test_emergencies_order_level0_4 :
  ∃ (s : State) (inlet : Int) (flow : Nat), s.start.t0.isSome = true ∧ s.power.emergencyThermal = false ∧ (40 <
    inlet ∨ flow < 200) ∧ inlet ≤ 45 ∧ 150 ≤ flow :=
  ⟨testRun, 41, 300, by decide⟩

theorem test_trip_stops_and_restarts_1 :
  ∃ (s : State) (temp : List Int) (now : Nat), s.start.t0.isSome = true ∧ s.power.tripped = false ∧ (s.at now).dieAt
    temp 105 = true :=
  ⟨testRun.hasSensors fun x => { x with dieTemp := [104, 104, 104, 104, 104, 105] }, [105, 60, 60, 60, 60, 60],
    100000001, by decide⟩

theorem test_trip_stops_and_restarts_2 :
  ∃ (s : State) (now : Nat), s.power.tripped = true ∧ (s.at now).ms ≥ s.power.trips.headD 0 + 60000 ∧ (∀ x,
    s.power.trips[2]? = some x → x + 3600000 < s.power.trips.headD 0) :=
  ⟨testRun.hasPower fun p => { p with tripped := true, trips := [4000000, 3000000, 0], powered := 3 }, 4060000000,
    by decide⟩

theorem test_trip_stops_and_restarts_3 :
  ∃ (s : State) (x : Nat), s.power.tripped = true ∧ s.power.trips[2]? = some x ∧ s.power.trips.headD 0 ≤ x + 3600000
    :=
  ⟨testRun.hasPower fun p => { p with tripped := true, trips := [40000, 30000, 0], powered := 3 }, 0, by decide⟩

theorem test_ref_priority_rule_1 :
  ∃ (s : State) (n role a b c : Nat) (v : Bytes), s.InSession n role ∧ (role = 2 ∨ role = 3) ∧ v.length = 4 ∧ beNat
    v = a + 16 * b + 256 * c ∧ a < 16 ∧ b < 16 ∧ c < 16 ∧ (3 < a ∨ 3 < b ∨ 3 < c ∨ (a ≠ 0 ∧ (a = b ∨ a = c)) ∨ (b ≠
    0 ∧ b = c) ∨ (a = 0 ∧ (b ≠ 0 ∨ c ≠ 0)) ∨ (b = 0 ∧ c ≠ 0)) :=
  ⟨testRun, 0, 2, 4, 0, 0, [0, 0, 0, 4], (by unfold State.InSession; decide), by decide⟩

theorem test_ref_priority_rule_1_hole :
  ∃ (s : State) (n role a b c : Nat) (v : Bytes), s.InSession n role ∧ (role = 2 ∨ role = 3) ∧ v.length = 4 ∧ beNat
    v = a + 16 * b + 256 * c ∧ a < 16 ∧ b < 16 ∧ c < 16 ∧ (3 < a ∨ 3 < b ∨ 3 < c ∨ (a ≠ 0 ∧ (a = b ∨ a = c)) ∨ (b ≠
    0 ∧ b = c) ∨ (a = 0 ∧ (b ≠ 0 ∨ c ≠ 0)) ∨ (b = 0 ∧ c ≠ 0)) :=
  ⟨testRun, 1, 3, 1, 0, 2, [0, 0, 2, 1], (by unfold State.InSession; decide), by decide⟩

theorem test_ref_priority_rule_2 :
  ∃ (s : State) (n role a b c : Nat) (v : Bytes), s.InSession n role ∧ (role = 2 ∨ role = 3) ∧ v.length = 4 ∧ beNat
    v = a + 16 * b + 256 * c ∧ a ≤ 3 ∧ b ≤ 3 ∧ c ≤ 3 ∧ (a = b → a = 0) ∧ (a = c → a = 0) ∧ (b = c → b = 0) ∧ (a = 0
    → b = 0) ∧ (b = 0 → c = 0) :=
  ⟨testRun, 0, 2, 3, 2, 1, [0, 0, 1, 0x23], (by unfold State.InSession; decide), by decide⟩

theorem test_ref_priority_rule_3 :
  ∃ (s : State), s.start.t0.isSome = true ∧ s.hal.frozen = false ∧ (s.hal.state = .start ∨ s.hal.sinceEdge = tickS)
    :=
  ⟨testRun, by decide⟩

theorem test_halyard_entries_are_written_1 :
  ∃ (s : State) (n role sub : Nat) (v : Bytes), s.InSession n role ∧ (role = 2 ∨ role = 3) ∧ ((sub = 2 ∧ (v = [10] ∨
    v = [25])) ∨ (sub = 3 ∧ v.length = 4 ∧ -100000 ≤ signedOf 32 (beNat v) ∧ signedOf 32 (beNat v) ≤ 100000) ∨ (sub
    = 4 ∧ v.length = 1 ∧ beNat v ≤ 127) ∨ (sub = 5 ∧ v.length = 1 ∧ 1 ≤ beNat v ∧ beNat v ≤ 3) ∨ (sub = 6 ∧ v.length
    = 2 ∧ -7 ≤ signedOf 16 (beNat v) ∧ signedOf 16 (beNat v) ≤ 0)) :=
  ⟨testRun, 0, 2, 2, [25], (by unfold State.InSession; decide), by decide⟩

theorem test_halyard_entries_are_written_1_log :
  ∃ (s : State) (n role sub : Nat) (v : Bytes), s.InSession n role ∧ (role = 2 ∨ role = 3) ∧ ((sub = 2 ∧ (v = [10] ∨
    v = [25])) ∨ (sub = 3 ∧ v.length = 4 ∧ -100000 ≤ signedOf 32 (beNat v) ∧ signedOf 32 (beNat v) ≤ 100000) ∨ (sub
    = 4 ∧ v.length = 1 ∧ beNat v ≤ 127) ∨ (sub = 5 ∧ v.length = 1 ∧ 1 ≤ beNat v ∧ beNat v ≤ 3) ∨ (sub = 6 ∧ v.length
    = 2 ∧ -7 ≤ signedOf 16 (beNat v) ∧ signedOf 16 (beNat v) ≤ 0)) :=
  ⟨testRun, 0, 2, 6, [0xFF, 0xF9], (by unfold State.InSession; decide), by decide⟩

theorem test_halyard_entries_are_written_2 :
  ∃ (s : State) (n role : Nat), s.InSession n role ∧ (role = 2 ∨ role = 3) :=
  ⟨testRun, 0, 2, (by unfold State.InSession; decide), by decide⟩

theorem test_halyard_entries_are_written_3 :
  ∃ (s : State) (n role : Nat) (v : Bytes), s.InSession n role ∧ (role = 2 ∨ role = 3) ∧ v.length = 16 ∧
    s.plansAdmitted = false ∧ (s.hal.seconds + 2) * tickS + min tickS (s.aon - s.hal.lastEdge) ≤ beAt v 0 8 * tickS
    ∧ beAt v 0 8 * tickS ≤ (s.hal.seconds + 3600) * tickS + min tickS (s.aon - s.hal.lastEdge) :=
  ⟨testRun, 0, 2, [0, 0, 0, 0, 0, 0, 0, 103, 0, 0, 0, 0, 0, 0, 1, 0], (by unfold State.InSession; decide), by decide⟩

theorem test_level_request_waits_for_its_edge_1 :
  ∃ (s : State) (n role target edge : Nat) (v : Bytes), s.InSession n role ∧ (role = 2 ∨ role = 3) ∧ v.length = 9 ∧
    beAt v 0 1 = target ∧ beAt v 1 8 = edge ∧ target ≤ 3 ∧ s.power.powered &&& cantonBits = cantonBits ∧
    s.start.cantonReady.all id = true ∧ s.hal.state ≠ .start ∧ s.power.emergencyThermal = false ∧
    s.power.emergencyElectrical = false ∧ s.hal.pendingLevel = none ∧ (s.hal.seconds + 2) * tickS + min tickS (s.aon
    - s.hal.lastEdge) ≤ edge * tickS ∧ edge * tickS ≤ (s.hal.seconds + 3600) * tickS + min tickS (s.aon -
    s.hal.lastEdge) ∧ target ≠ s.hal.level :=
  ⟨testRun, 0, 2, 3, 103, [3, 0, 0, 0, 0, 0, 0, 0, 103], (by unfold State.InSession; decide), by decide⟩

theorem test_furl_command_rule_1 :
  ∃ (s : State) (n role : Nat) (k : Fin 4), s.InSession n role ∧ (role = 2 ∨ role = 3) ∧ k ≠ 0 ∧ (s.touch n).idle =
    true ∧ s.power.furl < k.val ∧ s.power.entry = none ∧ s.power.committed = none :=
  ⟨testRun.hasHal fun h => { h with seconds := 100 }, 0, 2, 1, (by unfold State.InSession; decide), by decide⟩

theorem test_furl_command_rule_2 :
  ∃ (s : State) (n role : Nat) (k : Fin 4), s.InSession n role ∧ (role = 2 ∨ role = 3) ∧ k ≠ 0 ∧ ((s.touch n).idle =
    false ∨ k.val ≤ s.power.furl) :=
  ⟨testRun.hasPower fun p => { p with furl := 1 }, 1, 3, 1, (by unfold State.InSession; decide), by decide⟩

theorem test_furl_command_rule_3 :
  ∃ (s : State) (n role : Nat), s.InSession n role ∧ (role = 2 ∨ role = 3) :=
  ⟨testRun.hasPower fun p => { p with furl := 1 }, 0, 2, (by unfold State.InSession; decide), by decide⟩

theorem test_furl_command_rule_4 :
  ∃ (s : State) (n role : Nat), s.InSession n role ∧ (role = 2 ∨ role = 3) ∧ s.power.furl = 0 ∧ s.power.entry = none
    ∧ s.power.committed = none :=
  ⟨testRun, 0, 2, (by unfold State.InSession; decide), by decide⟩

theorem test_pad_release_rule_2 :
  ∃ (s : State) (n v : Nat), 8 ≤ n ∧ (s.start.cpRuns.1 || s.start.cpRuns.2) = true ∧ v < 2 ^ 24 ∧ v % 4 = 0 ∧ (∀ d,
    d < 24 → v.testBit d = true → s.power.regulated.getLsbD d = true) :=
  ⟨testRun.hasPower fun p => { p with latched := 0xFFFFFC }, 8, 0xFFFFFC, by decide⟩

theorem test_pad_release_rule_3 :
  ∃ (s : State) (n v d : Nat), 8 ≤ n ∧ v < 2 ^ 24 ∧ d < 24 ∧ v.testBit d = true ∧ (d < 2 ∨ s.power.regulated.getLsbD
    d = false) :=
  ⟨testRun.hasPower fun p => { p with regulated := 0xFFFFF7 }, 8, 8, 3, by decide⟩

theorem test_pad_release_rule_3_own :
  ∃ (s : State) (n v d : Nat), 8 ≤ n ∧ v < 2 ^ 24 ∧ d < 24 ∧ v.testBit d = true ∧ (d < 2 ∨ s.power.regulated.getLsbD
    d = false) :=
  ⟨testRun, 8, 3, 1, by decide⟩

theorem test_pad_release_rule_4 :
  ∃ (s : State) (n role v : Nat), s.InSession n role ∧ (role = 2 ∨ role = 3) ∧ n < 8 ∧ v < 2 ^ 24 :=
  ⟨testRun, 1, 3, 4, (by unfold State.InSession; decide), by decide⟩

theorem test_port_and_slot_map_writes_1 :
  ∃ (s : State) (n role : Nat) (v : Bytes), s.InSession n role ∧ (role = 2 ∨ role = 3) ∧ v.length = 8 ∧ (∀ c, c < 16
    → (s.vf c).enable = false ∧ (s.bound c = true → ∀ q, q < 64 → (s.queue c q).state = .none)) ∧ (∀ c, c < 16 →
    (s.ctxSet c).state ≠ .free → (s.ctxSet c).endpoint = 0 → ∃ k, k < 16 ∧ beNat v / 16 ^ k % 16 = c) :=
  ⟨testRun, 0, 2, [1, 2, 3, 4, 5, 6, 7, 8], (by unfold State.InSession; decide), by decide⟩

theorem test_port_and_slot_map_writes_2 :
  ∃ (s : State) (n role : Nat) (v : Bytes), s.InSession n role ∧ (role = 2 ∨ role = 3) ∧ v.length = 8 ∧ (∀ c, c < 16
    → (s.vf (16 + c)).enable = false ∧ (s.bound (16 + c) = true → ∀ q, q < 64 → (s.queue c q).state = .none)) ∧ (∀
    c, c < 16 → (s.ctxSet c).state ≠ .free → (s.ctxSet c).endpoint = 1 → ∃ k, k < 16 ∧ beNat v / 16 ^ k % 16 = c) :=
  ⟨testRun, 0, 2, [1, 2, 3, 4, 5, 6, 7, 8], (by unfold State.InSession; decide), by decide⟩

theorem test_port_and_slot_map_writes_3 :
  ∃ (s : State) (n role : Nat) (v : Bytes), s.InSession n role ∧ (role = 2 ∨ role = 3) ∧ v.length = 2 :=
  ⟨testRun.hasSet fun x => { x with ports := { x.ports with enable := 2 } }, 0, 2, [0, 1],
    (by unfold State.InSession; decide), by decide⟩

theorem test_port_and_slot_map_writes_4 :
  ∃ (s : State) (n role : Nat) (v : Bytes), s.InSession n role ∧ (role = 2 ∨ role = 3) ∧ v.length = 4 ∧ (∀ k, k < 16
    → beNat v / 4 ^ k % 4 ≠ 3) ∧ (∀ k, k < 16 → s.set.ports.modeOf k ≠ beNat v / 4 ^ k % 4 →
    s.set.ports.enable.getLsbD k = false) ∧ s.hoistBusy 0 = false ∧ s.hoistBusy 1 = false :=
  ⟨testRun.hasSet fun x => { x with ports := { x.ports with enable := 2 } }, 0, 2, [0, 0, 0, 1],
    (by unfold State.InSession; decide), by decide⟩

theorem test_context_creation_1 :
  ∃ (s : State) (n role c : Nat), s.InSession n role ∧ (role = 2 ∨ role = 3) ∧ c < 16 ∧ s.ctxs.length = 16 ∧
    s.set.ctx.length = 16 ∧ (s.ctxSet c).state = .free ∧ s.lead.hold = none ∧ s.masterAway = false ∧ s.maskFree c
    (s.ctxSet c) = true ∧ s.totalsHold c (s.ctxSet c) = true ∧ (s.ctxSet c).resident.h0 ≤ (s.ctxSet c).connLimit.h0
    ∧ (s.ctxSet c).resident.h1 ≤ (s.ctxSet c).connLimit.h1 ∧ s.hasDmaSlot (s.ctxSet c).endpoint c = true :=
  ⟨testRun, 0, 2, 15, (by unfold State.InSession; decide), by decide⟩

theorem test_dual_controlled_writes_wait_1 :
  ∃ (s : State) (n role slot : Nat), s.InSession n role ∧ s.UnderCredential n slot ∧ (role = 2 ∨ role = 3) ∧
    s.mgmt.approvals.length < 8 :=
  ⟨testUse, 1, 3, 1, (by unfold State.InSession; decide), (by unfold State.UnderCredential; decide), by decide⟩

theorem test_dual_controlled_writes_wait_1_free :
  ∃ (s : State) (n role slot : Nat), s.InSession n role ∧ s.UnderCredential n slot ∧ (role = 2 ∨ role = 3) ∧
    s.mgmt.approvals.length < 8 :=
  ⟨testRun, 0, 2, 0, (by unfold State.InSession; decide), (by unfold State.UnderCredential; decide), by decide⟩

theorem test_approved_writes_act_1 :
  ∃ (s : State) (a : Approval), (∃ x, s.credential? a.initiator = some x ∧ (x.role = 2 ∨ x.role = 3)) :=
  ⟨testUse, ⟨1, 0, [1, 2], 0, [], 0x3002, 2, [2]⟩, ⟨_, rfl, .inl rfl⟩⟩

theorem test_key_import_installs_grixo_key_1 (h14 : hpkeOpen (testUse : State).importKey (slice ([1, 2, 1, 5] ++
    List.replicate 84 0 : Bytes) 8 32) (ascii "TA32 import" ++ ([1, 2, 1, 5] ++ List.replicate 84 0 : Bytes).take 8)
    (([1, 2, 1, 5] ++ List.replicate 84 0 : Bytes).take 8) (slice ([1, 2, 1, 5] ++ List.replicate 84 0 : Bytes) 40
    48) = some ([7] : Bytes)) :
  ∃ (s : State) (n role c h : Nat) (v key : Bytes), s.InSession n role ∧ (role = 2 ∨ role = 3) ∧ v.length = 88 ∧
    beAt v 0 1 = 1 ∧ beAt v 1 1 = c ∧ beAt v 2 1 = h ∧ beAt v 3 1 = 5 ∧ zeroAt v 4 4 = true ∧ c < 16 ∧ h < 2 ∧
    (s.ctxSet c).state = .active ∧ s.masterAway = false ∧ s.slotFree c h 1 = true ∧ hpkeOpen s.importKey (slice v 8
    32) (ascii "TA32 import" ++ v.take 8) (v.take 8) (slice v 40 48) = some key :=
  ⟨testUse, 0, 2, 2, 1, [1, 2, 1, 5] ++ List.replicate 84 0, [7], (by unfold State.InSession; decide), by decide,
    by decide, by decide, by decide, by decide, by decide, (by decide), by decide, by decide, by decide, by decide,
    by decide, h14⟩

theorem test_firmware_reset_and_handover_writes_1 :
  ∃ (s : State) (n kind off : Nat) (v : Bytes), s.InSession n 4 ∧ 8 ≤ v.length ∧ v.length ≤ 1032 ∧ beAt v 0 1 = kind
    ∧ (kind = 1 ∨ kind = 2) ∧ zeroAt v 1 3 = true ∧ beAt v 4 4 = off ∧ off + (v.length - 8) ≤ slotBytes kind ∧ (∀ k,
    s.att.next kind = some k → k ≤ off) :=
  ⟨testRun, 3, 1, 0, [1, 0, 0, 0, 0, 0, 0, 0, 0xAA], (by unfold State.InSession; decide), by decide, by decide,
    by decide, by decide, by decide, by decide, (by decide), (by intro k h; cases h)⟩

theorem test_firmware_reset_and_handover_writes_1_gap :
  ∃ (s : State) (n kind off : Nat) (v : Bytes), s.InSession n 4 ∧ 8 ≤ v.length ∧ v.length ≤ 1032 ∧ beAt v 0 1 = kind
    ∧ (kind = 1 ∨ kind = 2) ∧ zeroAt v 1 3 = true ∧ beAt v 4 4 = off ∧ off + (v.length - 8) ≤ slotBytes kind ∧ (∀ k,
    s.att.next kind = some k → k ≤ off) :=
  ⟨{ testRun with att := { Attest.reset with stageNext := (none, some 5), cpB := ⟨[1, 2, 3, 4, 5]⟩ } }, 3, 2, 7,
    [2, 0, 0, 0, 0, 0, 0, 7, 0xAA], (by unfold State.InSession; decide), by decide, by decide, by decide, by decide,
    by decide, by decide, (by decide), (by intro k h; cases h; decide)⟩

theorem test_firmware_reset_and_handover_writes_2 (h3 : Fw.verifies (testRun : State).lifecycle (2 : Byte).toNat
    ((testRun : State).att.spare (2 : Byte).toNat) = true) (h4 : (if (2 : Byte).toNat = 1 then (testRun :
    State).att.burgeeSvn else (testRun : State).att.cpSvn) ≤ Fw.svn ((testRun : State).att.spare (2 : Byte).toNat))
    :
  ∃ (s : State) (n : Nat) (kind : Byte), s.InSession n 4 ∧ (kind.toNat = 1 ∨ kind.toNat = 2) ∧ Fw.verifies
    s.lifecycle kind.toNat (s.att.spare kind.toNat) = true ∧ (if kind.toNat = 1 then s.att.burgeeSvn else
    s.att.cpSvn) ≤ Fw.svn (s.att.spare kind.toNat) :=
  ⟨testRun, 3, 2, (by unfold State.InSession; decide), by decide, h3, h4⟩

theorem test_firmware_reset_and_handover_writes_3 :
  ∃ (s : State) (n : Nat) (kind : Byte), s.InSession n 4 ∧ (kind.toNat = 1 ∨ kind.toNat = 2) ∧ Fw.verifies
    s.lifecycle kind.toNat (s.att.spare kind.toNat) = false :=
  ⟨testRun, 3, 2, (by unfold State.InSession; decide), by decide⟩

theorem test_firmware_reset_and_handover_writes_4 :
  ∃ (s : State) (n : Nat), s.InSession n 4 ∧ (∀ e ∈ s.set.ctx, e.state = .free) :=
  ⟨testRun, 3, (by unfold State.InSession; decide), by decide⟩

theorem test_firmware_reset_and_handover_writes_5 :
  ∃ (s : State) (n role i : Nat), s.InSession n role ∧ (role = 2 ∨ role = 3) ∧ s.lead.hold = none ∧ s.masterAway =
    false ∧ s.leaderCp = some i ∧ s.lead.takeover = none ∧ s.mirrorLag = 0 ∧ s.cpRuns (1 - i) = true ∧ s.hal.frozen
    = false :=
  ⟨testRun, 0, 2, 0, (by unfold State.InSession; decide), by decide⟩

theorem test_credentials_are_enrolled_and_removed_1 :
  ∃ (s : State) (n role : Nat) (v : Bytes), s.InSession n role ∧ (role = 0 ∨ role = 3) ∧ 2 ≤ v.length ∧ v.length ≤
    1026 ∧ beAt v 0 2 = 0 :=
  ⟨testRun, 1, 3, [0, 0, 0x30], (by unfold State.InSession; decide), by decide⟩

theorem test_credentials_are_enrolled_and_removed_2 :
  ∃ (s : State) (n role : Nat) (v : Bytes), s.InSession n role ∧ (role = 0 ∨ role = 3) ∧ 2 ≤ v.length ∧ v.length ≤
    1026 ∧ beAt v 0 2 = s.mgmt.credStage.length ∧ s.mgmt.credStage ≠ [] ∧ s.mgmt.credStage.length + (v.length - 2) ≤
    2032 :=
  ⟨testRun.hasMgmt fun m => { m with credStage := [7] }, 1, 3, [0, 1, 0x30], (by unfold State.InSession; decide),
    by decide⟩

theorem test_credentials_are_enrolled_and_removed_3 (h6 : Config.certValid (testRun.hasMgmt fun m => { m with
    credStage := [9] } : State).mgmt.credStage = true) (h9 : Config.nvWriteFails (testRun.hasMgmt fun m => { m with
    credStage := [9] } : State).aon ((testRun.hasMgmt fun m => { m with credStage := [9] } : State).nv.seq + 1) =
    false) :
  ∃ (s : State) (n slot as_ : Nat), s.InSession n 3 ∧ slot < 8 ∧ s.nv.creds.length = 8 ∧ (as_ = 1 ∨ as_ = 2 ∨ as_ =
    4 ∨ (as_ = 3 ∧ s.keyholders < 2)) ∧ s.credential? slot = none ∧ Config.certValid s.mgmt.credStage = true ∧ (∀ x,
    some x ∈ s.nv.creds → x.cert ≠ s.mgmt.credStage) ∧ s.pack.packState = 1 ∧ Config.nvWriteFails s.aon (s.nv.seq +
    1) = false :=
  ⟨testRun.hasMgmt fun m => { m with credStage := [9] }, 1, 7, 4, (by unfold State.InSession; decide), by decide,
    by decide, by decide, by decide, h6,
    fun x h => by have h : some x ∈ [some (⟨2, [1], 0⟩ : Credential), some ⟨3, [2], 0⟩, some ⟨3, [3], 0⟩, some ⟨4, [4], 0⟩, none, none, none, none] := h; simp at h; rcases h with rfl | rfl | rfl | rfl <;> decide,
    by decide, h9⟩

theorem test_credentials_are_enrolled_and_removed_4 (h7 : Config.certValid ({ testRun with keys := .reset, mgmt := {
    testRun.mgmt with credStage := [9], sessions := [none, some ⟨none, 0, [9], 0, 0, [], 1, [], 1, [], 0, 0⟩] } } :
    State).mgmt.credStage = true) (h9 : Config.nvWriteFails ({ testRun with keys := .reset, mgmt := { testRun.mgmt
    with credStage := [9], sessions := [none, some ⟨none, 0, [9], 0, 0, [], 1, [], 1, [], 0, 0⟩] } } : State).aon
    (({ testRun with keys := .reset, mgmt := { testRun.mgmt with credStage := [9], sessions := [none, some ⟨none, 0,
    [9], 0, 0, [], 1, [], 1, [], 0, 0⟩] } } : State).nv.seq + 1) = false) :
  ∃ (s : State) (n slot : Nat) (x : Session), s.mgmt.dtls = true ∧ s.session? n = some x ∧ x.role = 0 ∧ slot < 8 ∧
    s.nv.creds = List.replicate 8 none ∧ x.cert = s.mgmt.credStage ∧ Config.certValid s.mgmt.credStage = true ∧
    s.pack.packState = 1 ∧ Config.nvWriteFails s.aon (s.nv.seq + 1) = false :=
  ⟨{ testRun with keys := .reset, mgmt := { testRun.mgmt with credStage := [9], sessions := [none, some ⟨none, 0, [9], 0, 0, [], 1, [], 1, [], 0, 0⟩] } },
    1, 0, ⟨none, 0, [9], 0, 0, [], 1, [], 1, [], 0, 0⟩, by decide, by decide, by decide, by decide, by decide,
    by decide, h7, by decide, h9⟩

theorem test_credentials_are_enrolled_and_removed_5 (h7 : Config.nvWriteFails (testRun : State).aon ((testRun :
    State).nv.seq + 1) = false) :
  ∃ (s : State) (n slot : Nat) (x : Credential), s.InSession n 3 ∧ slot < 8 ∧ s.nv.creds.length = 8 ∧ s.credential?
    slot = some x ∧ x.role ≠ 3 ∧ s.pack.packState = 1 ∧ Config.nvWriteFails s.aon (s.nv.seq + 1) = false :=
  ⟨testRun, 1, 0, ⟨2, [1], 0⟩, (by unfold State.InSession; decide), by decide, by decide, by decide, by decide,
    by decide, h7⟩

theorem test_credentials_are_enrolled_and_removed_6 :
  ∃ (s : State) (n slot : Nat) (x : Credential), s.InSession n 3 ∧ slot < 8 ∧ s.nv.creds.length = 8 ∧ s.credential?
    slot = some x ∧ x.role ≠ 3 :=
  ⟨testRun, 1, 0, ⟨2, [1], 0⟩, (by unfold State.InSession; decide), by decide⟩

theorem test_policies_are_staged_and_committed_1 :
  ∃ (s : State) (n role c : Nat) (v : Bytes), s.InSession n role ∧ (role = 2 ∨ role = 3) ∧ 8 ≤ v.length ∧ v.length ≤
    1032 ∧ beAt v 0 1 = c ∧ c < 16 ∧ zeroAt v 1 3 = true ∧ beAt v 4 4 = 0 :=
  ⟨testRun, 0, 2, 15, [15, 0, 0, 0, 0, 0, 0, 0, 0x54], (by unfold State.InSession; decide), by decide⟩

theorem test_policies_are_staged_and_committed_2 :
  ∃ (s : State) (n role : Nat) (c : Byte) (stage : Bytes), s.InSession n role ∧ (role = 2 ∨ role = 3) ∧ c.toNat < 16
    ∧ s.masterAway = false ∧ s.mgmt.policyStage.getD c.toNat [] = stage ∧ policyOk stage = true ∧ policyKmin
    (policyObject stage) = s.kminInForce c.toNat ∧ s.set.policies.length = 16 :=
  ⟨testRun.hasMgmt fun m => { m with policyStage := List.replicate 16 testPolicy }, 0, 2, 15, testPolicy,
    (by unfold State.InSession; decide), by decide⟩

theorem test_other_entries_are_written_1 :
  ∃ (s : State) (n role : Nat) (v : Bytes), s.InSession n role ∧ (role = 2 ∨ role = 3) ∧ v.length = 8 ∧ 1 ≤ beNat v
    ∧ beNat v ≤ s.recorder.lastSeq :=
  ⟨testRun.hasRecorder fun r => { r with lastSeq := 5 }, 0, 2, [0, 0, 0, 0, 0, 0, 0, 5],
    (by unfold State.InSession; decide), by decide⟩

theorem test_other_entries_are_written_2 :
  ∃ (s : State) (n role : Nat) (v : Bytes), s.InSession n role ∧ (1 ≤ role ∧ role ≤ 4) ∧ v.length = 8 ∧ 1 ≤ beNat v
    ∧ beNat v ≤ s.recorder.lastSeq + 1 :=
  ⟨testRun.hasRecorder fun r => { r with lastSeq := 5 }, 0, 2, [0, 0, 0, 0, 0, 0, 0, 6],
    (by unfold State.InSession; decide), by decide⟩

theorem test_other_entries_are_written_3 :
  ∃ (s : State) (n index sub : Nat) (v : Bytes) (x : Session), s.mgmt.dtls = true ∧ s.session? n = some x ∧ v.length
    ≤ 1176 ∧ (s.touch n).writeCheck x.role (wholeItem index sub v) = 0 ∧ (s.touch n).isDual index sub v = false :=
  ⟨testRun, 0, 0x1200, 1, [0, 0, 3, 0x21], testSession0, by decide⟩

theorem test_other_entries_are_written_4 :
  ∃ (s : State) (n index sub code : Nat) (v : Bytes) (x : Session), s.mgmt.dtls = true ∧ s.session? n = some x ∧
    v.length ≤ 1176 ∧ (s.touch n).writeCheck x.role (wholeItem index sub v) = code ∧ code ≠ 0 :=
  ⟨testRun, 0, 0x1200, 1, 0x01010003, [0, 3, 0x21], testSession0, by decide⟩

theorem test_other_entries_are_written_5 :
  ∃ (s : State) (n role : Nat) (v : Bytes), s.InSession n role ∧ (role = 2 ∨ role = 3) ∧ v.length = 2 ∧ 30 ≤ beNat v
    ∧ beNat v ≤ 3600 :=
  ⟨testRun, 0, 2, [0, 30], (by unfold State.InSession; decide), by decide⟩

theorem test_requests_are_answered_1 :
  ∃ (s : State) (n now : Nat) (b r : Bytes) (x : Session), s.mgmt.dtls = true ∧ s.session? n = some x ∧ x.keptFor
    (s.at now).aon (readMsg b).reqId = some r :=
  ⟨testRun.hasMgmt fun m => { m with sessions := [some { testSession0 with kept := [(7, 100 * tickS, [1, 2])] }] },
    0, 100000005, [1, 1, 0, 0, 0, 0, 0, 7, 0, 0, 0, 0, 0, 0, 0, 0], [1, 2],
    { testSession0 with kept := [(7, 100 * tickS, [1, 2])] }, by decide⟩

theorem test_requests_are_answered_2 :
  ∃ (s u : State) (n now : Nat) (b r : Bytes) (x : Session) (items : List YItem), s.mgmt.dtls = true ∧ s.session? n
    = some x ∧ u = (s.at now).touch n ∧ x.keptFor (s.at now).aon (readMsg b).reqId = none ∧ (readMsg b).wellFormed =
    true ∧ (readMsg b).type = 1 ∧ parseItems false (readMsg b).count (readMsg b).body = some items ∧ (∀ i ∈ items,
    readCheck x.role i = 0) ∧ (items.flatMap (u.readItem x.cursor)).length ≤ 1184 ∧ r = makeMsg 6 items.length
    (readMsg b).reqId 0 0xFF (items.flatMap (u.readItem x.cursor)) :=
  ⟨testRun, (testRun.at 100000005).touch 0, 0, 100000005,
    [1, 1, 0, 1, 0, 0, 0, 9, 0, 0, 0, 0, 0, 8, 0, 0, 0x12, 0, 1, 4, 0, 0, 0, 4],
    makeMsg 6 1 9 0 0xFF [0x12, 0, 1, 4, 0, 0, 0, 4, 0, 0, 3, 0x21], testSession0, [⟨0x1200, 1, 4, 0, 4, []⟩],
    by decide, by decide, rfl, by decide, by decide, by decide, by decide, by decide, by decide, rfl⟩

theorem test_requests_are_answered_3 :
  ∃ (s : State) (n : Nat) (x : Session), s.mgmt.dtls = true ∧ s.session? n = some x ∧ x.role ≠ 0 :=
  ⟨testRun, 0, testSession0, by decide⟩

theorem test_write_messages_act_together_1 :
  ∃ (s u : State) (n now : Nat) (b : Bytes) (x : Session) (items : List YItem), s.mgmt.dtls = true ∧ s.session? n =
    some x ∧ u = (s.at now).touch n ∧ x.keptFor (s.at now).aon (readMsg b).reqId = none ∧ (readMsg b).wellFormed =
    true ∧ (readMsg b).type = 2 ∧ parseItems true (readMsg b).count (readMsg b).body = some items :=
  ⟨testRun, (testRun.at 100000005).touch 0, 0, 100000005,
    [1, 2, 0, 2, 0, 0, 0, 9, 0, 0, 0, 0, 0, 22, 0, 0] ++ [0x11, 0, 0x0F, 3, 0, 0, 0, 2, 0, 60] ++ [0x12, 0, 1, 4, 0, 0, 0, 4, 0, 0, 3, 0x12],
    testSession0, [⟨0x1100, 0x0F, 3, 0, 2, [0, 60]⟩, ⟨0x1200, 1, 4, 0, 4, [0, 0, 3, 0x12]⟩], by decide, by decide,
    rfl, by decide⟩

theorem test_approvals_count_and_expire_1 :
  ∃ (s u : State) (n now slot : Nat) (b : Bytes) (x : Session) (a : Approval), s.mgmt.dtls = true ∧ s.session? n =
    some x ∧ x.role = 3 ∧ x.slot = some slot ∧ u = (s.at now).touch n ∧ x.keptFor (s.at now).aon (readMsg b).reqId =
    none ∧ (readMsg b).wellFormed = true ∧ (readMsg b).type = 3 ∧ (readMsg b).count = 0 ∧ (readMsg b).body.length =
    52 ∧ (s.mgmt.approvals.find? fun a => a.id == beAt (readMsg b).body 0 4 && decide ((s.at now).aon ≤ a.deadline))
    = some a ∧ (readMsg b).body.drop 4 = a.digest ∧ slot ∉ a.approvedBy :=
  ⟨testRun.hasMgmt fun m => { m with approvals := [⟨5, 0, [], 101 * tickS, List.replicate 48 7, 0x4000, 0x0C, [0x5A]⟩] },
    ((testRun.hasMgmt fun m => { m with approvals := [⟨5, 0, [], 101 * tickS, List.replicate 48 7, 0x4000, 0x0C, [0x5A]⟩] }).at 100000005).touch 1,
    1, 100000005, 1, [1, 3, 0, 0, 0, 0, 0, 9, 0, 0, 0, 0, 0, 52, 0, 0] ++ [0, 0, 0, 5] ++ List.replicate 48 7,
    testSession1, ⟨5, 0, [], 101 * tickS, List.replicate 48 7, 0x4000, 0x0C, [0x5A]⟩, by decide, by decide,
    by decide, by decide, rfl, by decide⟩

theorem test_approvals_count_and_expire_2 :
  ∃ (s : State) (id now : Nat) (a : Approval), a ∈ s.mgmt.approvals ∧ a.id = id ∧ a.deadline < (s.at now).aon :=
  ⟨testRun.hasMgmt fun m => { m with approvals := [⟨5, 0, [], 100 * tickS, [], 0x4000, 0x0C, [0x5A]⟩] }, 5,
    100000005, ⟨5, 0, [], 100 * tickS, [], 0x4000, 0x0C, [0x5A]⟩, by decide⟩

theorem test_subscriptions_notify_1 :
  ∃ (s u : State) (n now : Nat) (b r : Bytes) (x y : Session) (items : List YItem), s.mgmt.dtls = true ∧ s.session?
    n = some x ∧ x.role ≠ 0 ∧ u = (s.at now).touch n ∧ x.keptFor (s.at now).aon (readMsg b).reqId = none ∧ (readMsg
    b).wellFormed = true ∧ (readMsg b).type = 4 ∧ parseItems true (readMsg b).count (readMsg b).body = some items ∧
    (∀ i ∈ items, subscribeCheck i = 0) ∧ u.subscribeAll 0 items x = .ok y ∧ r = makeMsg 6 0 (readMsg b).reqId 0
    0xFF [] :=
  ⟨testRun, (testRun.at 100000005).touch 0, 0, 100000005,
    [1, 4, 0, 1, 0, 0, 0, 9, 0, 0, 0, 0, 0, 8, 0, 0, 0x12, 0, 1, 4, 0, 0, 0, 0], makeMsg 6 0 9 0 0xFF [],
    testSession0, { testSession0 with subs := [⟨0x1200, 1, [0, 0, 3, 0x21]⟩] }, [⟨0x1200, 1, 4, 0, 0, []⟩],
    by decide, by decide, by decide, rfl, by decide, by decide, by decide, by decide, by decide, by decide, rfl⟩

theorem test_subscriptions_notify_2 :
  ∃ (s u : State) (n now : Nat) (b r : Bytes) (x : Session) (items : List YItem), s.mgmt.dtls = true ∧ s.session? n
    = some x ∧ x.role ≠ 0 ∧ u = (s.at now).touch n ∧ x.keptFor (s.at now).aon (readMsg b).reqId = none ∧ (readMsg
    b).wellFormed = true ∧ (readMsg b).type = 5 ∧ parseItems true (readMsg b).count (readMsg b).body = some items ∧
    (∀ i ∈ items, ∃ e, entryDef i.index i.sub = .ok e) ∧ r = makeMsg 6 0 (readMsg b).reqId 0 0xFF [] :=
  ⟨testRun, (testRun.at 100000005).touch 0, 0, 100000005,
    [1, 5, 0, 1, 0, 0, 0, 9, 0, 0, 0, 0, 0, 8, 0, 0, 0x12, 0, 1, 4, 0, 0, 0, 0], makeMsg 6 0 9 0 0xFF [],
    testSession0, [⟨0x1200, 1, 4, 0, 0, []⟩], by decide, by decide, by decide, rfl, by decide, by decide, by decide,
    by decide, fun i h => by simp only [List.mem_singleton] at h; subst h; exact ⟨_, rfl⟩, rfl⟩

theorem test_subscriptions_notify_3 :
  ∃ (s : State) (n : Nat) (x : Session), s.mgmt.dtls = true ∧ s.session? n = some x :=
  ⟨testRun.hasMgmt fun m => { m with sessions := [some { testSession0 with subs := [⟨0x1200, 1, [0, 0, 1, 2]⟩] }] },
    0, { testSession0 with subs := [⟨0x1200, 1, [0, 0, 1, 2]⟩] }, by decide⟩

theorem test_subscriptions_notify_4 :
  ∃ (s : State) (n now : Nat) (x : Session), s.mgmt.dtls = true ∧ s.session? n = some x ∧ x.queue ≠ [] ∧ (16 ≤
    x.queue.length ∨ x.queuedSince + tickMs ≤ (s.at now).aon) :=
  ⟨testRun.hasMgmt fun m => { m with sessions := [some { testSession0 with recordSub := 5, queue := [⟨1, 0, 0, 0x05010010, 0, .event, false, false, false, false, none, []⟩], queuedSince := 100 * tickS }] },
    0, 100001000,
    { testSession0 with recordSub := 5, queue := [⟨1, 0, 0, 0x05010010, 0, .event, false, false, false, false, none, []⟩], queuedSince := 100 * tickS },
    by decide⟩

theorem test_sessions_open_and_close_1 :
  ∃ (s : State) (slot place : Nat) (x : Credential), s.mgmt.dtls = true ∧ s.nv.creds[slot]? = some (some x) ∧ (∀ k
    y, k < slot → s.credential? k = some y → y.cert ≠ x.cert) ∧ (s.mgmt.sessions.filter fun y => (y.map fun z =>
    z.slot == some slot).getD false).length < 2 ∧ s.mgmt.sessions[place]? = some none ∧ place < 8 ∧ (∀ k, k < place
    → s.session? k ≠ none) :=
  ⟨testRun, 0, 4, ⟨2, [1], 0⟩, by decide, by decide, fun k y h => absurd h (Nat.not_lt_zero k), by decide⟩

theorem test_sessions_open_and_close_2 :
  ∃ (s : State), s.mgmt.dtls = true :=
  ⟨testRun, by decide⟩

theorem test_sessions_open_and_close_3 :
  ∃ (s : State) (n now : Nat) (x : Session), s.mgmt.dtls = true ∧ s.session? n = some x ∧ x.lastMsg +
    s.set.mgmt.sessionIdle * tickS ≤ (s.at now).aon :=
  ⟨testRun, 0, 300000000, testSession0, by decide⟩

theorem test_sessions_open_and_close_4 :
  ∃ (s : State) (now t0 : Nat) (m : MgmtSettings) (rest : List (Nat × MgmtSettings)), s.mgmt.addrEffects = (t0, m)
    :: rest ∧ t0 ≤ (s.at now).aon :=
  ⟨testRun.hasMgmt fun m => { m with addrEffects := [(100 * tickS, { MgmtSettings.default with addr4 := 5 })] },
    100000005, 100 * tickS, { MgmtSettings.default with addr4 := 5 }, [], by decide⟩

theorem test_clear_service_answers_1 :
  ∃ (s : State) (b : Bytes) (now : Nat) (items : List YItem), s.portServed = true ∧ s.mgmt.dtls = false ∧ beAt b 0 1
    = 1 ∧ (readMsg b).wellFormed = true ∧ (readMsg b).type = 8 ∧ parseItems false (readMsg b).count (readMsg b).body
    = some items ∧ (∀ i ∈ items, clearCheck i = 0) ∧ (items.flatMap ((s.at now).readItem 1)).length ≤ 1184 :=
  ⟨testRun.hasMgmt fun m => { m with dtls := false },
    [1, 8, 0, 1, 0, 0, 0, 9, 0, 0, 0, 0, 0, 8, 0, 0, 0x12, 0, 8, 2, 0, 0, 0, 1], 100000005,
    [⟨0x1200, 8, 2, 0, 1, []⟩], by decide⟩

theorem test_clear_service_answers_2 :
  ∃ (s : State) (b : Bytes), s.portServed = true ∧ s.mgmt.dtls = false ∧ beAt b 0 1 = 1 ∧ (readMsg b).wellFormed =
    true ∧ (readMsg b).type = 9 ∧ (readMsg b).count = 0 ∧ (readMsg b).body = [] :=
  ⟨testRun.hasMgmt fun m => { m with dtls := false }, [1, 9, 0, 0, 0, 0, 0, 9, 0, 0, 0, 0, 0, 0, 0, 0], by decide⟩

theorem test_clear_service_answers_3 :
  ∃ (s u : State) (b : Bytes) (now : Nat), s.portServed = true ∧ s.mgmt.dtls = false ∧ beAt b 0 1 = 1 ∧ (readMsg
    b).wellFormed = true ∧ (readMsg b).type = 10 ∧ (readMsg b).count = 0 ∧ (readMsg b).body.length = 97 ∧ u = { s.at
    now with mgmt := { s.mgmt with nonce := none } } :=
  ⟨testRun.hasMgmt fun m => { m with dtls := false },
    { (testRun.hasMgmt fun m => { m with dtls := false }).at 100000005 with mgmt := { (testRun.hasMgmt fun m => { m with dtls := false }).mgmt with nonce := none } },
    [1, 10, 0, 0, 0, 0, 0, 9, 0, 0, 0, 0, 0, 97, 0, 0] ++ List.replicate 97 0, 100000005, by decide, by decide,
    by decide, by decide, by decide, by decide, (by decide), rfl⟩

theorem test_sideband_answers_1 :
  ∃ (s : State) (i1 i0 sub : Byte) (e : EntryDef), s.start.t0.isSome = true ∧ entryDef (beNat [i1, i0]) sub.toNat =
    .ok e ∧ e.access ≠ .wo ∧ inSubset (beNat [i1, i0]) sub.toNat = true :=
  ⟨testRun, 0x12, 0, 8, ⟨2, .ro, 1⟩, by decide⟩

theorem test_sideband_answers_2 :
  ∃ (s : State) (b : Bytes), s.start.t0.isSome = true ∧ b.length ≠ 7 :=
  ⟨testRun, [], by decide⟩

theorem test_sideband_answers_3 :
  ∃ (s : State), s.start.t0.isSome = true ∧ s.alertCauses ≠ 0 :=
  ⟨testRun.hasRecorder fun r => { r with lastAlarm := 1 }, by decide⟩

theorem test_sideband_answers_4 :
  ∃ (s : State), s.start.t0.isSome = true ∧ s.alertCauses = 0 :=
  ⟨testRun, by decide⟩

theorem test_records_are_numbered_and_stored_1 :
  ∃ (s u : State) (source code now : Nat) (ctx : Option Nat) (p : Bytes) (r : Record), u = s.at now ∧ severityOf
    code = .event ∧ code < 2 ^ 32 ∧ code / 0x1000000 ≠ 2 ∧ code % 0x10000 ≠ 0 ∧ u.writerOf source = .h0 ∧
    s.recorder.tokens .h0 code ≠ 0 ∧ s.recorder.h0.general < 4032 ∧ r = { u.formRecord .event false code source ctx
    p with seq := s.recorder.counter + 1 } :=
  ⟨testRun, testRun.at 100000005, 0x4FF0, 0x05030002, 100000005, none, [1],
    { (testRun.at 100000005).formRecord .event false 0x05030002 0x4FF0 none [1] with seq := 1 }, rfl, by decide,
    by decide, by decide, by decide, by decide, by decide, (by decide), rfl⟩

theorem test_records_are_numbered_and_stored_2 :
  ∃ (s u : State) (source code now : Nat) (ctx : Option Nat) (p : Bytes) (r : Record), u = s.at now ∧ severityOf
    code = .alarm ∧ code % 0x10000 ≠ 0 ∧ u.writerOf source = .h0 ∧ s.recorder.h0.general < 4032 ∧ r = { u.formRecord
    .alarm false code source ctx p with seq := s.recorder.counter + 1 } :=
  ⟨testRun, testRun.at 100000005, 0x4FF0, 0x04030003, 100000005, some 3, [1],
    { (testRun.at 100000005).formRecord .alarm false 0x04030003 0x4FF0 (some 3) [1] with seq := 1 }, rfl, by decide,
    by decide, by decide, by decide, rfl⟩

theorem test_records_are_numbered_and_stored_3 :
  ∃ (s u : State) (code now : Nat), u = s.at now ∧ severityOf code = .alarm ∧ code % 0x10000 ≠ 0 ∧ s.start.cpRuns =
    (false, false) ∧ s.recorder.aon.length < 64 :=
  ⟨testRun.hasStart fun x => { x with cpRuns := (false, false) },
    (testRun.hasStart fun x => { x with cpRuns := (false, false) }).at 100000005, 0x04030003, 100000005, rfl,
    by decide⟩

theorem test_tokens_and_summaries_1 :
  ∃ (s : State), (∀ b ∈ s.recorder.buckets, b.tokens < 64) ∧ s.recorder.buckets.Pairwise (fun a b => ¬(a.writer =
    b.writer ∧ a.code = b.code)) :=
  ⟨testRun.hasRecorder fun r => { r with buckets := [⟨.h0, 0x05030002, 63⟩, ⟨.h1, 0x05030002, 3⟩] }, by decide⟩

theorem test_tokens_and_summaries_2 :
  ∃ (s : State) (x : Suppressed), s.recorder.suppressed = [x] ∧ 0 < x.count ∧ x.writer = .h0 ∧ s.recorder.h0.general
    < 4032 ∧ (∀ y, some y ∈ s.mgmt.sessions → y.refused = 0 ∧ y.recordSub = 0) :=
  ⟨(testRun.hasRecorder fun r => { r with suppressed := [⟨.h0, 0x05030002, .event, 3, 0, true, 5, 9, 0x4FF0, 3⟩] }).hasMgmt fun m => { m with sessions := [] },
    ⟨.h0, 0x05030002, .event, 3, 0, true, 5, 9, 0x4FF0, 3⟩, by decide, by decide, by decide, by decide,
    fun y h => by cases h⟩

theorem test_flushes_program_records_1 :
  ∃ (s : State), s.recorder.h0.running = false ∧ s.recorder.h0.due = true ∧ s.recorder.h0.bufferOnly = false ∧
    s.start.hoistReset.1 = false :=
  ⟨testRun.hasRecorder fun r => { r with h0 := { RecBuffer.empty with held := [testEvent], due := true } }, by decide⟩

theorem test_flushes_program_records_2 :
  ∃ (s : State), s.recorder.h0.running = true ∧ s.recorder.h0.loss = .none :=
  ⟨testRun.hasRecorder fun r => { r with h0 := { RecBuffer.empty with held := [testEvent, { testEvent with seq := 2 }], running := true, flushing := [1] } },
    by decide⟩

theorem test_flushes_program_records_3 :
  ∃ (s : State), s.recorder.h0.running = true ∧ s.recorder.h0.badBlocks = 1 :=
  ⟨testRun.hasRecorder fun r => { r with h0 := { RecBuffer.empty with held := [testEvent], running := true, flushing := [1], badBlocks := 1 } },
    by decide⟩

theorem test_flushes_program_records_4 :
  ∃ (s : State), s.recorder.h0.bufferOnly = true ∧ s.recorder.h0.running = false ∧ s.start.hoistReset.1 = false :=
  ⟨testRun.hasRecorder fun r => { r with h0 := { RecBuffer.empty with held := [testEvent], bufferOnly := true } },
    by decide⟩

theorem test_teardown_takes_its_steps_1 :
  ∃ (s : State) (c : Nat), (s.ctxSet c).state = .active ∧ s.set.ctx.length = 16 ∧ s.ctxs.length = 16 :=
  ⟨testUse, 2, by decide⟩

theorem test_teardown_takes_its_steps_2 :
  ∃ (s : State) (c : Nat) (x : Teardown), c < 16 ∧ (s.ctx c).teardown = some x ∧ x.step = .accepted ∧
    s.hal.beatCount % 256 = 0 ∧ x.stepBeat < s.hal.beatCount ∧ s.lead.hold = none ∧ (s.grixo.conns.map
    Conn.index).Nodup :=
  ⟨testTear .accepted, 15, ⟨.accepted, 1, 1, 0, 1, 0, 0, 100000, false, false, 0⟩, by decide⟩

theorem test_teardown_takes_its_steps_3 :
  ∃ (s : State) (c : Nat), s.teardownStep c = some .abandoned ∧ s.hal.beatCount % 4096 = 0 ∧ s.lead.hold = none ∧ c
    < s.plans.length :=
  ⟨(testTear .abandoned).hasHal fun h => { h with beatCount := 4096 }, 15, by decide⟩

theorem test_keys_are_swept_zeroised_and_masked_1 :
  ∃ (s : State) (c canton : Nat), (s.ctxSet c).state = .active ∧ (s.ctx c).mem.sweeping = [canton] ∧ c <
    s.ctxs.length :=
  ⟨{ testUse with ctxs := testUse.ctxs.map fun x => { x with mem := ⟨2, 2, [1], [5], [6]⟩ } }, 15, 1, by decide⟩

theorem test_keys_are_swept_zeroised_and_masked_2 :
  ∃ (s : State) (c canton other : Nat), (s.ctxSet c).state = .active ∧ canton ∈ (s.ctx c).mem.sweeping ∧ other ∈
    (s.ctx c).mem.sweeping ∧ other ≠ canton :=
  ⟨{ testUse with ctxs := testUse.ctxs.map fun x => { x with mem := ⟨2, 2, [1, 2], [5], [6]⟩ } }, 15, 1, 2, by decide⟩

theorem test_keys_are_swept_zeroised_and_masked_3 :
  ∃ (s : State) (cause : Nat), s.start.t0.isSome = true ∧ 1 ≤ cause ∧ cause ≤ 4 :=
  ⟨testUse, 4, by decide⟩

theorem test_keys_are_swept_zeroised_and_masked_4 :
  ∃ (s : State), (s.start.cpRuns.1 || s.start.cpRuns.2) = true :=
  ⟨testUse, by decide⟩

theorem test_sub_ports_come_up_and_go_down_1 :
  ∃ (s : State) (lane : Nat) (hop6 hop4 : Option Bytes), s.portUsable lane = true ∧ (s.port lane).training = true ∧
    (s.port lane).up = false ∧ ((hop6.isSome && s.family (lane / 32) false) || (hop4.isSome && s.family (lane / 32)
    true)) = true ∧ lane < s.grixo.ports.length :=
  ⟨(testNetWith testConn).hasGrixo fun g => { g with ports := List.replicate 64 { SubPort.reset with training := true } },
    60, some [1, 2, 3, 4, 5, 6], none, by decide⟩

theorem test_sub_ports_come_up_and_go_down_2 :
  ∃ (s : State) (lane : Nat), (s.port lane).up = true :=
  ⟨testNetWith testConn, 0, by decide⟩

theorem test_sub_ports_come_up_and_go_down_3 :
  ∃ (s : State) (lane k : Nat), (s.port lane).training = true ∧ 16 < k :=
  ⟨testNetWith testConn, 0, 17, by decide⟩

theorem test_sub_ports_come_up_and_go_down_5 :
  ∃ (s : State) (lane now b : Nat), (s.port lane).retrainAt = some b ∧ b ≤ (s.at now).aon ∧ s.portUsable lane = true
    :=
  ⟨(testNetWith testConn).hasGrixo fun g => { g with ports := List.replicate 64 { SubPort.reset with retrainAt := some (100 * tickS) } },
    0, 100000005, 100 * tickS, by decide⟩

theorem test_sub_ports_come_up_and_go_down_6 :
  ∃ (s : State) (lane now : Nat), (s.port lane).locked = true ∧ ((s.port lane).resolvedAt + 30 * tickS ≤ (s.at
    now).aon ∨ ∃ v4, s.unresolved lane v4 = true) :=
  ⟨testNetWith testConn, 0, 100000005, by decide⟩

theorem test_transport_timers_fire_2 :
  ∃ (s : State) (i m k now : Nat) (c : Conn) (x : TxMsg) (p : TxPacket), s.conn? i = some c ∧ c.state = .open ∧
    (c.tx.filter fun y => y.id == m) = [x] ∧ x.packets[k]? = some p ∧ p.sent = true ∧ p.acked = false ∧ p.lost =
    false ∧ p.due ≤ (s.at now).aon ∧ s.upLanes (connHoist i) c.ipv4 ≠ [] :=
  ⟨testNetWith { testConn with tx := [⟨5, 1, [1, 2], 0, 0, 0, [⟨true, false, 0, 100 * tickS, 8, 0, 1, false⟩], none⟩] },
    0, 5, 0, 100010000,
    { testConn with tx := [⟨5, 1, [1, 2], 0, 0, 0, [⟨true, false, 0, 100 * tickS, 8, 0, 1, false⟩], none⟩] },
    ⟨5, 1, [1, 2], 0, 0, 0, [⟨true, false, 0, 100 * tickS, 8, 0, 1, false⟩], none⟩,
    ⟨true, false, 0, 100 * tickS, 8, 0, 1, false⟩, by decide⟩

theorem test_connection_timers_fire_1 :
  ∃ (s : State) (i now : Nat) (c : Conn), s.conn? i = some c ∧ c.state = .requesting ∧ c.reqDue ≤ (s.at now).aon :=
  ⟨testNetWith { testConn with state := .requesting, reqSent := 9, reqDue := 100 * tickS }, 0, 101000000,
    { testConn with state := .requesting, reqSent := 9, reqDue := 100 * tickS }, by decide⟩

theorem test_connection_timers_fire_3 :
  ∃ (s u : State) (i : Nat) (c : Conn) (m : Bytes) (rest : List Bytes), s.conn? i = some c ∧ c.state = .open ∧
    c.sendArea = m :: rest ∧ c.unsentCredits + creditsFor (m.take 8192).length ≤ (c.inLive s.us).sum ∧ s.readyToSend
    i = (true, u) :=
  ⟨testNetWith { testConn with sendArea := [[1, 2, 3]] }, testNetWith { testConn with sendArea := [[1, 2, 3]] }, 0,
    { testConn with sendArea := [[1, 2, 3]] }, [1, 2, 3], [], by decide, by decide, by decide, by decide, rfl⟩

theorem test_furl_is_entered_block_by_block_1 :
  ∃ (s : State) (now k ms : Nat), s.idle = true ∧ s.power.entry = none ∧ s.power.committed = none ∧ (s.at
    now).power.retryAt = none ∧ (k, ms) ∈ s.idleTimers ∧ ms ≤ (s.at now).idleMs ∧ s.power.furl < k ∧ (∀ x ∈
    s.idleTimers, k < x.1 → (s.at now).idleMs < x.2) :=
  ⟨testRun, 131000000, 1, 30000, by decide⟩

theorem test_furl_is_entered_block_by_block_2 :
  ∃ (s : State) (now b k : Nat), s.idle = true ∧ s.power.entry = none ∧ s.power.committed = none ∧ s.power.retryAt =
    some (b, k) ∧ b + 60 * tickS ≤ (s.at now).aon ∧ s.power.furl < k :=
  ⟨testRun.hasPower fun p => { p with retryAt := some (40 * tickS, 2) }, 100000005, 40 * tickS, 2, by decide⟩

theorem test_furl_is_entered_block_by_block_3 :
  ∃ (s : State) (d : Nat) (rest : List Nat) (e : FurlEntry), s.power.entry = some e ∧ s.idle = true ∧ e.remaining =
    d :: rest :=
  ⟨testRun.hasPower fun p => { p with entry := some ⟨1, [23], []⟩ }, 23, [], ⟨1, [23], []⟩, by decide⟩

theorem test_furl_is_entered_block_by_block_4 :
  ∃ (s : State) (e : FurlEntry), s.power.entry = some e ∧ s.idle = false :=
  ⟨testRun.hasPower fun p => { p with entry := some ⟨2, [5], [4]⟩, inhibit := true }, ⟨2, [5], [4]⟩, by decide⟩

theorem test_furl_is_entered_block_by_block_5 :
  ∃ (s : State) (d : Nat) (rest : List Nat) (e : FurlEntry), s.power.entry = some e ∧ s.idle = true ∧ e.remaining =
    d :: rest :=
  ⟨testRun.hasPower fun p => { p with entry := some ⟨2, [5], [4]⟩ }, 5, [], ⟨2, [5], [4]⟩, by decide⟩

theorem test_furl_is_entered_block_by_block_6 :
  ∃ (s : State) (k : Nat), s.power.committed = some k ∧ 1 ≤ k ∧ k ≤ 3 ∧ s.power.latchedWakes = [] :=
  ⟨testRun.hasPower fun p => { p with committed := some 1 }, 1, by decide⟩

theorem test_furl_is_entered_block_by_block_6_deep :
  ∃ (s : State) (k : Nat), s.power.committed = some k ∧ 1 ≤ k ∧ k ≤ 3 ∧ s.power.latchedWakes = [] :=
  ⟨testRun.hasPower fun p => { p with committed := some 3, furl := 1 }, 3, by decide⟩

theorem test_wake_sources_end_furl_1 :
  ∃ (s : State), s.power.entry = none ∧ s.power.committed = none ∧ s.power.waking = none :=
  ⟨testRun, by decide⟩

theorem test_wake_sources_end_furl_2 :
  ∃ (s : State) (e : FurlEntry), s.power.entry = some e ∧ 1 ≤ e.target ∧ e.target ≤ 3 :=
  ⟨testRun.hasPower fun p => { p with entry := some ⟨2, [5], [4]⟩ }, ⟨2, [5], [4]⟩, by decide⟩

theorem test_wake_sources_end_furl_3 :
  ∃ (s : State) (k : Nat), s.power.entry = none ∧ s.power.committed = some k ∧ 1 ≤ k ∧ k ≤ 3 :=
  ⟨testRun.hasPower fun p => { p with committed := some 3 }, 3, by decide⟩

theorem test_wake_sources_end_furl_4 :
  ∃ (s : State) (now : Nat), s.power.wakeAt ≠ 0 ∧ s.power.wakeAt ≤ (s.at now).ms ∧ s.power.entry = none ∧
    s.power.committed = none ∧ s.power.waking = none :=
  ⟨testRun.hasPower fun p => { p with wakeAt := 100000, furl := 3 }, 100000005, by decide⟩

theorem test_wake_sources_end_furl_5 :
  ∃ (s : State) (w : Nat), s.power.furl = 1 ∧ s.power.waking = some w ∧ s.domainsOn 12 23 = true ∧ (∀ d ∈
    s.start.dieState.take 4, d ≠ 3) ∧ s.start.cantonReady.length = 4 :=
  ⟨testRun.hasPower fun p => { p with furl := 1, waking := some 4 }, 4, by decide⟩

theorem test_start_up_goes_by_stages_1 :
  ∃ (s : State), s.start.t0 = none ∧ s.hal.pendingLevel = none :=
  ⟨State.reset, by decide⟩

theorem test_start_up_goes_by_stages_2 :
  ∃ (s : State) (now d : Nat), s.starting = true ∧ s.start.nextDomain = d ∧ d ≤ 23 ∧ (domainTime d).1 =
    s.start.stage ∧ s.start.stageStart + (domainTime d).2 * tickMs ≤ (s.at now).aon ∧ (d ≤ 11 ∨
    s.power.emergencyThermal = false ∨ 150 ≤ s.sensors.flow) :=
  ⟨(testStart none 1).hasPower fun p => { p with powered := 1, regulated := 1 }, 101000000, 1, by decide⟩

theorem test_start_up_goes_by_stages_3 :
  ∃ (s : State) (d : Nat), s.starting = true ∧ 1 ≤ d ∧ d < s.start.nextDomain ∧ s.hal.pendingLevel = none :=
  ⟨testStart (some 0) 5, 4, by decide⟩

theorem test_start_up_goes_by_stages_5 :
  ∃ (s : State) (now : Nat), s.starting = true ∧ s.start.stage = some 1 ∧ s.domainsOn 10 23 = true ∧ (∀ l ∈
    s.lead.links.take 12, l.down = false) ∧ (∀ d ∈ s.start.dieState.take 4, d ≠ 3) ∧ (s.at now).stageLate = false ∧
    s.set.ctx.length = 16 ∧ s.ctxs.length = 16 :=
  ⟨(testStart (some 1) 24).hasSet fun x => { x with ctx := updAt x.ctx 3 fun c => { c with state := .teardown } },
    100000005, by decide⟩

theorem test_start_up_goes_by_stages_6 :
  ∃ (s : State) (now : Nat), s.starting = true ∧ (s.at now).stageLate = true ∧ s.hal.pendingLevel = none :=
  ⟨testStart (some 0) 10, 200000000, by decide⟩

theorem test_start_up_goes_by_stages_7 :
  ∃ (s : State) (now b : Nat), s.starting = true ∧ s.start.pllLocked = false ∧ s.start.t0 = some b ∧ b + 1000 *
    tickMs ≤ (s.at now).aon :=
  ⟨testStart (some 0) 10, 101000000, 100 * tickS, by decide⟩

theorem test_start_up_goes_by_stages_8 :
  ∃ (s : State) (k : Nat), s.start.stage = some k ∧ 1 ≤ k ∧ k ≤ 3 ∧ s.power.furl < 2 :=
  ⟨testRun, 3, by decide⟩

theorem test_firmware_starts_and_hoists_reset_1 (u : State) (x : SettingsSlot) (h6 : (((testStart none 2).hasPower
    fun p => { p with powered := 3, regulated := 3 } : State).at (100000005 : Nat)).bootBurgee = some u) (h7 :
    u.setA = some x) :
  ∃ (s u : State) (now : Nat) (x : SettingsSlot) (r : NvRecord), s.starting = true ∧ s.start.stage = none ∧
    s.domainOn 1 = true ∧ s.pack.measureAt = none ∧ (s.at now).stageLate = false ∧ (s.at now).bootBurgee = some u ∧
    u.setA = some x ∧ s.keys.nvA = some r ∧ r.pending = 0xFF ∧ r.lifecycle = s.keys.fuses.code ∧ s.keys.fuses ≠
    .scrapped :=
  ⟨(testStart none 2).hasPower fun p => { p with powered := 3, regulated := 3 }, u, 100000005, x,
    { NvRecord.new with creds := [some ⟨2, [1], 0⟩, some ⟨3, [2], 0⟩, some ⟨3, [3], 0⟩, some ⟨4, [4], 0⟩, none, none, none, none] },
    by decide, by decide, by decide, by decide, by decide, h6, h7, rfl, by decide⟩

theorem test_firmware_starts_and_hoists_reset_3 (slotB : Bool) (fallback : Bool) (h7 : Fw.select ((testStart (some
    0) 6).hasStart fun x => { x with cpRuns := (false, true) } : State).lifecycle 2 ((testStart (some 0) 6).hasStart
    fun x => { x with cpRuns := (false, true) } : State).att.cpA.bytes ((testStart (some 0) 6).hasStart fun x => { x
    with cpRuns := (false, true) } : State).att.cpB.bytes = some (slotB, fallback)) :
  ∃ (s : State) (h : Nat) (a b c d : Bytes) (slotB fallback : Bool), s.starting = true ∧ s.start.stage = some 0 ∧ h
    ≤ 1 ∧ s.cpRuns h = false ∧ s.domainOn (2 + h) = true ∧ s.domainOn (4 + h) = true ∧ Fw.select s.lifecycle 2
    s.att.cpA.bytes s.att.cpB.bytes = some (slotB, fallback) ∧ (s.cpRuns (1 - h) = true → a = b ∧ c = d) :=
  ⟨(testStart (some 0) 6).hasStart fun x => { x with cpRuns := (false, true) }, 0, [1], [1], [2], [2], slotB,
    fallback, by decide, by decide, by decide, by decide, by decide, by decide, h7, by decide⟩

theorem test_firmware_starts_and_hoists_reset_4 (slotB : Bool) (fallback : Bool) (h7 : Fw.select ((testStart (some
    0) 6).hasStart fun x => { x with cpRuns := (false, true) } : State).lifecycle 2 ((testStart (some 0) 6).hasStart
    fun x => { x with cpRuns := (false, true) } : State).att.cpA.bytes ((testStart (some 0) 6).hasStart fun x => { x
    with cpRuns := (false, true) } : State).att.cpB.bytes = some (slotB, fallback)) :
  ∃ (s : State) (h : Nat) (a b c d : Bytes) (slotB fallback : Bool), s.starting = true ∧ s.start.stage = some 0 ∧ h
    ≤ 1 ∧ s.cpRuns h = false ∧ s.domainOn (2 + h) = true ∧ s.domainOn (4 + h) = true ∧ Fw.select s.lifecycle 2
    s.att.cpA.bytes s.att.cpB.bytes = some (slotB, fallback) ∧ s.cpRuns (1 - h) = true ∧ (a ≠ b ∨ c ≠ d) :=
  ⟨(testStart (some 0) 6).hasStart fun x => { x with cpRuns := (false, true) }, 0, [1], [1], [2], [3], slotB,
    fallback, by decide, by decide, by decide, by decide, by decide, by decide, h7, by decide⟩

theorem test_firmware_starts_and_hoists_reset_5 :
  ∃ (s : State) (h : Nat), s.starting = true ∧ s.start.stage = some 0 ∧ h ≤ 1 ∧ s.cpRuns h = false ∧ s.domainOn (2 +
    h) = true ∧ s.domainOn (4 + h) = true ∧ Fw.select s.lifecycle 2 s.att.cpA.bytes s.att.cpB.bytes = none :=
  ⟨{ (testStart (some 0) 6).hasStart fun x => { x with cpRuns := (true, false) } with att := { Attest.reset with cpA := ⟨[]⟩ } },
    1, by decide⟩

theorem test_firmware_starts_and_hoists_reset_6 :
  ∃ (s : State) (h k : Nat), s.start.stage = some k ∧ 1 ≤ k ∧ k ≤ 3 ∧ h ≤ 1 ∧ s.power.furl < 2 ∧ s.start.hoistReset
    = (false, false) :=
  ⟨testRun, 0, 3, by decide⟩

theorem test_firmware_starts_and_hoists_reset_7 :
  ∃ (h : Nat), h ≤ 1 :=
  ⟨1, by decide⟩

theorem test_firmware_starts_and_hoists_reset_8 :
  ∃ (s : State) (h : Nat), h ≤ 1 ∧ (if h = 0 then s.start.hoistReset.1 else s.start.hoistReset.2) = true ∧ 4 + h <
    s.start.dieState.length :=
  ⟨testRun.hasStart fun x => { x with hoistReset := (true, false) }, 0, by decide⟩

theorem test_firmware_starts_and_hoists_reset_9 :
  ∃ (s : State) (h : Nat) (mr0 mr1 : Bytes), h ≤ 1 ∧ (if h = 0 then s.start.hoistReset.1 else s.start.hoistReset.2)
    = true ∧ mr0 ≠ mr1 :=
  ⟨testRun.hasStart fun x => { x with hoistReset := (false, true) }, 1, [1], [2], by decide⟩

theorem test_cantons_and_endpoints_reset_1 :
  ∃ (s : State) (k : Nat), s.ready = true ∧ k ≤ 3 ∧ s.power.furl = 0 ∧ s.clusters.length = 64 ∧
    s.start.cantonReset.length = 4 :=
  ⟨testUse, 3, by decide⟩

theorem test_cantons_and_endpoints_reset_2 :
  ∃ (s : State) (k : Nat), k ≤ 3 ∧ s.start.cantonReset[k]? = some true ∧ s.clusters.length = 64 ∧
    s.start.dieState.length = 6 ∧ s.start.cantonReady.length = 4 ∧ s.start.cantonReset.length = 4 ∧
    s.start.substituted.length = 4 :=
  ⟨testRun.hasStart fun x => { x with cantonReset := [false, false, false, true] }, 3, by decide⟩

theorem test_cantons_and_endpoints_reset_3 :
  ∃ (s : State) (k f a b : Nat), k ≤ 3 ∧ s.start.cantonReset[k]? = some true ∧ s.start.cantonReady[k]? = some false
    ∧ a < b ∧ b < 16 ∧ f.testBit a = true ∧ f.testBit b = true :=
  ⟨testRun.hasStart fun x => { x with cantonReset := [true, false, false, false], cantonReady := [false, true, true, true] },
    0, 0x8001, 0, 15, by decide⟩

theorem test_cantons_and_endpoints_reset_4 :
  ∃ (s : State) (k : Nat), k ≤ 3 ∧ s.start.dieState[k]? = some 1 :=
  ⟨testRun.hasStart fun x => { x with dieState := [2, 2, 2, 1, 2, 2] }, 3, by decide⟩

theorem test_cantons_and_endpoints_reset_5 :
  ∃ (s : State) (now b : Nat), s.start.wakeN.1 = some b ∧ b + 10 * tickS ≤ (s.at now).aon :=
  ⟨testRun.hasStart fun x => { x with wakeN := (some (90 * tickS), none) }, 100000005, 90 * tickS, by decide⟩

theorem test_cantons_and_endpoints_reset_6 :
  ∃ (s : State), s.start.perst.1 = false ∧ s.domainOn 8 = true ∧ s.host.vfs.length = 32 :=
  ⟨testNetWith testConn, by decide⟩

theorem test_cantons_and_endpoints_reset_7 :
  ∃ (s : State), s.start.perst.1 = true ∧ s.power.furl = 0 ∧ s.power.entry = none ∧ s.power.committed = none :=
  ⟨testRun.hasStart fun x => { x with perst := (true, false) }, by decide⟩

theorem test_cantons_and_endpoints_reset_8 :
  ∃ (s : State), s.start.perst.1 = false ∧ s.domainOn 8 = true ∧ s.host.vfs.length = 32 :=
  ⟨testNetWith testConn, by decide⟩

theorem test_cantons_and_endpoints_reset_9 :
  ∃ (s : State) (v : Nat), s.domainOn (8 + vfEndpoint v) = true ∧ v < 32 ∧ s.host.vfs.length = 32 :=
  ⟨testNetWith testConn, 31, by decide⟩

theorem test_one_leader_by_lease_1 :
  ∃ (s : State) (cp : Nat), cp ≤ 1 ∧ s.lead.holder = none ∧ s.cpRuns cp = true ∧ s.att.m ≠ [] ∧
    s.set.leaderPreference = cp ∧ (s.cp (1 - cp)).requested = none :=
  ⟨testRun.hasLead fun l => { l with holder := none }, 0, by decide⟩

theorem test_one_leader_by_lease_2 :
  ∃ (s : State) (cp : Nat), cp ≤ 1 ∧ s.lead.holder = none ∧ s.cpRuns cp = true ∧ s.att.m ≠ [] ∧
    s.set.leaderPreference = 1 - cp :=
  ⟨testRun.hasLead fun l => { l with holder := none }, 1, by decide⟩

theorem test_one_leader_by_lease_3 :
  ∃ (s : State) (cp now : Nat), cp ≤ 1 ∧ s.lead.holder = some cp ∧ (s.at now).aon < (s.cp cp).expiry ∧ (s.cp
    cp).renewalSent = none ∧ (s.cp cp).expiry ≤ (s.at now).aon + 740 * tickMs :=
  ⟨testRun, 0, 100300000, by decide⟩

theorem test_one_leader_by_lease_4 :
  ∃ (s : State) (cp b : Nat), cp ≤ 1 ∧ s.cpRuns cp = true ∧ s.lead.holder = some cp ∧ s.lead.hold = none ∧ (s.cp
    cp).renewalSent = some b :=
  ⟨testRun.hasLead fun l => { l with cp0 := { l.cp0 with renewalSent := some (100 * tickS) } }, 0, 100 * tickS,
    by decide⟩

theorem test_one_leader_by_lease_5 :
  ∃ (s : State) (cp e : Nat), cp ≤ 1 ∧ s.cpRuns cp = true ∧ e < s.lead.epoch :=
  ⟨testRun, 0, 0, by decide⟩

theorem test_one_leader_by_lease_6 :
  ∃ (s : State) (now cp : Nat), s.lead.holder = some cp ∧ s.lead.expiry + 10 * tickMs ≤ (s.at now).aon :=
  ⟨testRun, 101010000, 0, by decide⟩

theorem test_one_leader_by_lease_7 :
  ∃ (s : State) (cp now : Nat), cp ≤ 1 ∧ (s.cp cp).expiry ≤ (s.at now).aon ∧ (s.cp cp).leads = true :=
  ⟨testRun, 0, 101000000, by decide⟩

theorem test_one_leader_by_lease_8 :
  ∃ (s : State) (cp : Nat), cp ≤ 1 ∧ s.lead.holder = none ∧ s.cpRuns cp = true ∧ s.att.m ≠ [] ∧
    s.set.leaderPreference = cp ∧ (s.cp (1 - cp)).requested = none :=
  ⟨testRun.hasLead fun l => { l with holder := none }, 0, by decide⟩

theorem test_one_leader_by_lease_10 :
  ∃ (s : State) (cp now : Nat), s.lead.cp0.messageAt + 1500 * tickMs ≤ (s.at now).aon ∧ s.lead.cp1.messageAt + 1500
    * tickMs ≤ (s.at now).aon ∧ cp ≤ 1 ∧ s.cpRuns cp = true ∧ (s.at now).aon < (s.cp cp).liveAt + 2000 * tickMs :=
  ⟨testRun, 0, 101600000, by decide⟩

theorem test_one_leader_by_lease_11 :
  ∃ (s : State) (i now : Nat), s.leaderCp = some i ∧ (s.at now).aon < (s.cp i).expiry ∧ s.lead.lastBeacon + 10 *
    tickMs ≤ (s.at now).aon :=
  ⟨testRun, 0, 100020000, by decide⟩

theorem test_one_leader_by_lease_12 :
  ∃ (s : State) (i now : Nat), s.leaderCp = some i ∧ (s.cp i).expiry ≤ (s.at now).aon :=
  ⟨testRun, 0, 101000000, by decide⟩

theorem test_one_leader_by_lease_13 :
  ∃ (s : State) (u x : Nat), s.lead.unitEpochs[u]? = some x :=
  ⟨testRun.hasLead fun l => { l with unitEpochs := List.replicate 16 1 }, 2, 1, by decide⟩

theorem test_one_leader_by_lease_14 :
  ∃ (s : State) (i : Nat), s.leaderCp = some i ∧ s.cpRuns (1 - i) = true :=
  ⟨testRun, 0, by decide⟩

theorem test_hold_waits_for_a_takeover_1 :
  ∃ (s : State) (now : Nat), s.lead.hold = none ∧ (∃ x l, s.lead.unitEpochs = x :: l ∧ x ≠ 0) ∧ s.power.furl < 2 ∧
    s.lead.lastBeacon + 300 * tickMs ≤ (s.at now).aon :=
  ⟨testRun.hasLead fun l => { l with unitEpochs := List.replicate 16 1 }, 100300000, by decide,
    ⟨1, _, rfl, by decide⟩, by decide⟩

theorem test_hold_waits_for_a_takeover_2 :
  ∃ (s : State) (b : Nat), s.lead.hold = some b ∧ s.lead.holdEnding = true ∧ s.hal.beatCount % 256 = 0 ∧ s.noLeader
    = false ∧ s.journal.records.length < journalRing ∧ s.clusters.length = 64 :=
  ⟨testRun.hasLead fun l => { l with hold := some (99 * tickS), holdEnding := true }, 99 * tickS, by decide⟩

theorem test_hold_waits_for_a_takeover_3 :
  ∃ (s : State) (now b : Nat), s.lead.hold = some b ∧ s.set.holdLimit ≠ 0 ∧ b + s.set.holdLimit * tickS ≤ (s.at
    now).aon :=
  ⟨{ testRun with lead := { testRun.lead with hold := some (90 * tickS) }, set := { testRun.set with holdLimit := 10 } },
    100000005, 90 * tickS, by decide⟩

theorem test_hold_waits_for_a_takeover_4 :
  ∃ (s : State) (now : Nat) (x : Takeover), s.lead.takeover = some x ∧ x.cp ≤ 1 ∧ s.lead.holder = some x.cp ∧ (s.at
    now).aon < (s.cp x.cp).expiry ∧ s.journal.records.length < journalRing :=
  ⟨testRun.hasLead fun l => { l with hold := some (99 * tickS), epoch := 2, cp0 := { l.cp0 with leads := false, epoch := 2 }, takeover := some ⟨0, 2, false⟩ },
    100000005, ⟨0, 2, false⟩, by decide⟩

theorem test_faults_are_contained_1 :
  ∃ (s : State) (k p : Nat), k < 64 ∧ s.clusters.length = 64 ∧ s.lead.lastFault.length = 64 ∧ (s.cluster k).failed =
    false ∧ (s.cluster k).position = some p ∧ s.clusterAt p = k ∧ (∀ x, s.lead.lastFault[k]? = some (some x) → x +
    4096 < s.hal.beatCount) :=
  ⟨testServe, 20, 19, by decide, by decide, by decide, by decide, by decide, by decide,
    (by intro x h; exact nomatch h)⟩

theorem test_faults_are_contained_2 :
  ∃ (s : State) (k : Nat), k < 64 ∧ s.clusters.length = 64 ∧ (s.cluster k).failed = false :=
  ⟨testServe, 20, by decide⟩

theorem test_faults_are_contained_3 :
  ∃ (s : State) (c : Nat), c < 4 ∧ s.clusters.length = 64 ∧ (s.cluster (16 * c + 15)).failed = false ∧ (s.cluster
    (16 * c + 15)).position = none :=
  ⟨testServe, 1, by decide⟩

theorem test_faults_are_contained_4 :
  ∃ (s : State) (c k w : Nat), c < 4 ∧ s.clusters.length = 64 ∧ s.takeoverOf c = some k ∧ (s.cluster
    k).takeoverWindow = some w ∧ w < s.window ∧ s.noLeader = false ∧ s.lead.hold = none ∧ (s.cluster (16 * c +
    15)).tableLoaded = false ∧ (s.cluster (16 * c + 15)).selfTestPassed = true ∧ (s.cluster (16 * c + 15)).failed =
    false ∧ (s.cluster (16 * c + 15)).unavailable = false :=
  ⟨{ testServe with clusters := updAt testServe.clusters 20 fun c => { c with takeoverWindow := some 1, failed := true } },
    1, 20, 1, by decide⟩

theorem test_faults_are_contained_5 :
  ∃ (s : State) (c k p b : Nat), c < 4 ∧ s.clusters.length = 64 ∧ s.takeoverOf c = some k ∧ (s.cluster k).position =
    some p ∧ s.hal.beatCount % 256 = 0 ∧ s.lead.hold = none ∧ (s.cluster (16 * c + 15)).tableLoaded = true ∧
    (s.cluster (16 * c + 15)).request = some (.service, b) ∧ b + 256 ≤ s.hal.beatCount ∧ s.lead.spareState.length =
    4 :=
  ⟨{ testServe with clusters := updAt (updAt testServe.clusters 20 fun c => { c with takeoverWindow := some 1, failed := true }) 31 fun c => { c with tableLoaded := true, request := some (.service, 200) } },
    1, 20, 19, 200, by decide⟩

theorem test_faults_are_contained_9 :
  ∃ (s : State) (c : Nat), (s.ctxSet c).state = .active ∧ s.set.ctx.length = 16 :=
  ⟨testUse, 2, by decide⟩

theorem test_faults_are_contained_10 :
  ∃ (i : Nat), 5 ≤ i ∧ i ≤ 7 :=
  ⟨5, by decide⟩

theorem test_faults_are_contained_11 :
  ∃ (s : State) (i : Nat) (l : DieLink), s.lead.links[i]? = some l ∧ l.down = false :=
  ⟨testRun, 12, ⟨4, 5, false, 0, 0, 0⟩, by decide⟩

theorem test_faults_are_contained_13 :
  ∃ (s : State) (i : Nat) (l : DieLink), s.lead.links[i]? = some l :=
  ⟨testRun, 12, ⟨4, 5, false, 0, 0, 0⟩, by decide⟩

theorem test_faults_are_contained_14 :
  ∃ (s : State) (i : Nat) (l : DieLink), s.lead.links[i]? = some l ∧ l.down = true ∧ l.fails < 3 ∧ l.a = 4 ∧ l.b = 5
    ∧ s.start.stage ≠ some 0 :=
  ⟨testRun.hasLead fun l => { l with links := updAt l.links 12 fun x => { x with down := true } }, 12,
    ⟨4, 5, true, 0, 0, 0⟩, by decide⟩

theorem test_faults_are_contained_15 :
  ∃ (s : State) (i k : Nat) (l : DieLink), s.lead.links[i]? = some l ∧ l.down = true ∧ l.fails < 3 ∧ l.a < 4 ∧ k =
    (if l.b < 4 then l.b else l.a) ∧ s.ready = true ∧ s.power.furl = 0 ∧ s.start.cantonReset.length = 4 :=
  ⟨testRun.hasLead fun l => { l with links := updAt l.links 8 fun x => { x with down := true } }, 8, 1,
    ⟨0, 1, true, 0, 0, 0⟩, by decide⟩

theorem test_faults_are_contained_16 :
  ∃ (s : State) (k p x : Nat), k < 64 ∧ s.clusters.length = 64 ∧ (s.cluster k).failed = false ∧ (s.cluster
    k).position = some p ∧ s.lead.lastFault[k]? = some (some x) ∧ s.hal.beatCount ≤ x + 4096 :=
  ⟨{ testServe with lead := { testServe.lead with lastFault := updAt testServe.lead.lastFault 20 fun _ => some testServe.hal.beatCount } },
    20, 19, testServe.hal.beatCount, by decide⟩

theorem test_pack_holds_up_the_flush_1 :
  ∃ (s : State), s.pack.present = false ∧ s.start.t0.isSome = true :=
  ⟨{ testRun with pack := Pack.reset }, by decide⟩

theorem test_pack_holds_up_the_flush_2 :
  ∃ (s : State), s.pack.present = true ∧ s.start.t0.isSome = true ∧ s.pack.holdup = none :=
  ⟨testRun, by decide⟩

theorem test_pack_holds_up_the_flush_3 :
  ∃ (s : State) (now b drop : Nat) (eeprom : Bytes) (h : PackHeader), s.pack.measureAt = some b ∧ s.start.t0.isSome
    = true ∧ b + tickS ≤ (s.at now).aon ∧ s.pack.present = true ∧ s.pack.powerFailRecord = false ∧ packHeader eeprom
    = some h ∧ 5000 ≤ packCap drop ∧ 10 * packCap drop ≤ 13 * h.ratedCap ∧ 1200 ≤ packEnergy (packCap drop) ∧
    h.serviceHours < 70128 ∧ h.discharges < 200000 :=
  ⟨{ testRun with pack := { testRun.pack with measureAt := some (99 * tickS) } }, 100000005, 99 * tickS, 700000,
    testEeprom, ⟨List.replicate 16 0, 0, 20016, 0, 0, 0⟩, by decide +kernel⟩

theorem test_pack_holds_up_the_flush_4 :
  ∃ (s : State) (now b drop : Nat) (eeprom : Bytes) (reached : Bool), s.pack.measureAt = some b ∧ s.start.t0.isSome
    = true ∧ b + tickS ≤ (s.at now).aon ∧ s.pack.present = true ∧ (reached = false ∨ packHeader eeprom = none ∨
    packCap drop < 5000) :=
  ⟨{ testRun with pack := { testRun.pack with measureAt := some (99 * tickS) } }, 100000005, 99 * tickS, 0, [],
    false, by decide⟩

theorem test_pack_holds_up_the_flush_5 :
  ∃ (s : State) (h : PackHeader), s.pack.header = some h ∧ s.pack.present = true ∧ s.start.t0.isSome = true :=
  ⟨{ testRun with pack := { testRun.pack with header := some ⟨List.replicate 16 0, 0, 20000, 0, 10, 0⟩ } },
    ⟨List.replicate 16 0, 0, 20000, 0, 10, 0⟩, by decide⟩

theorem test_pack_holds_up_the_flush_6 :
  ∃ (s : State), s.start.t0.isSome = true ∧ s.pack.holdup = none :=
  ⟨testRun, by decide⟩

theorem test_pack_holds_up_the_flush_7 :
  ∃ (s : State) (x : Nat × Nat), s.pack.holdup = some x :=
  ⟨{ testRun with pack := { testRun.pack with holdup := some (1, 12000) } }, (1, 12000), by decide⟩

theorem test_pack_holds_up_the_flush_8 :
  ∃ (s : State) (x : Nat × Nat), s.pack.holdup = some x :=
  ⟨{ testRun with pack := { testRun.pack with holdup := some (1, 12000) } }, (1, 12000), by decide⟩

theorem test_slots_issue_to_clusters_2 :
  ∃ (s : State) (k p : Nat), k < 64 ∧ s.clusters.length = 64 ∧ (s.cluster k).position = some p ∧ (s.cluster k).owner
    = .service ∧ (s.cluster k).failed = false ∧ s.hal.frozen = false ∧ (s.cluster k).banks = [] ∧ (s.cluster
    k).ahead = none ∧ s.tableEntry p s.entry = none :=
  ⟨testServe, 0, 0, by decide⟩

theorem test_slots_issue_to_clusters_3 :
  ∃ (s : State) (k p c : Nat) (d : Descriptor) (sp : RunningSpan), k < 64 ∧ s.clusters.length = 64 ∧ (s.cluster
    k).position = some p ∧ (s.cluster k).owner = .service ∧ (s.cluster k).failed = false ∧ s.hal.frozen = false ∧
    (s.cluster k).banks = [] ∧ (s.cluster k).ahead = none ∧ s.tableEntry p s.entry = some (c, d) ∧ d.opcode = 0xF0 ∧
    (s.cluster k).span = some sp ∧ sp.ctx = c ∧ sp.lead + d.span = s.entry :=
  ⟨{ testPlan (testImage testTemplate 0xF0) testRound with clusters := updAt testServe.clusters 0 fun c => { c with span := some { testSpan 1 with lead := 511 } } },
    0, 0, 2, testDesc 0xF0, { testSpan 1 with lead := 511 }, by decide⟩

theorem test_slots_issue_to_clusters_4 :
  ∃ (s : State) (k : Nat), ((s.cluster k).owner ≠ .service ∨ (s.cluster k).position = none) :=
  ⟨testUse, 0, by decide⟩

theorem test_slots_issue_to_clusters_7 :
  ∃ (s : State) (k : Nat) (sp : RunningSpan), (s.cluster k).span = some sp ∧ k < 64 ∧ s.clusters.length = 64 :=
  ⟨testOp 1 testTemplate testRound, 0, testSpan 1, by decide⟩

theorem test_slots_issue_to_clusters_8 :
  ∃ (s : State) (k p c : Nat) (d : Descriptor) (im : PlanImage) (r : Round) (cd : CursorDef) (o : OwnerSet), k < 64
    ∧ s.clusters.length = 64 ∧ (s.cluster k).position = some p ∧ (s.cluster k).owner = .service ∧ (s.cluster
    k).failed = false ∧ s.hal.frozen = false ∧ s.lead.hold = none ∧ (s.cluster k).fillWaits s.entry = false ∧ (∀ b ∈
    (s.cluster k).banks, b.entry ≠ (s.entry + 1) % 4096) ∧ s.tableEntry p ((s.entry + 1) % 4096) = some (c, d) ∧
    d.opcode = 0x01 ∧ s.leadReal p c d = true ∧ s.image c = some im ∧ s.round? c d.cohort = some r ∧ im.cursor p
    d.cursor = some cd ∧ r.owner? p o.set = some o ∧ o.set = (im.groupSets d.cohort p cd (r.cursorAt p
    d.cursor).group).getD ((r.cursorAt p d.cursor).pos % max 1 (im.groupSets d.cohort p cd (r.cursorAt p
    d.cursor).group).length) 0 :=
  ⟨testPlan (testImage testTemplate 1) testRound, 0, 0, 2, testDesc 1, testImage testTemplate 1, testRound,
    ⟨1, 0, 0, 1⟩, testOwner, by decide⟩

theorem test_slots_issue_to_clusters_10_0 :
  ∃ (s : State) (k : Nat) (sp : RunningSpan), k < 64 ∧ s.clusters.length = 64 ∧ (s.cluster k).span = some sp ∧
    (s.cluster k).position.isSome = true :=
  ⟨{ testOp 1 testTemplate testRound with clusters := updAt testServe.clusters 0 fun c => { c with span := some { testSpan 1 with dummy := true } } },
    0, { testSpan 1 with dummy := true }, by decide⟩

theorem test_chunks_are_committed_once_1 :
  ∃ (s : State) (k p : Nat) (sp : RunningSpan) (im : PlanImage) (r : Round) (c : CursorDef) (b : Bank) (o :
    OwnerSet), s.Carries k 0x01 p sp ∧ s.OnRound sp im r ∧ im.cursor p sp.desc.cursor = some c ∧ (s.cluster
    k).banks.find? (fun b => b.entry == sp.lead && b.ctx == sp.ctx && !b.secret) = some b ∧ r.owner? p b.tileSet =
    some o :=
  ⟨testOp 1 testTemplate testRound, 0, 0, testSpan 1, testImage testTemplate 1, testRound, ⟨1, 0, 0, 1⟩,
    testBank false, testOwner, (by unfold State.Carries; decide), (by unfold State.OnRound; decide), by decide⟩

theorem test_chunks_are_committed_once_2 :
  ∃ (s : State) (k p : Nat) (sp : RunningSpan) (im : PlanImage) (r : Round) (c : CursorDef), s.Carries k 0x02 p sp ∧
    s.OnRound sp im r ∧ im.cursor p sp.desc.cursor = some c ∧ (im.groupSets sp.desc.cohort p c (r.cursorAt p
    sp.desc.cursor).group).Nodup :=
  ⟨testOp 2 testTemplate { testRound with owners := [{ testOwner with active := [[1, 2]], activeCount := 1 }] }, 0,
    0, testSpan 2, testImage testTemplate 2,
    { testRound with owners := [{ testOwner with active := [[1, 2]], activeCount := 1 }] }, ⟨1, 0, 0, 1⟩,
    (by unfold State.Carries; decide), (by unfold State.OnRound; decide), by decide⟩

theorem test_chunks_are_committed_once_3 :
  ∃ (s : State) (k p ctx j : Nat) (im : PlanImage) (r : Round) (o : OwnerSet), (s.cluster k).position = some p ∧
    s.image ctx = some im ∧ s.round? ctx j = some r ∧ o.commit.state = 1 ∧ o.commit.fold = false ∧ (r.set
    o.set).lock = false ∧ o.set < r.sets.length ∧ o.position = p ∧ (s.cluster k).failed = false ∧ (∀ x ∈
    im.commitRoutes o, s.routeDown x = false) ∧ r.owners.filter (fun x => x.position == p && x.set == o.set) = [o]
    :=
  ⟨testPlan (testImage testTemplate 1) { testRound with owners := [{ testOwner with commit := { CommitRec.free with state := 1 } }] },
    0, 0, 2, 0, testImage testTemplate 1,
    { testRound with owners := [{ testOwner with commit := { CommitRec.free with state := 1 } }] },
    { testOwner with commit := { CommitRec.free with state := 1 } }, by decide⟩

theorem test_chunks_are_committed_once_6 :
  ∃ (s : State) (k p : Nat) (sp : RunningSpan) (im : PlanImage) (r : Round) (c : CursorDef) (key : Bytes) (x :
    Conn), s.Carries k 0x30 p sp ∧ s.OnRound sp im r ∧ im.cursor p sp.desc.cursor = some c ∧ r.root = some key ∧
    s.conn? r.rootConn = some x ∧ x.state = .open ∧ r.peerAgain = [] :=
  ⟨testOp 0x30 testTemplate { testRound with root := some [1], frozen := true, state := .closed }, 0, 0,
    testSpan 0x30, testImage testTemplate 0x30,
    { testRound with root := some [1], frozen := true, state := .closed }, ⟨1, 0, 0, 1⟩, [1], testConn,
    (by unfold State.Carries; decide), (by unfold State.OnRound; decide), by decide⟩

theorem test_chunks_are_committed_once_7 :
  ∃ (s : State) (k p : Nat) (sp : RunningSpan) (r : Round) (b : Bank), s.Carries k 0x06 p sp ∧ s.round? sp.ctx
    sp.desc.cohort = some r ∧ (s.cluster k).banks.find? (fun b => b.entry == sp.lead && b.ctx == sp.ctx && b.secret)
    = some b :=
  ⟨testOp 6 testTemplate testRound, 0, 0, testSpan 6, testRound, testBank true, (by unfold State.Carries; decide),
    by decide⟩

theorem test_masks_are_removed_1_0 :
  ∃ (s : State) (k p : Nat) (sp : RunningSpan) (im : PlanImage) (r : Round) (l : WorkList), s.Carries k (0x03) p sp
    ∧ s.OnRound sp im r ∧ r.list? p (ListKind.self) = some l ∧ (s.roundKey? r 0 (some (masterKs))).isSome = true :=
  ⟨testOp 0x03 testTemplate (testRemoval .self ⟨0, 0, 0, 0, false, 0, 0⟩), 0, 0, testSpan 0x03,
    testImage testTemplate 0x03, testRemoval .self ⟨0, 0, 0, 0, false, 0, 0⟩,
    ⟨0, .self, [⟨0, 0, 0, 0, false, 0, 0⟩], 0, true⟩, (by unfold State.Carries; decide),
    (by unfold State.OnRound; decide), by decide⟩

theorem test_masks_are_removed_1_1 :
  ∃ (s : State) (k p : Nat) (sp : RunningSpan) (im : PlanImage) (r : Round) (l : WorkList), s.Carries k (0x04) p sp
    ∧ s.OnRound sp im r ∧ r.list? p (ListKind.pair) = some l ∧ (s.roundKey? r 0 (some (masterKs))).isSome = true :=
  ⟨testOp 0x04 testTemplate (testRemoval .pair ⟨0, 0, 0, 0, false, 0, 0⟩), 0, 0, testSpan 0x04,
    testImage testTemplate 0x04, testRemoval .pair ⟨0, 0, 0, 0, false, 0, 0⟩,
    ⟨0, .pair, [⟨0, 0, 0, 0, false, 0, 0⟩], 0, true⟩, (by unfold State.Carries; decide),
    (by unfold State.OnRound; decide), by decide⟩

theorem test_masks_are_removed_1_2 :
  ∃ (s : State) (k p : Nat) (sp : RunningSpan) (im : PlanImage) (r : Round) (l : WorkList), s.Carries k (0x05) p sp
    ∧ s.OnRound sp im r ∧ r.list? p (ListKind.shamir) = some l ∧ (s.roundKey? r 0 (some (masterAu))).isSome = true
    :=
  ⟨testOp 0x05 testTemplate (testRemoval .shamir ⟨0, 0, 0, 0, false, 0, 0⟩), 0, 0, testSpan 0x05,
    testImage testTemplate 0x05, testRemoval .shamir ⟨0, 0, 0, 0, false, 0, 0⟩,
    ⟨0, .shamir, [⟨0, 0, 0, 0, false, 0, 0⟩], 0, true⟩, (by unfold State.Carries; decide),
    (by unfold State.OnRound; decide), by decide⟩

theorem test_masks_are_removed_1_3 :
  ∃ (s : State) (k p : Nat) (sp : RunningSpan) (im : PlanImage) (r : Round) (l : WorkList), s.Carries k (0x07) p sp
    ∧ s.OnRound sp im r ∧ r.list? p (ListKind.seedAcc) = some l ∧ (s.roundKey? r 0 (some (masterAu))).isSome = true
    :=
  ⟨testOp 0x07 testTemplate (testRemoval .seedAcc ⟨0, 0, 0, 0, false, 0, 0⟩), 0, 0, testSpan 0x07,
    testImage testTemplate 0x07, testRemoval .seedAcc ⟨0, 0, 0, 0, false, 0, 0⟩,
    ⟨0, .seedAcc, [⟨0, 0, 0, 0, false, 0, 0⟩], 0, true⟩, (by unfold State.Carries; decide),
    (by unfold State.OnRound; decide), by decide⟩

theorem test_masks_are_removed_1_4 :
  ∃ (s : State) (k p : Nat) (sp : RunningSpan) (im : PlanImage) (r : Round) (l : WorkList), s.Carries k (0x08) p sp
    ∧ s.OnRound sp im r ∧ r.list? p (ListKind.lwr) = some l ∧ (s.roundKey? r 0 (some (masterRg))).isSome = true :=
  ⟨testOp 0x08 testTemplate (testRemoval .lwr ⟨0, 0, 0, 0, false, 0, 0⟩), 0, 0, testSpan 0x08,
    testImage testTemplate 0x08, testRemoval .lwr ⟨0, 0, 0, 0, false, 0, 0⟩,
    ⟨0, .lwr, [⟨0, 0, 0, 0, false, 0, 0⟩], 0, true⟩, (by unfold State.Carries; decide),
    (by unfold State.OnRound; decide), by decide⟩

theorem test_masks_are_removed_2 :
  ∃ (s : State) (k p : Nat) (sp : RunningSpan) (im : PlanImage) (r : Round) (x : Item), s.Carries k 0x03 p sp ∧
    s.OnRound sp im r ∧ (r.takeItems p .self 8).1 = [x] ∧ (s.roundKey? r 0 (some masterKs)).isSome = true ∧ x.kind =
    1 ∧ (r.set x.tile).unmask = 0 ∧ (im.unmaskSets sp.desc.cohort p).any (fun y => y.2 == x.tile) = true ∧ r.inOrder
    im sp.desc.cohort p .self x = true ∧ (x.slot, x.tile) ∈ r.intake.ledger ∧ (r.mask.secrets.getD x.slot
    .new).stateSelf = 3 :=
  ⟨testOp 0x03 testTemplate (testRemoval .self ⟨0, 1, 0, 0, false, 0, 0⟩), 0, 0, testSpan 0x03,
    testImage testTemplate 0x03, testRemoval .self ⟨0, 1, 0, 0, false, 0, 0⟩, ⟨0, 1, 0, 0, false, 0, 0⟩,
    (by unfold State.Carries; decide +kernel), (by unfold State.OnRound; decide +kernel), by decide +kernel⟩

theorem test_masks_are_removed_3 :
  ∃ (s : State) (k p : Nat) (sp : RunningSpan) (im : PlanImage) (r : Round) (x : Item), s.Carries k 0x03 p sp ∧
    s.OnRound sp im r ∧ (r.takeItems p .self 8).1 = [x] ∧ (s.roundKey? r 0 (some masterKs)).isSome = true ∧ x.kind =
    1 ∧ (r.set x.tile).unmask = 0 ∧ x.tile < r.sets.length ∧ (r.mask.secrets.getD x.slot .new).stateSelf ≠ 3 :=
  ⟨testOp 0x03 testTemplate ({ testRemoval .self ⟨0, 1, 0, 0, false, 0, 0⟩ with mask := { (testRemoval .self ⟨0, 1, 0, 0, false, 0, 0⟩).mask with secrets := [.new, .new] } }),
    0, 0, testSpan 0x03, testImage testTemplate 0x03,
    { testRemoval .self ⟨0, 1, 0, 0, false, 0, 0⟩ with mask := { (testRemoval .self ⟨0, 1, 0, 0, false, 0, 0⟩).mask with secrets := [.new, .new] } },
    ⟨0, 1, 0, 0, false, 0, 0⟩, (by unfold State.Carries; decide), (by unfold State.OnRound; decide), by decide⟩

theorem test_masks_are_removed_4 :
  ∃ (s : State) (k p : Nat) (sp : RunningSpan) (im : PlanImage) (r : Round) (x : Item) (y : PairRec), s.Carries k
    0x04 p sp ∧ s.OnRound sp im r ∧ (r.takeItems p .pair 8).1 = [x] ∧ (s.roundKey? r 0 (some masterKs)).isSome =
    true ∧ x.kind = 2 ∧ (r.set x.tile).unmask = 0 ∧ (im.unmaskSets sp.desc.cohort p).any (fun y => y.2 == x.tile) =
    true ∧ r.inOrder im sp.desc.cohort p .pair x = true ∧ (x.slot, x.tile) ∈ r.intake.ledger ∧ (x.peer, x.tile) ∉
    r.intake.ledger ∧ x.flag = decide (x.peer < x.slot) ∧ r.pair? x.peer x.slot = some y ∧ isNeighbour (im.template
    sp.desc.cohort) (im.template sp.desc.cohort).offsets x.slot x.peer = true :=
  ⟨testOp 0x04 testTemplate ({ testRemoval .pair ⟨0, 2, 0, 1, false, 0, 0⟩ with mask := { (testRemoval .pair ⟨0, 2, 0, 1, false, 0, 0⟩).mask with pairs := [⟨1, 0, [5]⟩] } }),
    0, 0, testSpan 0x04, testImage testTemplate 0x04,
    { testRemoval .pair ⟨0, 2, 0, 1, false, 0, 0⟩ with mask := { (testRemoval .pair ⟨0, 2, 0, 1, false, 0, 0⟩).mask with pairs := [⟨1, 0, [5]⟩] } },
    ⟨0, 2, 0, 1, false, 0, 0⟩, ⟨1, 0, [5]⟩, (by unfold State.Carries; decide +kernel),
    (by unfold State.OnRound; decide +kernel), by decide +kernel⟩

theorem test_masks_are_removed_5 :
  ∃ (s : State) (k p : Nat) (sp : RunningSpan) (im : PlanImage) (r : Round) (x : Item) (v : Bytes), s.Carries k 0x05
    p sp ∧ s.OnRound sp im r ∧ (r.takeItems p .shamir 8).1 = [x] ∧ (s.roundKey? r 0 (some masterAu)).isSome = true ∧
    x.kind = 3 ∧ x.flag = false ∧ (r.mask.secrets.getD x.slot .new).stateSelf = 2 ∧ x.slot < r.mask.secrets.length ∧
    reconstruct (im.template sp.desc.cohort).threshold (r.sharesOf x.slot 1) = some v :=
  ⟨testOp 0x05 { testTemplate with threshold := 1 } ({ testRemoval .shamir ⟨0, 3, 0, 0, false, 0, 0⟩ with mask := { (testRemoval .shamir ⟨0, 3, 0, 0, false, 0, 0⟩).mask with secrets := [⟨2, 3, 0, 2, 2, [], [], [], true, true⟩, .new], shares := [⟨0, 0, 1, List.replicate 32 7⟩] } }),
    0, 0, testSpan 0x05, testImage { testTemplate with threshold := 1 } 0x05,
    { testRemoval .shamir ⟨0, 3, 0, 0, false, 0, 0⟩ with mask := { (testRemoval .shamir ⟨0, 3, 0, 0, false, 0, 0⟩).mask with secrets := [⟨2, 3, 0, 2, 2, [], [], [], true, true⟩, .new], shares := [⟨0, 0, 1, List.replicate 32 7⟩] } },
    ⟨0, 3, 0, 0, false, 0, 0⟩, List.replicate 32 7, (by unfold State.Carries; decide +kernel),
    (by unfold State.OnRound; decide +kernel), by decide +kernel⟩

theorem test_masks_are_removed_6 :
  ∃ (s : State) (k p : Nat) (sp : RunningSpan) (im : PlanImage) (r : Round) (x : Item) (v : Bytes), s.Carries k 0x05
    p sp ∧ s.OnRound sp im r ∧ (r.takeItems p .shamir 8).1 = [x] ∧ (s.roundKey? r 0 (some masterAu)).isSome = true ∧
    x.kind = 3 ∧ x.flag = true ∧ (r.mask.secrets.getD x.slot .new).stateKey = 2 ∧ x.slot < r.mask.secrets.length ∧
    reconstruct (im.template sp.desc.cohort).threshold (r.sharesOf x.slot 2) = some v :=
  ⟨testOp 0x05 { testTemplate with threshold := 1 } ({ testRemoval .shamir ⟨0, 3, 0, 0, true, 0, 0⟩ with mask := { (testRemoval .shamir ⟨0, 3, 0, 0, true, 0, 0⟩).mask with secrets := [⟨3, 2, 0, 2, 2, [], [], [], true, true⟩, .new], shares := [⟨0, 0, 2, List.replicate 32 7⟩] } }),
    0, 0, testSpan 0x05, testImage { testTemplate with threshold := 1 } 0x05,
    { testRemoval .shamir ⟨0, 3, 0, 0, true, 0, 0⟩ with mask := { (testRemoval .shamir ⟨0, 3, 0, 0, true, 0, 0⟩).mask with secrets := [⟨3, 2, 0, 2, 2, [], [], [], true, true⟩, .new], shares := [⟨0, 0, 2, List.replicate 32 7⟩] } },
    ⟨0, 3, 0, 0, true, 0, 0⟩, List.replicate 32 7, (by unfold State.Carries; decide +kernel),
    (by unfold State.OnRound; decide +kernel), by decide +kernel⟩

theorem test_masks_are_removed_7 :
  ∃ (s : State) (k p : Nat) (sp : RunningSpan) (im : PlanImage) (r : Round) (x : Item), s.Carries k 0x05 p sp ∧
    s.OnRound sp im r ∧ (r.takeItems p .shamir 8).1 = [x] ∧ (s.roundKey? r 0 (some masterAu)).isSome = true ∧ x.kind
    = 3 ∧ x.flag = false ∧ (r.mask.secrets.getD x.slot .new).stateSelf = 2 ∧ x.slot < r.mask.secrets.length ∧
    reconstruct (im.template sp.desc.cohort).threshold (r.sharesOf x.slot 1) = none :=
  ⟨testOp 0x05 testTemplate ({ testRemoval .shamir ⟨0, 3, 0, 0, false, 0, 0⟩ with mask := { (testRemoval .shamir ⟨0, 3, 0, 0, false, 0, 0⟩).mask with secrets := [⟨2, 3, 0, 2, 2, [], [], [], true, true⟩, .new] } }),
    0, 0, testSpan 0x05, testImage testTemplate 0x05,
    { testRemoval .shamir ⟨0, 3, 0, 0, false, 0, 0⟩ with mask := { (testRemoval .shamir ⟨0, 3, 0, 0, false, 0, 0⟩).mask with secrets := [⟨2, 3, 0, 2, 2, [], [], [], true, true⟩, .new] } },
    ⟨0, 3, 0, 0, false, 0, 0⟩, (by unfold State.Carries; decide +kernel), (by unfold State.OnRound; decide +kernel),
    by decide +kernel⟩

theorem test_masks_are_removed_9 :
  ∃ (s : State) (ctx j d i : Nat) (r : Round), s.round? ctx j = some r ∧ (d, i) ∈ r.mask.recompute ∧ (r.state =
    .closed ∨ r.state = .unmasking) ∧ (r.mask.secrets.getD d .new).stateKey = 3 ∧ (s.roundKey? r 0 none).isSome =
    true :=
  ⟨testPlan (testImage testTemplate 3) { testRemoval .self ⟨0, 1, 0, 0, false, 0, 0⟩ with mask := { (testRemoval .self ⟨0, 1, 0, 0, false, 0, 0⟩).mask with recompute := [(0, 1)] } },
    2, 0, 0, 1,
    { testRemoval .self ⟨0, 1, 0, 0, false, 0, 0⟩ with mask := { (testRemoval .self ⟨0, 1, 0, 0, false, 0, 0⟩).mask with recompute := [(0, 1)] } },
    by decide, by decide, Or.inr (by decide), by decide⟩

theorem test_masks_are_removed_10 :
  ∃ (s : State) (k p : Nat) (sp : RunningSpan) (im : PlanImage) (r : Round) (x : Item), s.Carries k 0x07 p sp ∧
    s.OnRound sp im r ∧ (r.takeItems p .seedAcc (seedItems (im.template sp.desc.cohort))).1 = [x] ∧ (s.roundKey? r 0
    (some masterAu)).isSome = true ∧ x.kind = 4 ∧ r.inOrder im sp.desc.cohort p .seedAcc x = true ∧ ((im.unmaskSets
    sp.desc.cohort p).all fun y => r.intake.ledger.contains (x.slot, y.2)) = true :=
  ⟨testOp 0x07 testSum (testRemoval .seedAcc ⟨0, 4, 0, 0, false, 0, 0⟩), 0, 0, testSpan 0x07, testImage testSum 0x07,
    testRemoval .seedAcc ⟨0, 4, 0, 0, false, 0, 0⟩, ⟨0, 4, 0, 0, false, 0, 0⟩,
    (by unfold State.Carries; decide +kernel), (by unfold State.OnRound; decide +kernel), by decide +kernel⟩

theorem test_masks_are_removed_11 :
  ∃ (s : State) (k p : Nat) (sp : RunningSpan) (im : PlanImage) (r : Round) (x : Item), s.Carries k 0x07 p sp ∧
    s.OnRound sp im r ∧ (r.takeItems p .seedAcc (seedItems (im.template sp.desc.cohort))).1 = [x] ∧ (s.roundKey? r 0
    (some masterAu)).isSome = true ∧ x.kind = 5 ∧ r.inOrder im sp.desc.cohort p .seedAcc x = true ∧ (x.slot, x.tile)
    ∈ r.intake.ledger ∧ ((im.unmaskSets sp.desc.cohort p).all fun y => r.intake.ledger.contains (x.slot, y.2)) =
    false ∧ (im.unmaskSets sp.desc.cohort p).any (fun y => y.2 == x.tile) = true ∧ (r.set x.tile).unmask = 0 :=
  ⟨testOp 0x07 testSum2 testSumRound, 0, 0, testSpan 0x07, testImage testSum2 0x07, testSumRound,
    ⟨0, 5, 0, 0, false, 0, 0⟩, (by unfold State.Carries; decide +kernel), (by unfold State.OnRound; decide +kernel),
    by decide +kernel, by decide +kernel, by decide +kernel, by decide +kernel, by decide +kernel,
    (by simp only [show (testSpan 0x07).desc.cohort = 0 from rfl, test_unmask_sets]; decide +kernel),
    (by simp only [show (testSpan 0x07).desc.cohort = 0 from rfl, test_unmask_sets]; decide +kernel),
    by decide +kernel⟩

theorem test_masks_are_removed_12 :
  ∃ (s : State) (k p : Nat) (sp : RunningSpan) (im : PlanImage) (r : Round) (x : Item), s.Carries k 0x08 p sp ∧
    s.OnRound sp im r ∧ (r.takeItems p .lwr 8).1 = [x] ∧ (s.roundKey? r 0 (some masterRg)).isSome = true ∧ x.kind =
    6 ∧ (r.set x.tile).unmask = 0 ∧ (im.unmaskSets sp.desc.cohort p).any (fun y => y.2 == x.tile) = true ∧ r.inOrder
    im sp.desc.cohort p .lwr x = true :=
  ⟨testOp 0x08 testSum (testRemoval .lwr ⟨0, 6, 0, 0, false, 0, 0⟩), 0, 0, testSpan 0x08, testImage testSum 0x08,
    testRemoval .lwr ⟨0, 6, 0, 0, false, 0, 0⟩, ⟨0, 6, 0, 0, false, 0, 0⟩, (by unfold State.Carries; decide +kernel),
    (by unfold State.OnRound; decide +kernel), by decide +kernel⟩

theorem test_masks_are_removed_13 :
  ∃ (s : State) (k p ctx j g f : Nat) (im : PlanImage) (r : Round), (s.cluster k).position = some p ∧ (s.cluster
    k).failed = false ∧ (∀ l ∈ s.lead.links, l.down = false) ∧ (im.template j).isLeaf = false ∧ (∀ o ∈ r.owners,
    o.position = p → o.commit.state ≠ 1) ∧ s.image ctx = some im ∧ s.round? ctx j = some r ∧ r.state = .unmasking ∧
    (im.template j).isRing = false ∧ (im.unmaskSets j p).find? (fun x => (r.set x.2).unmask == 0) = some (g, f) ∧
    r.groupComplete im j p g = true :=
  ⟨testPlan (testImage testTemplate 3) { testRemoval .self ⟨0, 1, 0, 0, false, 0, 0⟩ with mask := { (testRemoval .self ⟨0, 1, 0, 0, false, 0, 0⟩).mask with lists := [⟨0, .self, [], 0, true⟩, ⟨0, .pair, [], 0, true⟩] } },
    0, 0, 2, 0, 0, 0, testImage testTemplate 3,
    { testRemoval .self ⟨0, 1, 0, 0, false, 0, 0⟩ with mask := { (testRemoval .self ⟨0, 1, 0, 0, false, 0, 0⟩).mask with lists := [⟨0, .self, [], 0, true⟩, ⟨0, .pair, [], 0, true⟩] } },
    by decide +kernel⟩

theorem test_ring_tiles_are_worked_on_1_0 :
  ∃ (s : State) (k p : Nat) (sp : RunningSpan) (im : PlanImage) (r : Round) (w : WorkingCopy) (y : RingTile),
    s.Carries k (0x10) p sp ∧ s.OnRound sp im r ∧ r.working? p sp.desc.cursor = some w ∧ r.ringTile w.tile = some y
    ∧ slotStart im (im.template sp.desc.cohort) sp.desc y.agg w.header true = (0, 0, 0) :=
  ⟨testOp 0x10 testRing (testRingRound 0), 0, 0, testSpan 0x10, testImage testRing 0x10, testRingRound 0, testCopy 0,
    ⟨testHeader 0, none, [], 0, []⟩, (by unfold State.Carries; decide), (by unfold State.OnRound; decide), by decide⟩

theorem test_ring_tiles_are_worked_on_1_1 :
  ∃ (s : State) (k p : Nat) (sp : RunningSpan) (im : PlanImage) (r : Round) (w : WorkingCopy) (y : RingTile),
    s.Carries k (0x11) p sp ∧ s.OnRound sp im r ∧ r.working? p sp.desc.cursor = some w ∧ r.ringTile w.tile = some y
    ∧ slotStart im (im.template sp.desc.cohort) sp.desc y.agg w.header true = (0, 0, 0) :=
  ⟨testOp 0x11 testRing (testRingRound 0), 0, 0, testSpan 0x11, testImage testRing 0x11, testRingRound 0, testCopy 0,
    ⟨testHeader 0, none, [], 0, []⟩, (by unfold State.Carries; decide), (by unfold State.OnRound; decide), by decide⟩

theorem test_ring_tiles_are_worked_on_1_2 :
  ∃ (s : State) (k p : Nat) (sp : RunningSpan) (im : PlanImage) (r : Round) (w : WorkingCopy) (y : RingTile),
    s.Carries k (0x12) p sp ∧ s.OnRound sp im r ∧ r.working? p sp.desc.cursor = some w ∧ r.ringTile w.tile = some y
    ∧ slotStart im (im.template sp.desc.cohort) sp.desc y.agg w.header true = (0, 0, 0) :=
  ⟨testOp 0x12 testRing (testRingRound 1), 0, 0, testSpan 0x12, testImage testRing 0x12, testRingRound 1, testCopy 1,
    ⟨testHeader 0, none, [], 0, []⟩, (by unfold State.Carries; decide), (by unfold State.OnRound; decide), by decide⟩

theorem test_ring_tiles_are_worked_on_1_3 :
  ∃ (s : State) (k p : Nat) (sp : RunningSpan) (im : PlanImage) (r : Round) (w : WorkingCopy) (y : RingTile),
    s.Carries k (0x13) p sp ∧ s.OnRound sp im r ∧ r.working? p sp.desc.cursor = some w ∧ r.ringTile w.tile = some y
    ∧ slotStart im (im.template sp.desc.cohort) sp.desc y.agg w.header true = (0, 0, 0) :=
  ⟨testOp 0x13 testRing (testRingRound 0), 0, 0, testSpan 0x13, testImage testRing 0x13, testRingRound 0, testCopy 0,
    ⟨testHeader 0, none, [], 0, []⟩, (by unfold State.Carries; decide), (by unfold State.OnRound; decide), by decide⟩

theorem test_ring_tiles_are_worked_on_1_4 :
  ∃ (s : State) (k p : Nat) (sp : RunningSpan) (im : PlanImage) (r : Round) (w : WorkingCopy) (y : RingTile),
    s.Carries k (0x14) p sp ∧ s.OnRound sp im r ∧ r.working? p sp.desc.cursor = some w ∧ r.ringTile w.tile = some y
    ∧ slotStart im (im.template sp.desc.cohort) sp.desc y.agg w.header true = (0, 0, 0) :=
  ⟨testOp 0x14 testRing (testRingRound 0), 0, 0, testSpan 0x14, testImage testRing 0x14, testRingRound 0, testCopy 0,
    ⟨testHeader 0, none, [], 0, []⟩, (by unfold State.Carries; decide), (by unfold State.OnRound; decide), by decide⟩

theorem test_ring_tiles_are_worked_on_1_5 :
  ∃ (s : State) (k p : Nat) (sp : RunningSpan) (im : PlanImage) (r : Round) (w : WorkingCopy) (y : RingTile),
    s.Carries k (0x18) p sp ∧ s.OnRound sp im r ∧ r.working? p sp.desc.cursor = some w ∧ r.ringTile w.tile = some y
    ∧ slotStart im (im.template sp.desc.cohort) sp.desc y.agg w.header true = (0, 0, 0) :=
  ⟨testOp 0x18 testRing (testRingRound 0), 0, 0, testSpan 0x18, testImage testRing 0x18, testRingRound 0, testCopy 0,
    ⟨testHeader 0, none, [], 0, []⟩, (by unfold State.Carries; decide), (by unfold State.OnRound; decide), by decide⟩

theorem test_ring_tiles_are_worked_on_3_0 :
  ∃ (s : State) (k p : Nat) (sp : RunningSpan) (im : PlanImage) (r : Round) (w : WorkingCopy) (y : RingTile),
    s.Carries k (0x10) p sp ∧ s.OnRound sp im r ∧ r.working? p sp.desc.cursor = some w ∧ r.ringTile w.tile = some y
    ∧ (slotStart im (im.template sp.desc.cohort) sp.desc y.agg w.header (true)).1 ≠ 0 :=
  ⟨testOp 0x10 testRing ({ testRingRound 0 with ring := { (testRingRound 0).ring with working := [{ testCopy 0 with header := { testHeader 0 with status := 2, cause := 3 } }] } }),
    0, 0, testSpan 0x10, testImage testRing 0x10,
    { testRingRound 0 with ring := { (testRingRound 0).ring with working := [{ testCopy 0 with header := { testHeader 0 with status := 2, cause := 3 } }] } },
    { testCopy 0 with header := { testHeader 0 with status := 2, cause := 3 } }, ⟨testHeader 0, none, [], 0, []⟩,
    (by unfold State.Carries; decide), (by unfold State.OnRound; decide), by decide⟩

theorem test_ring_tiles_are_worked_on_3_1 :
  ∃ (s : State) (k p : Nat) (sp : RunningSpan) (im : PlanImage) (r : Round) (w : WorkingCopy) (y : RingTile),
    s.Carries k (0x11) p sp ∧ s.OnRound sp im r ∧ r.working? p sp.desc.cursor = some w ∧ r.ringTile w.tile = some y
    ∧ (slotStart im (im.template sp.desc.cohort) sp.desc y.agg w.header (true)).1 ≠ 0 :=
  ⟨testOp 0x11 testRing ({ testRingRound 0 with ring := { (testRingRound 0).ring with working := [{ testCopy 0 with header := { testHeader 0 with status := 2, cause := 3 } }] } }),
    0, 0, testSpan 0x11, testImage testRing 0x11,
    { testRingRound 0 with ring := { (testRingRound 0).ring with working := [{ testCopy 0 with header := { testHeader 0 with status := 2, cause := 3 } }] } },
    { testCopy 0 with header := { testHeader 0 with status := 2, cause := 3 } }, ⟨testHeader 0, none, [], 0, []⟩,
    (by unfold State.Carries; decide), (by unfold State.OnRound; decide), by decide⟩

theorem test_ring_tiles_are_worked_on_3_2 :
  ∃ (s : State) (k p : Nat) (sp : RunningSpan) (im : PlanImage) (r : Round) (w : WorkingCopy) (y : RingTile),
    s.Carries k (0x12) p sp ∧ s.OnRound sp im r ∧ r.working? p sp.desc.cursor = some w ∧ r.ringTile w.tile = some y
    ∧ (slotStart im (im.template sp.desc.cohort) sp.desc y.agg w.header (true)).1 ≠ 0 :=
  ⟨testOp 0x12 testRing ({ testRingRound 0 with ring := { (testRingRound 0).ring with working := [{ testCopy 0 with header := { testHeader 0 with status := 2, cause := 3 } }] } }),
    0, 0, testSpan 0x12, testImage testRing 0x12,
    { testRingRound 0 with ring := { (testRingRound 0).ring with working := [{ testCopy 0 with header := { testHeader 0 with status := 2, cause := 3 } }] } },
    { testCopy 0 with header := { testHeader 0 with status := 2, cause := 3 } }, ⟨testHeader 0, none, [], 0, []⟩,
    (by unfold State.Carries; decide), (by unfold State.OnRound; decide), by decide⟩

theorem test_ring_tiles_are_worked_on_3_3 :
  ∃ (s : State) (k p : Nat) (sp : RunningSpan) (im : PlanImage) (r : Round) (w : WorkingCopy) (y : RingTile),
    s.Carries k (0x13) p sp ∧ s.OnRound sp im r ∧ r.working? p sp.desc.cursor = some w ∧ r.ringTile w.tile = some y
    ∧ (slotStart im (im.template sp.desc.cohort) sp.desc y.agg w.header (true)).1 ≠ 0 :=
  ⟨testOp 0x13 testRing ({ testRingRound 0 with ring := { (testRingRound 0).ring with working := [{ testCopy 0 with header := { testHeader 0 with status := 2, cause := 3 } }] } }),
    0, 0, testSpan 0x13, testImage testRing 0x13,
    { testRingRound 0 with ring := { (testRingRound 0).ring with working := [{ testCopy 0 with header := { testHeader 0 with status := 2, cause := 3 } }] } },
    { testCopy 0 with header := { testHeader 0 with status := 2, cause := 3 } }, ⟨testHeader 0, none, [], 0, []⟩,
    (by unfold State.Carries; decide), (by unfold State.OnRound; decide), by decide⟩

theorem test_ring_tiles_are_worked_on_3_4 :
  ∃ (s : State) (k p : Nat) (sp : RunningSpan) (im : PlanImage) (r : Round) (w : WorkingCopy) (y : RingTile),
    s.Carries k (0x14) p sp ∧ s.OnRound sp im r ∧ r.working? p sp.desc.cursor = some w ∧ r.ringTile w.tile = some y
    ∧ (slotStart im (im.template sp.desc.cohort) sp.desc y.agg w.header (true)).1 ≠ 0 :=
  ⟨testOp 0x14 testRing ({ testRingRound 0 with ring := { (testRingRound 0).ring with working := [{ testCopy 0 with header := { testHeader 0 with status := 2, cause := 3 } }] } }),
    0, 0, testSpan 0x14, testImage testRing 0x14,
    { testRingRound 0 with ring := { (testRingRound 0).ring with working := [{ testCopy 0 with header := { testHeader 0 with status := 2, cause := 3 } }] } },
    { testCopy 0 with header := { testHeader 0 with status := 2, cause := 3 } }, ⟨testHeader 0, none, [], 0, []⟩,
    (by unfold State.Carries; decide), (by unfold State.OnRound; decide), by decide⟩

theorem test_ring_tiles_are_worked_on_3_8 :
  ∃ (s : State) (k p : Nat) (sp : RunningSpan) (im : PlanImage) (r : Round) (w : WorkingCopy) (y : RingTile),
    s.Carries k (0x18) p sp ∧ s.OnRound sp im r ∧ r.working? p sp.desc.cursor = some w ∧ r.ringTile w.tile = some y
    ∧ (slotStart im (im.template sp.desc.cohort) sp.desc y.agg w.header (true)).1 ≠ 0 :=
  ⟨testOp 0x18 testRing ({ testRingRound 0 with ring := { (testRingRound 0).ring with working := [{ testCopy 0 with header := { testHeader 0 with status := 2, cause := 3 } }] } }),
    0, 0, testSpan 0x18, testImage testRing 0x18,
    { testRingRound 0 with ring := { (testRingRound 0).ring with working := [{ testCopy 0 with header := { testHeader 0 with status := 2, cause := 3 } }] } },
    { testCopy 0 with header := { testHeader 0 with status := 2, cause := 3 } }, ⟨testHeader 0, none, [], 0, []⟩,
    (by unfold State.Carries; decide), (by unfold State.OnRound; decide), by decide⟩

theorem test_ring_tiles_are_worked_on_3_9 :
  ∃ (s : State) (k p : Nat) (sp : RunningSpan) (im : PlanImage) (r : Round) (w : WorkingCopy) (y : RingTile),
    s.Carries k (0x19) p sp ∧ s.OnRound sp im r ∧ r.working? p sp.desc.cursor = some w ∧ r.ringTile w.tile = some y
    ∧ (slotStart im (im.template sp.desc.cohort) sp.desc y.agg w.header (true)).1 ≠ 0 :=
  ⟨testOp 0x19 testRing ({ testRingRound 0 with ring := { (testRingRound 0).ring with working := [{ testCopy 0 with header := { testHeader 0 with status := 2, cause := 3 } }] } }),
    0, 0, testSpan 0x19, testImage testRing 0x19,
    { testRingRound 0 with ring := { (testRingRound 0).ring with working := [{ testCopy 0 with header := { testHeader 0 with status := 2, cause := 3 } }] } },
    { testCopy 0 with header := { testHeader 0 with status := 2, cause := 3 } }, ⟨testHeader 0, none, [], 0, []⟩,
    (by unfold State.Carries; decide), (by unfold State.OnRound; decide), by decide⟩

theorem test_ring_tiles_are_worked_on_8 :
  ∃ (s : State) (k p : Nat) (sp : RunningSpan) (im : PlanImage) (r : Round) (x : Item) (y : RingTile) (o :
    CtHeader), s.Carries k 0x1A p sp ∧ s.OnRound sp im r ∧ (r.takeItems p .dsComb 1).1 = [x] ∧ r.ringTile (x.tile /
    max 1 (im.template sp.desc.cohort).setTiles) = some y ∧ y.out = some o ∧ (s.roundKey? r 0 (some
    masterRg)).isSome = true :=
  ⟨testOp 0x1A testRing ({ testRingRound 0 with ring := { (testRingRound 0).ring with tiles := [⟨testHeader 0, some (testHeader 1), [[[1, 2]], [[3, 4]]], 0, []⟩], blocks := [⟨1, [[1], [1]]⟩], shares := [⟨0, 0, 0, List.replicate 512 3⟩] }, mask := { RoundMask.empty with lists := [⟨0, .dsComb, [⟨0, 7, 0, 0, false, 1, 0⟩], 0, true⟩] } }),
    0, 0, testSpan 0x1A, testImage testRing 0x1A,
    { testRingRound 0 with ring := { (testRingRound 0).ring with tiles := [⟨testHeader 0, some (testHeader 1), [[[1, 2]], [[3, 4]]], 0, []⟩], blocks := [⟨1, [[1], [1]]⟩], shares := [⟨0, 0, 0, List.replicate 512 3⟩] }, mask := { RoundMask.empty with lists := [⟨0, .dsComb, [⟨0, 7, 0, 0, false, 1, 0⟩], 0, true⟩] } },
    ⟨0, 7, 0, 0, false, 1, 0⟩, ⟨testHeader 0, some (testHeader 1), [[[1, 2]], [[3, 4]]], 0, []⟩, testHeader 1,
    (by unfold State.Carries; decide), (by unfold State.OnRound; decide), by decide⟩

theorem test_outputs_are_finished_3 :
  ∃ (s : State) (k p ctx j : Nat) (im : PlanImage) (r : Round), (s.cluster k).position = some p ∧ s.image ctx = some
    im ∧ s.round? ctx j = some r ∧ (r.state = .unmasking ∨ r.state = .finished) ∧ r.finishPhase = true :=
  ⟨testPlan (testImage testTemplate 0x20) (testFinish [{ testItem with result := some ⟨1, 0, 1, false, [5], 0⟩ }]),
    0, 0, 2, 0, testImage testTemplate 0x20, testFinish [{ testItem with result := some ⟨1, 0, 1, false, [5], 0⟩ }],
    by decide⟩

theorem test_outputs_are_finished_4 :
  ∃ (s : State) (k p ctx j i : Nat) (im : PlanImage) (r : Round) (b : Block) (c : CursorDef) (spec : FinishSpec),
    (s.cluster k).position = some p ∧ s.image ctx = some im ∧ s.round? ctx j = some r ∧ (r.state = .unmasking ∨
    r.state = .finished) ∧ r.finishPhase = true ∧ im.block p = some b ∧ r.finishItems = [] ∧ policySpec
    r.policyObject r.cohortId = some spec ∧ b.cursors.zipIdx.filter (fun x => x.1.cohort == j && b.uses 0x20 x.2) =
    [(c, i)] :=
  ⟨testPlan (testImage testTemplate 0x20) (testFinish []), 0, 0, 2, 0, 0, testImage testTemplate 0x20, testFinish [],
    (testImage testTemplate 0x20).blocks.headD ⟨0, [], []⟩, ⟨1, 0, 0, 1⟩, testSpec, by decide⟩

theorem test_outputs_are_finished_5 :
  ∃ (s : State) (k n : Nat), 8 * k + n < s.drbgs.length ∧ (s.drbg k n).instantiated = true ∧ (s.drbg k n).error =
    false :=
  ⟨{ testUse with drbgs := updAt testUse.drbgs 3 fun _ => ⟨List.replicate 32 1, List.replicate 16 1, 5, true, false⟩ },
    0, 3, by decide⟩

theorem test_rounds_pass_their_states_1 :
  ∃ (s : State) (v : Nat) (e : Bytes) (rest : List Bytes), s.Commands v 0x03 e rest :=
  ⟨{ (testPlan (testImage testTemplate 1) testRound).hasCmd (testEntry 3 testNames) with rounds := [], set := { (testPlan (testImage testTemplate 1) testRound).set with policies := List.replicate 16 (some ⟨testSpecObject, [], 2⟩), ctx := (testPlan (testImage testTemplate 1) testRound).set.ctx.map fun c => { c with pkEngines := ⟨1, 1⟩ } } },
    2, testEntry 3 testNames, [], (by unfold State.Commands; decide)⟩

theorem test_rounds_pass_their_states_2 :
  ∃ (s : State) (c j : Nat) (im : PlanImage) (r : Round), s.opening? c j = some r ∧ s.image c = some im ∧ s.atWindow
    = true ∧ s.lead.hold = none ∧ r.acceptedBeat < s.hal.beatCount ∧ (s.round? c j).any Round.delivering = false :=
  ⟨testPlan (testImage testTemplate 1) ({ testRound with state := .opening, saltR := List.replicate 32 0 }), 2, 0,
    testImage testTemplate 1, { testRound with state := .opening, saltR := List.replicate 32 0 }, by decide⟩

theorem test_rounds_pass_their_states_3 :
  ∃ (s : State) (c j : Nat) (im : PlanImage) (r : Round), s.opening? c j = some r ∧ s.image c = some im ∧ s.atWindow
    = true ∧ s.lead.hold = none ∧ r.acceptedBeat < s.hal.beatCount ∧ (s.round? c j).any Round.delivering = true :=
  ⟨{ testPlan (testImage testTemplate 1) testRound with rounds := [{ testRound with state := .released, delivering := true }, { testRound with state := .opening, number := 2 }] },
    2, 0, testImage testTemplate 1, { testRound with state := .opening, number := 2 }, by decide⟩

theorem test_rounds_pass_their_states_4 :
  ∃ (s : State) (v j : Nat) (e : Bytes) (rest : List Bytes) (r : Round), s.Commands v 0x04 e rest ∧ s.cohortOf
    (vfCtx v) (leAt e 8 4) = some j ∧ s.namedRound (vfCtx v) j (leAt e 12 4) = .ok r ∧ r.state = .open :=
  ⟨(testPlan (testImage testTemplate 1) (testRound)).hasCmd (testEntry 4 (testNames)), 2, 0, testEntry 4 (testNames),
    [], testRound, (by unfold State.Commands; decide), by decide⟩

theorem test_rounds_pass_their_states_5_0 :
  ∃ (s : State) (c j : Nat) (im : PlanImage) (r : Round), s.round? c j = some r ∧ s.image c = some im ∧ r.state =
    .open ∧ s.atWindow = true ∧ s.lead.hold = none ∧ (r.closeAccepted = true ∧ r.closeBeat ≤ s.hal.beatCount) :=
  ⟨testPlan (testImage testTemplate 1) ({ testRound with closeAccepted := true, closeBeat := 512 }), 2, 0,
    testImage testTemplate 1, { testRound with closeAccepted := true, closeBeat := 512 }, by decide⟩

theorem test_rounds_pass_their_states_5_1 :
  ∃ (s : State) (c j : Nat) (im : PlanImage) (r : Round), s.round? c j = some r ∧ s.image c = some im ∧ r.state =
    .open ∧ s.atWindow = true ∧ s.lead.hold = none ∧ ((im.template j).wR ≤ r.openWindows) :=
  ⟨testPlan (testImage testTemplate 1) ({ testRound with openWindows := 1 }), 2, 0, testImage testTemplate 1,
    { testRound with openWindows := 1 }, by decide⟩

theorem test_rounds_pass_their_states_6 :
  ∃ (s : State) (c j : Nat) (im : PlanImage) (r : Round), s.round? c j = some r ∧ s.image c = some im ∧ r.state =
    .closed ∧ r.frozen = false ∧ (∀ o ∈ r.owners, o.commit.state ≠ 1) :=
  ⟨testPlan (testImage testTemplate 1) ({ testRound with state := .closed }), 2, 0, testImage testTemplate 1,
    { testRound with state := .closed }, by decide⟩

theorem test_rounds_pass_their_states_7_0 :
  ∃ (s : State) (c j : Nat) (im : PlanImage) (r : Round), s.round? c j = some r ∧ s.image c = some im ∧ r.state =
    .closed ∧ r.frozen = true ∧ r.frozenBeat < s.hal.beatCount ∧ s.atWindow = true ∧ s.lead.hold = none ∧
    ((im.template j).wS ≤ r.closedWindows) :=
  ⟨testPlan (testImage testTemplate 1) ({ testRound with state := .closed, frozen := true, closedWindows := 1 }), 2,
    0, testImage testTemplate 1, { testRound with state := .closed, frozen := true, closedWindows := 1 }, by decide⟩

theorem test_rounds_pass_their_states_7_1 :
  ∃ (s : State) (c j : Nat) (im : PlanImage) (r : Round), s.round? c j = some r ∧ s.image c = some im ∧ r.state =
    .closed ∧ r.frozen = true ∧ r.frozenBeat < s.hal.beatCount ∧ s.atWindow = true ∧ s.lead.hold = none ∧
    ((im.template j).wS ≤ r.closedWindows ∨ r.earlyUnmasking im j = true) :=
  ⟨testPlan (testImage testTemplate 1) ({ testRound with state := .closed, frozen := true, closedWindows := 1 }), 2,
    0, testImage testTemplate 1, { testRound with state := .closed, frozen := true, closedWindows := 1 }, by decide,
    by decide, by decide, by decide, by decide, by decide, (by decide), Or.inl (by decide)⟩

theorem test_rounds_pass_their_states_8 :
  ∃ (s : State) (c j : Nat) (im : PlanImage) (r : Round), s.round? c j = some r ∧ s.image c = some im ∧ r.state =
    .unmasking ∧ (im.template j).isLeaf = false ∧ ((im.template j).isPair = true ∨ (im.template j).isSum = true) :=
  ⟨testPlan (testImage testTemplate 1) ({ testRound with state := .unmasking, frozen := true, mask := { RoundMask.empty with secrets := [⟨3, 3, 0, 2, 2, [], [], [], true, true⟩, .new] } }),
    2, 0, testImage testTemplate 1,
    { testRound with state := .unmasking, frozen := true, mask := { RoundMask.empty with secrets := [⟨3, 3, 0, 2, 2, [], [], [], true, true⟩, .new] } },
    by decide, by decide, by decide, by decide, Or.inl (by decide)⟩

theorem test_rounds_pass_their_states_9 :
  ∃ (s : State) (c j : Nat) (im : PlanImage) (r : Round), s.round? c j = some r ∧ s.image c = some im ∧ r.state =
    .unmasking ∧ s.atWindow = true ∧ s.lead.hold = none :=
  ⟨testPlan (testImage testTemplate 1) ({ testRound with state := .unmasking, frozen := true, sets := [{ TileSet.zero with unmask := 1 }] }),
    2, 0, testImage testTemplate 1,
    { testRound with state := .unmasking, frozen := true, sets := [{ TileSet.zero with unmask := 1 }] }, by decide⟩

theorem test_rounds_pass_their_states_10 :
  ∃ (s : State) (v j : Nat) (e : Bytes) (rest : List Bytes) (r : Round), s.Commands v 0x05 e rest ∧ s.cohortOf
    (vfCtx v) (leAt e 8 4) = some j ∧ s.namedRound (vfCtx v) j (leAt e 12 4) = .ok r ∧ r.state.live = true :=
  ⟨(testPlan (testImage testTemplate 1) (testRound)).hasCmd (testEntry 5 (testNames)), 2, 0, testEntry 5 (testNames),
    [], testRound, (by unfold State.Commands; decide), by decide⟩

theorem test_rounds_pass_their_states_11 :
  ∃ (s : State) (v j : Nat) (e : Bytes) (rest : List Bytes) (im : PlanImage) (r : Round), s.Commands v 0x06 e rest ∧
    s.lead.hold = none ∧ s.leaderAway v = false ∧ s.cohortOf (vfCtx v) (leAt e 8 4) = some j ∧ s.image (vfCtx v) =
    some im ∧ (im.template j).isLeaf = false ∧ s.namedRound (vfCtx v) j (leAt e 12 4) = .ok r :=
  ⟨(testPlan (testImage testTemplate 1) ({ testRound with state := .finished, sets := [{ TileSet.zero with unmask := 1, commits := 1, count := 2 }], finishRecs := [⟨1, 0, 1, false, [7], 0⟩] })).hasCmd (testEntry 6 (testNames)),
    2, 0, testEntry 6 (testNames), [], testImage testTemplate 1,
    { testRound with state := .finished, sets := [{ TileSet.zero with unmask := 1, commits := 1, count := 2 }], finishRecs := [⟨1, 0, 1, false, [7], 0⟩] },
    (by unfold State.Commands; decide), by decide⟩

theorem test_rounds_pass_their_states_12 :
  ∃ (s : State) (c j : Nat) (im : PlanImage) (r : Round) (reg : Region) (spec : FinishSpec), s.round? c j = some r ∧
    s.image c = some im ∧ r.delivering = true ∧ s.lead.hold = none ∧ s.MemOk ∧ c < s.ctxs.length ∧ (im.regionsOf 7
    j).head? = some reg ∧ policySpec r.policyObject r.cohortId = some spec :=
  ⟨testPlan ({ testImage testTemplate 1 with regions := [⟨7, 0, 0, 0, 4096, 65536⟩] }) ({ testFinish [] with state := .released, delivering := true, finishRecs := [⟨1, 0, 1, false, [7], 0⟩] }),
    2, 0, { testImage testTemplate 1 with regions := [⟨7, 0, 0, 0, 4096, 65536⟩] },
    { testFinish [] with state := .released, delivering := true, finishRecs := [⟨1, 0, 1, false, [7], 0⟩] },
    ⟨7, 0, 0, 0, 4096, 65536⟩, testSpec, by decide, by decide, by decide, by decide, test_mem_ok _ (by decide),
    by decide⟩

theorem test_plans_and_queries_1 :
  ∃ (s : State) (v : Nat) (e : Bytes) (rest : List Bytes), s.Commands v 0x01 e rest ∧ leAt e 8 8 % 4096 = 0 ∧ vfCtx
    v < s.plans.length :=
  ⟨testUse.hasCmd (testEntry 1 [0, 16]), 2, testEntry 1 [0, 16], [], (by unfold State.Commands; decide), by decide⟩

theorem test_plans_and_queries_2 :
  ∃ (s : State) (c : Nat) (image b : Bytes), c < s.plans.length ∧ (s.plan c).state = .checking ∧ s.lead.hold = none
    ∧ s.noLeader = false ∧ b = padTo (min (s.plan c).submitLength 0x4000001) image :=
  ⟨{ testUse with plans := updAt testUse.plans 2 fun p => { p with state := .checking, submitLength := 4 } }, 2,
    [1, 2, 3, 4], [1, 2, 3, 4], by decide⟩

theorem test_plans_and_queries_3 :
  ∃ (s : State) (c : Nat), c < s.plans.length ∧ (s.plan c).state = .loaded ∧ s.hal.beatCount % 4096 = 0 ∧
    s.lead.hold = none ∧ s.lead.takeover = none ∧ (s.plan c).loadedBeat + 256 ≤ s.hal.beatCount ∧ (s.plan
    c).startAfter ≤ s.hal.beatCount ∧ (∀ k ∈ s.clusters, k.takeoverWindow = none) :=
  ⟨{ testUse with hal := { testUse.hal with beatCount := 4096 }, plans := updAt testUse.plans 2 fun p => { p with state := .loaded, loadedBeat := 512 } },
    2, by decide⟩

theorem test_plans_and_queries_4 :
  ∃ (s : State) (v : Nat) (e : Bytes) (rest : List Bytes), s.Commands v 0x02 e rest ∧ vfCtx v < s.plans.length ∧
    ((s.plan (vfCtx v)).state = .loaded ∨ (s.plan (vfCtx v)).state = .running) :=
  ⟨{ (testPlan (testImage testTemplate 1) testRound).hasCmd (testEntry 2 []) with rounds := [] }, 2, testEntry 2 [],
    [], (by unfold State.Commands; decide), by decide, Or.inr (by decide)⟩

theorem test_plans_and_queries_5 :
  ∃ (s : State) (c b : Nat), c < s.plans.length ∧ (s.plan c).state = .unloading ∧ (s.plan c).unloadAccepted = some b
    ∧ b < s.hal.beatCount ∧ s.hal.beatCount % 4096 = 0 ∧ s.lead.hold = none ∧ s.lead.takeover = none ∧ (∀ r ∈
    s.rounds, r.ctx = c → r.delivering = false) ∧ (s.grixo.conns.map Conn.index).Nodup :=
  ⟨{ testPlan (testImage testTemplate 1) ({ testRound with state := .released }) with hal := { testUse.hal with beatCount := 4096 }, plans := updAt testUse.plans 2 fun p => { p with state := .unloading, unloadAccepted := some 512, image := some (testImage testTemplate 1), startBeat := 256 } },
    2, 512, by decide⟩

theorem test_plans_and_queries_6 :
  ∃ (s : State) (v j : Nat) (e : Bytes) (rest : List Bytes) (r : Round), s.Commands v 0x07 e rest ∧ s.cohortOf
    (vfCtx v) (leAt e 8 4) = some j ∧ s.namedRound (vfCtx v) j (leAt e 12 4) = .ok r :=
  ⟨(testPlan (testImage testTemplate 1) (testRound)).hasCmd (testEntry 7 (testNames)), 2, 0, testEntry 7 (testNames),
    [], testRound, (by unfold State.Commands; decide), by decide⟩

theorem test_plans_and_queries_7 :
  ∃ (s : State) (v j n : Nat) (e : Bytes) (rest : List Bytes) (r : Round) (im : PlanImage), s.Commands v 0x08 e rest
    ∧ s.image (vfCtx v) = some im ∧ s.cohortOf (vfCtx v) (leAt e 8 4) = some j ∧ s.namedRound (vfCtx v) j (leAt e 12
    4) = .ok r ∧ r.state ≠ .released ∧ r.state ≠ .abandoned ∧ r.frozen = true ∧ (im.template j).isPair = true ∧ n =
    ceilDiv (im.template j).clientSlots 4 ∧ n ≤ leAt e 24 4 ∧ leAt e 16 8 % 64 = 0 :=
  ⟨(testPlan (testImage testTemplate 1) ({ testRound with state := .closed, frozen := true })).hasCmd (testEntry 8 (testNames ++ [0, 0, 0, 0, 0, 0, 0, 0, 1])),
    2, 0, 1, testEntry 8 (testNames ++ [0, 0, 0, 0, 0, 0, 0, 0, 1]), [],
    { testRound with state := .closed, frozen := true }, testImage testTemplate 1,
    (by unfold State.Commands; decide), by decide⟩

theorem test_plans_and_queries_8 :
  ∃ (s : State) (v j : Nat) (e : Bytes) (rest : List Bytes) (r : Round) (im : PlanImage), s.Commands v 0x09 e rest ∧
    s.image (vfCtx v) = some im ∧ s.cohortOf (vfCtx v) (leAt e 8 4) = some j ∧ s.namedRound (vfCtx v) j (leAt e 12
    4) = .ok r ∧ r.state ≠ .released ∧ r.state ≠ .abandoned ∧ leAt e 16 8 % 64 = 0 :=
  ⟨(testPlan (testImage testTemplate 1) (testRound)).hasCmd (testEntry 9 (testNames)), 2, 0, testEntry 9 (testNames),
    [], testRound, testImage testTemplate 1, (by unfold State.Commands; decide), by decide⟩

theorem test_plans_and_queries_9 :
  ∃ (s : State) (v j len : Nat) (e : Bytes) (rest : List Bytes) (r : Round) (im : PlanImage), s.Commands v 0x0A e
    rest ∧ (s.plan (vfCtx v)).state = .running ∧ s.image (vfCtx v) = some im ∧ s.cohortOf (vfCtx v) (leAt e 8 4) =
    some j ∧ (im.template j).isLeaf = true ∧ s.namedRound (vfCtx v) j (leAt e 12 4) = .ok r ∧ r.state = .open ∧ len
    = leAt e 24 4 ∧ 1345 ≤ len ∧ len ≤ 9536 ∧ leAt e 16 8 % 64 = 0 ∧ r.root = none :=
  ⟨(testPlan (testImage { testTemplate with role := 1 } 1) (testRound)).hasCmd (testEntry 0x0A (testNames ++ [0, 0, 0, 0, 0, 0, 0, 0] ++ leBytes 4 1400)),
    2, 0, 1400, testEntry 0x0A (testNames ++ [0, 0, 0, 0, 0, 0, 0, 0] ++ leBytes 4 1400), [], testRound,
    testImage { testTemplate with role := 1 } 1, (by unfold State.Commands; decide), by decide⟩

theorem test_frames_are_taken_in_1 :
  ∃ (s : State) (i id j : Nat) (c : Conn) (m : RxMsg) (f : Bytes) (im : PlanImage) (r : Round), s.conn? i = some c ∧
    c.kind = 1 ∧ c.rx.find? (fun m => m.id == id && m.complete && !m.parts.isEmpty) = some m ∧ f = m.bytes ∧ (∀ x ∈
    s.rounds, x.ctx = c.ctx → x.root.isSome = true → x.rootConn = i → noticeShape f = false) ∧ frameShape f = true ∧
    s.image c.ctx = some im ∧ s.cohortOf c.ctx (Frame.cohort f) = some j ∧ s.round? c.ctx j = some r ∧ r.number =
    Frame.round f ∧ midChecks im j r f = 0 :=
  ⟨testIntake (testFrame 6 0 0 0 0 32 (List.replicate 32 9)) (testRound), 0, 9, 0,
    testRx (testFrame 6 0 0 0 0 32 (List.replicate 32 9)), testMsg (testFrame 6 0 0 0 0 32 (List.replicate 32 9)),
    testFrame 6 0 0 0 0 32 (List.replicate 32 9), testImage testTemplate 1, testRound, by decide⟩

theorem test_frames_are_taken_in_3 :
  ∃ (s : State) (i id j code : Nat) (c : Conn) (m : RxMsg) (f : Bytes) (im : PlanImage) (r : Round), s.conn? i =
    some c ∧ c.kind = 1 ∧ c.rx.find? (fun m => m.id == id && m.complete && !m.parts.isEmpty) = some m ∧ f = m.bytes
    ∧ (∀ x ∈ s.rounds, x.ctx = c.ctx → x.root.isSome = true → x.rootConn = i → noticeShape f = false) ∧ c.state =
    .open ∧ c.notices.length < 65536 ∧ ((frameShape f = false ∧ code = 0x01100004) ∨ (frameShape f = true ∧
    s.cohortOf c.ctx (Frame.cohort f) = none ∧ code = 0x01100001) ∨ (frameShape f = true ∧ s.image c.ctx = some im ∧
    s.cohortOf c.ctx (Frame.cohort f) = some j ∧ (s.round? c.ctx j = none ∨ (s.round? c.ctx j = some r ∧ r.number ≠
    Frame.round f)) ∧ code = 0x01100002) ∨ (frameShape f = true ∧ s.image c.ctx = some im ∧ s.cohortOf c.ctx
    (Frame.cohort f) = some j ∧ s.round? c.ctx j = some r ∧ r.number = Frame.round f ∧ midChecks im j r f = code ∧
    code ≠ 0) ∨ (frameShape f = true ∧ s.image c.ctx = some im ∧ s.cohortOf c.ctx (Frame.cohort f) = some j ∧
    s.round? c.ctx j = some r ∧ r.number = Frame.round f ∧ midChecks im j r f = 0 ∧ (Frame.kind f = 6 ∨ ((r.session?
    (Frame.role f) (Frame.slot f)).map RoundSession.stored) = some true) ∧ lateChecks (im.template j).setTiles r f =
    code ∧ code ≠ 0)) :=
  ⟨testIntake ([1, 2]) (testRound), 0, 9, 0, 0x01100004, testRx ([1, 2]), testMsg ([1, 2]), [1, 2],
    testImage testTemplate 1, testRound, by decide, by decide, by decide, by decide, by decide, by decide,
    (by decide), Or.inl (by decide)⟩

theorem test_frames_are_taken_in_4 :
  ∃ (s : State) (c j role slot : Nat) (im : PlanImage) (r : Round) (x : RoundSession), s.image c = some im ∧
    s.round? c j = some r ∧ r.session? role slot = some x ∧ x.stored = false :=
  ⟨testPlan (testImage testTemplate 1) ({ testRound with roundKey := List.replicate 32 8, intake := { RoundIntake.empty with sessions := [⟨0, 0, [], List.replicate 32 9, false, 0, testFrame 6 0 0 0 0 32 (List.replicate 32 9)⟩] } }),
    2, 0, 0, 0, testImage testTemplate 1,
    { testRound with roundKey := List.replicate 32 8, intake := { RoundIntake.empty with sessions := [⟨0, 0, [], List.replicate 32 9, false, 0, testFrame 6 0 0 0 0 32 (List.replicate 32 9)⟩] } },
    ⟨0, 0, [], List.replicate 32 9, false, 0, testFrame 6 0 0 0 0 32 (List.replicate 32 9)⟩, by decide⟩

theorem test_frames_are_taken_in_5 :
  ∃ (s : State) (c j n k p i : Nat) (im : PlanImage) (r : Round) (w : WaitFrame) (l : List WaitFrame) (d :
    CursorDef) (o : OwnerSet), s.image c = some im ∧ s.round? c j = some r ∧ r.intake.waiting[n]? = some w ∧ w.held
    = false ∧ (Frame.kind w.bytes = 1 ∨ Frame.kind w.bytes = 5) ∧ r.state = .open ∧ ((im.template j).isSum = true →
    (im.template j).role = 0 → ∃ x ∈ r.mask.seeds, x.1 = Frame.slot w.bytes) ∧ k = Frame.tile w.bytes / max 1
    (im.template j).setTiles ∧ im.ownerOf j k (Frame.slot w.bytes) = some (p, i) ∧ r.binGroup (im.template j) w =
    some l ∧ r.owner? p k = some o ∧ im.cursor p i = some d ∧ (k - d.first) / max 1 (im.residency j p).1 =
    (r.cursorAt p i).group ∧ o.write - o.release + (groupRecords l).length ≤ o.capacity ∧ s.copyCut im w p = false
    :=
  ⟨testPlan (testImage testTemplate 1) ({ testRound with intake := { RoundIntake.empty with waiting := [⟨0, 512, testFrame 1 1 0 1 0 0 [], false⟩] } }),
    2, 0, 0, 0, 0, 0, testImage testTemplate 1,
    { testRound with intake := { RoundIntake.empty with waiting := [⟨0, 512, testFrame 1 1 0 1 0 0 [], false⟩] } },
    ⟨0, 512, testFrame 1 1 0 1 0 0 [], false⟩, [⟨0, 512, testFrame 1 1 0 1 0 0 [], false⟩], ⟨1, 0, 0, 1⟩, testOwner,
    by decide, by decide, by decide, by decide, Or.inl (by decide), by decide, (by intro h; exact nomatch h),
    by decide⟩

theorem test_frames_are_taken_in_6 :
  ∃ (s : State) (i : Nat) (c : Conn), s.conn? i = some c ∧ c.state = .open ∧ s.hal.beatCount % 256 = 0 :=
  ⟨testNetWith { testConn with notices := [noticeEntry 1 [] 2] }, 0,
    { testConn with notices := [noticeEntry 1 [] 2] }, by decide⟩

theorem test_connections_and_queues_work_1 :
  ∃ (s : State) (v : Nat) (e : Bytes) (rest : List Bytes), s.Commands v 0x10 e rest :=
  ⟨(testUse).hasCmd (testEntry 0x10 ([0, 2, 2, 0, 5, 0, 0, 0, 0, 0, 0, 0, 4, 0, 0, 0, 7])), 2,
    testEntry 0x10 ([0, 2, 2, 0, 5, 0, 0, 0, 0, 0, 0, 0, 4, 0, 0, 0, 7]), [], (by unfold State.Commands; decide)⟩

theorem test_connections_and_queues_work_8 :
  ∃ (s : State) (v q : Nat) (e : Bytes) (rest : List Bytes), s.Commands v 0x18 e rest ∧ q = leAt e 8 1 ∧ q ≤ 63 ∧ 2
    ≤ leAt e 9 1 ∧ leAt e 9 1 ≤ 65 ∧ 4 ≤ leAt e 12 1 ∧ leAt e 12 1 ≤ 16 ∧ 4 ≤ leAt e 13 1 ∧ leAt e 13 1 ≤ 16 ∧
    (s.queue (vfCtx v) q).state = .none ∧ leAt e 16 8 % 4096 = 0 ∧ leAt e 24 8 % 4096 = 0 ∧ s.grixo.queues.length =
    1024 ∧ (leAt e 10 2 = 0xFFFF ∨ ∃ x, s.connOf (vfCtx v) (leAt e 10 2) = some x ∧ x.kind = 2 ∧ 64 ≤ x.queue) :=
  ⟨(testUse).hasCmd (testEntry 0x18 ([3, 2, 0xFF, 0xFF, 4, 4])), 2, 3, testEntry 0x18 ([3, 2, 0xFF, 0xFF, 4, 4]), [],
    (by unfold State.Commands; decide), by decide, by decide, by decide, by decide, by decide, by decide,
    (by decide), by decide, by decide, by decide, by decide, by decide, Or.inl (by decide)⟩

theorem test_connections_and_queues_work_9 :
  ∃ (s : State) (v q : Nat) (e : Bytes) (rest : List Bytes), s.Commands v 0x19 e rest ∧ q = leAt e 8 1 ∧ q ≤ 63 ∧
    (s.queue (vfCtx v) q).state = .active ∧ s.grixo.queues.length = 1024 :=
  ⟨(testNet2 testConn2 testQueue).hasCmd (testEntry 0x19 ([0])), 2, 0, testEntry 0x19 ([0]), [],
    (by unfold State.Commands; decide), by decide⟩

theorem test_connections_and_queues_work_10 :
  ∃ (s : State) (c q : Nat), c < 16 ∧ q < 64 ∧ s.grixo.queues.length = 1024 ∧ (s.queue c q).state = .destroying :=
  ⟨testNet2 testConn2 { testQueue with state := .destroying }, 2, 0, by decide⟩

theorem test_connections_and_queues_work_11 :
  ∃ (s : State) (v : Nat) (e : Bytes) (rest : List Bytes) (w : WindowKey), s.Commands v 0x1A e rest ∧ w =
    s.windowKey (vfCtx v) ∧ s.grixo.windowKeys.length = 16 ∧ w.draining = none :=
  ⟨(testNet2 testConn2 testQueue).hasCmd (testEntry 0x1A ([1])), 2, testEntry 0x1A ([1]), [], ⟨some 5, none, []⟩,
    (by unfold State.Commands; decide), by decide⟩

theorem test_connections_and_queues_work_12 :
  ∃ (s : State) (v : Nat) (e : Bytes) (rest : List Bytes), s.Commands v 0x1A e rest ∧ (s.windowKey (vfCtx
    v)).draining.isSome = true :=
  ⟨(({ testNet2 testConn2 testQueue with grixo := { (testNet2 testConn2 testQueue).grixo with windowKeys := updAt testUse.grixo.windowKeys 2 fun _ => ⟨some 5, some (4, 0), []⟩ } } : State)).hasCmd (testEntry 0x1A ([1])),
    2, testEntry 0x1A ([1]), [], (by unfold State.Commands; decide), by decide⟩

theorem test_connections_and_queues_work_13 :
  ∃ (s : State) (c k : Nat), c < 16 ∧ s.grixo.windowKeys.length = 16 ∧ (s.windowKey c).draining = some (k, 0) ∧
    (s.grixo.conns.map Conn.index).Nodup :=
  ⟨({ testNet2 testConn2 testQueue with grixo := { (testNet2 testConn2 testQueue).grixo with windowKeys := updAt testUse.grixo.windowKeys 2 fun _ => ⟨some 5, some (4, 0), []⟩ } } : State),
    2, 4, by decide⟩

theorem test_connections_and_queues_work_14_0 :
  ∃ (s : State) (v : Nat) (e : Bytes) (rest : List Bytes), s.Commands v 0x1B e rest ∧ leAt e 24 8 % 64 = 0 ∧ 1 ≤
    leAt e 32 4 ∧ leAt e 32 4 ≤ 2 ^ 30 ∧ leAt e 8 1 = (1) :=
  ⟨(testNet2 testConn2 testQueue).hasCmd (testEntry 0x1B ([1, 0, 0, 0, 0, 0, 0, 0, 0, 0, 0, 0, 0, 0, 0, 0, 0, 0, 0, 0, 0, 0, 0, 0, 8])),
    2, testEntry 0x1B ([1, 0, 0, 0, 0, 0, 0, 0, 0, 0, 0, 0, 0, 0, 0, 0, 0, 0, 0, 0, 0, 0, 0, 0, 8]), [],
    (by unfold State.Commands; decide), by decide⟩

theorem test_connections_and_queues_work_14_1 :
  ∃ (s : State) (v : Nat) (e : Bytes) (rest : List Bytes), s.Commands v 0x1B e rest ∧ leAt e 24 8 % 64 = 0 ∧ 1 ≤
    leAt e 32 4 ∧ leAt e 32 4 ≤ 2 ^ 30 ∧ leAt e 8 1 = (2) :=
  ⟨(testNet2 testConn2 testQueue).hasCmd (testEntry 0x1B ([2, 0, 0, 0, 0, 0, 0, 0, 0, 0, 0, 0, 0, 0, 0, 0, 0, 0, 0, 0, 0, 0, 0, 0, 8])),
    2, testEntry 0x1B ([2, 0, 0, 0, 0, 0, 0, 0, 0, 0, 0, 0, 0, 0, 0, 0, 0, 0, 0, 0, 0, 0, 0, 0, 8]), [],
    (by unfold State.Commands; decide), by decide⟩

theorem test_connections_and_queues_work_16_0 :
  ∃ (s : State) (c q n code : Nat) (e : Bytes) (rest : List (Nat × Bytes)) (w : WorkQueue), w = s.queue c q ∧
    w.state = .active ∧ w.held.length < 64 ∧ w.fetched = (n, e) :: rest ∧ s.mayStart c e = true ∧ w.dead = false ∧
    ((Wqe.opcode e = 0 ∧ s.entryCode c w e = none ∧ code = 0) ∨ s.entryCode c w e = some code) ∧ (Wqe.opcode e = 0 ∨
    4 < Wqe.opcode e) :=
  ⟨testNet2 testConn2 { testQueue with fetched := [(7, testWqe 0)] }, 2, 0, 7, 0, testWqe 0, [],
    { testQueue with fetched := [(7, testWqe 0)] }, by decide, by decide, by decide, by decide, by decide, by decide,
    Or.inl (by decide), Or.inl (by decide)⟩

theorem test_connections_and_queues_work_16_1 :
  ∃ (s : State) (c q n code : Nat) (e : Bytes) (rest : List (Nat × Bytes)) (w : WorkQueue), w = s.queue c q ∧
    w.state = .active ∧ w.held.length < 64 ∧ w.fetched = (n, e) :: rest ∧ s.mayStart c e = true ∧ w.dead = false ∧
    ((Wqe.opcode e = 0 ∧ s.entryCode c w e = none ∧ code = 0) ∨ s.entryCode c w e = some code) ∧ (Wqe.opcode e = 1)
    :=
  ⟨testNet2 { testConn2 with state := .closed } { testQueue with fetched := [(7, testWqe 1)] }, 2, 0, 7, 0x01200021,
    testWqe 1, [], { testQueue with fetched := [(7, testWqe 1)] }, by decide, by decide, by decide, by decide,
    by decide, by decide, Or.inr (by decide), by decide⟩

theorem test_connections_and_queues_work_16_2 :
  ∃ (s : State) (c q n code : Nat) (e : Bytes) (rest : List (Nat × Bytes)) (w : WorkQueue), w = s.queue c q ∧
    w.state = .active ∧ w.held.length < 64 ∧ w.fetched = (n, e) :: rest ∧ s.mayStart c e = true ∧ w.dead = false ∧
    ((Wqe.opcode e = 0 ∧ s.entryCode c w e = none ∧ code = 0) ∨ s.entryCode c w e = some code) ∧ (Wqe.opcode e = 2)
    :=
  ⟨testNet2 { testConn2 with state := .closed } { testQueue with fetched := [(7, testWqe 2)] }, 2, 0, 7, 0x01200021,
    testWqe 2, [], { testQueue with fetched := [(7, testWqe 2)] }, by decide, by decide, by decide, by decide,
    by decide, by decide, Or.inr (by decide), by decide⟩

theorem test_connections_and_queues_work_16_3 :
  ∃ (s : State) (c q n code : Nat) (e : Bytes) (rest : List (Nat × Bytes)) (w : WorkQueue), w = s.queue c q ∧
    w.state = .active ∧ w.held.length < 64 ∧ w.fetched = (n, e) :: rest ∧ s.mayStart c e = true ∧ w.dead = false ∧
    ((Wqe.opcode e = 0 ∧ s.entryCode c w e = none ∧ code = 0) ∨ s.entryCode c w e = some code) ∧ (Wqe.opcode e = 3)
    :=
  ⟨testNet2 { testConn2 with state := .closed } { testQueue with fetched := [(7, testWqe 3)] }, 2, 0, 7, 0x01200021,
    testWqe 3, [], { testQueue with fetched := [(7, testWqe 3)] }, by decide, by decide, by decide, by decide,
    by decide, by decide, Or.inr (by decide), by decide⟩

theorem test_connections_and_queues_work_16_4 :
  ∃ (s : State) (c q n code : Nat) (e : Bytes) (rest : List (Nat × Bytes)) (w : WorkQueue), w = s.queue c q ∧
    w.state = .active ∧ w.held.length < 64 ∧ w.fetched = (n, e) :: rest ∧ s.mayStart c e = true ∧ w.dead = false ∧
    ((Wqe.opcode e = 0 ∧ s.entryCode c w e = none ∧ code = 0) ∨ s.entryCode c w e = some code) ∧ (Wqe.opcode e = 4)
    :=
  ⟨testNet2 { testConn2 with state := .closed } { testQueue with fetched := [(7, testWqe 4)] }, 2, 0, 7, 0x01200021,
    testWqe 4, [], { testQueue with fetched := [(7, testWqe 4)] }, by decide, by decide, by decide, by decide,
    by decide, by decide, Or.inr (by decide), by decide⟩

theorem test_connections_and_queues_work_16_5 :
  ∃ (s : State) (c q n code : Nat) (e : Bytes) (rest : List (Nat × Bytes)) (w : WorkQueue), w = s.queue c q ∧
    w.state = .active ∧ w.held.length < 64 ∧ w.fetched = (n, e) :: rest ∧ s.mayStart c e = true ∧ w.dead = false ∧
    ((Wqe.opcode e = 0 ∧ s.entryCode c w e = none ∧ code = 0) ∨ s.entryCode c w e = some code) ∧ (Wqe.wait e = true)
    :=
  ⟨testNet2 testConn2 { testQueue with fetched := [(7, padTo 64 [1, 3])] }, 2, 0, 7, 0x01200020, padTo 64 [1, 3], [],
    { testQueue with fetched := [(7, padTo 64 [1, 3])] }, by decide, by decide, by decide, by decide, by decide,
    by decide, Or.inr (by decide), by decide⟩

theorem test_connections_and_queues_work_17 :
  ∃ (s : State) (c q n : Nat) (e : Bytes) (rest : List (Nat × Bytes)) (w : WorkQueue), w = s.queue c q ∧ w.state =
    .active ∧ w.held.length < 64 ∧ w.fetched = (n, e) :: rest ∧ s.mayStart c e = true ∧ w.dead = false ∧ s.entryCode
    c w e = none ∧ (∀ y, w.started.head? = some y → y.done = false) :=
  ⟨testNet2 testConn2 { testQueue with fetched := [(7, testWqe 2)] }, 2, 0, 7, testWqe 2, [],
    { testQueue with fetched := [(7, testWqe 2)] }, by decide, by decide, by decide, by decide, by decide, by decide,
    (by decide), (by intro y h; exact nomatch h)⟩

theorem test_connections_and_queues_work_18 :
  ∃ (s : State) (c q n : Nat) (x : StartedEntry) (r : List StartedEntry) (w : WorkQueue), w = s.queue c q ∧
    w.started = x :: r ∧ x.done = true ∧ x.entry = n ∧ w.dead = false ∧ w.state = .active ∧ (∀ y, r.head? = some y →
    y.done = false) :=
  ⟨testNet2 testConn2 { testQueue with started := [⟨7, testWqe 2, true, 0, 8, 1⟩] }, 2, 0, 7,
    ⟨7, testWqe 2, true, 0, 8, 1⟩, [], { testQueue with started := [⟨7, testWqe 2, true, 0, 8, 1⟩] }, by decide,
    by decide, by decide, by decide, by decide, by decide, (by intro y h; exact nomatch h)⟩

theorem test_host_registers_act_1 :
  ∃ (s t : State) (v code : Nat), v < s.host.vfs.length ∧ t = s.vfError v code :=
  ⟨testUse, testUse.vfError 2 0x01210006, 2, 0x01210006, by decide, rfl⟩

theorem test_host_registers_act_2 :
  ∃ (s t : State) (v st a b : Nat) (e : Bytes), v < s.host.vfs.length ∧ t = s.complete v e st a b :=
  ⟨testUse.hasCmd (testEntry 7 testNames),
    (testUse.hasCmd (testEntry 7 testNames)).complete 2 (testEntry 7 testNames) 0 0 0, 2, 0, 0, 0,
    testEntry 7 testNames, by decide, rfl⟩

theorem test_host_registers_act_3 :
  ∃ (s : State) (v : Nat) (x : Vf), x = s.vf v ∧ v < s.host.vfs.length :=
  ⟨testUse.hasRing fun x => x, 2, (testUse.hasRing fun x => x).vf 2, by decide⟩

theorem test_host_registers_act_4 :
  ∃ (s : State) (v q : Nat) (w : WorkQueue), w = s.queue (vfCtx v) q :=
  ⟨testNet2 testConn2 testQueue, 2, 0, (testNet2 testConn2 testQueue).queue 2 0, by decide⟩

theorem test_host_registers_act_5 :
  ∃ (s : State) (v : Nat) (x : Vf), x = s.vf v ∧ v < s.host.vfs.length :=
  ⟨testUse.hasRing fun x => x, 2, (testUse.hasRing fun x => x).vf 2, by decide⟩

theorem test_host_registers_act_8 :
  ∃ (s : State) (v : Nat) (x : Vf) (k : Completion) (r : List Completion), x = s.vf v ∧ v < s.host.vfs.length ∧
    s.bound v = true ∧ x.held = k :: r :=
  ⟨testUse.hasRing fun x => { x with held := [⟨1, 7, 0, 0, 0, 512⟩] }, 2,
    (testUse.hasRing fun x => { x with held := [⟨1, 7, 0, 0, 0, 512⟩] }).vf 2, ⟨1, 7, 0, 0, 0, 512⟩, [], by decide⟩

theorem test_host_registers_act_9 :
  ∃ (s : State) (v q : Nat) (w : WorkQueue) (k : Bytes) (r : List Bytes), w = s.queue (vfCtx v) q ∧ s.bound v = true
    ∧ w.held = k :: r ∧ q < 64 :=
  ⟨testNet2 testConn2 { testQueue with held := [[1]] }, 2, 0, { testQueue with held := [[1]] }, [1], [], by decide⟩

theorem test_references_qualify_and_fail_4 :
  ∃ (s : State), s.power.powered.getLsbD 1 = true ∧ s.power.powered.getLsbD 10 = true :=
  ⟨testRun, by decide⟩

theorem test_firmware_reset_and_handover_writes_6 :
  ∃ (s : State) (n role i : Nat), s.InSession n role ∧ (role = 2 ∨ role = 3) ∧ s.lead.hold = none ∧ s.masterAway =
    false ∧ s.leaderCp = some i ∧ s.lead.takeover = none ∧ s.mirrorLag = 0 ∧ s.cpRuns (1 - i) = true ∧ s.hal.frozen
    = true :=
  ⟨testRun.hasHal fun h => { h with frozen := true }, 0, 2, 0, (by unfold State.InSession; decide), by decide⟩

theorem test_records_are_numbered_and_stored_4 :
  ∃ (code : Nat), code / 0x1000000 = 2 ∧ code % 0x10000 ≠ 0 :=
  ⟨0x02030001, by decide⟩

theorem test_records_are_numbered_and_stored_5 :
  ∃ (code : Nat), code % 0x10000 = 0 :=
  ⟨0x04030000, by decide⟩

theorem test_teardown_takes_its_steps_4 :
  ∃ (s : State) (c : Nat), s.teardownStep c = some .zeroing ∧ c < 16 ∧ s.set.ctx.length = 16 :=
  ⟨testTear .zeroing, 15, by decide⟩

theorem test_teardown_takes_its_steps_5 :
  ∃ (s : State) (c : Nat) (x : Teardown), (s.ctx c).teardown = some x ∧ x.step = .scrubbing ∧ (s.start.stage = some
    2 ∨ s.start.stage = some 3) ∧ c < 16 ∧ s.set.ctx.length = 16 :=
  ⟨testTear .scrubbing, 15, ⟨.scrubbing, 1, 1, 0, 1, 0, 0, 100000, false, false, 0⟩, by decide⟩

theorem test_sub_ports_come_up_and_go_down_4 :
  ∃ (k : Nat), k ≤ 16 :=
  ⟨16, by decide⟩

theorem test_sub_ports_come_up_and_go_down_9 :
  ∃ (s : State) (lane : Nat) (f fd fr : Bytes), f = fd ++ fr ∧ s.listens lane = true ∧ Frame.sound f = false :=
  ⟨testNetWith testConn, 0, [], [], [], by decide⟩

theorem test_connection_timers_fire_2 :
  ∃ (s u : State) (i now : Nat) (k k' : Closing) (before after : List Closing), s.grixo.closing = before ++ k ::
    after ∧ (∀ x ∈ before, x.conn.index ≠ i) ∧ k.conn.index = i ∧ k.due ≤ (s.at now).aon ∧ (s.at now).sendClosing k
    = (k', u) :=
  ⟨(testNetWith testConn).hasGrixo fun g => { g with closing := [⟨{ testConn with index := 1 }, 1, 0, 0⟩, ⟨testConn, 2, 100 * tickS, 0⟩] },
    ((((testNetWith testConn).hasGrixo fun g => { g with closing := [⟨{ testConn with index := 1 }, 1, 0, 0⟩, ⟨testConn, 2, 100 * tickS, 0⟩] }).at 101000000).sendClosing ⟨testConn, 2, 100 * tickS, 0⟩).2,
    0, 101000000, ⟨testConn, 2, 100 * tickS, 0⟩,
    ((((testNetWith testConn).hasGrixo fun g => { g with closing := [⟨{ testConn with index := 1 }, 1, 0, 0⟩, ⟨testConn, 2, 100 * tickS, 0⟩] }).at 101000000).sendClosing ⟨testConn, 2, 100 * tickS, 0⟩).1,
    [⟨{ testConn with index := 1 }, 1, 0, 0⟩], [], by decide, by decide, by decide, by decide, rfl⟩

theorem test_connection_timers_fire_4 :
  ∃ (s : State) (i now : Nat) (b : Bool) (c : Conn) (x : Nat × Bytes × Nat × Bytes) (xs : List (Nat × Bytes × Nat ×
    Bytes)), s.conn? i = some c ∧ c.resident = false ∧ c.missQueue = x :: xs ∧ (((s.at now).updConn i fun d => { d
    with intact := d.intact && b }).makeResident i).isSome = true :=
  ⟨testNetWith { testConn with resident := false, missQueue := [(0, [], 0, [])] }, 0, 100000005, true,
    { testConn with resident := false, missQueue := [(0, [], 0, [])] }, (0, [], 0, []), [], by decide⟩

theorem test_start_up_goes_by_stages_4 :
  ∃ (s : State) (pll : Bool) (now : Nat), s.starting = true ∧ s.start.stage = some 0 ∧ s.start.cpRuns = (true, true)
    ∧ s.domainsOn 2 9 = true ∧ (∀ l, s.lead.links[12]? = some l → l.down = false) ∧ s.lead.holder.isSome = true ∧
    (pll = true ∨ s.start.pllLocked = true) ∧ (s.at now).stageLate = false :=
  ⟨testStart (some 0) 10, true, 100000005, by decide, by decide, by decide, by decide, fun l h => by cases h; rfl,
    by decide⟩

theorem test_firmware_starts_and_hoists_reset_2 :
  ∃ (s : State) (now : Nat), s.starting = true ∧ s.start.stage = none ∧ s.domainOn 1 = true ∧ s.pack.measureAt =
    none ∧ (s.at now).stageLate = false ∧ Fw.select s.lifecycle 1 s.att.burgeeA.bytes s.att.burgeeB.bytes = none :=
  ⟨{ testStart none 2 with att := { Attest.reset with burgeeA := ⟨[]⟩ } }, 100000005, by decide⟩

theorem test_faults_are_contained_8 :
  ∃ (s : State) (c h k : Nat) (r : Round) (im : PlanImage), s.round? c h = some r ∧ s.image c = some im ∧ k <
    r.sets.length ∧ (r.set k).unmask ≠ 1 :=
  ⟨testPlan (testImage testTemplate 1) testRound, 2, 0, 0, testRound, testImage testTemplate 1, by decide⟩

theorem test_faults_are_contained_12 :
  ∃ (s : State) (i c h : Nat) (l : DieLink) (o : OwnerSet) (r : Round), s.lead.links[i]? = some l ∧ l.down = false ∧
    s.cutCommits l = [(c, h, o)] ∧ s.round? c h = some r ∧ r.owner? o.position o.set = some o ∧ (r.set
    o.set).lastSeq ≠ o.commit.seq :=
  ⟨testPlan { testImage testTemplate 1 with routes := [⟨0, 0x1FF0, 1, 4, 0xFF, 64⟩] } { testRound with owners := [{ testOwner with commit := { CommitRec.free with state := 1, seq := 1, entry := 1 } }] },
    8, 2, 0, ⟨0, 1, false, 0, 0, 0⟩,
    { testOwner with commit := { CommitRec.free with state := 1, seq := 1, entry := 1 } },
    { testRound with owners := [{ testOwner with commit := { CommitRec.free with state := 1, seq := 1, entry := 1 } }] },
    by decide⟩

theorem test_faults_are_contained_7 :
  ∃ (s : State) (c h x : Nat) (r : Round) (im : PlanImage) (o : OwnerSet), s.round? c h = some r ∧ s.image c = some
    im ∧ (r.owners.filter fun y => y.set == x / 8)[x % 8]? = some o ∧ r.owner? o.position (x / 8) = some o ∧
    o.commit.state ≠ 1 :=
  ⟨testPlan (testImage testTemplate 1) { testRound with owners := [{ testOwner with active := [[1, 2]], activeCount := 1, write := 2, read := 1 }] },
    2, 0, 0,
    { testRound with owners := [{ testOwner with active := [[1, 2]], activeCount := 1, write := 2, read := 1 }] },
    testImage testTemplate 1, { testOwner with active := [[1, 2]], activeCount := 1, write := 2, read := 1 },
    by decide⟩

theorem test_slots_issue_to_clusters_1 :
  ∃ (s : State) (k p c : Nat) (d : Descriptor) (key : Bytes), k < 64 ∧ s.clusters.length = 64 ∧ (s.cluster
    k).position = some p ∧ (s.cluster k).owner = .service ∧ (s.cluster k).failed = false ∧ s.hal.frozen = false ∧
    (s.cluster k).banks = [] ∧ (((s.cluster k).ahead = some (s.hal.beatCount, some (c, d)) ∧ key = (s.cluster
    k).aheadKey) ∨ ((s.cluster k).ahead = none ∧ s.tableEntry p s.entry = some (c, d) ∧ key = s.readKey (some (c,
    d)))) ∧ d.opcode ≠ 0 ∧ d.opcode ≠ 0xF0 ∧ s.lead.hold = none ∧ c < s.ctxs.length :=
  ⟨testPlan (testImage testTemplate 1) testRound, 0, 0, 2, testDesc 1, [], by decide, by decide, by decide,
    by decide, by decide, by decide, (by decide), Or.inr (by decide), by decide⟩

theorem test_slots_issue_to_clusters_5 :
  ∃ (s : State) (k : Nat), (s.cluster k).fillWaits s.entry = true :=
  ⟨testOp 1 testTemplate testRound, 0, by decide⟩

theorem test_slots_issue_to_clusters_9 :
  ∃ (s : State) (k p c : Nat) (d : Descriptor) (r : Round) (im : PlanImage), k < 64 ∧ s.clusters.length = 64 ∧
    (s.cluster k).position = some p ∧ (s.cluster k).owner = .service ∧ (s.cluster k).failed = false ∧ s.hal.frozen =
    false ∧ s.lead.hold = none ∧ (s.cluster k).fillWaits s.entry = false ∧ (∀ b ∈ (s.cluster k).banks, b.entry ≠
    (s.entry + 1) % 4096) ∧ s.tableEntry p ((s.entry + 1) % 4096) = some (c, d) ∧ d.opcode = 0x06 ∧ s.leadReal p c d
    = true ∧ s.round? c d.cohort = some r ∧ s.image c = some im :=
  ⟨testPlan (testImage testTemplate 6) testRound, 0, 0, 2, testDesc 6, testRound, testImage testTemplate 6, by decide⟩

theorem test_chunks_are_committed_once_4 :
  ∃ (s : State) (k p : Nat) (im : PlanImage) (r : Round) (o : OwnerSet), k < 64 ∧ s.clusters.length = 64 ∧
    (s.cluster k).position = some p ∧ r ∈ s.rounds ∧ o ∈ r.owners ∧ o.position = p ∧ o.commit.state = 1 ∧ s.image
    r.ctx = some im ∧ im.drainDue r.planDigest r.template o ≤ s.hal.beatCount :=
  ⟨testPlan (testImage testTemplate 1) { testRound with owners := [{ testOwner with commit := { CommitRec.free with state := 1, entry := 1 } }] },
    0, 0, testImage testTemplate 1,
    { testRound with owners := [{ testOwner with commit := { CommitRec.free with state := 1, entry := 1 } }] },
    { testOwner with commit := { CommitRec.free with state := 1, entry := 1 } }, by decide⟩

theorem test_chunks_are_committed_once_5 :
  ∃ (s : State) (k p : Nat), (s.cluster k).position = some p ∧ (∀ r ∈ s.rounds, ∀ o ∈ r.owners, o.position = p →
    o.commit.state ≠ 1) :=
  ⟨testPlan (testImage testTemplate 1) testRound, 0, 0, by decide⟩

theorem test_chunks_are_committed_once_8 :
  ∃ (s : State) (k p : Nat) (sp : RunningSpan) (r : Round) (b : Bank) (x : Staged), s.Carries k 0x06 p sp ∧ s.round?
    sp.ctx sp.desc.cohort = some r ∧ (s.cluster k).banks.find? (fun b => b.entry == sp.lead && b.ctx == sp.ctx &&
    b.secret) = some b ∧ b.buffers.filterMap id = [x] ∧ (r.intake.secretQueue.any fun w => Frame.header w.bytes ==
    x.header) = true :=
  ⟨{ testOp 6 testTemplate { testRound with state := .closed, intake := { RoundIntake.empty with secretQueue := [⟨0, 1, testFrame 3 0 0 0 1 64 (List.replicate 64 5), false⟩] }, mask := { RoundMask.empty with secrets := [{ SecretRec.new with stateSelf := 1, request := 1 }, .new] } } with clusters := updAt testServe.clusters 0 fun c => { c with span := some (testSpan 6), banks := [⟨2, 0, 512, true, 0, 0, [some ⟨0, true, List.replicate 32 5 ++ zeros 32, (testFrame 3 0 0 0 1 64 []).take 64⟩]⟩] } },
    0, 0, testSpan 6,
    { testRound with state := .closed, intake := { RoundIntake.empty with secretQueue := [⟨0, 1, testFrame 3 0 0 0 1 64 (List.replicate 64 5), false⟩] }, mask := { RoundMask.empty with secrets := [{ SecretRec.new with stateSelf := 1, request := 1 }, .new] } },
    ⟨2, 0, 512, true, 0, 0, [some ⟨0, true, List.replicate 32 5 ++ zeros 32, (testFrame 3 0 0 0 1 64 []).take 64⟩]⟩,
    ⟨0, true, List.replicate 32 5 ++ zeros 32, (testFrame 3 0 0 0 1 64 []).take 64⟩,
    (by unfold State.Carries; decide), by decide⟩

theorem test_masks_are_removed_8 :
  ∃ (s : State) (k p : Nat) (sp : RunningSpan) (im : PlanImage) (r : Round) (x : Item), s.Carries k 0x03 p sp ∧
    s.OnRound sp im r ∧ (r.takeItems p .self 8).1 = [x] ∧ s.roundKey? r 0 (some masterKs) = none ∧ x.kind = 1 ∧
    (r.set x.tile).unmask = 0 ∧ (im.unmaskSets sp.desc.cohort p).any (fun y => y.2 == x.tile) = true ∧ r.inOrder im
    sp.desc.cohort p .self x = true ∧ (x.slot, x.tile) ∈ r.intake.ledger ∧ (r.mask.secrets.getD x.slot
    .new).stateSelf = 3 ∧ x.slot < r.mask.secrets.length :=
  ⟨testOp 0x03 testTemplate ({ testRemoval .self ⟨0, 1, 0, 0, false, 0, 0⟩ with slots := [] }), 0, 0, testSpan 0x03,
    testImage testTemplate 0x03, { testRemoval .self ⟨0, 1, 0, 0, false, 0, 0⟩ with slots := [] },
    ⟨0, 1, 0, 0, false, 0, 0⟩, (by unfold State.Carries; decide +kernel), (by unfold State.OnRound; decide +kernel),
    by decide +kernel⟩

theorem test_masks_are_removed_14 :
  ∃ (s : State) (k p ctx j : Nat) (im : PlanImage) (r : Round) (o : OwnerSet), (s.cluster k).position = some p ∧
    (s.cluster k).failed = false ∧ (∀ l ∈ s.lead.links, l.down = false) ∧ s.image ctx = some im ∧ s.round? ctx j =
    some r ∧ r.foldSwap im j k s.hal.beatCount p = r ∧ r.owners.filter (fun o => o.position == p && o.commit.state
    == 1 && o.commit.fold) = [o] ∧ r.owners.filter (fun x => x.isAt p o.set) = [o] ∧ (r.set o.set).unmask = 0 ∧
    (r.set o.set).dataFault = false ∧ (r.set o.set).lock = false ∧ o.set < r.sets.length :=
  ⟨testPlan (testImage testTemplate 3) ({ testRemoval .self ⟨0, 1, 0, 0, false, 0, 0⟩ with owners := [{ testOwner with shadow := [[1, 2]], commit := { CommitRec.free with state := 1, fold := true, seq := 7 } }] }),
    0, 0, 2, 0, testImage testTemplate 3,
    { testRemoval .self ⟨0, 1, 0, 0, false, 0, 0⟩ with owners := [{ testOwner with shadow := [[1, 2]], commit := { CommitRec.free with state := 1, fold := true, seq := 7 } }] },
    { testOwner with shadow := [[1, 2]], commit := { CommitRec.free with state := 1, fold := true, seq := 7 } },
    by decide +kernel⟩

theorem test_ring_tiles_are_worked_on_2_0 :
  ∃ (s : State) (k p : Nat) (sp : RunningSpan) (im : PlanImage) (r : Round) (w : WorkingCopy) (y : RingTile),
    s.Carries k (0x15) p sp ∧ s.OnRound sp im r ∧ r.working? p sp.desc.cursor = some w ∧ r.ringTile w.tile = some y
    ∧ (sp.keyHeader).belongs im (im.template sp.desc.cohort) sp.desc w.header (im.evalRegion sp.desc) = true ∧
    slotStart im (im.template sp.desc.cohort) sp.desc y.agg w.header true = (0, 0, 0) :=
  ⟨testKeyOp 3 0x15 0, 0, 0, testKeySpan 3 0x15, testImage testRing 0x15, testRingRound 0, testCopy 0,
    ⟨testHeader 0, none, [], 0, []⟩, (by unfold State.Carries; decide +kernel),
    (by unfold State.OnRound; decide +kernel), by decide +kernel⟩

theorem test_ring_tiles_are_worked_on_2_1 :
  ∃ (s : State) (k p : Nat) (sp : RunningSpan) (im : PlanImage) (r : Round) (w : WorkingCopy) (y : RingTile),
    s.Carries k (0x16) p sp ∧ s.OnRound sp im r ∧ r.working? p sp.desc.cursor = some w ∧ r.ringTile w.tile = some y
    ∧ (sp.keyHeader).belongs im (im.template sp.desc.cohort) sp.desc w.header (im.evalRegion sp.desc) = true ∧
    slotStart im (im.template sp.desc.cohort) sp.desc y.agg w.header true = (0, 0, 0) :=
  ⟨testKeyOp 2 0x16 0, 0, 0, testKeySpan 2 0x16, testImage testRing 0x16, testRingRound 0, testCopy 0,
    ⟨testHeader 0, none, [], 0, []⟩, (by unfold State.Carries; decide +kernel),
    (by unfold State.OnRound; decide +kernel), by decide +kernel⟩

theorem test_ring_tiles_are_worked_on_2_2 :
  ∃ (s : State) (k p : Nat) (sp : RunningSpan) (im : PlanImage) (r : Round) (w : WorkingCopy) (y : RingTile),
    s.Carries k (0x17) p sp ∧ s.OnRound sp im r ∧ r.working? p sp.desc.cursor = some w ∧ r.ringTile w.tile = some y
    ∧ (sp.keyHeader).belongs im (im.template sp.desc.cohort) sp.desc w.header (im.evalRegion sp.desc) = true ∧
    slotStart im (im.template sp.desc.cohort) sp.desc y.agg w.header true = (0, 0, 0) :=
  ⟨testKeyOp 1 0x17 2, 0, 0, testKeySpan 1 0x17, testImage testRing 0x17, testRingRound 2, testCopy 2,
    ⟨testHeader 0, none, [], 0, []⟩, (by unfold State.Carries; decide +kernel),
    (by unfold State.OnRound; decide +kernel), by decide +kernel⟩

theorem test_ring_tiles_are_worked_on_3_5 :
  ∃ (s : State) (k p : Nat) (sp : RunningSpan) (im : PlanImage) (r : Round) (w : WorkingCopy) (y : RingTile),
    s.Carries k (0x15) p sp ∧ s.OnRound sp im r ∧ r.working? p sp.desc.cursor = some w ∧ r.ringTile w.tile = some y
    ∧ (slotStart im (im.template sp.desc.cohort) sp.desc y.agg w.header ((sp.keyHeader.belongs im (im.template
    sp.desc.cohort) sp.desc w.header (im.evalRegion sp.desc)))).1 ≠ 0 :=
  ⟨testOp 0x15 testRing (testRingRound 0), 0, 0, testSpan 0x15, testImage testRing 0x15, testRingRound 0, testCopy 0,
    ⟨testHeader 0, none, [], 0, []⟩, (by unfold State.Carries; decide), (by unfold State.OnRound; decide), by decide⟩

theorem test_ring_tiles_are_worked_on_3_6 :
  ∃ (s : State) (k p : Nat) (sp : RunningSpan) (im : PlanImage) (r : Round) (w : WorkingCopy) (y : RingTile),
    s.Carries k (0x16) p sp ∧ s.OnRound sp im r ∧ r.working? p sp.desc.cursor = some w ∧ r.ringTile w.tile = some y
    ∧ (slotStart im (im.template sp.desc.cohort) sp.desc y.agg w.header ((sp.keyHeader.belongs im (im.template
    sp.desc.cohort) sp.desc w.header (im.evalRegion sp.desc)))).1 ≠ 0 :=
  ⟨testOp 0x16 testRing (testRingRound 0), 0, 0, testSpan 0x16, testImage testRing 0x16, testRingRound 0, testCopy 0,
    ⟨testHeader 0, none, [], 0, []⟩, (by unfold State.Carries; decide), (by unfold State.OnRound; decide), by decide⟩

theorem test_ring_tiles_are_worked_on_3_7 :
  ∃ (s : State) (k p : Nat) (sp : RunningSpan) (im : PlanImage) (r : Round) (w : WorkingCopy) (y : RingTile),
    s.Carries k (0x17) p sp ∧ s.OnRound sp im r ∧ r.working? p sp.desc.cursor = some w ∧ r.ringTile w.tile = some y
    ∧ (slotStart im (im.template sp.desc.cohort) sp.desc y.agg w.header ((sp.keyHeader.belongs im (im.template
    sp.desc.cohort) sp.desc w.header (im.evalRegion sp.desc)))).1 ≠ 0 :=
  ⟨testOp 0x17 testRing (testRingRound 0), 0, 0, testSpan 0x17, testImage testRing 0x17, testRingRound 0, testCopy 0,
    ⟨testHeader 0, none, [], 0, []⟩, (by unfold State.Carries; decide), (by unfold State.OnRound; decide), by decide⟩

theorem test_ring_tiles_are_worked_on_4 :
  ∃ (s : State) (k p : Nat) (sp : RunningSpan) (im : PlanImage) (r : Round) (w : WorkingCopy) (y : RingTile),
    s.Carries k 0x19 p sp ∧ s.OnRound sp im r ∧ r.working? p sp.desc.cursor = some w ∧ r.ringTile w.tile = some y ∧
    slotStart im (im.template sp.desc.cohort) sp.desc y.agg w.header true = (0, 0, 0) ∧ r.state = .closed ∧
    r.ring.exportBlock = false :=
  ⟨testOp 0x19 testRing (testRingRound 1), 0, 0, testSpan 0x19, testImage testRing 0x19, testRingRound 1, testCopy 1,
    ⟨testHeader 0, none, [], 0, []⟩, (by unfold State.Carries; decide), (by unfold State.OnRound; decide), by decide⟩

theorem test_ring_tiles_are_worked_on_6 :
  ∃ (s : State) (k p ctx j i : Nat) (im : PlanImage) (r : Round) (b : Block) (c : CursorDef), (s.cluster k).position
    = some p ∧ s.image ctx = some im ∧ s.round? ctx j = some r ∧ im.block p = some b ∧ b.cursors.zipIdx.filter (fun
    x => x.1.kind == 3 && x.1.cohort == j && !(b.ringDescs x.2).isEmpty) = [(c, i)] ∧ b.gapSince i s.entry = none :=
  ⟨(testPlan (testImage testRing 0x12) (testRingRound 0)).hasHal fun h => { h with beatCount := 513 }, 0, 0, 2, 0, 0,
    testImage testRing 0x12, testRingRound 0, (testImage testRing 0x12).blocks.headD ⟨0, [], []⟩, ⟨3, 0, 0, 1⟩,
    by decide⟩

theorem test_ring_tiles_are_worked_on_5 :
  ∃ (s : State) (k p ctx j i g : Nat) (im : PlanImage) (r : Round) (b : Block) (c : CursorDef) (y : RingTile),
    (s.cluster k).position = some p ∧ s.image ctx = some im ∧ s.round? ctx j = some r ∧ im.block p = some b ∧
    b.gapSince i s.entry = some g ∧ r.frozen = true ∧ r.state = .closed ∧ (im.template j).isRing = true ∧
    b.cursors.zipIdx.filter (fun x => x.1.kind == 3 && x.1.cohort == j && !(b.ringDescs x.2).isEmpty) = [(c, i)] ∧
    (r.cursorAt p i).pos < c.count ∧ r.working? p i = none ∧ r.ringTile (c.first + (r.cursorAt p i).pos) = some y :=
  ⟨(testPlan (testImage testRing 0x12) ({ testRingRound 0 with ring := { (testRingRound 0).ring with working := [] } })).hasHal fun h => { h with beatCount := 514 },
    0, 0, 2, 0, 0, (((testImage testRing 0x12).blocks.headD ⟨0, [], []⟩).gapSince 0 514).getD 0,
    testImage testRing 0x12, { testRingRound 0 with ring := { (testRingRound 0).ring with working := [] } },
    (testImage testRing 0x12).blocks.headD ⟨0, [], []⟩, ⟨3, 0, 0, 1⟩, ⟨testHeader 0, none, [], 0, []⟩, by decide⟩

theorem test_ring_tiles_are_worked_on_7 :
  ∃ (s : State) (k p ctx j i g : Nat) (im : PlanImage) (r : Round) (b : Block) (c : CursorDef) (y : RingTile) (w :
    WorkingCopy), (s.cluster k).position = some p ∧ s.image ctx = some im ∧ s.round? ctx j = some r ∧ im.block p =
    some b ∧ b.gapSince i s.entry = some g ∧ r.frozen = true ∧ r.state = .closed ∧ (im.template j).isRing = true ∧
    b.cursors.zipIdx.filter (fun x => x.1.kind == 3 && x.1.cohort == j && !(b.ringDescs x.2).isEmpty) = [(c, i)] ∧
    r.working? p i = some w ∧ b.baseLength i ≤ w.step ∧ r.ringTile w.tile = some y :=
  ⟨(testPlan (testImage testRing 0x12) ({ testRingRound 0 with ring := { (testRingRound 0).ring with working := [{ testCopy 0 with step := 1 }] } })).hasHal fun h => { h with beatCount := 514 },
    0, 0, 2, 0, 0, (((testImage testRing 0x12).blocks.headD ⟨0, [], []⟩).gapSince 0 514).getD 0,
    testImage testRing 0x12,
    { testRingRound 0 with ring := { (testRingRound 0).ring with working := [{ testCopy 0 with step := 1 }] } },
    (testImage testRing 0x12).blocks.headD ⟨0, [], []⟩, ⟨3, 0, 0, 1⟩, ⟨testHeader 0, none, [], 0, []⟩,
    { testCopy 0 with step := 1 }, by decide⟩

theorem test_outputs_are_finished_1 :
  ∃ (s : State) (k p : Nat) (sp : RunningSpan) (im : PlanImage) (r : Round), s.Carries k 0x20 p sp ∧ s.OnRound sp im
    r :=
  ⟨testFin (testFinish [testItem]), 0, 0, testFinSpan, testImage testTemplate 0x20, testFinish [testItem],
    (by unfold State.Carries; decide), (by unfold State.OnRound; decide)⟩

theorem test_outputs_are_finished_2 :
  ∃ (s : State) (k p : Nat) (sp : RunningSpan) (im : PlanImage) (r : Round) (x : FinishItem) (spec : FinishSpec),
    s.Carries k 0x20 p sp ∧ s.OnRound sp im r ∧ r.finishItems = [x] ∧ x.position = p ∧ x.cursor = sp.desc.cursor ∧
    x.result = none ∧ policySpec r.policyObject r.cohortId = some spec :=
  ⟨testFin (testFinish [testItem]), 0, 0, testFinSpan, testImage testTemplate 0x20, testFinish [testItem], testItem,
    testSpec, (by unfold State.Carries; decide), (by unfold State.OnRound; decide), by decide⟩

theorem test_connections_and_queues_work_2 :
  ∃ (s u : State) (v : Nat) (e : Bytes) (rest : List Bytes) (x : Conn), s.Commands v 0x11 e rest ∧ s.connOf (vfCtx
    v) (commandIndex e) = some x ∧ x.state = .closed ∧ (x.resident = true ∨ x.intact = true) ∧ (x.enc = true →
    (s.grixoSlot x.ctx (connHoist x.index)).isSome = true) ∧ (s.taken v rest).makeResident x.index = some u :=
  ⟨(testNetWith { testConn with state := .closed, queue := 0xFF }).hasCmd (testEntry 0x11 ([])),
    ((testNetWith { testConn with state := .closed, queue := 0xFF }).hasCmd (testEntry 0x11 ([]))).taken 2 [], 2,
    testEntry 0x11 ([]), [], { testConn with state := .closed, queue := 0xFF }, (by unfold State.Commands; decide),
    by decide, by decide, by decide, (by intro h; exact nomatch h), rfl⟩

theorem test_connections_and_queues_work_3 :
  ∃ (s u : State) (v : Nat) (e : Bytes) (rest : List Bytes) (x : Conn), s.Commands v 0x12 e rest ∧ s.connOf (vfCtx
    v) (commandIndex e) = some x ∧ (s.taken v rest).makeResident x.index = some u :=
  ⟨(testNetWith testConn).hasCmd (testEntry 0x12 ([])),
    ((testNetWith testConn).hasCmd (testEntry 0x12 ([]))).taken 2 [], 2, testEntry 0x12 ([]), [], testConn,
    (by unfold State.Commands; decide), by decide, rfl⟩

theorem test_connections_and_queues_work_4 :
  ∃ (s u : State) (v : Nat) (e : Bytes) (rest : List Bytes) (x : Conn), s.Commands v 0x13 e rest ∧ s.connOf (vfCtx
    v) (commandIndex e) = some x ∧ (x.state = .closed ∨ x.state = .failed) ∧ 64 ≤ x.queue ∧ (s.taken v
    rest).makeResident x.index = some u :=
  ⟨(testNetWith { testConn with state := .closed, queue := 0xFF }).hasCmd (testEntry 0x13 ([])),
    ((testNetWith { testConn with state := .closed, queue := 0xFF }).hasCmd (testEntry 0x13 ([]))).taken 2 [], 2,
    testEntry 0x13 ([]), [], { testConn with state := .closed, queue := 0xFF }, (by unfold State.Commands; decide),
    by decide, Or.inl (by decide), by decide, rfl⟩

theorem test_connections_and_queues_work_5 :
  ∃ (s u : State) (v : Nat) (e : Bytes) (rest : List Bytes) (x : Conn), s.Commands v 0x14 e rest ∧ s.connOf (vfCtx
    v) (commandIndex e) = some x ∧ 2 ≤ leAt e 16 1 ∧ leAt e 16 1 ≤ 16 ∧ (s.taken v rest).makeResident x.index = some
    u ∧ u.grantOk x.ctx (connHoist x.index) x.kind x.landing (leAt e 12 4) x.index = true :=
  ⟨(testNet2 testConn2 testQueue).hasCmd (testEntry 0x14 ([0, 0, 0, 0, 0, 0, 0, 0, 4])),
    ((testNet2 testConn2 testQueue).hasCmd (testEntry 0x14 ([0, 0, 0, 0, 0, 0, 0, 0, 4]))).taken 2 [], 2,
    testEntry 0x14 ([0, 0, 0, 0, 0, 0, 0, 0, 4]), [], testConn2, (by unfold State.Commands; decide), by decide,
    by decide, by decide, rfl, by decide⟩

theorem test_connections_and_queues_work_15 :
  ∃ (s : State) (v stopped n code : Nat) (e : Bytes), (s.vf v).running = some e ∧ Cmd.opcode e = 0x1B ∧ ((s.furled =
    false ∧ n = leAt e 32 4 ∧ code = 0) ∨ (s.furled = true ∧ n = min stopped (leAt e 32 4) ∧ code = 0x0121001A)) :=
  ⟨({ testNet2 testConn2 testQueue with host := { testUse.host with vfs := updAt testUse.host.vfs 2 fun x => { x with running := some (testEntry 0x1B ([1, 0, 0, 0, 0, 0, 0, 0, 0, 0, 0, 0, 0, 0, 0, 0, 0, 0, 0, 0, 0, 0, 0, 0, 8])) } } } : State),
    2, 0, 8, 0, testEntry 0x1B ([1, 0, 0, 0, 0, 0, 0, 0, 0, 0, 0, 0, 0, 0, 0, 0, 0, 0, 0, 0, 0, 0, 0, 0, 8]),
    by decide, by decide, Or.inl (by decide)⟩

theorem test_frames_are_taken_in_2 :
  ∃ (s : State) (i id j n : Nat) (c : Conn) (m : RxMsg) (f : Bytes) (im : PlanImage) (r : Round), s.conn? i = some c
    ∧ c.kind = 1 ∧ c.rx.find? (fun m => m.id == id && m.complete && !m.parts.isEmpty) = some m ∧ f = m.bytes ∧
    noticeShape f = true ∧ s.image c.ctx = some im ∧ s.round? c.ctx j = some r ∧ r.root.isSome = true ∧ r.rootConn =
    i ∧ (∀ x ∈ s.rounds, x.ctx = c.ctx → x.root.isSome = true → x.rootConn = i → x = r) ∧ n = max 1 (im.template
    j).setTiles :=
  ⟨testLeafNotice, 0, 9, 0, 1, testRx testNotice, testMsg testNotice, testNotice, testImage testTemplate 0x30,
    { testRound with root := some [] }, by decide⟩

theorem test_packets_are_received_1 :
  ∃ (s u : State) (now : Nat), u = s.at now :=
  ⟨testNetWith testConn, (testNetWith testConn).at 100000005, 100000005, rfl⟩

theorem test_packets_are_received_3 :
  ∃ (s u : State) (l now i id : Nat) (fd fs fr p body : Bytes) (c : Conn) (b : List Nat) (o : Option RxMsg), u =
    s.at now ∧ s.Gets (fd ++ fs ++ fr) p l c body ∧ Packet.type p = 1 ∧ dataShape c.kind p body = true ∧ i =
    Packet.index p ∧ id = Packet.msgId p ∧ c.rxCum ≤ id ∧ id ≤ c.rxCum + 255 ∧ o = c.rx.find? (fun m => m.id == id)
    ∧ (∀ m, o = some m → m.last = Packet.last p ∧ m.type = 1 ∧ i ∉ m.bits) ∧ (o = none → s.trackerFree c.ctx
    (connHoist c.index) = true) ∧ takeFrom c.outBucket (creditsFor (Packet.length p)) = some b :=
  ⟨testNetWith { testConn with outBucket := 100 :: List.replicate 15 0, rxCum := 1 },
    (testNetWith { testConn with outBucket := 100 :: List.replicate 15 0, rxCum := 1 }).at 100000005, 0, 100000005,
    0, 1, testDatagram 40000 (testPacket 1 [0, 0, 0, 1, 0, 0] 1 0 [1, 2, 3, 4, 5, 6, 7, 8]), [], [],
    testPacket 1 [0, 0, 0, 1, 0, 0] 1 0 [1, 2, 3, 4, 5, 6, 7, 8], [1, 2, 3, 4, 5, 6, 7, 8],
    { testConn with outBucket := 100 :: List.replicate 15 0, rxCum := 1 }, 99 :: List.replicate 15 0, none, rfl,
    ⟨testPeer, 40000, by decide +kernel +kernel⟩, by decide +kernel, by decide +kernel, by decide +kernel,
    by decide +kernel, by decide +kernel, by decide +kernel, by decide +kernel, (by intro m h; exact nomatch h),
    by decide +kernel⟩

theorem test_packets_are_received_4 :
  ∃ (s u : State) (l now id : Nat) (fd fs fr p body : Bytes) (c : Conn), u = s.at now ∧ s.Gets (fd ++ fs ++ fr) p l
    c body ∧ dataShape c.kind p body = true ∧ id = Packet.msgId p ∧ c.rxCum ≤ id ∧ id ≤ c.rxCum + 255 ∧ c.rx.find?
    (fun m => m.id == id) = none ∧ s.trackerFree c.ctx (connHoist c.index) = true :=
  ⟨testNet2 testConn2 testQueue, (testNet2 testConn2 testQueue).at 100000005, 0, 100000005, 1,
    testDatagram 40000 (testPacket 2 [0, 0, 0, 1, 0, 0] 5 128 [1, 2, 3, 4, 5, 6, 7, 8]), [], [],
    testPacket 2 [0, 0, 0, 1, 0, 0] 5 128 [1, 2, 3, 4, 5, 6, 7, 8], [1, 2, 3, 4, 5, 6, 7, 8], testConn2, rfl,
    ⟨testPeer, 40000, by decide +kernel +kernel⟩, by decide +kernel⟩

theorem test_packets_are_received_5_0 :
  ∃ (s u : State) (l now : Nat) (fd fs fr p body : Bytes) (c : Conn), u = s.at now ∧ s.Gets (fd ++ fs ++ fr) p l c
    body ∧ dataShape c.kind p body = true ∧ Packet.msgId p < c.rxCum ∧ Packet.type p = (1) :=
  ⟨testNet2 { testConn2 with rxCum := 5 } testQueue, (testNet2 { testConn2 with rxCum := 5 } testQueue).at 100000005,
    0, 100000005, testDatagram 40000 (testPacket 1 [0, 0, 0, 1, 0, 0] 1 0 [1, 2, 3, 4, 5, 6, 7, 8]), [], [],
    testPacket 1 [0, 0, 0, 1, 0, 0] 1 0 [1, 2, 3, 4, 5, 6, 7, 8], [1, 2, 3, 4, 5, 6, 7, 8],
    { testConn2 with rxCum := 5 }, rfl, ⟨testPeer, 40000, by decide +kernel +kernel⟩, by decide +kernel⟩

theorem test_packets_are_received_5_1 :
  ∃ (s u : State) (l now : Nat) (fd fs fr p body : Bytes) (c : Conn), u = s.at now ∧ s.Gets (fd ++ fs ++ fr) p l c
    body ∧ dataShape c.kind p body = true ∧ Packet.msgId p < c.rxCum ∧ Packet.type p = (2) :=
  ⟨testNet2 { testConn2 with rxCum := 5 } testQueue, (testNet2 { testConn2 with rxCum := 5 } testQueue).at 100000005,
    0, 100000005, testDatagram 40000 (testPacket 2 [0, 0, 0, 1, 0, 0] 5 128 [1, 2, 3, 4, 5, 6, 7, 8]), [], [],
    testPacket 2 [0, 0, 0, 1, 0, 0] 5 128 [1, 2, 3, 4, 5, 6, 7, 8], [1, 2, 3, 4, 5, 6, 7, 8],
    { testConn2 with rxCum := 5 }, rfl, ⟨testPeer, 40000, by decide +kernel +kernel⟩, by decide +kernel⟩

theorem test_packets_are_received_5_2 :
  ∃ (s u : State) (l now : Nat) (fd fs fr p body : Bytes) (c : Conn), u = s.at now ∧ s.Gets (fd ++ fs ++ fr) p l c
    body ∧ dataShape c.kind p body = true ∧ Packet.msgId p < c.rxCum ∧ Packet.type p = (3) :=
  ⟨testNet2 { testConn2 with rxCum := 5 } testQueue, (testNet2 { testConn2 with rxCum := 5 } testQueue).at 100000005,
    0, 100000005, testDatagram 40000 (testPacket 3 [0, 0, 0, 1, 0, 0] 5 128 ([0, 0, 0, 8] ++ List.replicate 12 0)),
    [], [], testPacket 3 [0, 0, 0, 1, 0, 0] 5 128 ([0, 0, 0, 8] ++ List.replicate 12 0),
    [0, 0, 0, 8] ++ List.replicate 12 0, { testConn2 with rxCum := 5 }, rfl,
    ⟨testPeer, 40000, by decide +kernel +kernel⟩, by decide +kernel⟩

theorem test_packets_are_received_6 :
  ∃ (s u : State) (l now i : Nat) (fd fs fr p body : Bytes) (c : Conn) (r : OutRead), u = s.at now ∧ s.Gets (fd ++
    fs ++ fr) p l c body ∧ Packet.type p = 4 ∧ dataShape c.kind p body = true ∧ c.reads.find? (fun r => r.id ==
    Packet.msgId p) = some r ∧ i = Packet.index p ∧ Packet.last p = ceilDiv r.length 8192 - 1 ∧ (i = Packet.last p →
    body.length = r.length - 8192 * i) ∧ r.done = false ∧ i ∉ r.bits ∧ s.MemOk ∧ c.ctx < s.ctxs.length :=
  ⟨testNet2 { testConn2 with reads := [⟨3, 8, 64, 0, 7, [], false⟩] } testQueue,
    (testNet2 { testConn2 with reads := [⟨3, 8, 64, 0, 7, [], false⟩] } testQueue).at 100000005, 0, 100000005, 0,
    testDatagram 40000 (testPacket 4 [0, 0, 0, 3, 0, 0] 0 0 [1, 2, 3, 4, 5, 6, 7, 8]), [], [],
    testPacket 4 [0, 0, 0, 3, 0, 0] 0 0 [1, 2, 3, 4, 5, 6, 7, 8], [1, 2, 3, 4, 5, 6, 7, 8],
    { testConn2 with reads := [⟨3, 8, 64, 0, 7, [], false⟩] }, ⟨3, 8, 64, 0, 7, [], false⟩, rfl,
    ⟨testPeer, 40000, by decide +kernel +kernel⟩, by decide +kernel, by decide +kernel, by decide +kernel,
    by decide +kernel, by decide +kernel, (by intro h; decide +kernel), by decide +kernel, by decide +kernel,
    test_mem_ok _ (by decide +kernel), by decide +kernel⟩

theorem test_packets_are_received_7 :
  ∃ (s u : State) (l now : Nat) (fd fs fr p body : Bytes) (c : Conn), u = s.at now ∧ s.Gets (fd ++ fs ++ fr) p l c
    body :=
  ⟨testNetWith testConn, (testNetWith testConn).at 100000005, 0, 100000005,
    testDatagram 40000 (testPacket 5 [0, 0, 0, 0, 0, 1] 0 0 [0, 0, 0, 2, 0, 0, 0, 0]), [], [],
    testPacket 5 [0, 0, 0, 0, 0, 1] 0 0 [0, 0, 0, 2, 0, 0, 0, 0], [0, 0, 0, 2, 0, 0, 0, 0], testConn, rfl,
    ⟨testPeer, 40000, by decide +kernel +kernel⟩⟩

theorem test_packets_are_received_8 :
  ∃ (s u : State) (l sp now : Nat) (fd fs fr a p body : Bytes), u = s.at now ∧ s.listens l = true ∧ s.datagram l (fd
    ++ fs ++ fr) = some (a, sp, p) ∧ packetShape p = true ∧ Packet.type p = 7 ∧ body = Packet.body p ∧
    Packet.ctrlSub body = 1 ∧ ctrlShape body = true :=
  ⟨testNetWith { testConn with state := .listen, passive := true, dir := true },
    (testNetWith { testConn with state := .listen, passive := true, dir := true }).at 100000005, 0, 40000, 100000005,
    testDatagram 40000 (testPacket 7 [0, 0, 0, 0, 0, 1] 0 0 (testCtrl 1)), [], [], testPeer,
    testPacket 7 [0, 0, 0, 0, 0, 1] 0 0 (testCtrl 1), testCtrl 1, rfl, by decide +kernel⟩

theorem test_packets_are_received_9 :
  ∃ (s u : State) (l sp now : Nat) (fd fs fr a p body : Bytes) (c : Conn), u = s.at now ∧ s.listens l = true ∧
    s.datagram l (fd ++ fs ++ fr) = some (a, sp, p) ∧ packetShape p = true ∧ Packet.type p = 7 ∧ body = Packet.body
    p ∧ ctrlShape body = true ∧ s.conn? (Packet.dstConn p) = some c ∧ connHoist c.index = l / 32 ∧ c.resident = true
    ∧ c.state = .requesting ∧ Packet.gen p = c.gen ∧ Packet.srcConn p = c.remoteConn ∧ a = c.remoteAddr ∧ Packet.enc
    p = c.enc ∧ (s.openOn c p).isSome = true :=
  ⟨testNetWith { testConn with state := .requesting },
    (testNetWith { testConn with state := .requesting }).at 100000005, 0, 40000, 100000005,
    testDatagram 40000 (testPacket 7 [0, 0, 0, 0, 0, 1] 0 0 (testCtrl 2)), [], [], testPeer,
    testPacket 7 [0, 0, 0, 0, 0, 1] 0 0 (testCtrl 2), testCtrl 2, { testConn with state := .requesting }, rfl,
    by decide +kernel⟩

theorem test_packets_are_received_2_0 :
  ∃ (s u : State) (l now : Nat) (fd fs fr p body : Bytes) (c : Conn), u = s.at now ∧ s.Gets (fd ++ fs ++ fr) p l c
    body ∧ dataShape c.kind p body = false ∧ Packet.type p = (1) :=
  ⟨testNetWith testConn, (testNetWith testConn).at 100000005, 0, 100000005,
    testDatagram 40000 (testPacket 1 [0, 0, 0, 1, 0, 0] 1 1 [1, 2, 3, 4, 5, 6, 7, 8]), [], [],
    testPacket 1 [0, 0, 0, 1, 0, 0] 1 1 [1, 2, 3, 4, 5, 6, 7, 8], [1, 2, 3, 4, 5, 6, 7, 8], testConn, rfl,
    ⟨testPeer, 40000, by decide +kernel +kernel⟩, by decide +kernel⟩

theorem test_host_registers_act_10 :
  ∃ (s u : State) (v : Nat), v < s.host.vfs.length ∧ u = s.vfError v 0x01210020 :=
  ⟨testUse.hasRing fun x => x, (testUse.hasRing fun x => x).vfError 2 0x01210020, 2, by decide, rfl⟩

theorem test_outputs_are_finished_6 :
  ∃ (s : State) (k n p : Nat) (sp : RunningSpan) (im : PlanImage) (r : Round) (x : FinishItem) (spec : FinishSpec),
    (s.cluster k).span = some sp ∧ (s.cluster k).position = some p ∧ sp.desc.opcode = 0x20 ∧ sp.done = false ∧
    sp.dummy = false ∧ s.OnRound sp im r ∧ policySpec r.policyObject r.cohortId = some spec ∧ spec.sigma ≠ 0 ∧
    (r.nextItems p sp.desc.cursor).find? (fun x => x.core == n) = some x ∧ x.cut = none ∧ (s.drbg k n).instantiated
    = true ∧ (s.drbg k n).error = false :=
  ⟨{ testFin (testNoisy) with drbgs := updAt testUse.drbgs 0 fun _ => ⟨List.replicate 32 1, List.replicate 16 1, 5, true, false⟩ },
    0, 0, 0, testFinSpan, testImage testTemplate 0x20, testNoisy, testItem, { testSpec with sigma := 5 }, by decide,
    by decide, by decide, by decide, by decide, (by unfold State.OnRound; decide), by decide⟩

theorem test_transport_timers_fire_1 :
  ∃ (s u : State) (i now b : Nat) (c d : Conn), s.conn? i = some c ∧ c.ackDueAt = some b ∧ b ≤ (s.at now).aon ∧
    (s.at now).makeResident i = some u ∧ u.conn? i = some d :=
  ⟨testNetWith { testConn with ackDueAt := some (100 * tickS), ackCount := 1, ackDue := [(false, 1)] },
    (testNetWith { testConn with ackDueAt := some (100 * tickS), ackCount := 1, ackDue := [(false, 1)] }).at 100000004,
    0, 100000004, 100 * tickS,
    { testConn with ackDueAt := some (100 * tickS), ackCount := 1, ackDue := [(false, 1)] },
    { testConn with ackDueAt := some (100 * tickS), ackCount := 1, ackDue := [(false, 1)] }, by decide, by decide,
    by decide, rfl, by decide⟩

theorem test_transport_timers_fire_3 :
  ∃ (s v : State) (i path now : Nat) (c d : Conn), s.conn? i = some c ∧ c.state = .open ∧ (c.pathStates.getD path
    .new).suspended = true ∧ (c.pathStates.getD path .new).probing = false ∧ (c.pathStates.getD path .new).holdUntil
    ≤ (s.at now).aon ∧ (s.at now).makeResident i = some v ∧ v.conn? i = some d ∧ (v.putPacket c path 7 0 (beBytes 6
    c.txCtrl) 0 0 (ctrlPayload c 5 0)).isSome = true :=
  ⟨testNetWith { testConn with pathStates := [⟨[], true, 100 * tickS, false⟩, .new] },
    (testNetWith { testConn with pathStates := [⟨[], true, 100 * tickS, false⟩, .new] }).at 100000005, 0, 0,
    100000005, { testConn with pathStates := [⟨[], true, 100 * tickS, false⟩, .new] },
    { testConn with pathStates := [⟨[], true, 100 * tickS, false⟩, .new] }, by decide, by decide, by decide,
    by decide, by decide, rfl, by decide⟩

theorem test_transport_timers_fire_4 :
  ∃ (s u : State) (i path now : Nat) (c d : Conn), s.conn? i = some c ∧ (c.pathStates.getD path .new).suspended =
    true ∧ (c.pathStates.getD path .new).probing = true ∧ (c.pathStates.getD path .new).holdUntil < (s.at now).aon ∧
    (s.at now).makeResident i = some u ∧ u.conn? i = some d :=
  ⟨testNetWith { testConn with pathStates := [⟨[], true, 100 * tickS, true⟩, .new] },
    (testNetWith { testConn with pathStates := [⟨[], true, 100 * tickS, true⟩, .new] }).at 100000005, 0, 0,
    100000005, { testConn with pathStates := [⟨[], true, 100 * tickS, true⟩, .new] },
    { testConn with pathStates := [⟨[], true, 100 * tickS, true⟩, .new] }, by decide, by decide, by decide,
    by decide, rfl, by decide⟩

theorem test_sub_ports_come_up_and_go_down_7 :
  ∃ (s : State) (lane : Nat) (f fd fr : Bytes), f = fd ++ fr ∧ s.listens lane = true ∧ Frame.sound f = true ∧
    Frame.dstMac f = List.replicate 6 0xFF ∧ Frame.etherType f = 0x0806 ∧ slice (Frame.data f) 0 8 = [0, 1, 8, 0, 6,
    4, 0, 1] :=
  ⟨(testNetWith testConn).hasSet fun x => { x with ports := { x.ports with addr4 := (0x0A000001, 0x0A000002) } }, 28,
    etherFrame (List.replicate 6 0xFF) [1, 2, 3, 4, 5, 6] 0x0806 (arpPacket 1 [1, 2, 3, 4, 5, 6] [10, 0, 0, 9] (zeros 6) [10, 0, 0, 1]),
    etherFrame (List.replicate 6 0xFF) [1, 2, 3, 4, 5, 6] 0x0806 (arpPacket 1 [1, 2, 3, 4, 5, 6] [10, 0, 0, 9] (zeros 6) [10, 0, 0, 1]),
    [], by decide +kernel⟩

theorem test_sub_ports_come_up_and_go_down_8 :
  ∃ (s : State) (lane : Nat) (f fd fr : Bytes) (v : IpView), f = fd ++ fr ∧ s.listens lane = true ∧ Frame.sound f =
    true ∧ ((Frame.dstMac f).getD 0 0).getLsbD 0 = true ∧ Frame.etherType f = 0x86DD ∧ ipView false (Frame.data f) =
    some v ∧ v.proto = 58 ∧ v.hops = 255 ∧ inetSum (pseudoHeader false v.src v.dst 58 v.body.length ++ v.body) = 0 ∧
    slice v.body 0 2 = [135, 0] ∧ 24 ≤ v.body.length :=
  ⟨testNetWith testConn, 28, testNsFrame 7, testNsFrame 7, [],
    ⟨List.replicate 16 9, solicitedNode (List.replicate 16 7), 58, 255, testNs 7⟩, by decide +kernel⟩

-- Commands and well-formedness

/-- The queue's front is run on the rest (witness of the first clause); an empty queue idles. -/
theorem test_step_runs_front_command :
    ∃ (c : Instr) (rest : List Instr) (s : State), s.pending = c :: rest :=
  ⟨.beatBoundary, [.windowBoundary], { testRun with pending := [.beatBoundary, .windowBoundary] }, rfl⟩
theorem test_step_idles : ∃ s : State, s.pending = [] := ⟨testRun, rfl⟩
theorem test_step_keeps_memory : ∃ s t : State, s.MemOk ∧ step s = .next t :=
  ⟨State.reset, State.reset, test_mem_ok _ (by decide), rfl⟩
theorem test_connections_and_queues_work_7 :
    ∃ (s : State) (v : Nat) (e : Bytes) (rest : List Bytes), s.Commands v 0x12 e rest ∧
      s.connOf (vfCtx v) (commandIndex e) = none :=
  ⟨testUse.hasCmd (testEntry 0x12 []), 2, testEntry 0x12 [], [], by unfold State.Commands; decide, by decide⟩

/-- The cases of a received frame: a sub-port that takes nothing, no Grixo datagram, no packet, no such connection, a record
that is not resident, and check 6 failed. -/
theorem test_packets_are_received_1_deaf : ∃ (s : State) (l : Nat), s.listens l = false := ⟨State.reset, 0, by decide⟩
theorem test_packets_are_received_1_no_datagram :
    ∃ (s : State) (l : Nat) (f : Bytes), s.listens l = true ∧ s.datagram l f = none := ⟨testNetWith testConn, 0, [], by decide⟩
theorem test_packets_are_received_1_no_packet :
    ∃ (s : State) (l sp : Nat) (f a p : Bytes), s.listens l = true ∧ s.datagram l f = some (a, sp, p) ∧ packetShape p = false :=
  ⟨testNetWith testConn, 0, 40000, testDatagram 40000 [], testPeer, [], by decide +kernel⟩
theorem test_packets_are_received_1_unknown :
    ∃ (s : State) (l sp : Nat) (f a p : Bytes), s.listens l = true ∧ s.datagram l f = some (a, sp, p) ∧ packetShape p = true ∧
      Packet.type p = 5 ∧ s.conn? (Packet.dstConn p) = none :=
  ⟨testNetWith { testConn with index := 3 }, 0, 40000, testDatagram 40000 (testPacket 5 (zeros 6) 0 0 (zeros 8)), testPeer,
    testPacket 5 (zeros 6) 0 0 (zeros 8), by decide +kernel⟩
theorem test_packets_are_received_1_miss :
    ∃ (s : State) (l sp : Nat) (f a p : Bytes) (c : Conn), s.listens l = true ∧ s.datagram l f = some (a, sp, p) ∧
      packetShape p = true ∧ Packet.type p = 5 ∧ s.conn? (Packet.dstConn p) = some c ∧ connHoist c.index = l / 32 ∧
      c.resident = false ∧ s.missUsed c.ctx 0 + p.length ≤ s.missShare c.ctx 0 :=
  ⟨testNetWith { testConn with resident := false }, 0, 40000, testDatagram 40000 (testPacket 5 (zeros 6) 0 0 (zeros 8)), testPeer,
    testPacket 5 (zeros 6) 0 0 (zeros 8), { testConn with resident := false }, by decide +kernel⟩
theorem test_packets_are_received_1_six :
    ∃ (s : State) (l sp : Nat) (f a p : Bytes) (c : Conn), s.listens l = true ∧ s.datagram l f = some (a, sp, p) ∧
      packetShape p = true ∧ Packet.type p = 5 ∧ s.conn? (Packet.dstConn p) = some c ∧ connHoist c.index = l / 32 ∧
      c.resident = true ∧ c.state ≠ .requesting ∧ c.checkSix p a sp = false :=
  ⟨testNetWith testConn, 0, 40001, testDatagram 40001 (testPacket 5 (zeros 6) 0 0 (zeros 8)), testPeer,
    testPacket 5 (zeros 6) 0 0 (zeros 8), testConn, by decide +kernel⟩

/-- Each check of WellFormed refuses an operand past its range, and takes one at its end. -/
theorem test_ill_formed : ∀ i ∈ [Instr.slotIssue 64, .planStart 16, .freeze 16 0, .freeze 0 256, .roundOpen 32,
    .subportDown 64 0, .connReqResend 65536 0, .queueDestroyComplete 0 64, .dmaSlotMapWrite 0 2 [],
    .cantonReset 4 0, .allowFreeRunWrite 8 [], .ptpAnnounceRx ⟨1, 0, 1⟩ 0, .referenceLost ⟨0, 0, 0⟩ 0, .referenceLost ⟨4, 0, 0⟩ 0,
    .dieLinkRetrainFail 13 0, .thermalTrip [1, 2] 0, .drbgReseed 0 8, .clusterFault 0 3, .dataFault 0 0 16 0,
    .pathHoldExpiry 0 16 0, .hostAccessFailure 0 5 ⟨none, [], 0⟩, .tamperAssert 0 0, .domainRegulationMiss 24 0,
    .staleInstruction 16 0 0, .padRelease 9 []], i.wellFormed = false := by decide
theorem test_well_formed : ∀ i ∈ [Instr.slotIssue 63, .planStart 15, .freeze 15 255, .roundOpen 31,
    .subportDown 63 0, .connReqResend 65535 0, .queueDestroyComplete 15 63, .dmaSlotMapWrite 7 1 [],
    .cantonReset 3 0, .allowFreeRunWrite 7 [], .ptpAnnounceRx ⟨2, 0, 1⟩ 0, .referenceLost ⟨1, 0, 0⟩ 0, .referenceLost ⟨3, 0, 0⟩ 0,
    .dieLinkRetrainFail 12 0, .thermalTrip [1, 2, 3, 4, 5, 6] 0, .drbgReseed 63 7, .clusterFault 63 2, .dataFault 0 0 15 0,
    .pathHoldExpiry 0 15 0, .hostAccessFailure 0 4 ⟨none, [], 0⟩, .tamperAssert 4 0, .domainRegulationMiss 23 0,
    .staleInstruction 15 0 0, .padRelease 8 []], i.wellFormed = true := by decide

-- Published check values

/-- CRC-32 of IEEE 802.3 of the nine digits: its published check value (R13). -/
theorem test_crc32 : crc32 (ascii "123456789") = 0xCBF43926#32 := by decide +kernel
/-- SHA-384 of "abc": the example of FIPS 180-4, its first and last eight bytes. -/
theorem test_sha384 : (sha384 (ascii "abc")).take 8 = [0xCB, 0x00, 0x75, 0x3F, 0x45, 0xA3, 0x5E, 0x8B] ∧
    (sha384 (ascii "abc")).drop 40 = [0x58, 0xBA, 0xEC, 0xA1, 0x34, 0xC8, 0x25, 0xA7] := by decide +kernel
end

section
/-!
Laws of the recorder: what one record comes to, by its severity and its writer (R484 to R504), and RECORD_WRITE.
-/
namespace Sys2Proof.Machine

theorem exec_recordWrite (source code : Nat) (ctx : Option Nat) (p : Bytes) (now : Nat) (s : State) :
    exec (.recordWrite source code ctx p now) s =
      .next (if code % 0x10000 = 0 then s.at now else (s.at now).record code source ctx p) := rfl

theorem exec_recordWrite_of_detail {code : Nat} (h : code % 0x10000 ≠ 0) (source : Nat) (ctx : Option Nat) (p : Bytes)
    (now : Nat) (s : State) :
    exec (.recordWrite source code ctx p now) s = .next ((s.at now).record code source ctx p) := by
  rw [exec_recordWrite, if_neg h]

/-- Severity ALARM is that of the classes FAULT-CONTEXT-LOST and ALARM (R486). -/
theorem class_of_severityOf_alarm {code : Nat} (h : severityOf code = .alarm) :
    code / 0x1000000 = 3 ∨ code / 0x1000000 = 4 := by
  unfold severityOf at h
  by_contra hc
  simp only [if_neg hc] at h
  split at h
  · cases h
  · split at h <;> cases h

/-- The writer of a record while no CP runs (R489). -/
theorem State.writerOf_of_no_cp {s : State} (h : s.start.cpRuns = (false, false)) (source : Nat) :
    s.writerOf source = .aon := by
  simp [State.writerOf, h]

section Records
variable (s : State) (code source : Nat) (ctx : Option Nat) (p : Bytes)

/-- An EVENT with a token left and room for it takes the token and is stored (R491, R497). -/
theorem State.record_event {w : Writer} (hsev : severityOf code = .event) (hcls : code / 0x1000000 ≠ 2)
    (hw : s.writerOf source = w) (haon : w ≠ .aon) (htok : s.recorder.tokens w code ≠ 0)
    (hroom : (s.recorder.buffer w).general < 4032) :
    s.record code source ctx p =
      ({ s with recorder := s.recorder.takeToken w code }).storeNumbered w
        (s.formRecord .event false code source ctx p) := by
  have hroom' : ((s.recorder.takeToken w code).buffer w).general < 4032 := by
    cases w <;> exact hroom
  simp only [State.record, hsev, hw, if_neg hcls, if_neg htok, if_neg haon, if_pos (Or.inl hroom), State.storeHoist,
    if_pos hroom']

/-- An ALARM with room in the general part is stored there (R491). -/
theorem State.record_alarm {w : Writer} (hsev : severityOf code = .alarm) (hw : s.writerOf source = w)
    (haon : w ≠ .aon) (hroom : (s.recorder.buffer w).general < 4032) :
    s.record code source ctx p = s.storeNumbered w (s.formRecord .alarm false code source ctx p) := by
  have hcls : code / 0x1000000 ≠ 2 := by have := class_of_severityOf_alarm hsev; omega
  simp only [State.record, hsev, hw, if_neg hcls, if_neg haon, State.storeHoist, if_pos hroom]

/-- An ALARM whose writer has no CP goes to the AON store (R489). -/
theorem State.record_alarm_aon (hsev : severityOf code = .alarm) (hw : s.writerOf source = .aon) :
    s.record code source ctx p =
      { s with recorder := s.recorder.storeAon (s.formRecord .alarm false code source ctx p) s.ms } := by
  have hcls : code / 0x1000000 ≠ 2 := by have := class_of_severityOf_alarm hsev; omega
  simp only [State.record, hsev, hw, if_neg hcls, if_true]

/-- What no record touches: the state without its settings, its recorder and its sessions. -/
def State.unrecorded (s : State) : State :=
  { s with set := .default, setA := none, setB := none, slotB := false, recorder := .reset, mgmt := .reset }

theorem State.record_unrecorded : (s.record code source ctx p).unrecorded = s.unrecorded := by
  simp [State.unrecorded]

/-- A state that agrees with another outside of what records touch, written as an update of it. -/
theorem State.eq_of_unrecorded_eq {s t : State} (h : t.unrecorded = s.unrecorded) :
    t = { s with set := t.set, setA := t.setA, setB := t.setB, slotB := t.slotB, recorder := t.recorder,
                 mgmt := t.mgmt } :=
  congrArg (fun x : State => { x with set := t.set, setA := t.setA, setB := t.setB, slotB := t.slotB,
                                      recorder := t.recorder, mgmt := t.mgmt }) h

@[simp] theorem State.persist_set (f : Settings → Settings) : (s.persist f).set = f s.set := by
  unfold State.persist
  dsimp only
  split <;> rfl

/-- A code of class FAULT-RECOVERED counts in tier 1, whatever becomes of its record (R504). -/
theorem State.record_faultCounts (hcls : code / 0x1000000 = 2) :
    (s.record code source ctx p).set.faultCounts =
      updAt s.set.faultCounts 0 fun n => min (n + 1) 0xFFFFFFFF := by
  unfold State.record
  simp only [if_pos hcls]
  repeat' split
  all_goals simp

end Records

/-- Taking a token leaves one fewer in the bucket of the code (R497). -/
theorem Recorder.tokens_takeToken (q : Recorder) (w : Writer) {code : Nat} (hcode : code < 2 ^ 32) :
    (q.takeToken w code).tokens w code = q.tokens w code - 1 := by
  have hn : (BitVec.ofNat 32 code).toNat = code := by simpa using Nat.mod_eq_of_lt hcode
  simp [Recorder.takeToken, Recorder.tokens, hn]

/-- The AON store takes a record while it holds fewer than 64 (R489). -/
theorem Recorder.storeAon_of_room {q : Recorder} (r : Record) (ms : Nat) (hroom : q.aon.length < 64) :
    q.storeAon r ms = { q with aon := q.aon ++ [{ r with aonHeld := true }] } := by
  simp [Recorder.storeAon, hroom]

/-- Settles O31. An EVENT and an ALARM go through `record_event` and `record_alarm` to the numbered store of Hoist 0. -/
theorem recordsAreNumberedAndStored : Obligations.RecordsAreNumberedAndStored := by
  unfold Obligations.RecordsAreNumberedAndStored
  refine ⟨?event, ?alarm, ?aon, ?tierOne, ?noDetail⟩
  case event =>
    intro s u source code now ctx p r hu hsev hcode hcls hdet hw htok hroom hr
    subst hu hr
    refine ⟨_, exec_recordWrite_of_detail hdet .., ?_⟩
    rw [(s.at now).record_event code source ctx p hsev hcls hw (by decide) htok hroom]
    exact ⟨rfl, rfl, rfl, Recorder.tokens_takeToken _ .h0 hcode, rfl, rfl, rfl, rfl, rfl, rfl⟩
  case alarm =>
    intro s u source code now ctx p r hu hsev hdet hw hroom hr
    subst hu hr
    refine ⟨_, exec_recordWrite_of_detail hdet .., ?_⟩
    rw [(s.at now).record_alarm code source ctx p hsev hw (by decide) hroom]
    refine ⟨rfl, rfl, rfl, ?_, rfl, rfl⟩
    simp [State.storeNumbered, State.offerAll, Recorder.setBuffer, State.formRecord, Severity.isAlarm]
  case aon =>
    intro s u source code now ctx p hu hsev hdet hcp hroom
    subst hu
    have hw : (s.at now).writerOf source = .aon := State.writerOf_of_no_cp hcp source
    have hroom' : (s.at now).recorder.aon.length < 64 := hroom
    rw [exec_recordWrite_of_detail hdet, (s.at now).record_alarm_aon code source ctx p hsev hw,
      Recorder.storeAon_of_room _ _ hroom']
    rfl
  case tierOne =>
    intro s source code now ctx p hcls hdet
    exact ⟨_, exec_recordWrite_of_detail hdet .., State.record_faultCounts _ _ _ _ _ hcls,
      State.eq_of_unrecorded_eq (State.record_unrecorded ..)⟩
  case noDetail =>
    intro s source code now ctx p hdet
    rw [exec_recordWrite, if_pos hdet]

end Sys2Proof.Machine
end

section
/-!
Frame of the Grixo transport: what sending and receiving on connections leaves alone (R261 to R302). Each operation keeps
`State.offWire`, so that a chain of them keeps it by rewriting.
-/
namespace Sys2Proof.Machine

/-- A context without its transmit allowance and its running counts. -/
def Ctx.unmetered (x : Ctx) : Ctx := { x with counters := { x.counters with live := .zero }, egress := .zero }

/-- What the transport leaves alone: the state without its connections, queues and sub-ports, what the contexts meter,
what has been sent, and what records touch. -/
def State.offWire (s : State) : State :=
  { s.unrecorded with grixo := .reset, out := [], ctxs := s.ctxs.map Ctx.unmetered }

/-- A projection that each step of a fold keeps is kept by the fold. -/
theorem foldl_keeps {σ α β : Type} (π : σ → β) {g : σ → α → σ} (hg : ∀ s x, π (g s x) = π s) (l : List α) (s : σ) :
    π (l.foldl g s) = π s := by
  induction l generalizing s with
  | nil => rfl
  | cons x l ih => exact (ih (g s x)).trans (hg s x)

theorem updAt_map_of_keeps {α β : Type} (g : α → β) {f : α → α} (hf : ∀ x, g (f x) = g x) (l : List α) (i : Nat) :
    (updAt l i f).map g = l.map g := by
  apply List.ext_getElem
  · simp [updAt]
  · intro j h₁ h₂
    simp only [updAt, List.getElem_map, List.getElem_modify]
    split
    · exact hf _
    · rfl

section
variable (s : State)

@[simp] theorem State.offWire_record (code source : Nat) (ctx : Option Nat) (p : Bytes) :
    (s.record code source ctx p).offWire = s.offWire := by
  simp [State.offWire, State.record_unrecorded]

@[simp] theorem State.offWire_emit (o : Output) : (s.emit o).offWire = s.offWire := rfl
@[simp] theorem State.offWire_updConn (i : Nat) (f : Conn → Conn) : (s.updConn i f).offWire = s.offWire := rfl
@[simp] theorem State.offWire_updQueue (c q : Nat) (f : WorkQueue → WorkQueue) :
    (s.updQueue c q f).offWire = s.offWire := rfl

theorem State.offWire_updCtx (c : Nat) {f : Ctx → Ctx} (hf : ∀ x, (f x).unmetered = x.unmetered) :
    (s.updCtx c f).offWire = s.offWire := by
  simp [State.offWire, State.updCtx, State.unrecorded, updAt_map_of_keeps Ctx.unmetered hf]

@[simp] theorem State.offWire_count (c : Nat) (f : Counters → Counters) : (s.count c f).offWire = s.offWire :=
  s.offWire_updCtx c fun _ => rfl

@[simp] theorem State.offWire_killQueue (c q status : Nat) : (s.killQueue c q status).offWire = s.offWire := rfl

@[simp] theorem State.offWire_endConn (i : Nat) (st : ConnState) (status : Nat) :
    (s.endConn i st status).offWire = s.offWire := by
  unfold State.endConn
  split
  · rfl
  · dsimp only
    split <;> simp

@[simp] theorem State.offWire_deriveConnKey (c : Conn) : (s.deriveConnKey c).offWire = s.offWire := by
  unfold State.deriveConnKey State.refuseUse
  split <;> simp

@[simp] theorem State.offWire_fetchRecord (c : Conn) : (s.fetchRecord c).offWire = s.offWire := by
  unfold State.fetchRecord
  dsimp only
  split <;> simp

variable {s} {t : State}

theorem State.offWire_makeResident {i : Nat} (h : s.makeResident i = some t) : t.offWire = s.offWire := by
  unfold State.makeResident at h
  split at h
  · cases h
  · dsimp only at h
    split at h
    · cases h; rfl
    · split at h
      · cases h; simp
      · obtain ⟨v, -, rfl⟩ := Option.map_eq_some_iff.mp h
        simp

theorem State.offWire_emitPacket {c : Conn} {path type flags kos off lane : Nat} {id6 body : Bytes}
    (h : s.emitPacket c path type flags id6 kos off body = some (t, lane)) : t.offWire = s.offWire := by
  unfold State.emitPacket at h
  dsimp only at h
  split at h
  · cases h
  · obtain ⟨⟨l, f⟩, -, heq⟩ := Option.map_eq_some_iff.mp h
    cases heq
    rw [State.offWire_emit, State.offWire_count]
    exact s.offWire_updCtx _ fun _ => rfl

theorem State.offWire_putPacket {c : Conn} {path type flags kos off lane : Nat} {id6 body : Bytes}
    (h : s.putPacket c path type flags id6 kos off body = some (t, lane)) : t.offWire = s.offWire := by
  unfold State.putPacket at h
  obtain ⟨⟨u, l⟩, hu, heq⟩ := Option.map_eq_some_iff.mp h
  cases heq
  exact (State.offWire_updConn ..).trans (State.offWire_emitPacket hu)

@[simp] theorem offWire_sendCtrls (i : Nat) (l : List (Nat × Bytes × Option Nat)) (s : State) :
    (sendCtrls i l s).offWire = s.offWire := by
  induction l generalizing s with
  | nil => rfl
  | cons x l ih =>
    unfold sendCtrls
    split
    · rfl
    · dsimp only
      split
      · rfl
      · next u lane hu => rw [ih, State.offWire_updConn, State.offWire_putPacket hu]

@[simp] theorem State.offWire_sendCtrl (i type : Nat) (body : Bytes) : (s.sendCtrl i type body).offWire = s.offWire := by
  unfold State.sendCtrl State.sendCtrlOn
  dsimp only
  split <;> simp

theorem State.offWire_sendData {i k path : Nat} {m : TxMsg} {again : Bool}
    (h : s.sendData i m k path again = some t) : t.offWire = s.offWire := by
  unfold State.sendData at h
  split at h
  · cases h
  · dsimp only at h
    split at h
    · cases h
    · split at h
      · cases h
      · obtain ⟨⟨u, lane⟩, hu, heq⟩ := Option.map_eq_some_iff.mp h
        rw [← heq, ← State.offWire_putPacket hu]
        dsimp only
        split <;> simp

@[simp] theorem offWire_pumpList (i : Nat) (l : List (TxMsg × Nat × Bool)) (s : State) :
    (pumpList i l s).offWire = s.offWire := by
  induction l generalizing s with
  | nil => rfl
  | cons x l ih =>
    unfold pumpList
    split
    · rfl
    · split
      · rfl
      · next u hu => rw [ih, State.offWire_sendData hu]

@[simp] theorem offWire_takeTrackers (i : Nat) (l : List TxMsg) (s : State) :
    (takeTrackers i l s).offWire = s.offWire := by
  induction l generalizing s with
  | nil => rfl
  | cons m l ih =>
    unfold takeTrackers
    split
    · rfl
    · split
      · rw [ih, State.offWire_updConn]
      · rfl

variable (s)

@[simp] theorem State.offWire_pump (i : Nat) : (s.pump i).offWire = s.offWire := by
  unfold State.pump
  split
  · rfl
  · split
    · rfl
    · split
      · rfl
      · next u hu =>
        dsimp only
        have hkeep : ∀ c : Conn, (sendCtrls i c.ctrlQueue (takeTrackers i c.waiting u)).offWire = s.offWire := fun c => by
          simp [State.offWire_makeResident hu]
        split
        · exact hkeep _
        · split
          · rw [offWire_pumpList]; exact hkeep _
          · exact hkeep _

@[simp] theorem State.offWire_lapseCredits (i : Nat) : (s.lapseCredits i).offWire = s.offWire := by
  unfold State.lapseCredits
  split
  · rfl
  · simp

theorem State.offWire_withRecord (i : Nat) {f : State → Conn → State} (hf : ∀ s c, (f s c).offWire = s.offWire) :
    (s.withRecord i f).offWire = s.offWire := by
  unfold State.withRecord
  split
  · rfl
  · next u hu =>
    split
    · exact State.offWire_makeResident hu
    · exact (hf _ _).trans (State.offWire_makeResident hu)

@[simp] theorem State.offWire_grantCredits (i : Nat) : (s.grantCredits i).offWire = s.offWire := by
  unfold State.grantCredits
  split
  · rfl
  · split
    · rfl
    · exact s.offWire_withRecord i fun _ _ => by simp

end

end Sys2Proof.Machine
end

section
/-!
WINDOW_BOUNDARY (R5, R27, R331, R432, R435): laws of its parts, in the order in which it runs them, and what it comes to.
-/
namespace Sys2Proof.Machine

/-! Snapshots of the counter blocks (R331). -/

theorem getD_zipIdx_map {α : Type} (f : α × Nat → α) (l : List α) (d : α) (c : Nat) :
    (l.zipIdx.map f).getD c d = if c < l.length then f (l.getD c d, c) else d := by
  by_cases h : c < l.length <;> simp [List.getD_eq_getElem?_getD, h]

/-- A context that is not FREE shows the counts of the instant, under the next number (R331). -/
theorem State.ctx_snapshot_of_used {s : State} {c : Nat} (hused : (s.ctxSet c).state ≠ .free)
    (hc : c < s.ctxs.length) :
    s.snapshot.ctx c =
      { s.ctx c with counters := ⟨(s.ctx c).counters.live, (s.ctx c).counters.live, (s.ctx c).counters.seq + 2,
                                  s.window⟩ } :=
  (getD_zipIdx_map ..).trans ((if_pos hc).trans (if_neg hused))

/-- A FREE context is not snapshot (R331). -/
theorem State.ctx_snapshot_of_free {s : State} {c : Nat} (hfree : (s.ctxSet c).state = .free) :
    s.snapshot.ctx c = s.ctx c := by
  refine (getD_zipIdx_map ..).trans ?_
  split
  · exact if_pos hfree
  next hc => exact (List.getD_eq_default _ _ (Nat.le_of_not_lt hc)).symm

/-! Owner bits (R27). -/

/-- What a change of owner bits leaves alone. -/
def State.offClusters (s : State) : State := { s with clusters := [], drbgs := [], rounds := [], draws := 0 }

section
variable (s : State)

/-- States with the same clusters have the same cluster at each place. -/
theorem State.cluster_congr {s t : State} (h : t.clusters = s.clusters) (i : Nat) : t.cluster i = s.cluster i := by
  unfold State.cluster
  rw [h]

@[simp] theorem State.skipBank_clusters (p : Nat) (b : Bank) : (s.skipBank p b).clusters = s.clusters := by
  unfold State.skipBank
  split <;> rfl

@[simp] theorem State.offClusters_skipBank (p : Nat) (b : Bank) : (s.skipBank p b).offClusters = s.offClusters := by
  unfold State.skipBank
  split <;> rfl

@[simp] theorem State.instantiateDrbgs_clusters (k : Nat) : (s.instantiateDrbgs k).clusters = s.clusters := by
  unfold State.instantiateDrbgs
  apply foldl_keeps State.clusters
  intros
  rfl

@[simp] theorem State.offClusters_instantiateDrbgs (k : Nat) : (s.instantiateDrbgs k).offClusters = s.offClusters := by
  unfold State.instantiateDrbgs
  apply foldl_keeps State.offClusters
  intros
  rfl

@[simp] theorem State.offClusters_updCluster (k : Nat) (f : Cluster → Cluster) :
    (s.updCluster k f).offClusters = s.offClusters := rfl

@[simp] theorem State.offClusters_stopCluster (k : Nat) : (s.stopCluster k).offClusters = s.offClusters := by
  unfold State.stopCluster
  exact foldl_keeps State.offClusters (fun _ _ => State.offClusters_skipBank ..) ..

theorem State.stopCluster_clusters (k : Nat) :
    (s.stopCluster k).clusters =
      updAt s.clusters k fun c => { c with span := none, banks := [], ahead := none } := by
  unfold State.stopCluster
  exact congrArg (updAt · k _) (foldl_keeps State.clusters (fun _ _ => State.skipBank_clusters ..) ..)

@[simp] theorem State.offClusters_ownerChange (k : Nat) : (s.ownerChange k).offClusters = s.offClusters := by
  unfold State.ownerChange
  dsimp only
  split
  · rfl
  · repeat' split
    all_goals simp

@[simp] theorem State.ownerChange_hal (k : Nat) : (s.ownerChange k).hal = s.hal :=
  (congrArg State.hal (s.offClusters_ownerChange k) :)

/-- A change of the owner bit touches its own cluster only; one that is a full window old takes effect (R27). -/
theorem State.ownerChange_clusters (k : Nat) :
    ∃ f, (s.ownerChange k).clusters = updAt s.clusters k f ∧
      ∀ o b, (s.cluster k).request = some (o, b) → b + 256 ≤ s.hal.beatCount →
        ∀ c, (f c).owner = o ∧ (f c).request = none := by
  unfold State.ownerChange
  dsimp only
  split
  next hnone => exact ⟨id, (List.modify_id ..).symm, by simp [hnone]⟩
  next o b hsome =>
    split
    next =>
      have hdone : ∀ u : State, (if o = .service ∧ (s.cluster k).owner ≠ .service then u.instantiateDrbgs k
          else u).clusters = u.clusters := fun u => by split <;> simp
      rw [hdone]
      by_cases ho : o = .maintenance
      · rw [if_pos ho]
        refine ⟨_, (congrArg (updAt · k _) (s.stopCluster_clusters k)).trans (List.modify_modify_eq ..), ?_⟩
        simp_all
      · rw [if_neg ho]
        exact ⟨_, rfl, by simp_all⟩
    next hwait =>
      refine ⟨id, (List.modify_id ..).symm, fun o' b' hreq hdue => ?_⟩
      simp only [hsome, Option.some.injEq, Prod.mk.injEq] at hreq
      simp [hreq.2, hdue] at hwait

/-- The clusters other than its own stay as they are. -/
theorem State.ownerChange_cluster_ne {i k : Nat} (h : i ≠ k) : (s.ownerChange k).cluster i = s.cluster i := by
  obtain ⟨f, hf, -⟩ := s.ownerChange_clusters k
  simp [State.cluster, hf, updAt, List.getD_eq_getElem?_getD, h.symm]

@[simp] theorem State.ownerChange_clusters_length (k : Nat) :
    (s.ownerChange k).clusters.length = s.clusters.length := by
  obtain ⟨f, hf, -⟩ := s.ownerChange_clusters k
  simp [hf, updAt]

theorem State.ownerChange_due {k b : Nat} {o : Owner} (hk : k < s.clusters.length)
    (hreq : (s.cluster k).request = some (o, b)) (hdue : b + 256 ≤ s.hal.beatCount) :
    ((s.ownerChange k).cluster k).owner = o ∧ ((s.ownerChange k).cluster k).request = none := by
  obtain ⟨f, hf, hown⟩ := s.ownerChange_clusters k
  have hcl : (s.ownerChange k).cluster k = f (s.cluster k) := by
    simp [State.cluster, hf, updAt, List.getD_eq_getElem?_getD, hk]
  rw [hcl]
  exact hown o b hreq hdue _

@[simp] theorem State.offClusters_ownerChanges : s.ownerChanges.offClusters = s.offClusters :=
  foldl_keeps State.offClusters (fun _ _ => State.offClusters_ownerChange ..) _ s

end

/-- Owner bits of other clusters do not matter to one of them. -/
theorem ownerChange_foldl_cluster_of_not_mem {i : Nat} (l : List Nat) (h : i ∉ l) (s : State) :
    (l.foldl (fun s i => s.ownerChange i) s).cluster i = s.cluster i := by
  induction l generalizing s with
  | nil => rfl
  | cons k l ih =>
    obtain ⟨hk, hl⟩ := List.ne_and_not_mem_of_not_mem_cons h
    exact (ih hl _).trans (s.ownerChange_cluster_ne hk)

/-- A requested change a full window old takes effect among all of them (R27). -/
theorem State.ownerChanges_due {s : State} {i b : Nat} {o : Owner} (hi : i < 64) (hlen : s.clusters.length = 64)
    (hreq : (s.cluster i).request = some (o, b)) (hdue : b + 256 ≤ s.hal.beatCount) :
    (s.ownerChanges.cluster i).owner = o ∧ (s.ownerChanges.cluster i).request = none := by
  obtain ⟨l₁, l₂, hl⟩ := List.append_of_mem (List.mem_range.mpr hi)
  have hnodup : (l₁ ++ i :: l₂).Nodup := hl ▸ List.nodup_range
  obtain ⟨hi₁, hi₂⟩ : i ∉ l₁ ∧ i ∉ l₂ := by
    simpa using (List.nodup_cons.mp (List.nodup_middle.mp hnodup)).1
  unfold State.ownerChanges
  rw [hl, List.foldl_append, List.foldl_cons, ownerChange_foldl_cluster_of_not_mem l₂ hi₂]
  have hhal : (l₁.foldl (fun s i => s.ownerChange i) s).hal = s.hal :=
    foldl_keeps State.hal (fun u k => u.ownerChange_hal k) ..
  have hlen₁ : (l₁.foldl (fun s i => s.ownerChange i) s).clusters.length = 64 :=
    (foldl_keeps (fun u : State => u.clusters.length) (fun u k => u.ownerChange_clusters_length k) ..).trans hlen
  apply State.ownerChange_due (b := b)
  · rwa [hlen₁]
  · rwa [ownerChange_foldl_cluster_of_not_mem l₁ hi₁]
  · rwa [hhal]

/-! Handover of the Jack (R432). -/

/-- What a handover leaves alone. -/
def State.offLead (s : State) : State := { s.unrecorded with lead := .reset, journal := .reset, out := [] }

section
variable (s : State)

@[simp] theorem State.journal1_lead (kind : Nat) (ctx : Option Nat) (body : Bytes) :
    (s.journal1 kind ctx body).lead = s.lead := by
  unfold State.journal1
  dsimp only
  split <;> simp

@[simp] theorem State.journal1_aon (kind : Nat) (ctx : Option Nat) (body : Bytes) :
    (s.journal1 kind ctx body).aon = s.aon := by
  unfold State.journal1
  dsimp only
  split <;> simp

@[simp] theorem State.offLead_record (code source : Nat) (ctx : Option Nat) (p : Bytes) :
    (s.record code source ctx p).offLead = s.offLead := by
  simp [State.offLead, State.record_unrecorded]

@[simp] theorem State.offLead_journal1 (kind : Nat) (ctx : Option Nat) (body : Bytes) :
    (s.journal1 kind ctx body).offLead = s.offLead := by
  unfold State.journal1
  dsimp only
  split
  · exact State.offLead_record ..
  · rfl

@[simp] theorem State.offLead_updCp (i : Nat) (f : Cp → Cp) : (s.updCp i f).offLead = s.offLead := by
  unfold State.updCp
  split <;> rfl

@[simp] theorem State.offLead_grant (i : Nat) : (s.grant i).offLead = s.offLead := by
  unfold State.grant
  exact (State.offLead_record ..).trans (State.offLead_updCp ..)

@[simp] theorem State.offLead_handOver (i : Nat) : (s.handOver i).offLead = s.offLead := by
  unfold State.handOver
  exact (State.offLead_grant ..).trans ((State.offLead_updCp ..).trans (State.offLead_journal1 ..))

@[simp] theorem State.offLead_handOverDue : s.handOverDue.offLead = s.offLead := by
  unfold State.handOverDue
  split
  · split
    · rfl
    · split
      · exact State.offLead_handOver ..
      · rfl
  · rfl
  · rfl

theorem State.handOverDue_clusters : s.handOverDue.clusters = s.clusters :=
  (congrArg State.clusters s.offLead_handOverDue :)

@[simp] theorem State.updCp_aon (i : Nat) (f : Cp → Cp) : (s.updCp i f).aon = s.aon := by
  unfold State.updCp
  split <;> rfl
@[simp] theorem State.updCp_epoch (i : Nat) (f : Cp → Cp) : (s.updCp i f).lead.epoch = s.lead.epoch := by
  unfold State.updCp
  split <;> rfl
@[simp] theorem State.updCp_grantedThisStart (i : Nat) (f : Cp → Cp) :
    (s.updCp i f).lead.grantedThisStart = s.lead.grantedThisStart := by
  unfold State.updCp
  split <;> rfl

/-- Burgee has granted the Jack to CP `i` at an instant, after a lease of epoch `e`: the takeover begins, and no CP leads
before it ends (R428, R442). -/
structure Lead.Granted (e : Nat) (first : Bool) (aon i : Nat) (t : Lead) : Prop where
  holder : t.holder = some i
  epoch : t.epoch = e % 0xFFFFFFFF + 1
  expiry : t.expiry = aon + 1000 * tickMs
  takeover : t.takeover = some ⟨i, e % 0xFFFFFFFF + 1, first⟩
  cp0 : t.cp0.leads = false
  cp1 : t.cp1.leads = false
  handover : t.handover = none

theorem State.granted_grant {e aon : Nat} {first : Bool} (i : Nat) (he : s.lead.epoch = e)
    (hfirst : (!s.lead.grantedThisStart) = first) (haon : s.aon = aon) :
    Lead.Granted e first aon i (s.grant i).lead := by
  subst he hfirst haon
  unfold State.grant
  simp only [State.record_lead, State.emit_lead]
  unfold State.updCp
  constructor <;> split <;> rfl

theorem State.granted_handOver (i : Nat) :
    Lead.Granted s.lead.epoch (!s.lead.grantedThisStart) s.aon (1 - i) (s.handOver i).lead := by
  unfold State.handOver
  exact State.granted_grant _ _ (by simp) (by simp) (by simp)

/-- A handover that is due and that nothing hinders takes place (R432). -/
theorem State.handOverDue_of_due {b i : Nat} (hhand : s.lead.handover = some b) (hlead : s.leaderCp = some i)
    (hdue : b ≤ s.hal.beatCount) (hlag : s.mirrorLag = 0) (hhold : s.lead.hold = none)
    (htake : s.lead.takeover = none) (hrun : s.cpRuns (1 - i) = true) : s.handOverDue = s.handOver i := by
  have hmay : s.mayHandOver i = true := by simp [State.mayHandOver, State.inHold, hhold, htake, hlag, hrun]
  simp [State.handOverDue, hhand, hlead, hdue, hlag, hmay]

theorem State.handOverDue_of_none (h : s.lead.handover = none) : s.handOverDue = s := by
  simp [State.handOverDue, h]

end

/-! Rounds at a window boundary (R43, R44, R166, R315, R435). -/

@[simp] theorem Round.queueShamir_openWindows (r : Round) (im : PlanImage) (t : Nat) :
    (r.queueShamir im t).openWindows = r.openWindows := by
  unfold Round.queueShamir
  dsimp only
  split
  · rfl
  · apply foldl_keeps Round.openWindows
    intros
    rfl

@[simp] theorem Round.queueShamir_closedWindows (r : Round) (im : PlanImage) (t : Nat) :
    (r.queueShamir im t).closedWindows = r.closedWindows := by
  unfold Round.queueShamir
  dsimp only
  split
  · rfl
  · apply foldl_keeps Round.closedWindows
    intros
    rfl

/-- A boundary that does not count leaves the windows of a round as they are (R435). -/
theorem State.windowRound_windows (s : State) (r : Round) :
    (s.windowRound false r).openWindows = r.openWindows ∧
      (s.windowRound false r).closedWindows = r.closedWindows := by
  unfold State.windowRound
  dsimp only
  split
  · split
    · simp [Round.settleSecrets]
    · simp
  · simp

/-! The command. -/

/-- The transmit allowance of each context is renewed (R328). -/
def State.windowAllow (s : State) : State :=
  { s with ctxs := s.ctxs.zipIdx.map fun x =>
      { x.1 with egress := ⟨4096 * (s.ctxSet x.2).portShare.h0, 4096 * (s.ctxSet x.2).portShare.h1⟩ } }

/-- The connections' part of a window boundary: allowances, credits, what may go, and the drains of window keys (R290, R292,
R328). -/
def State.windowTraffic (s : State) : State :=
  let ids := s.grixo.conns.map Conn.index
  let s := s.windowAllow
  let s := ids.foldl (fun s i => s.lapseCredits i) s
  let s := ids.foldl (fun s i => s.grantCredits i) s
  let s := ids.foldl (fun s i => s.pump i) s
  { s with grixo := { s.grixo with windowKeys := s.grixo.windowKeys.map fun (k : WindowKey) =>
    { k with draining := k.draining.map fun (d : Nat × Nat) => (d.1, d.2 - 1) } } }

/-- The rounds' part of a window boundary, which HOLD does not count, nor the boundary at which it ends (R435, R437). -/
def State.windowRounds (s : State) : State :=
  let ended := s.lead.holdBeat == s.hal.beatCount && s.lead.holdBeat != 0
  { s with rounds := s.rounds.map (s.windowRound (!s.inHold && !ended)) }

/-- The window has begun and its snapshots are taken. -/
def State.windowOpen (s : State) : State :=
  (s.updHal fun h => { h with windowDone := some (h.beatCount / 256) }).snapshot

/-- The state at a window boundary up to the changes that HOLD puts off. -/
def State.windowHead (s : State) : State := s.windowOpen.windowTraffic.windowRounds

/-- The state after a window boundary (R5): owner bits and handovers wait in HOLD (R435). -/
def State.windowTail (s : State) : State := if s.inHold then s else s.ownerChanges.handOverDue

/-- What a window boundary leaves alone. -/
def State.offWindow (s : State) : State :=
  { s.unrecorded with hal := .reset, lead := .reset, journal := .reset, ctxs := [], clusters := [], drbgs := [], rounds := [],
                      grixo := .reset, stats := .reset, draws := 0, out := [] }

/-- A state that agrees with another outside of what a window boundary changes, written as an update of it. -/
theorem State.eq_of_offWindow_eq {s t : State} (h : t.offWindow = s.offWindow) :
    t = { s with set := t.set, setA := t.setA, setB := t.setB, slotB := t.slotB, recorder := t.recorder, hal := t.hal,
                 lead := t.lead, journal := t.journal, mgmt := t.mgmt, ctxs := t.ctxs, clusters := t.clusters,
                 drbgs := t.drbgs, rounds := t.rounds, grixo := t.grixo, stats := t.stats, draws := t.draws,
                 out := t.out } :=
  congrArg (fun x : State =>
    { x with set := t.set, setA := t.setA, setB := t.setB, slotB := t.slotB, recorder := t.recorder, hal := t.hal,
             lead := t.lead, journal := t.journal, mgmt := t.mgmt, ctxs := t.ctxs, clusters := t.clusters,
             drbgs := t.drbgs, rounds := t.rounds, grixo := t.grixo, stats := t.stats, draws := t.draws,
             out := t.out }) h

section
variable (s : State)

theorem exec_windowBoundary (hwin : s.hal.beatCount % 256 = 0) (hdone : s.hal.windowDone ≠ some (s.hal.beatCount / 256))
    (hfrozen : s.hal.frozen = false) (ht0 : s.start.t0.isSome = true) :
    exec .windowBoundary s = .next s.windowHead.windowTail := by
  have hnone : s.start.t0.isNone = false := by simpa [Option.isNone_eq_false_iff] using ht0
  have hguard : ¬ ((!s.atWindow || s.hal.windowDone == some s.window || s.hal.frozen || s.start.t0.isNone) = true) := by
    simp [State.atWindow, State.window, hwin, hdone, hfrozen, hnone]
  change execWindowBoundary s = _
  unfold execWindowBoundary
  rw [if_neg hguard]
  rfl

theorem State.offWire_windowAllow : s.windowAllow.offWire = s.offWire := by
  have hctxs : s.windowAllow.ctxs.map Ctx.unmetered = s.ctxs.map Ctx.unmetered := by
    unfold State.windowAllow
    apply List.ext_getElem
    · simp
    · intro j h₁ h₂
      simp [Ctx.unmetered]
  exact congrArg (fun l => { s.unrecorded with grixo := .reset, out := [], ctxs := l }) hctxs

theorem State.offWire_windowTraffic : s.windowTraffic.offWire = s.offWire := by
  have hlapse := foldl_keeps State.offWire State.offWire_lapseCredits
  have hgrant := foldl_keeps State.offWire State.offWire_grantCredits
  have hpump := foldl_keeps State.offWire State.offWire_pump
  unfold State.windowTraffic
  exact (hpump ..).trans ((hgrant ..).trans ((hlapse ..).trans s.offWire_windowAllow))

/-! What the head leaves alone, read off the frame of the traffic. -/

theorem State.windowHead_hal :
    s.windowHead.hal = { s.hal with windowDone := some (s.hal.beatCount / 256) } :=
  (congrArg State.hal s.windowOpen.offWire_windowTraffic :)

theorem State.windowHead_lead : s.windowHead.lead = s.lead :=
  (congrArg State.lead s.windowOpen.offWire_windowTraffic :)

theorem State.windowHead_journal : s.windowHead.journal = s.journal :=
  (congrArg State.journal s.windowOpen.offWire_windowTraffic :)

theorem State.windowHead_clusters : s.windowHead.clusters = s.clusters :=
  (congrArg State.clusters s.windowOpen.offWire_windowTraffic :)

theorem State.offWindow_windowHead : s.windowHead.offWindow = s.offWindow :=
  (congrArg State.offWindow s.windowOpen.offWire_windowTraffic :)

theorem State.inHold_windowHead : s.windowHead.inHold = s.inHold := by
  unfold State.inHold
  rw [s.windowHead_lead]

/-- What a context does not meter is as the snapshot left it. -/
theorem State.ctx_unmetered_windowHead (c : Nat) :
    (s.windowHead.ctx c).unmetered = (s.windowOpen.ctx c).unmetered := by
  have h : s.windowHead.ctxs.map Ctx.unmetered = s.windowOpen.ctxs.map Ctx.unmetered :=
    (congrArg State.ctxs s.windowOpen.offWire_windowTraffic :)
  have hget (l : List Ctx) : (l.map Ctx.unmetered).getD c .reset = (l.getD c .reset).unmetered :=
    List.getD_map l Ctx.reset Ctx.unmetered
  exact (hget _).symm.trans ((congrArg (List.getD · c .reset) h).trans (hget _))

/-- In HOLD the head counts no window in any round (R435). -/
theorem State.windowHead_windows (h : s.inHold = true) :
    s.windowHead.rounds.map Round.openWindows = s.rounds.map Round.openWindows ∧
      s.windowHead.rounds.map Round.closedWindows = s.rounds.map Round.closedWindows := by
  have hrounds : s.windowOpen.windowTraffic.rounds = s.rounds :=
    (congrArg State.rounds s.windowOpen.offWire_windowTraffic :)
  have hhold : s.windowOpen.windowTraffic.inHold = true := s.inHold_windowHead.trans h
  have hhead : s.windowHead.rounds = s.rounds.map (s.windowOpen.windowTraffic.windowRound false) := by
    simp [State.windowHead, State.windowRounds, hhold, hrounds]
  rw [hhead]
  constructor
  · simp [Function.comp_def, (State.windowRound_windows _ _).1]
  · simp [Function.comp_def, (State.windowRound_windows _ _).2]

/-! What the tail leaves alone. -/

theorem State.windowTail_of_hold {s : State} (h : s.inHold = true) : s.windowTail = s := by
  simp [State.windowTail, h]

theorem State.windowTail_of_no_hold {s : State} (h : s.inHold = false) :
    s.windowTail = s.ownerChanges.handOverDue := by
  simp [State.windowTail, h]

/-- What both the owner bits and a handover leave alone, the tail leaves alone. -/
theorem State.windowTail_keeps {β : Type} (π : State → β) (hlead : ∀ u : State, π u.offLead = π u)
    (hcl : ∀ u : State, π u.offClusters = π u) : π s.windowTail = π s := by
  unfold State.windowTail
  split
  · rfl
  · calc π s.ownerChanges.handOverDue
      _ = π s.ownerChanges.handOverDue.offLead := (hlead _).symm
      _ = π s.ownerChanges := by rw [State.offLead_handOverDue, hlead]
      _ = π s.ownerChanges.offClusters := (hcl _).symm
      _ = π s := by rw [State.offClusters_ownerChanges, hcl]

theorem State.windowTail_hal : s.windowTail.hal = s.hal :=
  s.windowTail_keeps State.hal (fun _ => rfl) fun _ => rfl

theorem State.windowTail_ctx (c : Nat) : s.windowTail.ctx c = s.ctx c :=
  s.windowTail_keeps (fun u => u.ctx c) (fun _ => rfl) fun _ => rfl

theorem State.offWindow_windowTail : s.windowTail.offWindow = s.offWindow :=
  s.windowTail_keeps State.offWindow (fun _ => rfl) fun _ => rfl

end

/-! What the command comes to. -/

section
variable (s : State)

/-- The counts that a reader finds after the boundary are those of the snapshot (R331). -/
theorem State.window_shown_seq (c : Nat) :
    (s.windowHead.windowTail.ctx c).counters.shown = (s.windowOpen.ctx c).counters.shown ∧
      (s.windowHead.windowTail.ctx c).counters.seq = (s.windowOpen.ctx c).counters.seq := by
  have hmeter := s.ctx_unmetered_windowHead c
  rw [State.windowTail_ctx]
  exact ⟨(congrArg (fun x : Ctx => x.counters.shown) hmeter :), (congrArg (fun x : Ctx => x.counters.seq) hmeter :)⟩

theorem State.window_counters_of_used {c : Nat} (hused : (s.ctxSet c).state ≠ .free) (hc : c < s.ctxs.length) :
    (s.windowHead.windowTail.ctx c).counters.shown = (s.ctx c).counters.live ∧
      (s.windowHead.windowTail.ctx c).counters.seq = (s.ctx c).counters.seq + 2 := by
  obtain ⟨hshown, hseq⟩ := s.window_shown_seq c
  have hopen : s.windowOpen.ctx c = _ := State.ctx_snapshot_of_used (s := s.updHal _) hused hc
  rw [hshown, hseq, hopen]
  exact ⟨rfl, rfl⟩

theorem State.window_counters_of_free {c : Nat} (hfree : (s.ctxSet c).state = .free) :
    (s.windowHead.windowTail.ctx c).counters.shown = (s.ctx c).counters.shown := by
  have hopen : s.windowOpen.ctx c = s.ctx c := State.ctx_snapshot_of_free (s := s.updHal _) hfree
  rw [(s.window_shown_seq c).1, hopen]

/-- Outside HOLD an owner bit a full window old takes effect (R27). -/
theorem State.window_owner {i b : Nat} {o : Owner} (hlen : s.clusters.length = 64) (hhold : s.inHold = false)
    (hreq : (s.cluster i).request = some (o, b)) (hdue : b + 256 ≤ s.hal.beatCount) (hi : i < 64) :
    (s.windowHead.windowTail.cluster i).owner = o ∧ (s.windowHead.windowTail.cluster i).request = none := by
  rw [State.windowTail_of_no_hold (s.inHold_windowHead.trans hhold), State.cluster_congr (State.handOverDue_clusters _)]
  have hbeat : s.windowHead.hal.beatCount = s.hal.beatCount := (congrArg Halyard.beatCount s.windowHead_hal :)
  refine State.ownerChanges_due (b := b) hi ?_ ?_ ?_
  · rw [s.windowHead_clusters]; exact hlen
  · rw [State.cluster_congr s.windowHead_clusters]; exact hreq
  · rw [hbeat]; exact hdue

/-- What neither the traffic, nor the rounds, nor the owner bits touch is as it stood when the window began. -/
theorem State.window_ownerChanges_keeps {β : Type} (π : State → β) (hwire : ∀ u : State, π u.offWire = π u)
    (hrounds : ∀ u : State, π u.windowRounds = π u) (hcl : ∀ u : State, π u.offClusters = π u) :
    π s.windowHead.ownerChanges = π s.windowOpen :=
  calc π s.windowHead.ownerChanges
    _ = π s.windowHead.ownerChanges.offClusters := (hcl _).symm
    _ = π s.windowOpen.windowTraffic := by
      rw [State.offClusters_ownerChanges, hcl, State.windowHead, hrounds]
    _ = π s.windowOpen.windowTraffic.offWire := (hwire _).symm
    _ = π s.windowOpen := by rw [State.offWire_windowTraffic, hwire]

/-- Outside HOLD a handover that is due and that nothing hinders grants the Jack to the other CP (R432). -/
theorem State.window_handover {b i : Nat} (hhold : s.lead.hold = none) (hhand : s.lead.handover = some b)
    (hdue : b ≤ s.hal.beatCount) (hlag : s.mirrorLag = 0) (hlead : s.leaderCp = some i)
    (htake : s.lead.takeover = none) (hrun : s.cpRuns (1 - i) = true) :
    Lead.Granted s.lead.epoch (!s.lead.grantedThisStart) s.aon (1 - i) s.windowHead.windowTail.lead := by
  have keeps {β : Type} (π : State → β) := s.window_ownerChanges_keeps π
  have hl : s.windowHead.ownerChanges.lead = s.lead := keeps _ (fun _ => rfl) (fun _ => rfl) fun _ => rfl
  have haon : s.windowHead.ownerChanges.aon = s.aon := keeps _ (fun _ => rfl) (fun _ => rfl) fun _ => rfl
  have hbeat : s.windowHead.ownerChanges.hal.beatCount = s.hal.beatCount :=
    keeps (fun u => u.hal.beatCount) (fun _ => rfl) (fun _ => rfl) fun _ => rfl
  have hlag' : s.windowHead.ownerChanges.mirrorLag = s.mirrorLag := keeps _ (fun _ => rfl) (fun _ => rfl) fun _ => rfl
  have hlead' : s.windowHead.ownerChanges.leaderCp = s.leaderCp := keeps _ (fun _ => rfl) (fun _ => rfl) fun _ => rfl
  have hrun' : s.windowHead.ownerChanges.cpRuns (1 - i) = s.cpRuns (1 - i) :=
    keeps (fun u => u.cpRuns (1 - i)) (fun _ => rfl) (fun _ => rfl) fun _ => rfl
  have hinHold : s.windowHead.inHold = false := by
    rw [s.inHold_windowHead, State.inHold, hhold, Option.isSome_none]
  have hover : s.windowHead.windowTail = s.windowHead.ownerChanges.handOver i := by
    rw [State.windowTail_of_no_hold hinHold]
    refine State.handOverDue_of_due (b := b) _ ?_ (hlead'.trans hlead) ?_ (hlag'.trans hlag) ?_ ?_ (hrun'.trans hrun)
    · rw [hl]; exact hhand
    · rw [hbeat]; exact hdue
    · rw [hl]; exact hhold
    · rw [hl]; exact htake
  rw [hover, ← hl, ← haon]
  exact State.granted_handOver ..

/-- Without a handover the Jack and the journal stay as they are. -/
theorem State.window_no_handover (h : s.lead.handover = none) :
    s.windowHead.windowTail.lead = s.lead ∧ s.windowHead.windowTail.journal = s.journal := by
  have hl : s.windowHead.ownerChanges.lead = s.lead :=
    s.window_ownerChanges_keeps _ (fun _ => rfl) (fun _ => rfl) fun _ => rfl
  have hj : s.windowHead.ownerChanges.journal = s.journal :=
    s.window_ownerChanges_keeps _ (fun _ => rfl) (fun _ => rfl) fun _ => rfl
  unfold State.windowTail
  split
  · exact ⟨s.windowHead_lead, s.windowHead_journal⟩
  · rw [State.handOverDue_of_none _ (by rw [hl]; exact h)]
    exact ⟨hl, hj⟩

end

/-- Settles O3, part by part: the snapshot, the owner bits, the handover, HOLD, and the frame. -/
theorem windowBoundaryActs : Obligations.WindowBoundaryActs := by
  unfold Obligations.WindowBoundaryActs
  intro s hwin hdone hfrozen ht0 hlen
  refine ⟨_, exec_windowBoundary s hwin hdone hfrozen ht0, ?hal, ?used, ?free, ?owner, ?handover, ?noHandover, ?hold,
    ?frame⟩
  case hal => exact s.windowHead.windowTail_hal.trans s.windowHead_hal
  case used => exact fun c hused hc => s.window_counters_of_used hused hc
  case free => exact fun c hfree => s.window_counters_of_free hfree
  case owner =>
    intro i o b hhold hreq hdue hi
    exact s.window_owner hlen (by rw [State.inHold, hhold, Option.isSome_none]) hreq hdue hi
  case handover =>
    intro b i hhold hhand hdue hlag hlead htake hrun
    have h := s.window_handover hhold hhand hdue hlag hlead htake hrun
    exact ⟨h.holder, h.epoch, h.expiry, h.takeover, h.cp0, h.cp1, h.handover⟩
  case noHandover => exact s.window_no_handover
  case hold =>
    intro hhold
    rw [State.windowTail_of_hold (s.inHold_windowHead.trans hhold)]
    obtain ⟨hopen, hclosed⟩ := s.windowHead_windows hhold
    exact ⟨hopen, hclosed, s.windowHead_clusters, s.windowHead_lead⟩
  case frame => exact State.eq_of_offWindow_eq (s.windowHead.offWindow_windowTail.trans s.offWindow_windowHead)

end Sys2Proof.Machine
end

section
/-!
The state after POWER-ON of a new module (R28, R69, R309, R321, R474): what each place of it reads.
-/
namespace Sys2Proof.Machine

theorem State.reset_cluster {i : Nat} (h : i < 64) : State.reset.cluster i = .reset (i / 16) (i % 16) := by
  have hget : clustersReset[i]? = some (.reset (i / 16) (i % 16)) := by
    rw [clustersReset, List.getElem?_map, List.getElem?_range h, Option.map_some]
  exact congrArg (Option.getD · (.reset 0 0)) hget

/-! A place outside the table of contexts, plans or virtual functions reads its reset value too. -/

@[simp] theorem State.reset_ctx (c : Nat) : State.reset.ctx c = .reset := List.getElem?_getD_replicate_default_eq _ 16 c
@[simp] theorem State.reset_ctxSet (c : Nat) : State.reset.ctxSet c = .default :=
  List.getElem?_getD_replicate_default_eq _ 16 c
@[simp] theorem State.reset_plan (c : Nat) : State.reset.plan c = .reset :=
  List.getElem?_getD_replicate_default_eq _ 16 c
@[simp] theorem State.reset_vf (v : Nat) : State.reset.vf v = .reset := List.getElem?_getD_replicate_default_eq _ 32 v

/-- No VF is bound while its context is FREE (R307). -/
theorem State.bound_of_free {s : State} {v : Nat} (h : (s.ctxSet (vfCtx v)).state = .free) : s.bound v = false := by
  simp [State.bound, h]

/-- The vectors of a VF are masked, and none is pending (R309). -/
theorem Vf.reset_vectors : Vf.reset.msix.length = 66 ∧ (∀ m ∈ Vf.reset.msix, m.masked = true) ∧
    ∀ b ∈ Vf.reset.pba, b = false := by
  refine ⟨List.length_replicate, fun m hm => ?_, fun b hb => List.eq_of_mem_replicate hb⟩
  rw [List.eq_of_mem_replicate hm]

theorem State.reset_memOk : State.reset.MemOk := fun c => by
  rw [State.reset_ctx]
  rfl

/-- Settles O59: the tables place by place, then the fields of the module. -/
theorem resetValues : Obligations.ResetValues := by
  unfold Obligations.ResetValues
  refine ⟨?cluster, ?context, ?vf, rfl, rfl, rfl, rfl, rfl, rfl, rfl, rfl, rfl, rfl, rfl, rfl, rfl, rfl, rfl, rfl, rfl,
    rfl, rfl, State.reset_memOk⟩
  case cluster =>
    intro i hi
    rw [State.reset_cluster hi]
    exact ⟨rfl, rfl⟩
  case context =>
    intro c _
    rw [State.reset_ctxSet, State.reset_plan]
    exact ⟨rfl, rfl⟩
  case vf =>
    intro v _
    have hbound : State.reset.bound v = false := State.bound_of_free (by rw [State.reset_ctxSet]; rfl)
    rw [State.reset_vf]
    exact ⟨hbound, rfl, rfl, rfl, rfl, rfl, rfl, rfl, rfl, rfl, rfl, rfl, rfl, rfl, Vf.reset_vectors⟩

end Sys2Proof.Machine
end

section
/-!
Emergencies (R32, R80, R81, R409, R410): what declaring one comes to, and the commands that report, clear or warn of one.
-/
namespace Sys2Proof.Machine

/-- What no record touches in the settings. -/
def Settings.unrecorded (p : Settings) : Settings :=
  { p with faultCounts := [], suppressedTotal := 0, traceDropped := 0 }

theorem State.record_set_unrecorded (s : State) (code source : Nat) (ctx : Option Nat) (p : Bytes) :
    (s.record code source ctx p).set.unrecorded = s.set.unrecorded := by
  unfold State.record
  dsimp only
  repeat' split
  all_goals simp [Settings.unrecorded]

@[simp] theorem State.record_emergencyCount (s : State) (code source : Nat) (ctx : Option Nat) (p : Bytes) :
    (s.record code source ctx p).set.emergencyCount = s.set.emergencyCount :=
  (congrArg Settings.emergencyCount (s.record_set_unrecorded code source ctx p) :)

/-- What an emergency leaves alone: the state without the Halyard, the power state, the readings and what records touch. -/
def State.offEmergency (s : State) : State :=
  { s.unrecorded with hal := .reset, power := .reset, sensors := .reset }

/-- A state that agrees with another outside of what an emergency touches, written as an update of it. -/
theorem State.eq_of_offEmergency_eq {s t : State} (h : t.offEmergency = s.offEmergency) :
    t = { s with set := t.set, setA := t.setA, setB := t.setB, slotB := t.slotB, recorder := t.recorder,
                 hal := t.hal, power := t.power, sensors := t.sensors, mgmt := t.mgmt } :=
  congrArg (fun x : State =>
    { x with set := t.set, setA := t.setA, setB := t.setB, slotB := t.slotB, recorder := t.recorder,
             hal := t.hal, power := t.power, sensors := t.sensors, mgmt := t.mgmt }) h

/-- An emergency of some kind is in force. -/
def State.emergency (s : State) : Bool := s.power.emergencyThermal || s.power.emergencyElectrical

/-- The shadow count runs on, or from the present instant on (R81). -/
def Halyard.shadowed (h : Halyard) : Halyard := { h with shadow := some (h.shadow.getD ⟨h.beatCount, 0, h.level⟩) }

/-- PL0 is ordered, and a pending change cancelled (R80). -/
def Halyard.orderedDown (h : Halyard) : Halyard :=
  { h with pendingLevel := none
           emergencyDue := if h.level = 0 then h.emergencyDue else some (h.emergencyDue.getD h.beatCount) }

section
variable (s : State) (code : Nat)

theorem State.offEmergency_record (source : Nat) (ctx : Option Nat) (p : Bytes) :
    (s.record code source ctx p).offEmergency = s.offEmergency := by
  simp [State.offEmergency, State.record_unrecorded]

theorem State.offEmergency_persist (f : Settings → Settings) : (s.persist f).offEmergency = s.offEmergency := by
  simp [State.offEmergency, State.unrecorded]

/-- An emergency is counted and recorded, and the shadow count runs. -/
def State.countEmergency (s : State) (code : Nat) : State :=
  ((s.persist fun p => { p with emergencyCount := min (p.emergencyCount + 1) 0xFFFFFFFF }).record code srcBurgee none
    []).updHal Halyard.shadowed

/-- PL0 is ordered, and recorded with the change that it cancels. -/
def State.orderDown (s : State) : State :=
  (match s.hal.pendingLevel with
    | some x => (s.updHal Halyard.orderedDown).record 0x05030008 (srcHoist 0) none (levelPayload x.target x.edge)
    | none => s.updHal Halyard.orderedDown).record 0x04030005 (srcHoist 0) none []

/-- PL0 is ordered where no emergency is in force yet and a Canton is powered. -/
theorem State.declareEmergency_eq : s.declareEmergency code =
    if !(!s.emergency) || s.power.powered &&& cantonBits == 0 then s.countEmergency code
    else (s.countEmergency code).orderDown := by
  rw [← s.persist_power fun p => { p with emergencyCount := min (p.emergencyCount + 1) 0xFFFFFFFF },
    ← State.record_power _ code srcBurgee none []]
  rfl

theorem State.recorded_orderDown : Recorded (s.updHal Halyard.orderedDown) s.orderDown := by
  unfold State.orderDown
  split
  · exact (Recorded.one ..).trans (.one ..)
  · exact .one ..

/-- What neither records nor the Halyard touch, declaring an emergency changes by its count only. -/
theorem State.declareEmergency_keeps {β : Type} (π : State → β)
    (hrec : ∀ (u : State) c so x p, π (u.record c so x p) = π u) (hhal : ∀ (u : State) f, π (u.updHal f) = π u) :
    π (s.declareEmergency code) =
      π (s.persist fun p => { p with emergencyCount := min (p.emergencyCount + 1) 0xFFFFFFFF }) := by
  have hcount : π (s.countEmergency code) = _ := (hhal _ _).trans (hrec ..)
  rw [State.declareEmergency_eq, ← hcount]
  split
  · rfl
  · exact ((State.recorded_orderDown _).keeps π hrec).trans (hhal _ _)

theorem State.declareEmergency_hal : (s.declareEmergency code).hal =
    if !(!s.emergency) || s.power.powered &&& cantonBits == 0 then s.hal.shadowed else s.hal.shadowed.orderedDown := by
  have hcount : (s.countEmergency code).hal = s.hal.shadowed := by simp [State.countEmergency, State.updHal]
  have hdown (u : State) : u.orderDown.hal = u.hal.orderedDown := u.recorded_orderDown.keeps State.hal State.record_hal
  rw [State.declareEmergency_eq]
  split
  · exact hcount
  · rw [hdown, hcount]

theorem State.declareEmergency_power : (s.declareEmergency code).power = s.power :=
  (s.declareEmergency_keeps code State.power State.record_power fun _ _ => rfl).trans (s.persist_power _)

theorem State.declareEmergency_sensors : (s.declareEmergency code).sensors = s.sensors :=
  (s.declareEmergency_keeps code State.sensors State.record_sensors fun _ _ => rfl).trans (s.persist_sensors _)

theorem State.offEmergency_declareEmergency : (s.declareEmergency code).offEmergency = s.offEmergency :=
  (s.declareEmergency_keeps code State.offEmergency State.offEmergency_record fun _ _ => rfl).trans
    (s.offEmergency_persist _)

/-- What declaring an emergency does to the Halyard and the count, and what it leaves alone. -/
structure State.Declares (s t : State) : Prop where
  count : t.set.emergencyCount = min (s.set.emergencyCount + 1) 0xFFFFFFFF
  shadow : t.hal.shadow.isSome = true
  again : s.emergency = true → t.hal = { s.hal with shadow := t.hal.shadow }
  first : s.emergency = false → s.power.powered &&& cantonBits ≠ 0 → s.hal.level ≠ 0 →
    t.hal.pendingLevel = none ∧ t.hal.emergencyDue.isSome = true
  level : t.hal.level = s.hal.level
  beatCount : t.hal.beatCount = s.hal.beatCount
  power : t.power = s.power
  sensors : t.sensors = s.sensors
  frame : t.offEmergency = s.offEmergency

theorem State.declares_declareEmergency : s.Declares (s.declareEmergency code) := by
  have hhal := s.declareEmergency_hal code
  refine ⟨?count, ?shadow, ?again, ?first, ?level, ?beatCount,
    s.declareEmergency_power code, s.declareEmergency_sensors code, s.offEmergency_declareEmergency code⟩
  case count =>
    rw [s.declareEmergency_keeps code (fun u => u.set.emergencyCount) State.record_emergencyCount fun _ _ => rfl]
    rw [State.persist_set]
  case shadow => rw [hhal]; split <;> rfl
  case again => intro hin; rw [hhal, hin]; rfl
  case first =>
    intro hnone hpow hlevel
    rw [hhal, if_neg (by simpa [hnone] using hpow)]
    exact ⟨rfl, by simp [Halyard.orderedDown, Halyard.shadowed, hlevel]⟩
  case level => rw [hhal]; split <;> rfl
  case beatCount => rw [hhal]; split <;> rfl

end

/-- A reading out of bounds declares a thermal emergency (R409). -/
theorem exec_thermalEmergency {s : State} {temp : List Int} {inlet : Int} {flow now : Nat}
    (ht0 : s.start.t0.isSome = true) (hno : s.power.emergencyThermal = false) (hout : 45 < inlet ∨ flow < 150) :
    exec (.thermalEmergency temp inlet flow now) s =
      .next ((((s.at now).publish temp inlet flow).declareEmergency 0x04710001).updPower
        fun p => { p with emergencyThermal := true }) := by
  have hnone : s.start.t0.isNone = false := by simpa [Option.isNone_eq_false_iff] using ht0
  change execThermalEmergency temp inlet flow now s = _
  unfold execThermalEmergency
  simp [hnone, hno, hout]

/-- More than 2,400 W declare an electrical emergency (R32). -/
theorem exec_electricalEmergency {s : State} {watts now : Nat} (ht0 : s.start.t0.isSome = true)
    (hno : s.power.emergencyElectrical = false) (hout : 2400 < watts) :
    exec (.electricalEmergency watts now) s =
      .next ((State.declareEmergency
          { s.at now with sensors := { (s.at now).sensors with inputPower := round5 watts } } 0x04710003).updPower
        fun p => { p with emergencyElectrical := true }) := by
  have hnone : s.start.t0.isNone = false := by simpa [Option.isNone_eq_false_iff] using ht0
  change execElectricalEmergency watts now s = _
  unfold execElectricalEmergency
  simp [hnone, hno, hout]

/-- A record is written, or not. -/
theorem Recorded.ite (b : Bool) (a : State) (code source : Nat) (ctx : Option Nat) (p : Bytes) :
    Recorded a (if b then a.record code source ctx p else a) := by
  cases b
  · exact .refl a
  · exact .one ..

/-- The clearing bound of an electrical emergency in force has held. -/
def State.clearsElectrical (s : State) (watts : Nat) : Bool :=
  s.power.emergencyElectrical && decide (watts ≤ 2200)

/-- The thermal emergency is over, and the electrical one too if its bound has held. -/
def State.clearThermal (s : State) (temp : List Int) (inlet : Int) (flow watts : Nat) : State :=
  let u := s.publish temp inlet flow
  State.updPower { u with sensors := { u.sensors with inputPower := round5 watts } } fun p =>
    { p with emergencyThermal := false
             emergencyElectrical := p.emergencyElectrical && !s.clearsElectrical watts }

theorem State.clearThermal_electrical (s : State) (temp : List Int) (inlet : Int) (flow watts : Nat) :
    (s.clearThermal temp inlet flow watts).power.emergencyElectrical =
      (s.power.emergencyElectrical && !decide (watts ≤ 2200)) := by
  change (s.power.emergencyElectrical && !(s.power.emergencyElectrical && decide (watts ≤ 2200))) = _
  cases s.power.emergencyElectrical <;> rfl

/-- A thermal emergency whose bounds have held is cleared, and each clearance recorded (R409). -/
theorem exec_emergencyClear {s : State} {temp : List Int} {inlet : Int} {flow watts now : Nat}
    (hin : s.power.emergencyThermal = true) (hdie : (s.at now).dieAt temp 91 = false) (hinlet : inlet ≤ 40)
    (hflow : 200 ≤ flow) :
    ∃ t, exec (.emergencyClear temp inlet flow watts now) s = .next t ∧
      Recorded ((s.at now).clearThermal temp inlet flow watts) t := by
  let t := ((s.at now).clearThermal temp inlet flow watts).record 0x05710002 srcBurgee none (leBytes 1 1)
  refine ⟨if (s.at now).clearsElectrical watts then t.record 0x05710002 srcBurgee none (leBytes 1 2) else t, ?_,
    (Recorded.one ..).trans (.ite ..)⟩
  change execEmergencyClear temp inlet flow watts now s = _
  unfold execEmergencyClear
  simp [hin, hdie, hinlet, hflow, t, State.clearThermal, State.clearsElectrical, State.publish]

/-- Outside the operating range, but within the bounds of R409 (R410). -/
theorem exec_coolantWarning {s : State} {inlet : Int} {flow now : Nat} (ht0 : s.start.t0.isSome = true)
    (hno : s.power.emergencyThermal = false) (hwarn : 40 < inlet ∨ flow < 200) (hinlet : inlet ≤ 45)
    (hflow : 150 ≤ flow) :
    exec (.coolantWarning inlet flow now) s =
      .next (State.record { s.at now with sensors := { (s.at now).sensors with inlet := inlet, flow := flow } }
        0x05710005 srcBurgee none []) := by
  have hnone : s.start.t0.isNone = false := by simpa [Option.isNone_eq_false_iff] using ht0
  have hin : ¬ (45 < inlet ∨ flow < 150) := by omega
  change execCoolantWarning inlet flow now s = _
  unfold execCoolantWarning
  simp [hnone, hno, hwarn, hin]

/-- Records written over a change of the power state and of the readings. -/
theorem Recorded.of_power_sensors {a t : State} {p : Power} {x : Sensors}
    (h : Recorded { a with power := p, sensors := x } t) :
    Recorded { a with power := t.power, sensors := t.sensors } t := by
  have hpower : t.power = p := h.keeps State.power State.record_power
  have hsensors : t.sensors = x := h.keeps State.sensors State.record_sensors
  rw [hpower, hsensors]
  exact h

/-- Settles O8: both emergencies are declared alike; a clearance and a warning only record. -/
theorem emergenciesOrderLevel0 : Obligations.EmergenciesOrderLevel0 := by
  unfold Obligations.EmergenciesOrderLevel0
  refine ⟨?thermal, ?electrical, ?clear, ?warning⟩
  case thermal =>
    intro s temp inlet flow now ht0 hno hout
    refine ⟨_, exec_thermalEmergency ht0 hno hout, ?_⟩
    have h := ((s.at now).publish temp inlet flow).declares_declareEmergency 0x04710001
    have hin : ((s.at now).publish temp inlet flow).emergency = s.power.emergencyElectrical := by
      simp [State.emergency, State.publish, hno]
    exact ⟨rfl, (congrArg Power.emergencyElectrical h.power :), h.count, (congrArg Sensors.inlet h.sensors :),
      (congrArg Sensors.flow h.sensors :), h.shadow, fun he => h.again (hin.trans he), fun he => h.first (hin.trans he),
      h.level, h.beatCount, State.eq_of_offEmergency_eq h.frame⟩
  case electrical =>
    intro s watts now ht0 hno hout
    refine ⟨_, exec_electricalEmergency ht0 hno hout, ?_⟩
    have h := State.declares_declareEmergency
      { s.at now with sensors := { (s.at now).sensors with inputPower := round5 watts } } 0x04710003
    have hin : State.emergency { s.at now with sensors := { (s.at now).sensors with inputPower := round5 watts } } =
        s.power.emergencyThermal := by
      simp [State.emergency, hno]
    exact ⟨rfl, (congrArg Power.emergencyThermal h.power :), h.count, (congrArg Sensors.inputPower h.sensors :),
      h.shadow, fun he => h.again (hin.trans he), fun he => h.first (hin.trans he), h.level, h.beatCount,
      State.eq_of_offEmergency_eq h.frame⟩
  case clear =>
    intro s temp inlet flow watts now hin hdie hinlet hflow
    obtain ⟨t, hexec, hrec⟩ := exec_emergencyClear (watts := watts) hin hdie hinlet hflow
    have hpower := hrec.keeps State.power State.record_power
    refine ⟨t, hexec, (congrArg Power.emergencyThermal hpower :), ?_, hrec.of_power_sensors⟩
    exact (congrArg Power.emergencyElectrical hpower).trans ((s.at now).clearThermal_electrical ..)
  case warning =>
    intro s inlet flow now ht0 hno hwarn hinlet hflow
    refine ⟨_, exec_coolantWarning ht0 hno hwarn hinlet hflow, ?_⟩
    rw [State.record_sensors]
    exact ⟨rfl, rfl, .one ..⟩

end Sys2Proof.Machine
end

section
/-!
Places of the state: what a cluster, a round or an owner's tile set reads after an update of its own place, of another
place, or of what does not name it.
-/
namespace Sys2Proof.Machine

/-! Clusters. -/

section
variable {s : State} {i k : Nat}

theorem State.cluster_updCluster_same (h : k < s.clusters.length) (f : Cluster → Cluster) :
    (s.updCluster k f).cluster k = f (s.cluster k) := by
  simp [State.cluster, State.updCluster, updAt, List.getD_eq_getElem?_getD, h]

theorem State.cluster_updCluster_ne (h : i ≠ k) (f : Cluster → Cluster) :
    (s.updCluster k f).cluster i = s.cluster i := by
  simp [State.cluster, State.updCluster, updAt, List.getD_eq_getElem?_getD, h.symm]

/-- An update that keeps what it finds at its place changes nothing. -/
theorem State.updCluster_eq_self {f : Cluster → Cluster} (h : f (s.cluster k) = s.cluster k) :
    s.updCluster k f = s := by
  have hl : updAt s.clusters k f = s.clusters := by
    apply List.ext_getElem
    · simp [updAt]
    · intro j hj₁ hj₂
      simp only [updAt, List.getElem_modify]
      split
      next hkj =>
        subst hkj
        simpa [State.cluster, List.getD_eq_getElem?_getD, hj₂] using h
      next => rfl
  unfold State.updCluster
  rw [hl]

theorem State.updCluster_updCluster (f g : Cluster → Cluster) :
    (s.updCluster k f).updCluster k g = s.updCluster k fun c => g (f c) := by
  simp [State.updCluster, updAt, List.modify_modify_eq, Function.comp_def]

end

/-! Rounds and owners: a list's first element that meets a predicate. -/

/-- Elements that a map keeps in or out of a predicate are found as before. -/
theorem find?_map_of_keeps {α β : Type} {p : α → Bool} {q : β → Bool} {g : α → β} (h : ∀ x, q (g x) = p x)
    (l : List α) : (l.map g).find? q = (l.find? p).map g := by
  have hp : q ∘ g = p := funext h
  rw [List.find?_map, hp]

/-- The first element that an update concerns, after the update. -/
theorem find?_updIf {α : Type} {p : α → Bool} {f : α → α} (h : ∀ x, p x = true → p (f x) = true) (l : List α) :
    (updIf l p f).find? p = (l.find? p).map f := by
  have hkeep : ∀ x, p (if p x then f x else x) = p x := by
    intro x
    split
    next hx => rw [h x hx, hx]
    next => rfl
  unfold updIf
  rw [find?_map_of_keeps hkeep]
  cases hl : l.find? p with
  | none => rfl
  | some x => simp [List.find?_some hl]

/-- An update that keeps what a map reads is not seen by it. -/
theorem updIf_map_of_keeps {α β : Type} (g : α → β) {p : α → Bool} {f : α → α} (h : ∀ x, g (f x) = g x) (l : List α) :
    (updIf l p f).map g = l.map g := by
  unfold updIf
  rw [List.map_map]
  apply List.map_congr_left
  intro x _
  dsimp only [Function.comp_apply]
  split
  · exact h x
  · rfl

/-- Two rounds are the same cohort's, in the same state. -/
structure Round.Same (r q : Round) : Prop where
  ctx : q.ctx = r.ctx
  template : q.template = r.template
  state : q.state = r.state

/-- The round is the current one of a cohort. -/
def Round.isCurrent (r : Round) (c t : Nat) : Bool := r.ctx == c && r.template == t && r.state != .opening

theorem Round.Same.isCurrent {r q : Round} (h : r.Same q) (c t : Nat) : q.isCurrent c t = r.isCurrent c t := by
  simp only [Round.isCurrent, h.ctx, h.template, h.state]

section
variable {s t : State} {c h : Nat} {r : Round}

/-- The current round after an update of it. -/
theorem State.round?_updRound {f : Round → Round} (hf : ∀ r : Round, r.Same (f r)) :
    (s.updRound c h f).round? c h = (s.round? c h).map f := by
  have hkeep : ∀ r : Round, r.isCurrent c h = true → (f r).isCurrent c h = true :=
    fun r hr => ((hf r).isCurrent c h).trans hr
  exact find?_updIf hkeep s.rounds

theorem State.round?_updRound_of_some {f : Round → Round} (hf : ∀ r : Round, r.Same (f r))
    (hr : s.round? c h = some r) : (s.updRound c h f).round? c h = some (f r) := by
  rw [State.round?_updRound hf, hr, Option.map_some]

theorem State.round?_congr (hrounds : t.rounds = s.rounds) : t.round? c h = s.round? c h := by
  unfold State.round?
  rw [hrounds]

/-- States whose rounds read alike have current rounds that read alike. -/
theorem State.round?_map_congr {β : Type} {g : Round → β} {q : β → Bool} (hq : ∀ r, q (g r) = r.isCurrent c h)
    (hrounds : t.rounds.map g = s.rounds.map g) : (t.round? c h).map g = (s.round? c h).map g :=
  calc (t.round? c h).map g
    _ = (t.rounds.map g).find? q := (find?_map_of_keeps hq t.rounds).symm
    _ = (s.rounds.map g).find? q := by rw [hrounds]
    _ = (s.round? c h).map g := find?_map_of_keeps hq s.rounds

end

section
variable {r : Round} {p k : Nat} {o : OwnerSet}

/-- An owner's tile set after an update of it. -/
theorem Round.owner?_updOwner {f : OwnerSet → OwnerSet} (hf : ∀ o : OwnerSet, (f o).isAt p k = o.isAt p k) :
    (r.updOwner p k f).owner? p k = (r.owner? p k).map f := by
  have hkeep : ∀ o : OwnerSet, o.isAt p k = true → (f o).isAt p k = true := fun o ho => (hf o).trans ho
  exact find?_updIf hkeep r.owners

end

end Sys2Proof.Machine
end

section
/-!
Slot issue (R26, R92 to R97): SLOT_ISSUE, CONT, and the opcodes on dummy operands.
-/
namespace Sys2Proof.Machine

section
variable {s : State} {k : Nat}

/-- A cluster without banks has none to drop. -/
theorem State.dropBank_of_no_banks (h : (s.cluster k).banks = []) (e : Nat) : s.dropBank k e = s := by
  unfold State.dropBank
  simp only [h, List.filter_nil, List.foldl_nil]
  apply State.updCluster_eq_self
  rw [h, List.filter_nil, ← h]

/-- The entry that goes to a cluster, with its key header: the one read ahead for this beat, or the one of the table (R92,
R216). -/
def State.slotEntry (s : State) (k p : Nat) : Option (Nat × Descriptor) × Bytes :=
  let now := s.tableEntry p s.entry
  match (s.cluster k).ahead with
  | some (b, e) => if b = s.hal.beatCount then (e, (s.cluster k).aheadKey) else (now, s.readKey now)
  | none => (now, s.readKey now)

theorem State.slotEntry_of_ahead {p : Nat} {e : Option (Nat × Descriptor)}
    (h : (s.cluster k).ahead = some (s.hal.beatCount, e)) : s.slotEntry k p = (e, (s.cluster k).aheadKey) := by
  simp [State.slotEntry, h]

theorem State.slotEntry_of_table {p : Nat} (h : (s.cluster k).ahead = none) :
    s.slotEntry k p = (s.tableEntry p s.entry, s.readKey (s.tableEntry p s.entry)) := by
  simp [State.slotEntry, h]

/-- The next entry is read from the table, with its key header (R92, R216). -/
def State.readAhead (s : State) (k p : Nat) : State :=
  let next := s.tableEntry p ((s.entry + 1) % 4096)
  s.updCluster k fun c => { c with ahead := some (s.hal.beatCount + 1, next), aheadKey := s.readKey next }

/-- What a context does not meter is as it was where all contexts read alike. -/
theorem State.ctx_unmetered_congr {t : State} (h : t.ctxs.map Ctx.unmetered = s.ctxs.map Ctx.unmetered) (c : Nat) :
    (t.ctx c).unmetered = (s.ctx c).unmetered := by
  have hget (l : List Ctx) : (l.map Ctx.unmetered).getD c .reset = (l.getD c .reset).unmetered :=
    List.getD_map l Ctx.reset Ctx.unmetered
  exact (hget _).symm.trans ((congrArg (List.getD · c .reset) h).trans (hget _))

/-- Counting does not touch a context's memory. -/
theorem State.readMem_count (c : Nat) (f : Counters → Counters) (x a n : Nat) :
    (s.count c f).readMem x a n = s.readMem x a n := by
  have hctxs : (s.count c f).ctxs.map Ctx.unmetered = s.ctxs.map Ctx.unmetered := by
    apply updAt_map_of_keeps
    intro
    rfl
  have hctx := State.ctx_unmetered_congr hctxs x
  exact (congrArg (fun y : Ctx => (List.range n).map fun i => memRead (y.unlisted x) y.memory (a + i)) hctx :)

theorem State.readKey_count (c : Nat) (f : Counters → Counters) (e : Option (Nat × Descriptor)) :
    (s.count c f).readKey e = s.readKey e := by
  unfold State.readKey
  simp only [State.readMem_count]
  rfl

/-- A change of the cluster itself does not matter to the entry that is read ahead. -/
theorem State.readAhead_updCluster (p : Nat) (f : Cluster → Cluster) :
    (s.updCluster k f).readAhead k p = s.updCluster k fun x =>
      { f x with
        ahead := some (s.hal.beatCount + 1, s.tableEntry p ((s.entry + 1) % 4096))
        aheadKey := s.readKey (s.tableEntry p ((s.entry + 1) % 4096)) } :=
  State.updCluster_updCluster ..

/-- A SERVICE cluster without banks takes its entry, and the next one is read (R92). -/
theorem exec_slotIssue {p : Nat} (hpos : (s.cluster k).position = some p) (hown : (s.cluster k).owner = .service)
    (hfail : (s.cluster k).failed = false) (hfrozen : s.hal.frozen = false) (hbanks : (s.cluster k).banks = []) :
    exec (.slotIssue k) s = .next ((s.issue k (s.slotEntry k p).1 (s.slotEntry k p).2).readAhead k p) := by
  change execSlotIssue k s = _
  unfold execSlotIssue
  simp only [hpos, hown, hfail, hfrozen, hbanks]
  rfl

/-- A cluster outside SERVICE, or without a position, takes no entry (R26). -/
theorem exec_slotIssue_of_idle (h : (s.cluster k).owner ≠ .service ∨ (s.cluster k).position = none) :
    exec (.slotIssue k) s = .next s := by
  change execSlotIssue k s = _
  unfold execSlotIssue
  dsimp only
  split
  · rfl
  next hpos => rw [if_pos (.inl (h.resolve_right (by simp [hpos])))]

/-- The span that a lead of an entry starts (R93, R94). -/
def State.leadSpan (s : State) (p c : Nat) (d : Descriptor) (key : Bytes) : RunningSpan :=
  { ctx := c, lead := s.entry, beats := 1, desc := d, dummy := !(s.leadReal p c d), done := false, key := key }

/-- A beat of a context counts as real or dummy (R94, R331). -/
def Counters.beat (real : Bool) (n : Counters) : Counters :=
  if real then { n with beatsReal := n.beatsReal + 1 } else { n with beatsDummy := n.beatsDummy + 1 }

theorem State.issue_none (key : Bytes) : s.issue k none key = s.updCluster k fun c => { c with span := none } := rfl

/-- A lead starts its span and counts its beat (R93). -/
theorem State.issue_lead {p c : Nat} {d : Descriptor} (key : Bytes) (hpos : (s.cluster k).position = some p)
    (hbanks : (s.cluster k).banks = []) (h0 : d.opcode ≠ 0) (hcont : d.opcode ≠ 0xF0) (hhold : s.lead.hold = none)
    (hk : k < s.clusters.length) :
    s.issue k (some (c, d)) key =
      (s.count c (Counters.beat (s.leadReal p c d))).updCluster k fun x => { x with span := some (s.leadSpan p c d key) } := by
  have hfree : s.leadsBlocked s.hal.beatCount = false := by simp [State.leadsBlocked, State.inHold, hhold]
  have hbanks' : (((s.count c (Counters.beat (s.leadReal p c d))).updCluster k fun x =>
      { x with span := some (s.leadSpan p c d key) }).cluster k).banks = [] := by
    rw [State.cluster_updCluster_same (s := s.count c _) hk]
    exact hbanks
  unfold State.issue
  simp only [if_neg hcont, if_neg h0, hfree, hpos, Option.getD_some, Bool.false_eq_true, if_false]
  exact (if_congr Iff.rfl rfl (State.dropBank_of_no_banks hbanks' s.entry)).trans (ite_self _)

/-- A CONT carries on the span of its own lead (R93). -/
theorem State.issue_cont {c : Nat} {d : Descriptor} {sp : RunningSpan} (key : Bytes) (hcont : d.opcode = 0xF0)
    (hspan : (s.cluster k).span = some sp) (hctx : sp.ctx = c) (hlead : sp.lead + d.span = s.entry) :
    s.issue k (some (c, d)) key = s.count c (Counters.beat !sp.dummy) := by
  have hown : sp.ctx = c ∧ sp.lead + d.span = s.entry := ⟨hctx, hlead⟩
  unfold State.issue
  simp only [if_pos hcont, hspan, if_pos hown]
  cases sp.dummy <;> rfl

/-- CONT: the span goes on for one more beat (R93). -/
theorem exec_cont (k : Nat) (s : State) : exec (.cont k) s = .next (s.updCluster k fun c =>
    { c with span := c.span.map fun sp => if sp.beats < sp.desc.span then { sp with beats := sp.beats + 1 } else sp }) :=
  rfl

end

/-! The opcodes (R93 to R97). -/

/-- An opcode's command works in the last beat of its cost, once; on dummy operands it only marks the span as done. -/
def State.DummyRule (s : State) (k : Nat) (sp : RunningSpan) (x : Instr × Nat) : Prop :=
  (sp.desc.opcode = x.2 → sp.done = false → sp.dummy = true → s.spanCost sp ≤ sp.beats →
    exec x.1 s = .next (s.spanDone k sp)) ∧
  (sp.desc.opcode ≠ x.2 ∨ sp.done = true ∨ sp.beats < s.spanCost sp → exec x.1 s = .next s)

section
variable {s : State} {k op : Nat} {sp : RunningSpan} {f : State → Nat → RunningSpan → State}

theorem State.runSpan_of_dummy (hspan : (s.cluster k).span = some sp) (hpos : (s.cluster k).position.isSome = true)
    (hop : sp.desc.opcode = op) (hdone : sp.done = false) (hdummy : sp.dummy = true) (hcost : s.spanCost sp ≤ sp.beats) :
    s.runSpan k op f = s.spanDone k sp := by
  obtain ⟨p, hp⟩ := Option.isSome_iff_exists.mp hpos
  simp [State.runSpan, State.spanDone, hspan, hp, hop, hdone, hdummy, hcost]

theorem State.runSpan_of_not_due (hspan : (s.cluster k).span = some sp)
    (h : sp.desc.opcode ≠ op ∨ sp.done = true ∨ sp.beats < s.spanCost sp) : s.runSpan k op f = s := by
  have hno : ¬(sp.desc.opcode = op ∧ (!sp.done) = true ∧ s.spanCost sp ≤ sp.beats) := by
    rintro ⟨hop, hdone, hcost⟩
    rcases h with h | h | h
    · exact h hop
    · simp [h] at hdone
    · omega
  unfold State.runSpan
  split
  next hsp hp =>
    rw [hspan, Option.some.injEq] at hsp
    subst hsp
    exact if_neg hno
  next => rfl

/-- The rule holds of every command that runs a span. -/
theorem State.dummyRule_of_runSpan {i : Instr} (hspan : (s.cluster k).span = some sp)
    (hpos : (s.cluster k).position.isSome = true) (h : exec i s = .next (s.runSpan k op f)) :
    s.DummyRule k sp (i, op) := by
  refine ⟨fun hop hdone hdummy hcost => ?_, fun hnot => ?_⟩
  · rw [h, State.runSpan_of_dummy hspan hpos hop hdone hdummy hcost]
  · rw [h, State.runSpan_of_not_due hspan hnot]

/-- C1OUT seals nothing where no span on real operands has run its work (R228). -/
theorem exec_c1out_of_unsealed {u : State} (hspan : (s.cluster k).span = some sp) (hu : ∀ f, s.runSpan k 0x19 f = u)
    (h : sp.dummy = true ∨ sp.done = true ∨ (u.cluster k).span.any RunningSpan.done = false) :
    exec (.c1out k) s = .next u := by
  change execC1out k s = _
  unfold execC1out State.ringStep
  simp only [hu, hspan]
  split
  · split
    · rfl
    · rcases h with h | h | h <;> simp [h]
  · rfl

theorem State.dummyRule_c1out (hspan : (s.cluster k).span = some sp)
    (hpos : (s.cluster k).position.isSome = true) : s.DummyRule k sp (.c1out k, 0x19) := by
  refine ⟨fun hop hdone hdummy hcost => ?_, fun hnot => ?_⟩
  · exact exec_c1out_of_unsealed hspan (fun _ => State.runSpan_of_dummy hspan hpos hop hdone hdummy hcost) (.inl hdummy)
  · refine exec_c1out_of_unsealed hspan (fun _ => State.runSpan_of_not_due hspan hnot) (.inr ?_)
    rw [hspan, Option.any_some]
    exact (Bool.eq_false_or_eq_true _)

end

end Sys2Proof.Machine
end

section
/-!
Fills of stage banks (R130, R131, R152): what PREFETCH_FILL takes, what it stages, and what it leaves alone.
-/
namespace Sys2Proof.Machine

/-! What staging leaves alone. -/

/-- What staging leaves alone: the state without rounds, connections, contexts, and what records touch. -/
def State.offRounds (s : State) : State := { s.unrecorded with rounds := [], grixo := .reset, ctxs := [] }

/-- What a fill leaves alone: its cluster's bank is staged besides. -/
def State.offStaging (s : State) : State := { s.offRounds with clusters := [] }

/-- A state that agrees with another outside of what a fill touches, written as an update of it. -/
theorem State.eq_of_offStaging_eq {s t : State} (h : t.offStaging = s.offStaging) :
    t = { s with set := t.set, setA := t.setA, setB := t.setB, slotB := t.slotB, recorder := t.recorder,
                 mgmt := t.mgmt, ctxs := t.ctxs, clusters := t.clusters, rounds := t.rounds, grixo := t.grixo } :=
  congrArg (fun x : State =>
    { x with set := t.set, setA := t.setA, setB := t.setB, slotB := t.slotB, recorder := t.recorder,
             mgmt := t.mgmt, ctxs := t.ctxs, clusters := t.clusters, rounds := t.rounds, grixo := t.grixo }) h

/-- A set at its owner without what a failed frame marks. -/
def OwnerSet.offMarks (o : OwnerSet) : OwnerSet := { o with taint := false, bin := [] }

/-- A round without what a failed frame touches: its pending bit and the marks at the owners. -/
def Round.offMarks (r : Round) : Round :=
  { r with intake := { r.intake with pending := [] }, owners := r.owners.map OwnerSet.offMarks }

/-- The state without what staging frames touches. -/
def State.offFill (s : State) : State :=
  { s.unrecorded with rounds := s.rounds.map Round.offMarks, grixo := .reset, ctxs := [] }

section
variable (s : State)

@[simp] theorem State.offFill_record (code source : Nat) (ctx : Option Nat) (p : Bytes) :
    (s.record code source ctx p).offFill = s.offFill := by
  simp [State.offFill, State.record_unrecorded]

@[simp] theorem State.offFill_count (c : Nat) (f : Counters → Counters) : (s.count c f).offFill = s.offFill := rfl

@[simp] theorem State.offFill_notice (i code : Nat) (f : Bytes) (action : Nat) :
    (s.notice i code f action).offFill = s.offFill := by
  unfold State.notice
  split
  · rfl
  · split <;> rfl

theorem Round.offMarks_updOwner (r : Round) (p k : Nat) {f : OwnerSet → OwnerSet}
    (hf : ∀ o, (f o).offMarks = o.offMarks) : (r.updOwner p k f).offMarks = r.offMarks := by
  simp [Round.offMarks, Round.updOwner, updIf_map_of_keeps OwnerSet.offMarks hf]

theorem State.offFill_updRound (c t : Nat) {f : Round → Round} (hf : ∀ r, (f r).offMarks = r.offMarks) :
    (s.updRound c t f).offFill = s.offFill := by
  simp [State.offFill, State.unrecorded, State.updRound, updIf_map_of_keeps Round.offMarks hf]

@[simp] theorem State.offFill_failFill (k core c t set : Nat) (ring : Bool) (start i : Nat) (r : BinRecord)
    (code action : Nat) : (s.failFill k core c t set ring start i r code action).offFill = s.offFill := by
  unfold State.failFill
  split
  · rfl
  · dsimp only
    rw [State.offFill_notice, State.offFill_record]
    have hround (u : State) (x : Round → Round) (hx : ∀ r, (x r).offMarks = r.offMarks) :
        (if code = 0x05100020 then (u.updRound c t x).count c fun n =>
          { n with framesTagFailed := n.framesTagFailed + 1 } else u.updRound c t x).offFill = u.offFill := by
      split <;> simp [State.offFill_updRound _ _ _ hx]
    exact hround _ _ fun r => r.offMarks_updOwner _ _ fun _ => rfl

@[simp] theorem State.offFill_stage (k c t set : Nat) (tm : Template) (start : Nat) (x : Nat × Nat × BinRecord)
    (rest : List BinRecord) : (s.stage k c t set tm start x rest).1.offFill = s.offFill := by
  unfold State.stage
  dsimp only
  repeat' split
  all_goals simp

end

/-- A staged frame is one of those placed. -/
theorem State.stage_record {s : State} {k c t set : Nat} {tm : Template} {start : Nat} {x : Nat × Nat × BinRecord}
    {rest : List BinRecord} {y : Nat × Staged} (h : (s.stage k c t set tm start x rest).2 = some y) :
    y.2.record = x.1 := by
  unfold State.stage at h
  dsimp only at h
  repeat' split at h
  all_goals cases h
  rfl

section
variable (k c t set : Nat) (tm : Template) (start : Nat)

@[simp] theorem State.offFill_stageAll (l : List (Nat × Nat × BinRecord)) (s : State) :
    (State.stageAll k c t set tm start l s).1.offFill = s.offFill := by
  induction l generalizing s with
  | nil => rfl
  | cons x l ih => exact (ih _).trans (s.offFill_stage ..)

theorem State.stageAll_record (l : List (Nat × Nat × BinRecord)) (s : State) :
    ∀ y ∈ (State.stageAll k c t set tm start l s).2, ∃ x ∈ l, y.2.record = x.1 := by
  induction l generalizing s with
  | nil => simp [State.stageAll]
  | cons x l ih =>
    intro y hy
    rcases List.mem_append.mp hy with hy | hy
    · exact ⟨x, List.mem_cons_self, State.stage_record (Option.mem_toList.mp hy)⟩
    · obtain ⟨z, hz, heq⟩ := ih _ y hy
      exact ⟨z, List.mem_cons_of_mem _ hz, heq⟩

end

/-! A round and its owners, read off the frame. -/

theorem State.round?_of_offFill {s t : State} {c k : Nat} {r : Round} (h : t.offFill = s.offFill)
    (hr : s.round? c k = some r) : ∃ q, t.round? c k = some q ∧ q.offMarks = r.offMarks := by
  have hmap := State.round?_map_congr (c := c) (h := k) (q := fun x => x.isCurrent c k) (fun _ => rfl)
    (congrArg State.rounds h : t.rounds.map Round.offMarks = s.rounds.map Round.offMarks)
  rw [hr, Option.map_some, Option.map_eq_some_iff] at hmap
  exact hmap

theorem Round.owner?_of_offMarks {r q : Round} {p k : Nat} {o : OwnerSet} (h : q.offMarks = r.offMarks)
    (ho : r.owner? p k = some o) : ∃ x, q.owner? p k = some x ∧ x.offMarks = o.offMarks := by
  have howners : q.owners.map OwnerSet.offMarks = r.owners.map OwnerSet.offMarks := congrArg Round.owners h
  have hkeep : ∀ x : OwnerSet, x.offMarks.isAt p k = x.isAt p k := fun _ => rfl
  have hmap : (q.owner? p k).map OwnerSet.offMarks = (r.owner? p k).map OwnerSet.offMarks :=
    (find?_map_of_keeps hkeep q.owners).symm.trans
      ((congrArg (List.find? fun x => x.isAt p k) howners).trans (find?_map_of_keeps hkeep r.owners))
  rw [ho, Option.map_some, Option.map_eq_some_iff] at hmap
  exact hmap

/-! What a fill takes. -/

theorem le_roundUp (n : Nat) {m : Nat} (hm : 0 < m) : n ≤ roundUp n m := by
  unfold roundUp ceilDiv
  have hmod := Nat.div_add_mod (n + m - 1) m
  have hlt := Nat.mod_lt (n + m - 1) hm
  rw [Nat.mul_comm]
  omega

/-- A fill places a record in a buffer not below the next one, and goes on, or it ends (R130). -/
theorem placeRecords_cons (ring : Bool) (more : Nat) (x : Nat × BinRecord) (l : List (Nat × BinRecord)) (slot : Nat) :
    placeRecords ring more (x :: l) slot = [] ∨
      ∃ slot', slot ≤ slot' ∧ slot' < 32 ∧
        placeRecords ring more (x :: l) slot = (x.1, slot', x.2) :: placeRecords ring more l (slot' + 1) := by
  obtain ⟨i, r⟩ := x
  rw [placeRecords]
  generalize hs : (if r.peer && !r.cont && slot % 4 + r.size > 4 then roundUp slot 4 else slot) = slot'
  have hle : slot ≤ slot' := by
    rw [← hs]
    split
    · exact le_roundUp slot (by decide)
    · exact Nat.le_refl slot
  dsimp only
  split
  · exact .inl rfl
  next hroom =>
    split
    · exact .inl rfl
    · split
      · exact .inl rfl
      · exact .inr ⟨slot', hle, by omega, rfl⟩

/-- A bank holds 32 buffers. -/
theorem length_placeRecords (ring : Bool) (more : Nat) (l : List (Nat × BinRecord)) (slot : Nat) :
    (placeRecords ring more l slot).length ≤ 32 - slot := by
  induction l generalizing slot with
  | nil => exact Nat.zero_le _
  | cons x l ih =>
    rcases placeRecords_cons ring more x l slot with h | ⟨slot', hle, hlt, h⟩
    · simp [h]
    · have := ih (slot' + 1)
      rw [h, List.length_cons]
      omega

/-- Records are taken from the head of the list on. -/
theorem placeRecords_prefix (ring : Bool) (more : Nat) (l : List (Nat × BinRecord)) (slot : Nat) :
    (placeRecords ring more l slot).map Prod.fst <+: l.map Prod.fst := by
  induction l generalizing slot with
  | nil => exact List.nil_prefix
  | cons x l ih =>
    rcases placeRecords_cons ring more x l slot with h | ⟨slot', -, -, h⟩
    · simp [h]
    · simpa [h] using ih (slot' + 1)

/-- The records that a fill may take: none while the set's one buffer drains (R142). -/
def OwnerSet.available (o : OwnerSet) : List (Nat × BinRecord) :=
  if o.busy then [] else o.numbered.drop (o.read - o.release)

/-- They are numbered from READ on, or from the head of the bin. -/
theorem OwnerSet.available_number {o : OwnerSet} {j : Nat} (h : j < (o.available.map Prod.fst).length) :
    (o.available.map Prod.fst)[j] = o.release + (o.read - o.release) + j := by
  by_cases hb : o.busy = true
  · simp [OwnerSet.available, hb] at h
  · simp [OwnerSet.available, hb, OwnerSet.numbered, Nat.add_assoc]

/-- A record taken is READ or a later one, and comes before the new READ (R130). -/
theorem OwnerSet.placed_record {o : OwnerSet} {ring : Bool} {more : Nat} {x : Nat × Nat × BinRecord}
    (hx : x ∈ placeRecords ring more o.available 0) :
    o.read ≤ x.1 ∧ (o.release ≤ o.read → x.1 < o.read + (placeRecords ring more o.available 0).length) := by
  obtain ⟨j, hj, hxj⟩ := List.getElem_of_mem hx
  have hpre := placeRecords_prefix ring more o.available 0
  have hjp : j < ((placeRecords ring more o.available 0).map Prod.fst).length := by simpa using hj
  have hnum : x.1 = o.release + (o.read - o.release) + j := by
    rw [← OwnerSet.available_number (Nat.lt_of_lt_of_le hjp hpre.length_le), ← hpre.getElem hjp, List.getElem_map, hxj]
  omega

/-! A fill for an ACCUM entry (R130). -/

/-- READ passes the records that a fill takes (R130). -/
def Round.take (r : Round) (p set n : Nat) : Round := r.updOwner p set fun o => { o with read := o.read + n }

theorem Round.same_take (p set n : Nat) (r : Round) : r.Same (r.take p set n) := ⟨rfl, rfl, rfl⟩

theorem Round.owner?_take {r : Round} {p set : Nat} {o : OwnerSet} (h : r.owner? p set = some o) (n : Nat) :
    (r.take p set n).owner? p set = some { o with read := o.read + n } := by
  have hkeep := Round.owner?_updOwner (r := r) (p := p) (k := set)
    (f := fun o => { o with read := o.read + n }) fun _ => rfl
  rw [h] at hkeep
  exact hkeep

/-- A bank of 32 buffers that holds some of the records placed. -/
structure Staged.Of (placed : List (Nat × Nat × BinRecord)) (buffers : List (Option Staged)) : Prop where
  length : buffers.length = 32
  record : ∀ y, some y ∈ buffers → ∃ x ∈ placed, y.record = x.1

/-- An ACCUM fill takes records from the head of the set whose turn it is, stages those that verify, and leaves the rest
of the state as it was. -/
theorem State.fillAccum_spec {s : State} {k p c entry : Nat} {d : Descriptor} {im : PlanImage} {r : Round}
    {cd : CursorDef} {o : OwnerSet} (hpos : (s.cluster k).position = some p) (him : s.image c = some im)
    (hr : s.round? c d.cohort = some r) (hcd : im.cursor p d.cursor = some cd) (ho : r.owner? p o.set = some o)
    (hset : o.set = (im.groupSets d.cohort p cd (r.cursorAt p d.cursor).group).getD ((r.cursorAt p d.cursor).pos %
      max 1 (im.groupSets d.cohort p cd (r.cursorAt p d.cursor).group).length) 0) :
    ∃ (ring : Bool) (more : Nat) (u : State) (buffers : List (Option Staged)),
      Staged.Of (placeRecords ring more o.available 0) buffers ∧
      u.offFill = (s.updRound c d.cohort fun r =>
        r.take p o.set (placeRecords ring more o.available 0).length).offFill ∧
      s.fillAccum k c entry d = u.updCluster k fun x => x.stageBank
        { ctx := c, cohort := d.cohort, entry := entry, secret := false, cursor := d.cursor, tileSet := o.set,
          buffers := buffers } := by
  unfold State.fillAccum
  simp only [hpos, him, hr, hcd, ← hset, ho]
  refine ⟨_, _, _, _, ⟨?length, ?record⟩, State.offFill_stageAll .., rfl⟩
  case length => rw [List.length_map, List.length_range]
  case record =>
    intro y hy
    obtain ⟨i, -, hi⟩ := List.mem_map.mp hy
    obtain ⟨z, hz, rfl⟩ := Option.map_eq_some_iff.mp hi
    exact State.stageAll_record _ _ _ _ _ _ _ _ z (List.mem_of_mem_filter (List.mem_of_find?_eq_some hz))

/-! A fill for a SECRETIN entry (R130, R131). -/

/-- A frame opens under the key of its session (R116). -/
def Round.opens (r : Round) (w : WaitFrame) : Bool :=
  (r.openFrame (Frame.header w.bytes) (Frame.payload w.bytes) (Frame.tag w.bytes)).isSome

/-- The frames of a list leave the secret queue. -/
def Round.withoutSecrets (r : Round) (l : List WaitFrame) : Round :=
  { r with intake := { r.intake with secretQueue := r.intake.secretQueue.filter fun x => decide (x ∉ l) } }

theorem Round.withoutSecrets_nil (r : Round) : r.withoutSecrets [] = r := by
  simp [Round.withoutSecrets]

theorem Round.withoutSecrets_cons (r : Round) (w : WaitFrame) (l : List WaitFrame) :
    (r.withoutSecrets [w]).withoutSecrets l = r.withoutSecrets (w :: l) := by
  simp [Round.withoutSecrets, List.filter_filter, Bool.and_comm]

theorem State.offRounds_record (s : State) (code source : Nat) (ctx : Option Nat) (p : Bytes) :
    (s.record code source ctx p).offRounds = s.offRounds := by
  simp [State.offRounds, State.record_unrecorded]

theorem State.offRounds_notice (s : State) (i code : Nat) (f : Bytes) (action : Nat) :
    (s.notice i code f action).offRounds = s.offRounds := by
  unfold State.notice
  split
  · rfl
  · split <;> rfl

theorem State.notice_rounds (s : State) (i code : Nat) (f : Bytes) (action : Nat) :
    (s.notice i code f action).rounds = s.rounds := by
  unfold State.notice
  split
  · rfl
  · split <;> rfl

/-- A SECRETIN fill stages the frames that open, and takes those that do not out of the queue (R131). -/
theorem State.stageSecrets_spec (k c t : Nat) (tm : Template) (l : List WaitFrame) (n : Nat) (s : State) (r : Round)
    (hr : s.round? c t = some r) :
    (State.stageSecrets k c t tm l n s).2.map Option.isSome = l.map r.opens ∧
      (State.stageSecrets k c t tm l n s).1.round? c t = some (r.withoutSecrets (l.filter fun w => !r.opens w)) ∧
      (State.stageSecrets k c t tm l n s).1.offRounds = s.offRounds := by
  induction l generalizing n s r with
  | nil => exact ⟨rfl, by rw [List.filter_nil, Round.withoutSecrets_nil]; exact hr, rfl⟩
  | cons w l ih =>
    rw [State.stageSecrets]
    simp only [hr]
    split
    next plain hopen =>
      have hw : r.opens w = true := by rw [Round.opens, hopen]; rfl
      obtain ⟨hstaged, hround, hframe⟩ := ih (n + 1) s r hr
      refine ⟨?_, ?_, hframe⟩
      · rw [List.map_cons, List.map_cons, hw, ← hstaged]
        rfl
      · rw [List.filter_cons_of_neg (by simp [hw])]
        exact hround
    next hopen =>
      have hw : r.opens w = false := by rw [Round.opens, hopen]; rfl
      generalize hu : State.notice _ _ _ _ _ = u
      have hround : u.round? c t = some (r.withoutSecrets [w]) := by
        rw [← hu, State.round?_congr ((State.notice_rounds ..).trans (State.record_rounds ..))]
        simp only [Round.withoutSecrets, List.mem_singleton]
        exact State.round?_updRound_of_some (fun _ => ⟨rfl, rfl, rfl⟩) hr
      have hframe : u.offRounds = s.offRounds := by
        rw [← hu, State.offRounds_notice, State.offRounds_record]
        rfl
      obtain ⟨ihstaged, ihround, ihframe⟩ := ih (n + 1) u _ hround
      refine ⟨?_, ?_, ihframe.trans hframe⟩
      · rw [List.map_cons, List.map_cons, hw]
        exact congrArg (false :: ·) ihstaged
      · rw [List.filter_cons_of_pos (by simp [hw]), ← Round.withoutSecrets_cons]
        exact ihround

/-- The frames that a SECRETIN fill takes: up to 32 of the queue that no bank holds (R130). -/
def State.secretFrames (s : State) (c t : Nat) (r : Round) : List WaitFrame :=
  (r.intake.secretQueue.filter fun w => !((s.bankedSecrets c t).contains (Frame.header w.bytes))).take 32

/-- A SECRETIN fill stages the frames that it takes, and leaves the rest of the state as it was. -/
theorem State.fillSecret_spec {s : State} {k c entry : Nat} {d : Descriptor} {im : PlanImage} {r : Round}
    (him : s.image c = some im) (hr : s.round? c d.cohort = some r) :
    ∃ (u : State) (buffers : List (Option Staged)),
      buffers.map Option.isSome = (s.secretFrames c d.cohort r).map r.opens ∧
      u.round? c d.cohort = some (r.withoutSecrets ((s.secretFrames c d.cohort r).filter fun w => !r.opens w)) ∧
      u.offRounds = s.offRounds ∧
      s.fillSecret k c entry d = u.updCluster k fun x => x.stageBank
        { ctx := c, cohort := d.cohort, entry := entry, secret := true, cursor := d.cursor, tileSet := 0,
          buffers := buffers } := by
  obtain ⟨hstaged, hround, hframe⟩ :=
    State.stageSecrets_spec k c d.cohort (im.template d.cohort) (s.secretFrames c d.cohort r) 0 s r hr
  refine ⟨_, _, hstaged, hround, hframe, ?_⟩
  unfold State.fillSecret
  simp only [hr, him]
  rfl

/-- The frames of a list that do not open have left the queue (R131). -/
theorem Round.mem_withoutSecrets {r : Round} {l : List WaitFrame} {w : WaitFrame} :
    w ∈ (r.withoutSecrets (l.filter fun w => !r.opens w)).intake.secretQueue ↔
      w ∈ r.intake.secretQueue ∧ (w ∈ l → r.opens w = true) := by
  simp [Round.withoutSecrets, List.mem_filter, imp_iff_not_or]

/-! The bank itself. -/

/-- A bank is staged at its cluster, and at no other. -/
theorem State.stageBank_cluster {s u : State} {k : Nat} (hu : u.clusters = s.clusters) (hk : k < s.clusters.length)
    (b : Bank) :
    (u.updCluster k fun x => x.stageBank b).cluster k =
        { s.cluster k with banks := (s.cluster k).banks ++ [b] } ∧
      ∀ i, i ≠ k → (u.updCluster k fun x => x.stageBank b).cluster i = s.cluster i := by
  constructor
  · rw [State.cluster_updCluster_same (hu ▸ hk), State.cluster_congr hu]
    rfl
  · intro i hi
    rw [State.cluster_updCluster_ne hi, State.cluster_congr hu]

end Sys2Proof.Machine
end

section
/-!
PREFETCH_FILL (R130), and what the statement about the slots comes to.
-/
namespace Sys2Proof.Machine

section
variable {s : State} {k p c : Nat} {d : Descriptor}

/-- A cluster outside SERVICE, or without a position, fills no bank (R26). -/
theorem exec_prefetchFill_of_idle (h : (s.cluster k).owner ≠ .service ∨ (s.cluster k).position = none) :
    exec (.prefetchFill k) s = .next s := by
  change execPrefetchFill k s = _
  unfold execPrefetchFill
  dsimp only
  split
  · rfl
  next hpos => rw [if_pos (.inl (h.resolve_right (by simp [hpos])))]

/-- A fill waits for the ACCUM or COMMIT of the running beat (R142). -/
theorem exec_prefetchFill_of_wait (h : (s.cluster k).fillWaits s.entry = true) :
    exec (.prefetchFill k) s = .next s := by
  change execPrefetchFill k s = _
  unfold execPrefetchFill
  dsimp only
  split
  · rfl
  · exact if_pos (by simp [h])

/-- A cluster may fill a bank for the next entry of its position (R130, R435). -/
structure State.MayFill (s : State) (k p : Nat) : Prop where
  position : (s.cluster k).position = some p
  owner : (s.cluster k).owner = .service
  failed : (s.cluster k).failed = false
  frozen : s.hal.frozen = false
  hold : s.lead.hold = none
  wait : (s.cluster k).fillWaits s.entry = false
  banks : ∀ b ∈ (s.cluster k).banks, b.entry ≠ (s.entry + 1) % 4096

/-- A real lead of the next entry has its bank filled (R130). -/
theorem exec_prefetchFill (h : s.MayFill k p) (hentry : s.tableEntry p ((s.entry + 1) % 4096) = some (c, d))
    (hreal : s.leadReal p c d = true) :
    exec (.prefetchFill k) s = .next (if d.opcode = 0x01 then s.fillAccum k c ((s.entry + 1) % 4096) d
      else if d.opcode = 0x06 then s.fillSecret k c ((s.entry + 1) % 4096) d else s) := by
  have hbanks : (s.cluster k).banks.any (fun b => b.entry == (s.entry + 1) % 4096) = false := by
    simpa using h.banks
  change execPrefetchFill k s = _
  unfold execPrefetchFill
  simp only [h.position, h.owner, h.failed, h.frozen, h.wait, hbanks, hentry, hreal, and_true, State.leadsBlocked,
    State.inHold, h.hold]
  rw [if_neg (by simp)]
  split
  · rfl
  · split <;> rfl

end

/-- Settles O48, command by command: SLOT_ISSUE, CONT, PREFETCH_FILL and the opcodes on dummy operands. -/
theorem slotsIssueToClusters : Obligations.SlotsIssueToClusters := by
  unfold Obligations.SlotsIssueToClusters
  refine ⟨?lead, ?empty, ?cont, ?idle, ?wait, fun _ _ => rfl, ?goesOn, ?accum, ?secret, ?dummy⟩
  case lead =>
    intro s k p c d key hk hlen hpos hown hfail hfrozen hbanks hentry h0 hcont hhold _
    have hslot : s.slotEntry k p = (some (c, d), key) := by
      rcases hentry with ⟨hahead, rfl⟩ | ⟨hahead, htable, rfl⟩
      · exact State.slotEntry_of_ahead hahead
      · rw [State.slotEntry_of_table hahead, htable]
    rw [exec_slotIssue hpos hown hfail hfrozen hbanks, hslot,
      State.issue_lead key hpos hbanks h0 hcont hhold (hlen ▸ hk)]
    refine ⟨_, rfl, ?_, fun i hi => ?_, rfl, rfl⟩
    · rw [State.readAhead_updCluster, State.cluster_updCluster_same (s := s.count c _) (hlen ▸ hk), State.readKey_count]
      rfl
    · rw [State.readAhead_updCluster, State.cluster_updCluster_ne hi]
      rfl
  case empty =>
    intro s k p hk hlen hpos hown hfail hfrozen hbanks hahead htable
    rw [exec_slotIssue hpos hown hfail hfrozen hbanks, State.slotEntry_of_table hahead, htable, State.issue_none,
      State.readAhead_updCluster]
    exact ⟨_, rfl, by rw [State.cluster_updCluster_same (hlen ▸ hk)], fun i hi => State.cluster_updCluster_ne hi _, rfl⟩
  case cont =>
    intro s k p c d sp hk hlen hpos hown hfail hfrozen hbanks hahead htable hop hspan hctx hlead
    rw [exec_slotIssue hpos hown hfail hfrozen hbanks, State.slotEntry_of_table hahead, htable,
      State.issue_cont _ hop hspan hctx hlead]
    refine ⟨_, rfl, ?_, rfl⟩
    rw [State.readAhead, State.cluster_updCluster_same (s := s.count c _) (hlen ▸ hk)]
    exact hspan
  case idle => exact fun s k h => ⟨exec_slotIssue_of_idle h, exec_prefetchFill_of_idle h⟩
  case wait => exact fun s k h => exec_prefetchFill_of_wait h
  case goesOn =>
    intro s k sp hspan hk hlen
    refine ⟨_, exec_cont k s, ?_, fun i hi => State.cluster_updCluster_ne hi _, rfl⟩
    rw [State.cluster_updCluster_same (hlen ▸ hk), hspan, Option.map_some]
    by_cases hmore : sp.beats < sp.desc.span <;> simp [hmore]
  case accum =>
    intro s k p c d im r cd o hk hlen hpos hown hfail hfrozen hhold hwait hbanks hentry hop hreal him hr hcd ho hset
    have hmay : s.MayFill k p := ⟨hpos, hown, hfail, hfrozen, hhold, hwait, hbanks⟩
    obtain ⟨ring, more, u, buffers, ⟨hlength, hrecord⟩, hframe, hfill⟩ :=
      State.fillAccum_spec (entry := (s.entry + 1) % 4096) hpos him hr hcd ho hset
    have hexec := (exec_prefetchFill hmay hentry hreal).trans (congrArg Host.Outcome.next (if_pos hop))
    rw [hfill] at hexec
    generalize hn : (placeRecords ring more o.available 0).length = n at hframe
    have hn32 : n ≤ 32 := hn ▸ length_placeRecords ring more o.available 0
    obtain ⟨q, hq, hqr⟩ := State.round?_of_offFill hframe
      (State.round?_updRound_of_some (Round.same_take p o.set n) hr)
    obtain ⟨x, hx, hxo⟩ := Round.owner?_of_offMarks hqr (Round.owner?_take ho n)
    have hread : x.read = o.read + n := (congrArg OwnerSet.read hxo :)
    obtain ⟨hcluster, hothers⟩ := State.stageBank_cluster (congrArg State.clusters hframe) (hlen ▸ hk)
      { ctx := c, cohort := d.cohort, entry := (s.entry + 1) % 4096, secret := false, cursor := d.cursor,
        tileSet := o.set, buffers := buffers }
    have hoff := congrArg (fun v : State => { v with rounds := [], clusters := [] }) hframe
    refine ⟨_, _, q, x, hexec, hcluster, rfl, rfl, rfl, rfl, rfl, rfl, hlength, ?records, ?busy, hq, hx, ?_, ?_,
      (congrArg OwnerSet.active hxo :), (congrArg OwnerSet.commit hxo :), (congrArg Round.sets hqr :),
      (congrArg (fun r : Round => r.intake.ledger) hqr :), hothers, State.eq_of_offStaging_eq hoff⟩
    case records =>
      intro y hy
      obtain ⟨z, hz, heq⟩ := hrecord y hy
      have hz := OwnerSet.placed_record hz
      rw [heq, hread, ← hn]
      exact hz
    case busy =>
      intro hbusy
      have hnone : placeRecords ring more o.available 0 = [] := by
        rw [OwnerSet.available, if_pos hbusy]
        rfl
      rw [hnone] at hn hrecord
      refine ⟨by rw [hread, ← hn]; rfl, fun y hy => ?_⟩
      cases y with
      | none => rfl
      | some y => obtain ⟨z, hz, -⟩ := hrecord y hy; cases hz
    · omega
    · omega
  case secret =>
    intro s k p c d r im hk hlen hpos hown hfail hfrozen hhold hwait hbanks hentry hop hreal hr him frames opens
    have hmay : s.MayFill k p := ⟨hpos, hown, hfail, hfrozen, hhold, hwait, hbanks⟩
    have hnot : d.opcode ≠ 0x01 := by omega
    obtain ⟨u, buffers, hstaged, hround, hframe, hfill⟩ :=
      State.fillSecret_spec (k := k) (entry := (s.entry + 1) % 4096) him hr
    have hexec := (exec_prefetchFill hmay hentry hreal).trans
      (congrArg Host.Outcome.next ((if_neg hnot).trans (if_pos hop)))
    rw [hfill] at hexec
    obtain ⟨hcluster, hothers⟩ := State.stageBank_cluster (congrArg State.clusters hframe) (hlen ▸ hk)
      { ctx := c, cohort := d.cohort, entry := (s.entry + 1) % 4096, secret := true, cursor := d.cursor,
        tileSet := 0, buffers := buffers }
    have hoff := congrArg (fun v : State => { v with clusters := [] }) hframe
    exact ⟨_, _, _, hexec, hcluster, rfl, rfl, rfl, rfl, hstaged, hround, fun w => Round.mem_withoutSecrets, rfl, rfl,
      hothers, State.eq_of_offStaging_eq hoff⟩
  case dummy =>
    intro s k sp hk hlen hspan hpos
    have hrun {i : Instr} {op : Nat} {f : State → Nat → RunningSpan → State}
        (h : exec i s = .next (s.runSpan k op f)) : s.DummyRule k sp (i, op) :=
      State.dummyRule_of_runSpan hspan hpos h
    change ∀ x ∈ _, s.DummyRule k sp x
    simp only [List.forall_mem_cons]
    exact ⟨hrun rfl, hrun rfl, hrun rfl, hrun rfl, hrun rfl, hrun rfl, hrun rfl, hrun rfl, hrun rfl, hrun rfl, hrun rfl,
      hrun rfl, hrun rfl, hrun rfl, hrun rfl, hrun rfl, hrun rfl, State.dummyRule_c1out hspan hpos, hrun rfl, hrun rfl,
      hrun rfl, List.forall_mem_nil _⟩

end Sys2Proof.Machine
end

section
/-!
Rolling a tile set back (R150, R151): what becomes of the set, of its cursor and of the banks filled for it, and what it
leaves alone.
-/
namespace Sys2Proof.Machine

/-! The round. -/

/-- Uncommitted buffers and sections of a set are gone, and READ is back at MARK (R150). -/
def OwnerSet.discarded (o : OwnerSet) : OwnerSet :=
  { o with active := [], activeCount := 0, shadow := [], sections := [], taint := false, read := o.mark }

section
variable {r : Round} {p j k : Nat} {o : OwnerSet}

/-- A set without a commit under way is settled (R151). -/
theorem Round.settle_of_no_commit (ho : r.owner? p k = some o) (h : o.commit.state ≠ 1) : r.settle p k = r := by
  simp [Round.settle, ho, h]

/-- A commit that has not passed its commit point is discarded (R151). -/
theorem Round.settle_of_cut (ho : r.owner? p k = some o) (h : o.commit.state = 1)
    (hseq : (r.set k).lastSeq ≠ o.commit.seq) : r.settle p k = r.updOwner p k fun o => o.drained 0 := by
  simp [Round.settle, ho, h, hseq]

/-- The cursor of a position returns to the first set of its group (R150). -/
theorem Round.cursorAt_updCursor_pos (r : Round) (p j : Nat) :
    ((r.updCursor p j fun c => { c with pos := 0 }).cursorAt p j).pos = 0 := by
  have hat : (r.cursorAt p j).position = p ∧ (r.cursorAt p j).cursor = j := by
    unfold Round.cursorAt
    cases hfind : r.cursors.find? fun c => c.position == p && c.cursor == j with
    | none => exact ⟨rfl, rfl⟩
    | some c => simpa using List.find?_some hfind
  unfold Round.updCursor
  rw [Round.cursorAt]
  simp [hat.1, hat.2]

/-- A rollback changes owners and cursors only where the settled round is the round itself. -/
theorem Round.rollback_of_no_commit (ho : r.owner? p k = some o) (h : o.commit.state ≠ 1) :
    r.rollback p j k = { r with owners := (r.rollback p j k).owners, cursors := (r.rollback p j k).cursors } ∧
      (r.rollback p j k).owner? p k = some o.discarded := by
  have hdone := Round.owner?_updOwner (r := r) (p := p) (k := k) (f := OwnerSet.discarded) fun _ => rfl
  rw [ho, Option.map_some] at hdone
  unfold Round.rollback
  rw [Round.settle_of_no_commit ho h]
  exact ⟨rfl, hdone⟩

theorem Round.rollback_of_cut (ho : r.owner? p k = some o) (h : o.commit.state = 1)
    (hseq : (r.set k).lastSeq ≠ o.commit.seq) :
    r.rollback p j k = { r with owners := (r.rollback p j k).owners, cursors := (r.rollback p j k).cursors } ∧
      (r.rollback p j k).owner? p k = some { o.discarded with commit := { o.commit with state := 0 } } := by
  have hdrain := Round.owner?_updOwner (r := r) (p := p) (k := k) (f := fun o => o.drained 0) fun _ => rfl
  have hdone := Round.owner?_updOwner (r := r.updOwner p k fun o => o.drained 0) (p := p) (k := k)
    (f := OwnerSet.discarded) fun _ => rfl
  rw [hdrain, ho, Option.map_some, Option.map_some] at hdone
  unfold Round.rollback
  rw [Round.settle_of_cut ho h hseq]
  exact ⟨rfl, hdone⟩

theorem Round.rollback_pos (r : Round) (p j k : Nat) : ((r.rollback p j k).cursorAt p j).pos = 0 :=
  Round.cursorAt_updCursor_pos ..

theorem Round.same_applyCommit (r : Round) (p k : Nat) : r.Same (r.applyCommit p k) := by
  unfold Round.applyCommit
  split <;> exact ⟨rfl, rfl, rfl⟩

theorem Round.same_settle (r : Round) (p k : Nat) : r.Same (r.settle p k) := by
  unfold Round.settle
  split
  · exact ⟨rfl, rfl, rfl⟩
  · split
    · exact ⟨rfl, rfl, rfl⟩
    · split
      · split
        · exact ⟨rfl, rfl, rfl⟩
        · exact r.same_applyCommit p k
      · exact ⟨rfl, rfl, rfl⟩

theorem Round.same_rollback (p j k : Nat) (r : Round) : r.Same (r.rollback p j k) :=
  ⟨(r.same_settle p k).ctx, (r.same_settle p k).template, (r.same_settle p k).state⟩

end

/-! Clusters: what a rollback does to the one that serves the position. -/

/-- A cluster without its banks. -/
def Cluster.offBanks (c : Cluster) : Cluster := { c with banks := [] }

/-- From `s` to `t` cluster `k` has lost banks at most, and the others are as they were. -/
structure State.Clears (k : Nat) (s t : State) : Prop where
  others : ∀ i, i ≠ k → t.cluster i = s.cluster i
  own : (t.cluster k).offBanks = (s.cluster k).offBanks
  banks : ∀ b ∈ (t.cluster k).banks, b ∈ (s.cluster k).banks
  length : t.clusters.length = s.clusters.length

section
variable {s t u : State} {k : Nat}

theorem State.Clears.of_clusters (k : Nat) (h : t.clusters = s.clusters) : State.Clears k s t :=
  have hc (i : Nat) : t.cluster i = s.cluster i := State.cluster_congr h i
  ⟨fun i _ => hc i, by rw [hc], fun b hb => by rwa [← hc], by rw [h]⟩

theorem State.Clears.trans (h : State.Clears k s t) (g : State.Clears k t u) : State.Clears k s u :=
  ⟨fun i hi => (g.others i hi).trans (h.others i hi), g.own.trans h.own, fun b hb => h.banks b (g.banks b hb),
    g.length.trans h.length⟩

/-- No cluster changes but for its banks. -/
theorem State.Clears.offBanks (h : State.Clears k s t) (i : Nat) :
    (t.cluster i).offBanks = (s.cluster i).offBanks := by
  by_cases hi : i = k
  · rw [hi, h.own]
  · rw [h.others i hi]

/-- Positions stay where they are, so that the same cluster serves each of them (R154). -/
theorem State.Clears.clusterAt (h : State.Clears k s t) (p : Nat) : t.clusterAt p = s.clusterAt p := by
  have hpos : t.clusters.map Cluster.position = s.clusters.map Cluster.position := by
    apply List.ext_getElem
    · simp [h.length]
    · intro i hi₁ hi₂
      have hi := congrArg Cluster.position (h.offBanks i)
      simp only [List.length_map] at hi₁ hi₂
      simpa [State.cluster, Cluster.offBanks, List.getD_eq_getElem?_getD, hi₁, hi₂] using hi
  have hfind (v : State) : v.clusterAt p =
      ((v.clusters.map Cluster.position).findIdx? fun x => x == some p).getD (positionCluster p) := by
    rw [List.findIdx?_map]
    rfl
  rw [hfind, hfind, hpos]

/-- The banks of a cluster that a filter keeps. -/
theorem State.cluster_filterBanks (s : State) (k : Nat) (q : Bank → Bool) :
    (s.updCluster k fun c => { c with banks := c.banks.filter q }).cluster k =
      { s.cluster k with banks := (s.cluster k).banks.filter q } := by
  by_cases hk : k < s.clusters.length
  · rw [State.cluster_updCluster_same hk]
  · have hnone : s.cluster k = .reset 0 0 := List.getD_eq_default _ _ (Nat.le_of_not_lt hk)
    rw [State.updCluster_eq_self (by rw [hnone]; rfl), hnone]
    rfl

theorem State.clears_filterBanks (s : State) (k : Nat) (q : Bank → Bool) :
    State.Clears k s (s.updCluster k fun c => { c with banks := c.banks.filter q }) := by
  have hc := s.cluster_filterBanks k q
  refine ⟨fun i hi => State.cluster_updCluster_ne hi _, by rw [hc]; rfl, fun b hb => ?_, ?_⟩
  · rw [hc] at hb
    exact List.mem_of_mem_filter hb
  · simp [State.updCluster, updAt]

end

/-! The state. -/

/-- What replaying a fault leaves alone: the state without contexts' counts, clusters, rounds, and what records touch. -/
def State.offReplay (s : State) : State := { s.unrecorded with ctxs := [], clusters := [], rounds := [] }

/-- A state that agrees with another outside of what a replay touches, written as an update of it. -/
theorem State.eq_of_offReplay_eq {s t : State} (h : t.offReplay = s.offReplay) :
    t = { s with set := t.set, setA := t.setA, setB := t.setB, slotB := t.slotB, recorder := t.recorder,
                 mgmt := t.mgmt, ctxs := t.ctxs, clusters := t.clusters, rounds := t.rounds } :=
  congrArg (fun x : State =>
    { x with set := t.set, setA := t.setA, setB := t.setB, slotB := t.slotB, recorder := t.recorder,
             mgmt := t.mgmt, ctxs := t.ctxs, clusters := t.clusters, rounds := t.rounds }) h

section
variable (s : State)

@[simp] theorem State.offReplay_record (code source : Nat) (ctx : Option Nat) (p : Bytes) :
    (s.record code source ctx p).offReplay = s.offReplay := by
  simp [State.offReplay, State.record_unrecorded]

variable (c h p j k code : Nat)

@[simp] theorem State.offReplay_rollbackSet : (s.rollbackSet c h p j k code).offReplay = s.offReplay := by
  unfold State.rollbackSet
  split
  · exact State.offReplay_record ..
  · rfl

/-- A bank holds what a fill has staged of a set. -/
def Bank.isOf (c h k : Nat) (b : Bank) : Bool := b.ctx == c && b.cohort == h && !b.secret && b.tileSet == k

/-- The state once a set has been rolled back and its banks dropped (R150). -/
def State.rolledBack (s : State) (c h p j k : Nat) : State :=
  (s.updRound c h fun r => r.rollback p j k).updCluster (s.clusterAt p) fun x =>
    { x with banks := x.banks.filter fun b => !b.isOf c h k }

/-- A rollback of a set of a round is counted and recorded (R150, R159). -/
theorem State.rollbackSet_of_round {im : PlanImage} {r : Round} (him : s.image c = some im)
    (hr : s.round? c h = some r) : ∃ f source x, s.rollbackSet c h p j k code =
      ((s.rolledBack c h p j k).count c f).record code source (some c) x := by
  unfold State.rollbackSet
  simp only [him, hr]
  exact ⟨_, _, _, rfl⟩

/-- Without a plan or a round nothing is rolled back. -/
theorem State.rollbackSet_of_none (h' : s.image c = none ∨ s.round? c h = none) :
    s.rollbackSet c h p j k code = s := by
  unfold State.rollbackSet
  split
  next him hr => simp [him, hr] at h'
  next => rfl

theorem State.clears_rolledBack : State.Clears (s.clusterAt p) s (s.rolledBack c h p j k) :=
  State.Clears.trans (t := s.updRound c h fun r => r.rollback p j k) (.of_clusters _ rfl)
    (State.clears_filterBanks ..)

/-- Counting and recording do not touch a cluster. -/
theorem State.clusters_record_count (f : Counters → Counters) (source : Nat) (ctx : Option Nat) (x : Bytes) :
    ((s.count c f).record code source ctx x).clusters = s.clusters :=
  (State.record_clusters ..).trans (State.count_clusters ..)

theorem State.clears_rollbackSet : State.Clears (s.clusterAt p) s (s.rollbackSet c h p j k code) := by
  cases him : s.image c with
  | none => rw [s.rollbackSet_of_none _ _ _ _ _ _ (.inl him)]; exact .of_clusters _ rfl
  | some im =>
    cases hr : s.round? c h with
    | none => rw [s.rollbackSet_of_none _ _ _ _ _ _ (.inr hr)]; exact .of_clusters _ rfl
    | some r =>
      obtain ⟨f, source, x, heq⟩ := s.rollbackSet_of_round c h p j k code him hr
      rw [heq]
      exact (s.clears_rolledBack c h p j k).trans (.of_clusters _ (State.clusters_record_count ..))

/-- The round of a set that is rolled back, and the banks of the cluster that serves its position (R150). -/
theorem State.rollbackSet_round_banks {im : PlanImage} {r : Round} (him : s.image c = some im)
    (hr : s.round? c h = some r) :
    (s.rollbackSet c h p j k code).round? c h = some (r.rollback p j k) ∧
      ∀ b ∈ ((s.rollbackSet c h p j k code).cluster (s.clusterAt p)).banks,
        b.secret = true ∨ ¬(b.ctx = c ∧ b.cohort = h ∧ b.tileSet = k) := by
  obtain ⟨f, source, x, heq⟩ := s.rollbackSet_of_round c h p j k code him hr
  rw [heq, State.cluster_congr (State.clusters_record_count ..), State.round?_congr (State.record_rounds ..)]
  refine ⟨State.round?_updRound_of_some (Round.same_rollback p j k) hr, fun b hb => ?_⟩
  rw [State.rolledBack, State.cluster_filterBanks] at hb
  have hnot := (List.mem_filter.mp hb).2
  cases hs : b.secret
  · exact .inr fun ⟨hctx, hcohort, hset⟩ => by simp [Bank.isOf, hs, hctx, hcohort, hset] at hnot
  · exact .inl rfl

end

end Sys2Proof.Machine
end

section
/-!
Replay of a fault at a position (R150, R183, R210, R250): its parts, what they leave alone, and what is left of the
cluster.
-/
namespace Sys2Proof.Machine

/-! Sets that are rolled back together. -/

theorem rollbackSet_foldl_clears (p code : Nat) (l : List (Nat × Nat × Nat × Nat)) (s : State) :
    State.Clears (s.clusterAt p) s
      (l.foldl (fun s x => s.rollbackSet x.1 x.2.1 p x.2.2.1 x.2.2.2 code) s) := by
  induction l generalizing s with
  | nil => exact .of_clusters _ rfl
  | cons x l ih =>
    have hx := s.clears_rollbackSet x.1 x.2.1 p x.2.2.1 x.2.2.2 code
    have hl := ih (s.rollbackSet x.1 x.2.1 p x.2.2.1 x.2.2.2 code)
    rw [hx.clusterAt] at hl
    exact hx.trans hl

section
variable (s : State)

theorem State.clears_rollbackWhere (p : Nat) (q : Round → OwnerSet → Bool) :
    State.Clears (s.clusterAt p) s (s.rollbackWhere p q) :=
  rollbackSet_foldl_clears ..

theorem State.offReplay_rollbackWhere (p : Nat) (q : Round → OwnerSet → Bool) :
    (s.rollbackWhere p q).offReplay = s.offReplay :=
  foldl_keeps State.offReplay (fun _ _ => State.offReplay_rollbackSet ..) _ s

/-- Nothing is rolled back where no set is picked. -/
theorem State.rollbackWhere_of_none {p : Nat} {q : Round → OwnerSet → Bool}
    (h : ∀ r ∈ s.rounds, ∀ o ∈ r.owners, q r o = false) : s.rollbackWhere p q = s := by
  unfold State.rollbackWhere
  have hnil : (s.rounds.flatMap fun r =>
      if r.state == .open || (r.state == .closed && !r.frozen) then
        (r.owners.filter fun o => o.position == p && q r o).map fun o => (r.ctx, r.template, o.cursor, o.set)
      else []) = [] := by
    rw [List.flatMap_eq_nil_iff]
    intro r hr
    split
    · rw [List.map_eq_nil_iff, List.filter_eq_nil_iff]
      intro o ho
      simp [h r hr o ho]
    · rfl
  rw [hnil]
  rfl

theorem State.recorded_dropDscomb (k p : Nat) : Recorded s (s.dropDscomb k p) := by
  unfold State.dropDscomb
  split
  · exact .refl s
  · split
    · exact .refl s
    · split
      · exact .refl s
      · split
        · exact .refl s
        · exact .one ..

theorem State.dropDscomb_of_no_span {k p : Nat} (h : (s.cluster k).span = none) : s.dropDscomb k p = s := by
  unfold State.dropDscomb
  rw [h]

end

/-! Rounds that go back to their records. -/

/-- What the replay of a round leaves alone: the state without rounds, and what records touch. -/
def State.offRecords (s : State) : State := { s.unrecorded with rounds := [] }

section
variable (s : State)

@[simp] theorem State.offRecords_record (code source : Nat) (ctx : Option Nat) (p : Bytes) :
    (s.record code source ctx p).offRecords = s.offRecords := by
  simp [State.offRecords, State.record_unrecorded]

theorem State.offRecords_replayRing (k p : Nat) (all : Bool) (r : Round) :
    (s.replayRing k p all r).offRecords = s.offRecords := by
  unfold State.replayRing
  split
  · rfl
  · exact foldl_keeps State.offRecords (fun _ _ => State.offRecords_record ..) ..

theorem State.offRecords_replayMaskAt (c h p : Nat) (struck : List Nat) :
    (s.replayMaskAt c h p struck).offRecords = s.offRecords := by
  unfold State.replayMaskAt
  split
  · split
    · rfl
    · dsimp only
      split
      · rfl
      · exact State.offRecords_record ..
  · rfl

theorem State.offRecords_dropFinishItems (k c h p : Nat) :
    (s.dropFinishItems k c h p).offRecords = s.offRecords := by
  unfold State.dropFinishItems
  split
  · rfl
  · exact foldl_keeps State.offRecords (fun _ _ => State.offRecords_record ..) ..

/-- What the replay at a position does to one round; `c` is the cluster as the fault found it. -/
def State.replayRound (k p : Nat) (all : Bool) (c : Cluster) (s : State) (r : Round) : State :=
  if r.state != .closed && r.state != .unmasking then s
  else
    let s := s.replayRing k p all r
    let folds := r.owners.any fun o => o.position == p && o.commit.fold && o.commit.state == 1
    if r.state ≠ .unmasking then s
    else if r.finishPhase then (if all || c.runs r (· == 0x20) then s.dropFinishItems k r.ctx r.template p else s)
    else if (all && r.owners.any fun o => o.position == p) || folds ||
        c.runs r (fun op => op == 3 || op == 4 || op == 8) then s.replayMaskAt r.ctx r.template p []
    else s

theorem State.offRecords_replayRound (k p : Nat) (all : Bool) (c : Cluster) (r : Round) :
    (s.replayRound k p all c r).offRecords = s.offRecords := by
  unfold State.replayRound
  dsimp only
  split
  · rfl
  · rw [← s.offRecords_replayRing k p all r]
    split
    · rfl
    · split
      · split
        · exact State.offRecords_dropFinishItems ..
        · rfl
      · split
        · exact State.offRecords_replayMaskAt ..
        · rfl

/-- The sets that a fault reaches, rolled back (R151). -/
def State.replaySets (s : State) (k p : Nat) (all : Bool) : State :=
  (s.dropDscomb k p).rollbackWhere p fun r o => all || (s.dropDscomb k p).touches k r o

/-- Sets and rounds gone back to the module's records. -/
def State.replayRounds (s : State) (k p : Nat) (all : Bool) : State :=
  (s.replaySets k p all).rounds.foldl (State.replayRound k p all (s.cluster k)) (s.replaySets k p all)

theorem State.replayAt_eq (k p : Nat) (all : Bool) : s.replayAt k p all =
    (s.replayRounds k p all).updCluster k fun c =>
      { c with span := none, banks := if all then [] else c.banks } := rfl

variable (k p : Nat) (all : Bool)

theorem State.offRecords_replayRounds :
    (s.replayRounds k p all).offRecords = (s.replaySets k p all).offRecords :=
  foldl_keeps State.offRecords (fun _ _ => State.offRecords_replayRound ..) ..

theorem State.offReplay_replayAt : (s.replayAt k p all).offReplay = s.offReplay := by
  have hrounds : (s.replayRounds k p all).offReplay = (s.replaySets k p all).offReplay :=
    (congrArg State.offReplay (s.offRecords_replayRounds k p all) :)
  have hdrop : (s.dropDscomb k p).offReplay = s.offReplay :=
    (s.recorded_dropDscomb k p).keeps State.offReplay State.offReplay_record
  exact hrounds.trans ((State.offReplay_rollbackWhere ..).trans hdrop)

theorem State.clears_replayRounds : State.Clears (s.clusterAt p) s (s.replayRounds k p all) := by
  have hdrop : (s.dropDscomb k p).clusters = s.clusters :=
    (s.recorded_dropDscomb k p).keeps State.clusters State.record_clusters
  have hcl : State.Clears (s.clusterAt p) s (s.dropDscomb k p) := .of_clusters _ hdrop
  have hsets := (s.dropDscomb k p).clears_rollbackWhere p fun r o => all || (s.dropDscomb k p).touches k r o
  rw [hcl.clusterAt] at hsets
  exact (hcl.trans hsets).trans (.of_clusters _ (congrArg State.clusters (s.offRecords_replayRounds k p all) :))

end

/-! What is left of the cluster. -/

section
variable {s : State} {k p : Nat} {all : Bool}

/-- The cluster of a fault has lost its span, and all its banks where everything of the position is replayed. -/
theorem State.replayAt_cluster (hk : k < s.clusters.length) :
    (s.replayAt k p all).cluster k =
      { (s.replayRounds k p all).cluster k with
        span := none, banks := if all then [] else ((s.replayRounds k p all).cluster k).banks } := by
  rw [State.replayAt_eq, State.cluster_updCluster_same]
  rwa [(s.clears_replayRounds k p all).length]

theorem State.replayAt_clusters_length : (s.replayAt k p all).clusters.length = s.clusters.length :=
  (List.length_modify ..).trans (s.clears_replayRounds k p all).length

/-- What a replay does to the cluster of a fault that serves the position. -/
theorem State.clears_replayAt (hat : s.clusterAt p = k) :
    ∀ i, i ≠ k → (s.replayAt k p all).cluster i = s.cluster i := by
  intro i hi
  rw [State.replayAt_eq, State.cluster_updCluster_ne hi]
  exact (s.clears_replayRounds k p all).others i (hat ▸ hi)

end

end Sys2Proof.Machine
end

section
/-!
Loss of plans and failure of a cluster (R154, R443, R444): what they leave alone, and what is left of the clusters.
-/
namespace Sys2Proof.Machine

/-! What the loss of a plan leaves alone. -/

/-- The state without what a context's work is made of: its keys, plan, rounds, connections and commands, the clusters, the
journal, what has been sent, and what records touch. -/
def State.offLoss (s : State) : State :=
  { s.unrecorded with keys := .reset, journal := .reset, host := .reset, ctxs := [], plans := [], clusters := [],
                      rounds := [], grixo := .reset, out := [] }

/-- The state without its virtual functions. -/
def State.offHost (s : State) : State := { s with host := .reset }

/-- The state without the journal and what records touch. -/
def State.offJournal (s : State) : State := { s.unrecorded with journal := .reset }

section
variable (s : State)

theorem State.offJournal_record (code source : Nat) (ctx : Option Nat) (p : Bytes) :
    (s.record code source ctx p).offJournal = s.offJournal := by
  simp [State.offJournal, State.record_unrecorded]

theorem State.offJournal_journal1 (kind : Nat) (ctx : Option Nat) (body : Bytes) :
    (s.journal1 kind ctx body).offJournal = s.offJournal := by
  unfold State.journal1
  dsimp only
  split
  · exact State.offJournal_record ..
  · rfl

theorem State.offHost_settleVf (v : Nat) : (s.settleVf v).offHost = s.offHost := by
  unfold State.settleVf
  dsimp only
  split <;> rfl

theorem State.offHost_complete (v : Nat) (e : Bytes) (status r0 r1 : Nat) :
    (s.complete v e status r0 r1).offHost = s.offHost :=
  State.offHost_settleVf ..

theorem State.offHost_completeRunning (v opcode status r0 r1 : Nat) :
    (s.completeRunning v opcode status r0 r1).offHost = s.offHost := by
  unfold State.completeRunning
  split
  · split
    · exact State.offHost_complete ..
    · rfl
  · rfl

theorem State.offWire_sendClosing (k : Closing) : (s.sendClosing k).2.offWire = s.offWire := by
  unfold State.sendClosing
  dsimp only
  split
  · rfl
  next h => exact State.offWire_emitPacket h

theorem State.offWire_closeConn (i reason : Nat) (st : ConnState) :
    (s.closeConn i reason st).offWire = s.offWire := by
  have hres : ((s.makeResident i).getD s).offWire = s.offWire := by
    cases h : s.makeResident i with
    | none => rfl
    | some t => exact State.offWire_makeResident h
  unfold State.closeConn
  dsimp only
  split
  · exact hres
  · split
    · exact hres
    · rw [State.offWire_record]
      generalize hy : State.sendClosing _ _ = y
      have hsent : y.2.offWire = s.offWire := by
        rw [← hy, State.offWire_sendClosing, State.offWire_endConn, hres]
      exact hsent

theorem State.offWire_closeAll (q : Conn → Bool) (reason : Nat) : (s.closeAll q reason).offWire = s.offWire :=
  foldl_keeps State.offWire (fun _ _ => State.offWire_closeConn ..) ..

theorem State.offLoss_record (code source : Nat) (ctx : Option Nat) (p : Bytes) :
    (s.record code source ctx p).offLoss = s.offLoss := by
  simp [State.offLoss, State.record_unrecorded]

theorem State.offLoss_journal1 (kind : Nat) (ctx : Option Nat) (body : Bytes) :
    (s.journal1 kind ctx body).offLoss = s.offLoss :=
  (congrArg State.offLoss (s.offJournal_journal1 kind ctx body) :)

theorem State.offLoss_completeRunning (v opcode status r0 r1 : Nat) :
    (s.completeRunning v opcode status r0 r1).offLoss = s.offLoss :=
  (congrArg State.offLoss (s.offHost_completeRunning v opcode status r0 r1) :)

theorem State.offLoss_closeAll (q : Conn → Bool) (reason : Nat) : (s.closeAll q reason).offLoss = s.offLoss :=
  (congrArg State.offLoss (s.offWire_closeAll q reason) :)

theorem State.offLoss_countTier (tier : Nat) : (s.countTier tier).offLoss = s.offLoss := by
  simp [State.offLoss, State.unrecorded, State.countTier]

theorem State.offLoss_abandonRound (c h cause : Nat) : (s.abandonRound c h cause).offLoss = s.offLoss := by
  unfold State.abandonRound
  split
  · rfl
  · exact (State.offLoss_record ..).trans (State.offLoss_journal1 ..)

theorem State.offLoss_abandonAll (c code : Nat) : (s.abandonAll c code).offLoss = s.offLoss := by
  have hrounds := foldl_keeps State.offLoss (g := fun s (r : Round) => s.abandonRound c r.template code)
    (fun _ _ => State.offLoss_abandonRound ..) (s.rounds.filter fun r => r.ctx == c && r.state.live) s
  unfold State.abandonAll
  dsimp only
  split
  · exact (State.offLoss_completeRunning ..).trans hrounds
  · exact hrounds

/-- The releases of a cohort are counted for its connections. -/
def State.countRelease (s : State) (c h : Nat) : State :=
  let n := (assocGet s.grixo.releases (c, h)).getD 0
  { s with grixo := { s.grixo with releases := assocSet s.grixo.releases (c, h) ((n + 1) % 2 ^ 32) } }

/-- The output of a round is written and its key slots are freed (R254). -/
def State.releaseData (s : State) (c h base : Nat) (r : Round) (x : Bytes) : State :=
  ((s.writeMem c base x).freeSlots r.slots).updRound c h fun r =>
    { r.zeroed .released with delivering := false, delivered := true }

/-- A release is counted, journaled and recorded (R254). -/
def State.reportRelease (s : State) (c h : Nat) (body : Bytes) : State :=
  let s := ((s.countRelease c h).count c fun x => { x with releases := x.releases + 1 }).journal1 8 (some c) body
  s.record 0x05140034 s.srcLeader (some c) body

/-- A delivery releases the output of a round, and completes the command that waits for it. -/
theorem State.deliver_cases (c h : Nat) : s.deliver c h = s ∨ ∃ base r x body,
    s.deliver c h = (s.releaseData c h base r x).reportRelease c h body ∨
      ∃ v, s.deliver c h =
        ((s.releaseData c h base r x).reportRelease c h body).completeRunning v 0x06 0 0 r.releaseBeat := by
  unfold State.deliver
  split
  next r im _ _ =>
    dsimp only
    split
    next v _ => exact .inr ⟨_, r, _, leBytes 4 r.cohortId ++ leBytes 4 r.number, .inr ⟨v, rfl⟩⟩
    next => exact .inr ⟨_, r, _, leBytes 4 r.cohortId ++ leBytes 4 r.number, .inl rfl⟩
  next => exact .inl rfl

theorem State.offLoss_releaseData (c h base : Nat) (r : Round) (x : Bytes) :
    (s.releaseData c h base r x).offLoss = s.offLoss := rfl

theorem State.offLoss_countRelease (c h : Nat) (f : Counters → Counters) :
    ((s.countRelease c h).count c f).offLoss = s.offLoss := rfl

theorem State.offLoss_reportRelease (c h : Nat) (body : Bytes) : (s.reportRelease c h body).offLoss = s.offLoss := by
  rw [State.reportRelease, State.offLoss_record, State.offLoss_journal1, State.offLoss_countRelease]

theorem State.offLoss_deliver (c h : Nat) : (s.deliver c h).offLoss = s.offLoss := by
  obtain heq | ⟨base, r, x, body, heq | ⟨v, heq⟩⟩ := s.deliver_cases c h
  · rw [heq]
  · rw [heq, State.offLoss_reportRelease, State.offLoss_releaseData]
  · rw [heq, State.offLoss_completeRunning, State.offLoss_reportRelease, State.offLoss_releaseData]

/-- The rounds of a context that loses its plan: those that run are abandoned, those past their release are delivered. -/
def State.endRounds (s : State) (c : Nat) : State :=
  let s := s.abandonAll c 0x03500040
  (s.rounds.filter fun r => r.ctx == c && r.delivering).foldl (fun s r => s.deliver c r.template) s

/-- The commands of a context that loses its plan complete, and the plan goes. -/
def State.endPlan (s : State) (c : Nat) : State :=
  let s := s.completeRunning (s.vfOf c) 0x01 0x03500040 0xFFFFFFFF 0
  let s := s.completeRunning (s.vfOf c) 0x02 0x03500040 0 0
  s.updPlan c fun p => { PlanSlot.reset with lastReject := p.lastReject }

/-- Nothing of a context's plan runs on. -/
def State.clearPlan (s : State) (c : Nat) : State :=
  { s with rounds := s.rounds.filter fun r => r.ctx != c
           clusters := s.clusters.map fun (k : Cluster) => k.without c }

/-- The loss is reported to the peers, the journal and the recorder. -/
def State.reportLoss (s : State) (c : Nat) : State :=
  let s := s.closeAll (fun x => x.ctx == c && x.kind == 1) 0x03500040
  let s := s.journal1 2 (some c) (leBytes 8 s.hal.beatCount)
  let s := s.countTier 3
  s.record 0x03500040 s.srcLeader (some c) (leBytes 1 c)

theorem State.losePlan_eq (c : Nat) : s.losePlan c =
    if (s.plan c).state = .none then s else (((s.endRounds c).endPlan c).clearPlan c).reportLoss c := rfl

theorem State.offLoss_endRounds (c : Nat) : (s.endRounds c).offLoss = s.offLoss :=
  (foldl_keeps State.offLoss (fun _ _ => State.offLoss_deliver ..) ..).trans (s.offLoss_abandonAll ..)

theorem State.offLoss_endPlan (c : Nat) : (s.endPlan c).offLoss = s.offLoss :=
  (State.offLoss_completeRunning ..).trans (State.offLoss_completeRunning ..)

theorem State.offLoss_clearPlan (c : Nat) : (s.clearPlan c).offLoss = s.offLoss := rfl

theorem State.offLoss_reportLoss (c : Nat) : (s.reportLoss c).offLoss = s.offLoss :=
  (State.offLoss_record ..).trans ((State.offLoss_countTier ..).trans ((State.offLoss_journal1 ..).trans
    (s.offLoss_closeAll ..)))

theorem State.offLoss_losePlan (c : Nat) : (s.losePlan c).offLoss = s.offLoss := by
  rw [State.losePlan_eq]
  split
  · rfl
  · rw [State.offLoss_reportLoss, State.offLoss_clearPlan, State.offLoss_endPlan, State.offLoss_endRounds]

end

/-! Clusters that lose what ran on them. -/

/-- From `c` to `d` a cluster has lost work at most. -/
structure Cluster.Sheds (c d : Cluster) : Prop where
  kept : d = { c with span := d.span, banks := d.banks, ahead := d.ahead }
  span : c.span = none → d.span = none
  banks : c.banks = [] → d.banks = []

/-- From `s` to `t` clusters have lost work at most. -/
structure State.Sheds (s t : State) : Prop where
  length : t.clusters.length = s.clusters.length
  cluster : ∀ i, (s.cluster i).Sheds (t.cluster i)

theorem Cluster.Sheds.refl (c : Cluster) : c.Sheds c := ⟨rfl, id, id⟩

theorem Cluster.Sheds.trans {c d e : Cluster} (h : c.Sheds d) (g : d.Sheds e) : c.Sheds e := by
  refine ⟨?_, fun hs => g.span (h.span hs), fun hb => g.banks (h.banks hb)⟩
  rw [g.kept, h.kept]

theorem Cluster.sheds_forget (c : Cluster) (ctx t : Nat) : c.Sheds (c.forget ctx t) :=
  ⟨rfl, fun h => by simp [Cluster.forget, h], fun h => by simp [Cluster.forget, h]⟩

theorem Cluster.sheds_without (c : Cluster) (ctx : Nat) : c.Sheds (c.without ctx) :=
  ⟨rfl, fun h => by simp [Cluster.without, h], fun h => by simp [Cluster.without, h]⟩

section
variable {s t u : State}

theorem State.Sheds.of_clusters (h : t.clusters = s.clusters) : s.Sheds t :=
  ⟨by rw [h], fun i => by rw [State.cluster_congr h]; exact .refl _⟩

theorem State.Sheds.trans (h : s.Sheds t) (g : t.Sheds u) : s.Sheds u :=
  ⟨g.length.trans h.length, fun i => (h.cluster i).trans (g.cluster i)⟩

theorem State.Sheds.of_map {f : Cluster → Cluster} (hf : ∀ c : Cluster, c.Sheds (f c))
    (h : t.clusters = s.clusters.map f) :
    s.Sheds t := by
  refine ⟨by rw [h, List.length_map], fun i => ?_⟩
  by_cases hi : i < s.clusters.length
  · have hc : t.cluster i = f (s.cluster i) := by
      simp [State.cluster, h, List.getD_eq_getElem?_getD, hi]
    rw [hc]
    exact hf _
  · have hout (v : State) (hv : v.clusters.length = s.clusters.length) : v.cluster i = .reset 0 0 :=
      List.getD_eq_default _ _ (hv ▸ Nat.le_of_not_lt hi)
    rw [hout s rfl, hout t (by rw [h, List.length_map])]
    exact .refl _

theorem State.Sheds.foldl {α : Type} {g : State → α → State} (hg : ∀ (s : State) x, s.Sheds (g s x)) (l : List α)
    (s : State) : s.Sheds (l.foldl g s) :=
  List.foldlRecOn l g (.of_clusters rfl) fun _ hb a _ => hb.trans (hg _ a)

theorem State.journal1_clusters (s : State) (kind : Nat) (ctx : Option Nat) (body : Bytes) :
    (s.journal1 kind ctx body).clusters = s.clusters :=
  (congrArg State.clusters (s.offJournal_journal1 kind ctx body) :)

theorem State.completeRunning_clusters (s : State) (v opcode status r0 r1 : Nat) :
    (s.completeRunning v opcode status r0 r1).clusters = s.clusters :=
  (congrArg State.clusters (s.offHost_completeRunning v opcode status r0 r1) :)

theorem State.sheds_abandonRound (s : State) (c h cause : Nat) : s.Sheds (s.abandonRound c h cause) := by
  unfold State.abandonRound
  split
  · exact .of_clusters rfl
  · exact .of_map (fun x => x.sheds_forget c h) ((State.record_clusters ..).trans (State.journal1_clusters ..))

theorem State.sheds_abandonAll (s : State) (c code : Nat) : s.Sheds (s.abandonAll c code) := by
  have hrounds := State.Sheds.foldl (g := fun s (r : Round) => s.abandonRound c r.template code)
    (fun s r => s.sheds_abandonRound c r.template code) (s.rounds.filter fun r => r.ctx == c && r.state.live) s
  unfold State.abandonAll
  dsimp only
  split
  · exact hrounds.trans (.of_clusters (State.completeRunning_clusters ..))
  · exact hrounds.trans (.of_clusters rfl)

theorem State.releaseData_clusters (s : State) (c h base : Nat) (r : Round) (x : Bytes) :
    (s.releaseData c h base r x).clusters = s.clusters := rfl

theorem State.reportRelease_clusters (s : State) (c h : Nat) (body : Bytes) :
    (s.reportRelease c h body).clusters = s.clusters := by
  rw [State.reportRelease, State.record_clusters, State.journal1_clusters]
  rfl

theorem State.deliver_clusters (s : State) (c h : Nat) : (s.deliver c h).clusters = s.clusters := by
  obtain heq | ⟨base, r, x, body, heq | ⟨v, heq⟩⟩ := s.deliver_cases c h
  · rw [heq]
  · rw [heq, State.reportRelease_clusters, State.releaseData_clusters]
  · rw [heq, State.completeRunning_clusters, State.reportRelease_clusters, State.releaseData_clusters]

theorem State.sheds_endRounds (s : State) (c : Nat) : s.Sheds (s.endRounds c) :=
  (s.sheds_abandonAll c _).trans (.of_clusters (foldl_keeps State.clusters (fun _ _ => State.deliver_clusters ..) ..))

theorem State.endPlan_clusters (s : State) (c : Nat) : (s.endPlan c).clusters = s.clusters :=
  (State.completeRunning_clusters ..).trans (State.completeRunning_clusters ..)

theorem State.reportLoss_clusters (s : State) (c : Nat) : (s.reportLoss c).clusters = s.clusters :=
  (State.record_clusters ..).trans ((State.persist_clusters ..).trans ((State.journal1_clusters ..).trans
    (congrArg State.clusters (s.offWire_closeAll _ _) :)))

theorem State.sheds_clearPlan (s : State) (c : Nat) : s.Sheds (s.clearPlan c) :=
  .of_map (fun x => x.sheds_without c) rfl

theorem State.sheds_losePlan (s : State) (c : Nat) : s.Sheds (s.losePlan c) := by
  rw [State.losePlan_eq]
  split
  · exact .of_clusters rfl
  · have hplan : (s.endRounds c).Sheds ((s.endRounds c).endPlan c) := .of_clusters (State.endPlan_clusters ..)
    have hreport (u : State) : u.Sheds (u.reportLoss c) := .of_clusters (State.reportLoss_clusters ..)
    exact (s.sheds_endRounds c).trans (hplan.trans ((State.sheds_clearPlan ..).trans (hreport _)))

end

end Sys2Proof.Machine
end

section
/-!
Failure of a cluster (R154, R444): whatever becomes of the plans that use it, the cluster stops and is taken out of
SERVICE, and time, power and start-up go on.
-/
namespace Sys2Proof.Machine

/-- A cluster that was declared failed at a beat: it has stopped, and MAINTENANCE is requested (R444). -/
structure Cluster.FailedAt (b : Nat) (c : Cluster) : Prop where
  failed : c.failed = true
  span : c.span = none
  banks : c.banks = []
  request : c.request = some (.maintenance, b)

theorem Cluster.FailedAt.of_sheds {b : Nat} {c d : Cluster} (h : c.FailedAt b) (g : c.Sheds d) : d.FailedAt b :=
  ⟨by rw [g.kept]; exact h.failed, g.span h.span, g.banks h.banks, by rw [g.kept]; exact h.request⟩

/-- The state without what the failure of a cluster touches. -/
def State.offFail (s : State) : State := { s.offLoss with lead := .reset }

/-- In `u` cluster `k` is declared failed, and of `s` only what that touches has changed. -/
structure State.Fails (k : Nat) (s u : State) : Prop where
  frame : u.offFail = s.offFail
  length : k < u.clusters.length
  cluster : (u.cluster k).FailedAt s.hal.beatCount

section
variable {s u v : State} {k : Nat}

theorem State.Fails.of_sheds (h : State.Fails k s u) (hframe : v.offLoss = u.offLoss) (hcl : u.Sheds v) :
    State.Fails k s v :=
  ⟨(congrArg (fun x : State => { x with lead := .reset }) hframe).trans h.frame, hcl.length ▸ h.length,
    h.cluster.of_sheds (hcl.cluster k)⟩

theorem State.Fails.record (h : State.Fails k s u) (code source : Nat) (ctx : Option Nat) (p : Bytes) :
    State.Fails k s (u.record code source ctx p) :=
  h.of_sheds (State.offLoss_record ..) (.of_clusters (State.record_clusters ..))

theorem State.Fails.losePlans (h : State.Fails k s u) (l : List Nat) :
    State.Fails k s (l.foldl (fun s c => s.losePlan c) u) :=
  h.of_sheds (foldl_keeps State.offLoss (fun _ _ => State.offLoss_losePlan ..) ..)
    (.foldl (fun s c => s.sheds_losePlan c) ..)

/-- A cluster that has failed stays so where its takeover, its table or its use as a spare change. -/
theorem State.Fails.updCluster (h : State.Fails k s u) (j : Nat) {f : Cluster → Cluster}
    (hf : ∀ c : Cluster, f c = { c with unavailable := (f c).unavailable, tableLoaded := (f c).tableLoaded,
                                        takeoverWindow := (f c).takeoverWindow }) :
    State.Fails k s (u.updCluster j f) := by
  refine ⟨h.frame, (List.length_modify ..).symm ▸ h.length, ?_⟩
  by_cases hj : k = j
  · subst hj
    obtain ⟨hfailed, hspan, hbanks, hrequest⟩ := h.cluster
    rw [State.cluster_updCluster_same h.length, hf]
    exact ⟨hfailed, hspan, hbanks, hrequest⟩
  · rw [State.cluster_updCluster_ne hj]
    exact h.cluster

end

section
variable (s : State) (k : Nat)

/-- A cluster is declared failed: it stops, and a change of its owner bit that waits is dropped (R444). -/
def State.declareFailed (s : State) (k : Nat) : State :=
  let s' := s.updCluster k fun c =>
    { c with failed := true, span := none, banks := [], request := some (.maintenance, s.hal.beatCount) }
  (if (s.cluster k).request.isSome then s'.record 0x01500032 (srcCluster k) none [] else s').record 0x04500007
    (srcCluster k) none []

/-- A spare that fails takes no block, and the plans that wait for it are lost (R154, R443). -/
def State.failSpare (s : State) (k : Nat) : State :=
  let waits := s.takeoverOf (k / 16)
  let s := s.updCluster k fun c => { c with unavailable := true, tableLoaded := false }
  let s := { s with lead := { s.lead with spareState := updAt s.lead.spareState (k / 16) fun _ => 14 } }
  match waits with
  | none => s
  | some j =>
    let users := s.plansAt ((s.cluster j).position.getD 0)
    let s := (s.updCluster j fun c => { c with takeoverWindow := none }).record 0x04500008 (srcCluster j) none []
    users.foldl (fun s u => s.losePlan u) s

/-- A block whose cluster fails goes to the spare, or the plans that use it are lost (R154, R443). -/
def State.failServing (s : State) (k p : Nat) (spare : Cluster) : State :=
  let canton := k / 16
  let users := s.plansAt p
  let unfit := spare.unavailable || spare.failed || spare.position.isSome || k % 16 == 15 ||
    (s.takeoverOf canton).isSome || s.start.substituted.getD canton 15 != 15
  let beyond := users.filter fun u =>
    unfit || !(((s.image u).map fun i => (i.eligible.getD canton 0).testBit (positionNumber p)).getD false)
  let s := s.updCluster k fun c => { c with takeoverWindow := if unfit then none else some s.window }
  if beyond.isEmpty && !unfit then s
  else
    let s := s.record 0x04500008 (srcCluster k) none []
    beyond.foldl (fun s u => s.losePlan u) s

variable {s k}

theorem State.failCluster_eq (h : (s.cluster k).failed = false) : s.failCluster k =
    match (s.cluster k).position with
    | none => (s.declareFailed k).failSpare k
    | some p => (s.declareFailed k).failServing k p (s.cluster (16 * (k / 16) + 15)) := by
  unfold State.failCluster
  rw [if_neg (by simp [h])]
  rfl

theorem State.fails_declareFailed (hk : k < s.clusters.length) : State.Fails k s (s.declareFailed k) := by
  have hstop : State.Fails k s (s.updCluster k fun c =>
      { c with failed := true, span := none, banks := [], request := some (.maintenance, s.hal.beatCount) }) := by
    refine ⟨rfl, (List.length_modify ..).symm ▸ hk, ?_⟩
    rw [State.cluster_updCluster_same hk]
    exact ⟨rfl, rfl, rfl, rfl⟩
  unfold State.declareFailed
  dsimp only
  split
  · exact (hstop.record ..).record ..
  · exact hstop.record ..

theorem State.Fails.failSpare {u : State} (h : State.Fails k s u) : State.Fails k s (u.failSpare k) := by
  have hout : State.Fails k s (u.updCluster k fun c => { c with unavailable := true, tableLoaded := false }) :=
    h.updCluster k fun _ => rfl
  unfold State.failSpare
  dsimp only
  split
  · exact ⟨hout.frame, hout.length, hout.cluster⟩
  · have hwait : State.Fails k s { u.updCluster k (fun c => { c with unavailable := true, tableLoaded := false }) with
        lead := { u.lead with spareState := updAt u.lead.spareState (k / 16) fun _ => 14 } } :=
      ⟨hout.frame, hout.length, hout.cluster⟩
    exact (((hwait.updCluster _ fun _ => rfl).record ..).losePlans _)

theorem State.Fails.failServing {u : State} (h : State.Fails k s u) (p : Nat) (spare : Cluster) :
    State.Fails k s (u.failServing k p spare) := by
  unfold State.failServing
  dsimp only
  split
  · exact h.updCluster k fun _ => rfl
  · exact ((h.updCluster k fun _ => rfl).record ..).losePlans _

/-- A cluster that is declared failed has stopped, whatever is lost with it (R444). -/
theorem State.fails_failCluster (hk : k < s.clusters.length) (h : (s.cluster k).failed = false) :
    State.Fails k s (s.failCluster k) := by
  rw [State.failCluster_eq h]
  split
  · exact (State.fails_declareFailed hk).failSpare
  · exact (State.fails_declareFailed hk).failServing ..

end

/-! A tier 1 fault is noted (R443, R444). -/

section
variable {s : State} {k : Nat}

/-- The beat of the last fault of a cluster is kept. -/
def State.faultNoted (s : State) (k : Nat) : State :=
  { s with lead := { s.lead with lastFault := s.lead.lastFault.set k (some s.hal.beatCount) } }

theorem State.noteFault_eq : s.noteFault k =
    if (match s.lead.lastFault.getD k none with
      | some x => decide (s.hal.beatCount ≤ x + 4096)
      | none => false) then (s.faultNoted k).failCluster k else s.faultNoted k := by
  unfold State.noteFault State.faultNoted
  rw [List.set_eq_modify]
  rfl

/-- A first fault, or one that comes more than 4,096 beats after the last, is only noted. -/
theorem State.noteFault_first (h : ∀ x, s.lead.lastFault[k]? = some (some x) → x + 4096 < s.hal.beatCount) :
    s.noteFault k = s.faultNoted k := by
  rw [State.noteFault_eq, if_neg]
  rw [List.getD_eq_getElem?_getD]
  cases hx : s.lead.lastFault[k]? with
  | none => simp
  | some y =>
    cases y with
    | none => simp
    | some x => simpa using h x hx

/-- A second fault within 4,096 beats declares the cluster failed. -/
theorem State.noteFault_again {x : Nat} (h : s.lead.lastFault[k]? = some (some x)) (hx : s.hal.beatCount ≤ x + 4096) :
    s.noteFault k = (s.faultNoted k).failCluster k := by
  rw [State.noteFault_eq, if_pos]
  simp [List.getD_eq_getElem?_getD, h, hx]

end

end Sys2Proof.Machine
end

section
/-!
CLUSTER_FAULT, SPARE_TAKEOVER, SPARE_BECOMES_SERVICE (R26, R151, R154, R155, R444).
-/
namespace Sys2Proof.Machine

/-! A replay where nothing was under way. -/

section
variable {s : State} {k p : Nat} {r : Round}

/-- No set has a commit under way in a round, and no ring tile is staged in. -/
def Round.isQuiet (r : Round) : Prop := r.ring.working = [] ∧ ∀ o ∈ r.owners, o.commit.state ≠ 1

theorem Round.lostCopies_of_quiet (h : r.ring.working = []) (im : PlanImage) (c : Cluster) (all : Bool) :
    r.lostCopies im c p all = [] := by
  rw [Round.lostCopies, h, List.filter_nil]

/-- Without staged copies the rounds stay as they are. -/
theorem State.replayRing_of_quiet (hs : ∀ x ∈ s.rounds, x.ring.working = []) (hr : r.ring.working = []) (all : Bool) :
    (s.replayRing k p all r).rounds = s.rounds := by
  unfold State.replayRing
  split
  · rfl
  · simp only [Round.lostCopies_of_quiet hr, List.filter_nil, List.foldl_nil]
    refine (List.map_congr_left fun x hx => ?_).trans (List.map_id s.rounds)
    split
    · have hx := hs x hx
      simp only [hx, List.filter_nil]
      rw [← hx]
      rfl
    · rfl

/-- A round in which nothing was under way is not replayed. -/
theorem State.replayRound_of_quiet {c : Cluster} (hc : c.span = none) (hs : ∀ x ∈ s.rounds, x.isQuiet)
    (hr : r.isQuiet) : (State.replayRound k p false c s r).rounds = s.rounds := by
  have hring : (s.replayRing k p false r).rounds = s.rounds :=
    State.replayRing_of_quiet (fun x hx => (hs x hx).1) hr.1 false
  have hruns (op : Nat → Bool) : c.runs r op = false := by rw [Cluster.runs, hc]; rfl
  have hfolds : (r.owners.any fun o => o.position == p && o.commit.fold && o.commit.state == 1) = false := by
    simpa using fun o ho _ _ => hr.2 o ho
  unfold State.replayRound
  simp only [hruns, hfolds]
  split
  · rfl
  · split
    · exact hring
    · split <;> exact hring

/-- Without a span and with nothing under way no set is touched. -/
theorem State.replaySets_of_quiet (hspan : (s.cluster k).span = none) (hs : ∀ x ∈ s.rounds, x.isQuiet) :
    s.replaySets k p false = s := by
  unfold State.replaySets
  rw [State.dropDscomb_of_no_span s hspan]
  apply State.rollbackWhere_of_none
  intro x hx o ho
  simp [State.touches, hspan, (hs x hx).2 o ho]

/-- A fault of a cluster that runs nothing, with nothing under way, is replayed without effect. -/
theorem State.replayRounds_of_quiet (hspan : (s.cluster k).span = none) (hs : ∀ x ∈ s.rounds, x.isQuiet) :
    (s.replayRounds k p false).rounds = s.rounds ∧ (s.replayRounds k p false).clusters = s.clusters := by
  have hframe := s.offRecords_replayRounds k p false
  unfold State.replayRounds at *
  rw [State.replaySets_of_quiet hspan hs] at *
  refine ⟨?_, (congrArg State.clusters hframe :)⟩
  refine List.foldlRecOn (motive := fun u : State => u.rounds = s.rounds) s.rounds _ rfl fun u hu r hr => ?_
  exact (State.replayRound_of_quiet hspan (hu.symm ▸ hs) (hs r hr)).trans hu

end

/-! CLUSTER_FAULT. -/

section
variable {s : State} {k p : Nat}

theorem exec_clusterFault_replay (hk : k < 64) (hf : (s.cluster k).failed = false)
    (hpos : (s.cluster k).position = some p) :
    exec (.clusterFault k 0) s = .next ((s.replayAt k p false).noteFault k) := by
  change execClusterFault k 0 s = _
  unfold execClusterFault
  rw [if_neg (by simp [hf, hk])]
  simp only [hpos]

theorem exec_clusterFault_fail (hk : k < 64) (hf : (s.cluster k).failed = false) :
    exec (.clusterFault k 1) s = .next (s.failCluster k) := by
  change execClusterFault k 1 s = _
  unfold execClusterFault
  rw [if_neg (by simp [hf, hk])]
  rfl

/-- A spare tests itself through its maintenance port (R26). -/
theorem exec_clusterFault_spare {c : Nat} (hc : c < 4) (hf : (s.cluster (16 * c + 15)).failed = false) :
    exec (.clusterFault (16 * c + 15) 2) s =
      .next (s.portUse (16 * c + 15) .test fun s =>
        let s := s.updCluster (16 * c + 15) fun x => { x with unavailable := true, selfTestPassed := false }
        { s with lead := { s.lead with spareState := s.lead.spareState.set c 14 } }) := by
  have hmod : (16 * c + 15) % 16 = 15 := by omega
  have hdiv : (16 * c + 15) / 16 = c := by omega
  change execClusterFault (16 * c + 15) 2 s = _
  unfold execClusterFault
  rw [if_neg (by simp [hf]; omega)]
  simp only [hmod, hdiv, List.set_eq_modify]
  rfl

/-- What a replayed fault leaves of the other clusters, and of the cluster itself (R150, R444). -/
theorem State.replayAt_own (hk : k < s.clusters.length) (hat : s.clusterAt p = k) :
    ((s.replayAt k p false).cluster k).span = none ∧
      (∀ b ∈ ((s.replayAt k p false).cluster k).banks, b ∈ (s.cluster k).banks) ∧
      ((s.replayAt k p false).cluster k).failed = (s.cluster k).failed ∧
      ((s.replayAt k p false).cluster k).position = (s.cluster k).position := by
  have hclear := s.clears_replayRounds k p false
  rw [hat] at hclear
  rw [State.replayAt_cluster hk]
  exact ⟨rfl, hclear.banks, (congrArg Cluster.failed hclear.own :), (congrArg Cluster.position hclear.own :)⟩

/-- A fault that is replayed leaves `failed` as it was, wherever the position is served. -/
theorem State.replayAt_failed (hk : k < s.clusters.length) :
    ((s.replayAt k p false).cluster k).failed = (s.cluster k).failed := by
  rw [State.replayAt_cluster hk]
  exact (congrArg Cluster.failed ((s.clears_replayRounds k p false).offBanks k) :)

/-- What the failure of a cluster leaves running. -/
theorem State.Fails.runs_on {u : State} (h : State.Fails k s u) :
    (u.cluster k).failed = true ∧ (u.cluster k).span = none ∧ (u.cluster k).banks = [] ∧
      (u.cluster k).request = some (.maintenance, s.hal.beatCount) ∧ u.hal = s.hal ∧ u.start = s.start ∧
      u.power = s.power ∧ u.aon = s.aon ∧ u.drbgs = s.drbgs ∧ u.pending = s.pending :=
  ⟨h.cluster.failed, h.cluster.span, h.cluster.banks, h.cluster.request, (congrArg State.hal h.frame :),
    (congrArg State.start h.frame :), (congrArg State.power h.frame :), (congrArg State.aon h.frame :),
    (congrArg State.drbgs h.frame :), (congrArg State.pending h.frame :)⟩

/-- A second fault within 4,096 beats fails the cluster after the replay (R444). -/
theorem State.fails_replay_again {x : Nat} (hk : k < s.clusters.length) (hf : (s.cluster k).failed = false)
    (hlast : s.lead.lastFault[k]? = some (some x)) (hx : s.hal.beatCount ≤ x + 4096) :
    State.Fails k s ((s.replayAt k p false).noteFault k) := by
  have hframe := s.offReplay_replayAt k p false
  have hhal : (s.replayAt k p false).hal = s.hal := (congrArg State.hal hframe :)
  have hlead : (s.replayAt k p false).lead = s.lead := (congrArg State.lead hframe :)
  rw [State.noteFault_again (hlead.symm ▸ hlast) (hhal.symm ▸ hx)]
  have hfail := State.fails_failCluster (s := (s.replayAt k p false).faultNoted k) (k := k)
    (State.replayAt_clusters_length.symm ▸ hk) ((State.replayAt_failed hk).trans hf)
  refine ⟨hfail.frame.trans (congrArg State.offFail hframe :), hfail.length, ?_⟩
  rw [← hhal]
  exact hfail.cluster

end

/-! The spare (R154, R155). -/

section
variable {s : State} {c k : Nat}

/-- The failed cluster of a Canton that waits for the spare is not the spare. -/
theorem State.takeoverOf_ne_spare (h : s.takeoverOf c = some k) : k ≠ 16 * c + 15 ∧ k < 16 * c + 15 := by
  obtain ⟨i, hi, rfl⟩ := List.mem_map.mp (List.mem_of_find?_eq_some h)
  have := List.mem_range.mp hi
  omega

/-- In the window after the fault the leader loads the block into a spare that can take it (R154). -/
theorem exec_spareTakeover {w : Nat} (hk : s.takeoverOf c = some k) (hw : (s.cluster k).takeoverWindow = some w)
    (hlt : w < s.window) (hlead : s.noLeader = false) (hhold : s.lead.hold = none)
    (hload : (s.cluster (16 * c + 15)).tableLoaded = false) (htest : (s.cluster (16 * c + 15)).selfTestPassed = true)
    (hf : (s.cluster (16 * c + 15)).failed = false) (hun : (s.cluster (16 * c + 15)).unavailable = false) :
    exec (.spareTakeover c) s =
      .next ((s.replayAt k ((s.cluster k).position.getD 0) true).updCluster (16 * c + 15) fun x =>
        { x with tableLoaded := true, request := some (.service, s.hal.beatCount) }) := by
  have hhal : (s.replayAt k ((s.cluster k).position.getD 0) true).hal = s.hal :=
    (congrArg State.hal (s.offReplay_replayAt k _ true) :)
  obtain ⟨cp, hcp⟩ : ∃ cp, s.leaderCp = some cp := by
    have hsome : s.leaderCp.isNone = false := by simp_all [State.noLeader]
    exact Option.isSome_iff_exists.mp (by simpa using hsome)
  have hmay : s.mayUse cp .serviceWrite = true := by simp [State.mayUse, hcp]
  have hwin : ¬ s.window ≤ w := by omega
  change execSpareTakeover c s = _
  unfold execSpareTakeover
  simp only [hk, hcp, hw, Option.getD_some]
  rw [if_neg (by simp [hwin, hlead, State.inHold, hhold, hmay, hload, htest, hf, hun]), hhal]

end

end Sys2Proof.Machine
end

section
/-!
CLUSTER_FAULT that is replayed, and the spare at a window boundary (R150, R154, R155, R444).
-/
namespace Sys2Proof.Machine

/-! A fault that is replayed. -/

section
variable {s : State} {k p : Nat}

/-- A first fault changes the time of the last fault beside what a replay touches (R444). -/
theorem State.noteFault_replayAt_first
    (h : ∀ x, s.lead.lastFault[k]? = some (some x) → x + 4096 < s.hal.beatCount) :
    (s.replayAt k p false).noteFault k = (s.replayAt k p false).faultNoted k ∧
      ((s.replayAt k p false).faultNoted k).lead =
        { s.lead with lastFault := s.lead.lastFault.set k (some s.hal.beatCount) } := by
  have hframe := s.offReplay_replayAt k p false
  have hhal : (s.replayAt k p false).hal = s.hal := (congrArg State.hal hframe :)
  have hlead : (s.replayAt k p false).lead = s.lead := (congrArg State.lead hframe :)
  refine ⟨State.noteFault_first (by rwa [hhal, hlead]), ?_⟩
  unfold State.faultNoted
  rw [hhal, hlead]

/-- A replay where nothing was under way leaves the rounds and the banks (R150). -/
theorem State.replayAt_of_quiet (hk : k < s.clusters.length) (hspan : (s.cluster k).span = none)
    (hs : ∀ r ∈ s.rounds, r.isQuiet) :
    (s.replayAt k p false).rounds = s.rounds ∧
      ((s.replayAt k p false).cluster k).banks = (s.cluster k).banks := by
  obtain ⟨hrounds, hcl⟩ := State.replayRounds_of_quiet (p := p) hspan hs
  rw [State.replayAt_cluster hk, State.cluster_congr hcl]
  exact ⟨hrounds, rfl⟩

end

/-! SPARE_TAKEOVER. -/

/-- A spare `i` that loads the block of cluster `k`, and the cluster that it stands in for (R154). -/
theorem State.replayAt_updCluster {s : State} {k i p : Nat} (hk : k < s.clusters.length) (hi : i < s.clusters.length)
    (hne : k ≠ i) (f : Cluster → Cluster) :
    ((s.replayAt k p true).updCluster i f).cluster i = f ((s.replayAt k p true).cluster i) ∧
      (((s.replayAt k p true).updCluster i f).cluster k).span = none ∧
      (((s.replayAt k p true).updCluster i f).cluster k).banks = [] := by
  refine ⟨State.cluster_updCluster_same (State.replayAt_clusters_length.symm ▸ hi) f, ?_⟩
  rw [State.cluster_updCluster_ne hne, State.replayAt_cluster hk]
  exact ⟨rfl, rfl⟩

/-! SPARE_BECOMES_SERVICE. -/

/-- What a takeover leaves alone. -/
def State.offTakeover (s : State) : State :=
  { s.unrecorded with lead := .reset, journal := .reset, plans := [], clusters := [], drbgs := [], rounds := [],
                      draws := 0 }

/-- A state that agrees with another outside of what a takeover touches, written as an update of it. -/
theorem State.eq_of_offTakeover_eq {s t : State} (h : t.offTakeover = s.offTakeover) :
    t = { s with set := t.set, setA := t.setA, setB := t.setB, slotB := t.slotB, recorder := t.recorder, lead := t.lead,
                 journal := t.journal, mgmt := t.mgmt, plans := t.plans, clusters := t.clusters, drbgs := t.drbgs,
                 rounds := t.rounds, draws := t.draws } :=
  congrArg (fun x : State =>
    { x with set := t.set, setA := t.setA, setB := t.setB, slotB := t.slotB, recorder := t.recorder, lead := t.lead,
             journal := t.journal, mgmt := t.mgmt, plans := t.plans, clusters := t.clusters, drbgs := t.drbgs,
             rounds := t.rounds, draws := t.draws }) h

/-- Cluster `i` takes position `p` of cluster `k` (R154). -/
def State.takesPosition (s : State) (k i p : Nat) : State :=
  (s.updCluster k fun c => { c with position := none, takeoverWindow := none }).updCluster i fun c =>
    { c with position := some p, span := none, banks := [], ahead := none }

/-- Cursors of the position start anew, plans wait for the next beat, and the spare's state names the cluster (R110,
R155). -/
def State.takenOver (s : State) (c k p : Nat) : State :=
  { s with
    rounds := s.rounds.map fun r => if r.state = .open ∨ r.state = .closed then r.resumeCursors p else r
    plans := s.plans.map fun x => { x with startAfter := max x.startAfter (s.hal.beatCount + 1) }
    lead := { s.lead with spareState := s.lead.spareState.set c (k % 16) } }

section
variable {s : State} {c k i p : Nat}

theorem State.takesPosition_spare (hi : i < s.clusters.length) :
    ((s.takesPosition k i p).cluster i).position = some p ∧
      ((s.takesPosition k i p).cluster i).owner = (s.cluster i).owner := by
  have hlen : i < (s.updCluster k fun c => { c with position := none, takeoverWindow := none }).clusters.length :=
    (List.length_modify ..).symm ▸ hi
  rw [State.takesPosition, State.cluster_updCluster_same hlen]
  refine ⟨rfl, ?_⟩
  by_cases hik : i = k
  · subst hik
    rw [State.cluster_updCluster_same hi]
  · rw [State.cluster_updCluster_ne hik]

theorem State.takesPosition_failed (hk : k < s.clusters.length) (hki : k ≠ i) :
    (s.takesPosition k i p).cluster k = { s.cluster k with position := none, takeoverWindow := none } := by
  rw [State.takesPosition, State.cluster_updCluster_ne hki, State.cluster_updCluster_same hk]

theorem State.takesPosition_ne {j : Nat} (hk : j ≠ k) (hi : j ≠ i) :
    (s.takesPosition k i p).cluster j = s.cluster j := by
  rw [State.takesPosition, State.cluster_updCluster_ne hi, State.cluster_updCluster_ne hk]

/-- A plan that is not started yet starts after the takeover (R110). -/
theorem State.plan_takenOver {x : Nat} (hx : x < s.plans.length) :
    (s.takenOver c k p).plan x =
      { s.plan x with startAfter := max (s.plan x).startAfter (s.hal.beatCount + 1) } := by
  simp [State.plan, State.takenOver, List.getD_eq_getElem?_getD, hx]

/-- The spare of a Canton has become SERVICE: it has taken the position, and that is journaled and recorded. -/
def State.spareServes (s : State) (c k p : Nat) (body : Bytes) : State :=
  let s := ((s.ownerChange (16 * c + 15)).takesPosition k (16 * c + 15) p).takenOver c k p
  (s.journal1 9 none body).record 0x02110003 (srcCluster (16 * c + 15)) none []

/-- At its boundary, a window after the request, the spare takes the position (R27, R154, R155). -/
theorem exec_spareBecomesService {b : Nat} (hc : 16 * c + 15 < s.clusters.length) (hk : s.takeoverOf c = some k)
    (hp : (s.cluster k).position = some p) (hbeat : s.hal.beatCount % 256 = 0) (hhold : s.lead.hold = none)
    (hload : (s.cluster (16 * c + 15)).tableLoaded = true)
    (hreq : (s.cluster (16 * c + 15)).request = some (.service, b)) (hdue : b + 256 ≤ s.hal.beatCount) :
    ∃ body, exec (.spareBecomesService c) s = .next (s.spareServes c k p body) := by
  have hown := (s.ownerChange_due hc hreq hdue).1
  have hpos : ((s.ownerChange (16 * c + 15)).cluster k).position = some p := by
    rw [s.ownerChange_cluster_ne (State.takeoverOf_ne_spare hk).1, hp]
  change ∃ body, execSpareBecomesService c s = _
  unfold execSpareBecomesService
  simp only [hk, hpos, Option.getD_some, hown, ne_eq, not_true_eq_false, if_false]
  rw [if_neg (by simp [State.atWindow, State.inHold, hbeat, hhold, hload])]
  unfold State.spareServes State.takenOver
  rw [List.set_eq_modify]
  exact ⟨_, rfl⟩

theorem State.offTakeover_record (s : State) (code source : Nat) (ctx : Option Nat) (x : Bytes) :
    (s.record code source ctx x).offTakeover = s.offTakeover := by
  simp [State.offTakeover, State.record_unrecorded]

theorem State.offTakeover_journal1 (s : State) (kind : Nat) (ctx : Option Nat) (body : Bytes) :
    (s.journal1 kind ctx body).offTakeover = s.offTakeover :=
  (congrArg State.offTakeover (s.offJournal_journal1 kind ctx body) :)

theorem State.offTakeover_takenOver (s : State) (c k p : Nat) : (s.takenOver c k p).offTakeover = s.offTakeover := rfl

theorem State.offTakeover_takesPosition (s : State) (k i p : Nat) :
    (s.takesPosition k i p).offTakeover = s.offTakeover := rfl

theorem State.offTakeover_ownerChange (s : State) (i : Nat) : (s.ownerChange i).offTakeover = s.offTakeover :=
  (congrArg State.offTakeover (s.offClusters_ownerChange i) :)

theorem State.offTakeover_spareServes (s : State) (c k p : Nat) (body : Bytes) :
    (s.spareServes c k p body).offTakeover = s.offTakeover := by
  rw [State.spareServes, State.offTakeover_record, State.offTakeover_journal1, State.offTakeover_takenOver,
    State.offTakeover_takesPosition, State.offTakeover_ownerChange]

/-- The records of a takeover touch no cluster. -/
theorem State.spareServes_clusters (s : State) (c k p : Nat) (body : Bytes) : (s.spareServes c k p body).clusters =
    ((s.ownerChange (16 * c + 15)).takesPosition k (16 * c + 15) p).clusters :=
  (State.record_clusters ..).trans (State.journal1_clusters ..)

theorem State.spareServes_lead (s : State) (c k p : Nat) (body : Bytes) : (s.spareServes c k p body).lead =
    { s.lead with spareState := s.lead.spareState.set c (k % 16) } := by
  have hlead : (s.ownerChange (16 * c + 15)).lead = s.lead := (congrArg State.lead (s.offClusters_ownerChange _) :)
  rw [← hlead]
  exact (State.record_lead ..).trans (State.journal1_lead ..)

theorem State.plan_spareServes {x : Nat} (body : Bytes) (hx : x < s.plans.length) :
    (s.spareServes c k p body).plan x =
      { s.plan x with startAfter := max (s.plan x).startAfter (s.hal.beatCount + 1) } := by
  have hplans : (s.ownerChange (16 * c + 15)).plans = s.plans := (congrArg State.plans (s.offClusters_ownerChange _) :)
  have hplan (u : State) (hu : u.plans = s.plans) (hhal : u.hal = s.hal) : (u.takenOver c k p).plan x =
      { s.plan x with startAfter := max (s.plan x).startAfter (s.hal.beatCount + 1) } := by
    rw [State.plan_takenOver (hu.symm ▸ hx), State.plan, hu, hhal]
    rfl
  have hkeep : (s.spareServes c k p body).plans =
      (((s.ownerChange (16 * c + 15)).takesPosition k (16 * c + 15) p).takenOver c k p).plans :=
    (State.record_plans ..).trans (congrArg State.plans (State.offJournal_journal1 ..) :)
  rw [State.plan, hkeep]
  exact hplan _ hplans (State.ownerChange_hal ..)

end

end Sys2Proof.Machine
end

section
/-!
DATA_FAULT (R334, R396, R443, R445): a set voided, a context lost, a MODULE reset.
-/
namespace Sys2Proof.Machine

/-! A bin record header (R160). -/

section
variable {s : State} {c h x : Nat} {r : Round} {o : OwnerSet}

/-- The set whose bin record header is struck is rolled back at its owner. -/
theorem exec_dataFault_header (hr : s.round? c h = some r)
    (ho : (r.owners.filter fun y => y.set == x / 8)[x % 8]? = some o) :
    exec (.dataFault c h 15 x) s = .next (s.rollbackSet c h o.position o.cursor (x / 8) 0x02110001) := by
  have hset : o.set = x / 8 := by simpa using List.of_mem_filter (List.mem_of_getElem? ho)
  change execDataFault c h 15 x s = _
  unfold execDataFault
  simp only [hr, Option.map_some, Option.getD_some, ho, hset]

end

/-! A set without its records is VOID (R163, R213). -/

/-- A set is VOID after a data fault in its unmask record and in its ring tile. -/
def Round.dataVoid (r : Round) (k op : Nat) : Round :=
  ((r.voidSet k 3).updSet k fun x => { x with dataFault := true }).voidRing k op

/-- A state that agrees with another outside of its rounds and of what records touch, written as an update of it. -/
theorem State.eq_of_offRecords_eq {s t : State} (h : t.offRecords = s.offRecords) :
    t = { s with set := t.set, setA := t.setA, setB := t.setB, slotB := t.slotB, recorder := t.recorder,
                 mgmt := t.mgmt, rounds := t.rounds } :=
  congrArg (fun v : State =>
    { v with set := t.set, setA := t.setA, setB := t.setB, slotB := t.slotB, recorder := t.recorder,
             mgmt := t.mgmt, rounds := t.rounds }) h

section
variable {s : State} {c h k op : Nat} {r : Round} {im : PlanImage}

theorem Round.dataVoid_frame (r : Round) (k op : Nat) :
    r.dataVoid k op = { r with sets := (r.dataVoid k op).sets, ring := (r.dataVoid k op).ring } := by
  unfold Round.dataVoid Round.voidRing Round.updTile Round.voidSet Round.updSet
  rfl

theorem Round.same_dataVoid (r : Round) (k op : Nat) : r.Same (r.dataVoid k op) := by
  rw [r.dataVoid_frame]
  exact ⟨rfl, rfl, rfl⟩

theorem Round.set_dataVoid (hk : k < r.sets.length) (hu : (r.set k).unmask ≠ 1) :
    (r.dataVoid k op).set k = { r.set k with unmask := 2, cause := 3, dataFault := true } := by
  have hget : r.sets[k] = r.set k := by simp [Round.set, List.getD_eq_getElem?_getD, hk]
  simp [Round.set, Round.dataVoid, Round.voidSet, Round.updSet, Round.voidRing, Round.updTile, updAt,
    List.getD_eq_getElem?_getD, hk, hget ▸ hu]

theorem Round.set_dataVoid_ne {j : Nat} (hj : j ≠ k) : (r.dataVoid k op).set j = r.set j := by
  simp [Round.set, Round.dataVoid, Round.voidSet, Round.updSet, Round.voidRing, Round.updTile, updAt,
    List.getD_eq_getElem?_getD, hj.symm]

/-- The ring tile of the set is VOID, with the data that it holds (R213). -/
theorem Round.tile_dataVoid {x : RingTile} (hx : r.ring.tiles[k]? = some x) :
    ∃ y, (r.dataVoid k op).ring.tiles[k]? = some y ∧ y.agg.status = 2 ∧ y.agg.cause = 4 ∧ y.store = x.store ∧
      ∀ o, y.out = some o → o.status = 2 ∧ o.cause = 4 := by
  let void (g : CtHeader) : CtHeader := { g with status := 2, cause := 4, causeOpcode := op }
  refine ⟨{ x with agg := void x.agg, out := x.out.map void }, ?_, rfl, rfl, rfl, fun o ho => ?_⟩
  · simp [Round.dataVoid, Round.voidSet, Round.updSet, Round.voidRing, Round.updTile, updAt, hx, void]
  · obtain ⟨g, -, rfl⟩ := Option.map_eq_some_iff.mp ho
    exact ⟨rfl, rfl⟩

/-- One set that is voided is counted and recorded (R163, R443). -/
theorem State.voidSets_one (hr : s.round? c h = some r) (him : s.image c = some im) :
    ∃ op, Recorded ((s.updRound c h fun r => r.dataVoid k op).countTier 2) (s.voidSets c h [k]) := by
  unfold State.voidSets
  simp only [hr, him, List.foldl_cons, List.foldl_nil]
  exact ⟨_, Recorded.foldl _ _ (fun _ _ => .one ..) _⟩

/-- What voiding a set leaves of the round and of the rest. -/
theorem State.voidSets_one_round (hr : s.round? c h = some r) (him : s.image c = some im) :
    ∃ op, (s.voidSets c h [k]).round? c h = some (r.dataVoid k op) ∧
      (s.voidSets c h [k]).offRecords = s.offRecords := by
  obtain ⟨op, hrec⟩ := State.voidSets_one (k := k) hr him
  refine ⟨op, ?_, ?_⟩
  · rw [State.round?_congr ((hrec.keeps State.rounds State.record_rounds).trans (State.persist_rounds ..))]
    exact State.round?_updRound_of_some (fun r => r.same_dataVoid k op) hr
  · rw [hrec.keeps State.offRecords State.offRecords_record]
    simp [State.offRecords, State.unrecorded, State.countTier, State.updRound]

end

/-! A context that is lost (R334, R443). -/

/-- What the beginning of a teardown leaves alone. -/
def State.offTeardown (s : State) : State :=
  { s.unrecorded with keys := .reset, journal := .reset, host := .reset, ctxs := [], plans := [] }

/-- A state that agrees with another outside of what the beginning of a teardown touches, written as an update of it. -/
theorem State.eq_of_offTeardown_eq {s t : State} (h : t.offTeardown = s.offTeardown) :
    t = { s with set := t.set, setA := t.setA, setB := t.setB, slotB := t.slotB, recorder := t.recorder, keys := t.keys,
                 journal := t.journal, mgmt := t.mgmt, host := t.host, ctxs := t.ctxs, plans := t.plans } :=
  congrArg (fun v : State =>
    { v with set := t.set, setA := t.setA, setB := t.setB, slotB := t.slotB, recorder := t.recorder, keys := t.keys,
             journal := t.journal, mgmt := t.mgmt, host := t.host, ctxs := t.ctxs, plans := t.plans }) h

/-- From `s` to `t` the entries and the record of context `c` have changed at most. -/
structure State.OnlyCtx (c : Nat) (s t : State) : Prop where
  entries : ∀ d, d ≠ c → t.ctxSet d = s.ctxSet d
  record : ∀ d, d ≠ c → t.ctx d = s.ctx d
  frame : t.offTeardown = s.offTeardown

section
variable {s t u : State} {c : Nat}

theorem State.OnlyCtx.trans (h : State.OnlyCtx c s t) (g : State.OnlyCtx c t u) : State.OnlyCtx c s u :=
  ⟨fun d hd => (g.entries d hd).trans (h.entries d hd), fun d hd => (g.record d hd).trans (h.record d hd),
    g.frame.trans h.frame⟩

/-- Nothing of a context changes where neither its entries nor its record do. -/
theorem State.OnlyCtx.of_eq (hset : t.set.ctx = s.set.ctx) (hctxs : t.ctxs = s.ctxs)
    (hframe : t.offTeardown = s.offTeardown) : State.OnlyCtx c s t :=
  ⟨fun d _ => by rw [State.ctxSet, hset]; rfl, fun d _ => by rw [State.ctx, hctxs]; rfl, hframe⟩

theorem State.record_set_ctx (s : State) (code source : Nat) (ctx : Option Nat) (p : Bytes) :
    (s.record code source ctx p).set.ctx = s.set.ctx :=
  (congrArg Settings.ctx (s.record_set_unrecorded code source ctx p) :)

theorem State.offTeardown_record (s : State) (code source : Nat) (ctx : Option Nat) (p : Bytes) :
    (s.record code source ctx p).offTeardown = s.offTeardown := by
  simp [State.offTeardown, State.record_unrecorded]

theorem State.journal1_set_ctx (s : State) (kind : Nat) (ctx : Option Nat) (body : Bytes) :
    (s.journal1 kind ctx body).set.ctx = s.set.ctx := by
  unfold State.journal1
  dsimp only
  split
  · exact State.record_set_ctx ..
  · rfl

theorem State.onlyCtx_updCtx (s : State) (c : Nat) (f : Ctx → Ctx) : State.OnlyCtx c s (s.updCtx c f) := by
  refine ⟨fun _ _ => rfl, fun d hd => ?_, rfl⟩
  simp [State.ctx, State.updCtx, updAt, List.getD_eq_getElem?_getD, hd.symm]

theorem State.onlyCtx_updEntries (s : State) (c : Nat) (f : CtxEntries → CtxEntries) :
    State.OnlyCtx c s (s.updEntries c f) := by
  unfold State.updEntries
  refine ⟨fun d hd => ?_, fun d _ => ?_, ?_⟩
  · simp [State.ctxSet, updAt, List.getD_eq_getElem?_getD, hd.symm]
  · simp [State.ctx]
  · simp [State.offTeardown, State.unrecorded]

theorem State.onlyCtx_record (s : State) (code source : Nat) (ctx : Option Nat) (p : Bytes) :
    State.OnlyCtx c s (s.record code source ctx p) :=
  .of_eq (State.record_set_ctx ..) (State.record_ctxs ..) (State.offTeardown_record ..)

theorem State.onlyCtx_journal1 (s : State) (kind : Nat) (ctx : Option Nat) (body : Bytes) :
    State.OnlyCtx c s (s.journal1 kind ctx body) :=
  .of_eq (State.journal1_set_ctx ..) (congrArg State.ctxs (s.offJournal_journal1 kind ctx body) :)
    (congrArg State.offTeardown (s.offJournal_journal1 kind ctx body) :)

theorem State.onlyCtx_invalidateWorld (s : State) (c : Nat) : State.OnlyCtx c s (s.invalidateWorld c) :=
  State.OnlyCtx.trans (t := { s with keys := (s.invalidateWorld c).keys }) (.of_eq rfl rfl rfl)
    (State.onlyCtx_updCtx ..)

/-- A PLAN_SUBMIT under way ends, and nothing of the context itself. -/
theorem State.onlyCtx_dropSubmit (s : State) (v e : Nat) (f : PlanSlot → PlanSlot) (status r0 r1 : Nat) :
    ((s.updPlan c f).completeRunning v e status r0 r1).set = s.set ∧
      State.OnlyCtx c s ((s.updPlan c f).completeRunning v e status r0 r1) := by
  have hhost := (s.updPlan c f).offHost_completeRunning v e status r0 r1
  have hset : ((s.updPlan c f).completeRunning v e status r0 r1).set = s.set := (congrArg State.set hhost :)
  refine ⟨hset, .of_eq ?_ (congrArg State.ctxs hhost :) (congrArg State.offTeardown hhost :)⟩
  rw [hset]

/-- A teardown is accepted: the context is in TEARDOWN, its keys go, and that is recorded and journaled (R334). -/
def State.acceptTeardown (s : State) (c : Nat) (x : Teardown) : State :=
  let s := (s.updCtx c fun y => { y with teardown := some x }).updEntries c fun e => { e with state := .teardown }
  ((s.record 0x05300081 s.srcLeader (some c) []).invalidateWorld c).journal1 10 (some c) (leBytes 1 2)

theorem State.beginTeardown_eq (s : State) (c cause : Nat) : ∃ x, s.beginTeardown c cause =
    if ((s.acceptTeardown c x).plan c).state = .checking then
      ((s.acceptTeardown c x).updPlan c fun p => { p with state := .none, submitLength := 0 }).completeRunning
        ((s.acceptTeardown c x).vfOf c) 0x01 0x01300076 noField 0
    else s.acceptTeardown c x := ⟨_, rfl⟩

theorem State.acceptTeardown_entries (s : State) (c : Nat) (x : Teardown) :
    (s.acceptTeardown c x).set.ctx = updAt s.set.ctx c (fun e => { e with state := .teardown }) ∧
      State.OnlyCtx c s (s.acceptTeardown c x) := by
  unfold State.acceptTeardown
  refine ⟨?_, ?_⟩
  · rw [State.journal1_set_ctx]
    refine (State.record_set_ctx ..).trans ?_
    rw [State.updEntries, State.persist_set]
    rfl
  · exact (((State.onlyCtx_updCtx ..).trans (State.onlyCtx_updEntries ..)).trans (State.onlyCtx_record ..)).trans
      ((State.onlyCtx_invalidateWorld ..).trans (State.onlyCtx_journal1 ..))

/-- The entries of a context at the beginning of a teardown, and what the others keep (R334). -/
theorem State.beginTeardown_entries (s : State) (c cause : Nat) :
    (s.beginTeardown c cause).set.ctx = updAt s.set.ctx c (fun e => { e with state := .teardown }) ∧
      State.OnlyCtx c s (s.beginTeardown c cause) := by
  obtain ⟨x, heq⟩ := s.beginTeardown_eq c cause
  obtain ⟨hset, honly⟩ := s.acceptTeardown_entries c x
  rw [heq]
  split
  · obtain ⟨hdrop, hctx⟩ := (s.acceptTeardown c x).onlyCtx_dropSubmit (c := c) ((s.acceptTeardown c x).vfOf c) 0x01
      (fun p => { p with state := .none, submitLength := 0 }) 0x01300076 noField 0
    exact ⟨(congrArg Settings.ctx hdrop).trans hset, honly.trans hctx⟩
  · exact ⟨hset, honly⟩

/-- A context that a fault has lost is torn down (R334, R443). -/
theorem State.loseContext_active (h : (s.ctxSet c).state = .active) :
    ((s.loseContext c).ctxSet c).state = .teardown ∧ State.OnlyCtx c s (s.loseContext c) := by
  have hc : c < s.set.ctx.length := by
    by_contra hout
    have hfree : s.ctxSet c = .default := List.getD_eq_default _ _ (Nat.le_of_not_lt hout)
    rw [hfree] at h
    cases h
  unfold State.loseContext
  rw [if_neg (by simp [h])]
  have hrec := s.onlyCtx_record (c := c) 0x03300083 s.srcLeader (some c) (leBytes 1 c)
  obtain ⟨hset, honly⟩ := (s.record 0x03300083 s.srcLeader (some c) (leBytes 1 c)).beginTeardown_entries c 2
  refine ⟨?_, hrec.trans honly⟩
  rw [State.ctxSet, hset, State.record_set_ctx]
  simp [updAt, List.getD_eq_getElem?_getD, hc]

end

/-! A MODULE reset (R396, R445). -/

section
variable (s : State)

/-- What a start finds after a reset: AON goes on, and what lived outside of the domains that it keeps is gone. -/
structure State.RestartsAt (s : State) (kind cause : Nat) (keep : BitVec 24) (t0 : Nat) (t : State) : Prop where
  t0 : t.start.t0 = some t0
  kind : t.start.kind = kind
  cause : t.start.cause = cause
  stage : t.start.stage = none
  rounds : t.rounds = []
  slots : t.keys.slots = []
  powered : t.power.powered = s.power.powered &&& keep
  out : t.out = s.out

theorem State.RestartsAt.of_recorded {s t u : State} {kind cause t0 : Nat} {keep : BitVec 24}
    (h : s.RestartsAt kind cause keep t0 t) (g : Recorded t u) : s.RestartsAt kind cause keep t0 u := by
  have hstart := g.keeps State.start State.record_start
  refine ⟨hstart ▸ h.t0, hstart ▸ h.kind, hstart ▸ h.cause, hstart ▸ h.stage, ?_, ?_, ?_, ?_⟩
  · exact (g.keeps State.rounds State.record_rounds).trans h.rounds
  · exact (congrArg Keys.slots (g.keeps State.keys State.record_keys)).trans h.slots
  · exact (congrArg Power.powered (g.keeps State.power State.record_power)).trans h.powered
  · exact (g.keeps State.out State.record_out).trans h.out

theorem State.restartsAt_restart (kind cause wake t0 : Nat) (retry : Bool) (keep : BitVec 24) :
    s.RestartsAt kind cause keep t0 (s.restart kind cause wake retry keep t0) := by
  have hpowered : s.power.powered &&& ~~~(~~~keep) = s.power.powered &&& keep := by rw [BitVec.not_not]
  unfold State.restart
  dsimp only
  split
  · exact ⟨rfl, rfl, rfl, rfl, rfl, rfl, hpowered, rfl⟩
  · refine State.RestartsAt.of_recorded ?_ (.one ..)
    exact ⟨rfl, rfl, rfl, rfl, rfl, rfl, hpowered, rfl⟩

/-- A fault of tier 4 resets the module (R443, R445). -/
theorem State.restartsAt_fatal : s.RestartsAt 2 0x14 1 s.aon s.fatal := by
  have hreset := (s.countTier 4).restartsAt_restart 2 0x14 0 (s.countTier 4).aon false 1
  have hfatal : (s.countTier 4).RestartsAt 2 0x14 1 (s.countTier 4).aon s.fatal := hreset.of_recorded (.one ..)
  have hpower : (s.countTier 4).power = s.power := s.persist_power _
  refine { hfatal with t0 := ?_, powered := ?_, out := ?_ }
  · exact hfatal.t0.trans (congrArg some (s.persist_aon _))
  · exact hpower ▸ hfatal.powered
  · exact hfatal.out.trans (s.persist_out _)

/-- Kinds 5, 6 and 7 are fatal (R445). -/
theorem exec_dataFault_fatal {c h i k : Nat} (hlo : 5 ≤ i) (hhi : i ≤ 7) :
    exec (.dataFault c h i k) s = .next s.fatal := by
  interval_cases i
  · rfl
  · rfl
  · rfl

end

end Sys2Proof.Machine
end

section
/-!
DIE_LINK_DOWN (R25, R102, R446, R354): a link goes down, what it cuts is rolled back, and it is trained again.
-/
namespace Sys2Proof.Machine

section
variable (s : State) (i : Nat) (l : DieLink)

/-- A link that was up is down, with the sixteen replays of its flit (R25). -/
def State.linkDown (s : State) (i : Nat) (l : DieLink) : State :=
  if l.down then s else s.updLink i fun l => { l with down := true, replays := l.replays + 16 }

/-- What a link that goes down cuts is rolled back (R446). -/
def State.linkCut (s : State) (i : Nat) (l : DieLink) : State :=
  if l.down then s else (s.linkDown i l).cutOff l

/-- Time does not matter to what a link cuts. -/
theorem State.cutCommits_linkDown (now : Nat) : ((s.at now).linkDown i l).cutCommits l = s.cutCommits l := by
  unfold State.linkDown
  split <;> rfl

theorem State.offReplay_cutOff : (s.cutOff l).offReplay = s.offReplay :=
  foldl_keeps State.offReplay (fun _ _ => State.offReplay_rollbackSet ..) ..

theorem State.offReplay_linkCut : (s.linkCut i l).offReplay = (s.linkDown i l).offReplay := by
  unfold State.linkCut
  split
  next hdown => rw [State.linkDown, if_pos hdown]
  next => exact State.offReplay_cutOff ..

/-- A link that cuts nothing rolls nothing back. -/
theorem State.linkCut_of_no_cut {s : State} {i : Nat} {l : DieLink}
    (h : l.down = true ∨ (s.linkDown i l).cutCommits l = []) : s.linkCut i l = s.linkDown i l := by
  unfold State.linkCut
  split
  next hdown => rw [State.linkDown, if_pos hdown]
  next hup =>
    have hnil := h.resolve_left hup
    rw [State.cutOff, hnil, List.foldl_nil]

theorem State.linkDown_image (c : Nat) : (s.linkDown i l).image c = s.image c := by
  unfold State.linkDown
  split <;> rfl

theorem State.linkDown_round? (c h : Nat) : (s.linkDown i l).round? c h = s.round? c h := by
  unfold State.linkDown
  split <;> rfl

variable {s i l}

theorem exec_dieLinkDown {now : Nat} (hl : s.lead.links[i]? = some l) (retrained : Bool) :
    exec (.dieLinkDown i retrained now) s = .next (if retrained then
      (((s.at now).linkCut i l).trainDieLink i).record 0x0250000E (srcLink l.a l.b) none []
      else (s.at now).linkCut i l) := by
  have hat : (s.at now).lead.links[i]? = some l := hl
  change execDieLinkDown i retrained now s = _
  unfold execDieLinkDown State.linkCut State.linkDown
  simp only [hat]
  cases retrained
  · cases l.down <;> rfl
  · cases l.down <;> rfl

/-- The links once one is down. -/
theorem State.linkDown_links (hl : s.lead.links[i]? = some l) :
    (s.linkDown i l).lead = { s.lead with links := (s.linkDown i l).lead.links } ∧
      (s.linkDown i l).lead.links[i]? =
        some (if l.down then l else { l with down := true, replays := l.replays + 16 }) ∧
      ∀ j, j ≠ i → (s.linkDown i l).lead.links[j]? = s.lead.links[j]? := by
  unfold State.linkDown
  split
  · exact ⟨rfl, hl, fun _ _ => rfl⟩
  · exact ⟨rfl, by simp [State.updLink, updAt, hl], fun j hj => by simp [State.updLink, updAt, hj.symm]⟩

/-- A commit that a link cuts is under way, for a plan. -/
theorem State.mem_cutCommits {c h : Nat} {o : OwnerSet} (hmem : (c, h, o) ∈ s.cutCommits l) :
    o.commit.state = 1 ∧ ∃ im, s.image c = some im := by
  obtain ⟨r, -, hr⟩ := List.mem_flatMap.mp hmem
  cases him : s.image r.ctx with
  | none => simp [him] at hr
  | some im =>
    simp only [him, List.mem_map, Prod.mk.injEq] at hr
    obtain ⟨o', hfilter, rfl, -, rfl⟩ := hr
    have hcut := List.of_mem_filter hfilter
    simp only [Bool.and_eq_true, beq_iff_eq] at hcut
    exact ⟨hcut.1.1, im, him⟩

/-- The one commit that a link cuts is rolled back (R150, R446). -/
theorem State.linkCut_one {c h now : Nat} {o : OwnerSet} (hup : l.down = false)
    (hcut : s.cutCommits l = [(c, h, o)]) :
    (s.at now).linkCut i l = ((s.at now).linkDown i l).rollbackSet c h o.position o.cursor o.set 0x02110001 := by
  have hcut' := (s.cutCommits_linkDown i l now).trans hcut
  rw [State.linkCut, if_neg (by simp [hup]), State.cutOff, hcut', List.foldl_cons, List.foldl_nil]

/-! A link that is trained again (R354). -/

theorem State.trainDieLink_eq (s : State) (i : Nat) : s.trainDieLink i =
    { s with draws := s.draws + 1, lead := { s.lead with links := updAt s.lead.links i fun l =>
      { l with down := false, fails := 0, session := leNat (padTo 4 (Config.randomBytes s.draws 4)) } } } := rfl

/-- What the training of a link after an outage leaves alone. -/
def State.offLinks (s : State) : State := { s.offReplay with draws := 0, lead := { s.lead with links := [] } }

/-- A state that agrees with another outside of what an outage touches, written as an update of it. -/
theorem State.eq_of_offLinks_eq {s t : State} (h : t.offLinks = s.offLinks) :
    t = { s with set := t.set, setA := t.setA, setB := t.setB, slotB := t.slotB, recorder := t.recorder,
                 mgmt := t.mgmt, ctxs := t.ctxs, clusters := t.clusters, rounds := t.rounds, draws := t.draws
                 lead := { s.lead with links := t.lead.links } } :=
  congrArg (fun v : State =>
    { v with set := t.set, setA := t.setA, setB := t.setB, slotB := t.slotB, recorder := t.recorder,
             mgmt := t.mgmt, ctxs := t.ctxs, clusters := t.clusters, rounds := t.rounds, draws := t.draws
             lead := { v.lead with links := t.lead.links } }) h

theorem State.offLinks_linkDown (s : State) (i : Nat) (l : DieLink) : (s.linkDown i l).offLinks = s.offLinks := by
  unfold State.linkDown
  split <;> rfl

theorem State.offLinks_linkCut (s : State) (i : Nat) (l : DieLink) : (s.linkCut i l).offLinks = s.offLinks :=
  Eq.trans (congrArg (fun v : State => { v with draws := 0, lead := { v.lead with links := [] } })
    (s.offReplay_linkCut i l)) (s.offLinks_linkDown i l)

theorem State.offLinks_trainDieLink (s : State) (i : Nat) : (s.trainDieLink i).offLinks = s.offLinks := rfl

theorem State.offLinks_record (s : State) (code source : Nat) (ctx : Option Nat) (p : Bytes) :
    (s.record code source ctx p).offLinks = s.offLinks :=
  (congrArg (fun v : State => { v with draws := 0, lead := { v.lead with links := [] } })
    (s.offReplay_record code source ctx p) :)

theorem State.linkCut_lead (s : State) (i : Nat) (l : DieLink) : (s.linkCut i l).lead = (s.linkDown i l).lead :=
  (congrArg State.lead (s.offReplay_linkCut i l) :)

theorem State.linkCut_draws (s : State) (i : Nat) (l : DieLink) : (s.linkCut i l).draws = s.draws := by
  have hcut : (s.linkCut i l).draws = (s.linkDown i l).draws := (congrArg State.draws (s.offReplay_linkCut i l) :)
  rw [hcut]
  unfold State.linkDown
  split <;> rfl

/-- The state once a link has gone down and is trained again. -/
def State.relinked (s : State) (i : Nat) (l : DieLink) : State :=
  ((s.linkCut i l).trainDieLink i).record 0x0250000E (srcLink l.a l.b) none []

theorem State.offLinks_relinked (s : State) (i : Nat) (l : DieLink) : (s.relinked i l).offLinks = s.offLinks := by
  rw [State.relinked, State.offLinks_record, State.offLinks_trainDieLink, State.offLinks_linkCut]

/-- A link that is trained again has a session of its own, drawn for it (R354). -/
theorem State.relinked_links (hl : s.lead.links[i]? = some l) :
    (∃ m, (s.relinked i l).lead.links[i]? = some m ∧ m.down = false ∧ m.fails = 0 ∧
      m.session = leNat (padTo 4 (Config.randomBytes s.draws 4))) ∧
      (∀ j, j ≠ i → (s.relinked i l).lead.links[j]? = s.lead.links[j]?) ∧ (s.relinked i l).draws = s.draws + 1 := by
  have hlead := s.linkCut_lead i l
  have hdraws := s.linkCut_draws i l
  obtain ⟨-, hown, hothers⟩ := State.linkDown_links hl
  unfold State.relinked
  rw [State.trainDieLink_eq, State.record_lead, State.record_draws]
  simp only [hlead, hdraws, updAt, List.getElem?_modify]
  refine ⟨⟨_, by simp [hown]; rfl, rfl, rfl, rfl⟩, fun j hj => ?_, trivial⟩
  simpa [hj.symm] using hothers j hj

/-- A link that cuts nothing is trained again and recorded, and nothing else. -/
theorem State.recorded_relinked (h : l.down = true ∨ (s.linkDown i l).cutCommits l = []) :
    Recorded { s with lead := { s.lead with links := (s.relinked i l).lead.links }, draws := (s.relinked i l).draws }
      (s.relinked i l) := by
  have hbase : { s with lead := { s.lead with links := ((s.linkDown i l).trainDieLink i).lead.links }
                        draws := ((s.linkDown i l).trainDieLink i).draws } = (s.linkDown i l).trainDieLink i := by
    rw [State.trainDieLink_eq]
    unfold State.linkDown
    split <;> rfl
  unfold State.relinked
  rw [State.linkCut_of_no_cut h, State.record_lead, State.record_draws, hbase]
  exact .one ..

end

end Sys2Proof.Machine
end

section
/-!
DIE_LINK_RETRAIN_FAIL (R388, R396, R446): a link that cannot be trained, and the reset of the Canton at its end.
-/
namespace Sys2Proof.Machine

/-- Three retrainings of a link have failed, and that is recorded (R446). -/
def State.linkFailed (s : State) (i : Nat) (l : DieLink) : State :=
  (s.updLink i fun l => { l with fails := 3 }).record 0x04500009 (srcLink l.a l.b) none []

section
variable {s : State} {i now : Nat} {l : DieLink}

theorem State.linkFailed_start (s : State) (i : Nat) (l : DieLink) : (s.linkFailed i l).start = s.start :=
  State.record_start ..

theorem State.linkFailed_power (s : State) (i : Nat) (l : DieLink) : (s.linkFailed i l).power = s.power :=
  State.record_power ..

theorem State.linkFailed_clusters (s : State) (i : Nat) (l : DieLink) :
    (s.linkFailed i l).clusters = s.clusters :=
  State.record_clusters ..

/-- Without the link between the Hoists the module goes on, once a start has passed stage A (R388). -/
theorem exec_dieLinkRetrainFail_hoists (hl : s.lead.links[i]? = some l) (hdown : l.down = true) (hfails : l.fails < 3)
    (ha : l.a = 4) (hb : l.b = 5) (hstage : s.start.stage ≠ some 0) :
    exec (.dieLinkRetrainFail i now) s = .next ((s.at now).linkFailed i l) := by
  have hat : (s.at now).lead.links[i]? = some l := hl
  have hstart : ((s.at now).linkFailed i l).start = s.start := State.linkFailed_start ..
  change execDieLinkRetrainFail i now s = _
  unfold execDieLinkRetrainFail
  simp only [hat]
  rw [if_neg (by simp [hdown]; omega), if_pos ⟨hb, ha⟩]
  unfold State.linkFailed at *
  rw [hstart, if_neg (by simp [hstage])]

/-- A Canton that cannot be reached is reset while the module is READY and not furled (R446). -/
theorem exec_dieLinkRetrainFail_canton (hl : s.lead.links[i]? = some l) (hdown : l.down = true) (hfails : l.fails < 3)
    (ha : l.a < 4) (hready : s.ready = true) (hfurl : s.power.furl = 0) :
    exec (.dieLinkRetrainFail i now) s =
      .next (((s.at now).linkFailed i l).resetCanton (if l.b < 4 then l.b else l.a)) := by
  have hat : (s.at now).lead.links[i]? = some l := hl
  have hstart : ((s.at now).linkFailed i l).start = s.start := State.linkFailed_start ..
  have hawake : ((s.at now).linkFailed i l).power.furl = 0 := by
    rw [State.linkFailed_power]
    exact hfurl
  have hup : ((s.at now).linkFailed i l).ready = true := by rwa [State.ready, hstart]
  have hcond : (((s.at now).linkFailed i l).ready && ((s.at now).linkFailed i l).power.furl == 0) = true := by
    simp [hup, hawake]
  change execDieLinkRetrainFail i now s = _
  unfold execDieLinkRetrainFail
  simp only [hat]
  rw [if_neg (by simp [hdown]; omega), if_neg (by omega)]
  exact congrArg Host.Outcome.next (if_pos hcond)

end

/-! The reset of a Canton (R396). -/

/-- The plans on a Canton are lost, with the memory that they have there. -/
def State.losePlansOn (s : State) (k : Nat) : State :=
  ((List.range 16).filter fun c => s.planOn c k).foldl
    (fun s c => (s.poisonMem c (s.onCanton c k)).losePlan c) s

section
variable (s : State) (k : Nat)

/-- What no loss of a plan touches stays where memory is lost with it. -/
theorem State.losePlansOn_keeps {β : Type} (π : State → β) (hπ : ∀ u : State, π u.offLoss = π u)
    (hmem : ∀ (u : State) c p, π (u.poisonMem c p) = π u) : π (s.losePlansOn k) = π s := by
  refine foldl_keeps π (fun u c => ?_) _ s
  rw [← hπ, State.offLoss_losePlan, hπ, hmem]

theorem State.sheds_losePlansOn : s.Sheds (s.losePlansOn k) :=
  .foldl (fun u c => State.Sheds.trans (t := u.poisonMem c (u.onCanton c k)) (.of_clusters rfl)
    (State.sheds_losePlan ..)) ..

theorem State.resetCanton_hal : (s.resetCanton k).hal = s.hal :=
  (State.record_hal ..).trans (s.losePlansOn_keeps k State.hal (fun _ => rfl) fun _ _ _ => rfl)

/-- The Canton is marked as reset (R396). -/
theorem State.resetCanton_cantonReset (h : k < s.start.cantonReset.length) :
    (s.resetCanton k).start.cantonReset[k]? = some true := by
  have hstart : (s.losePlansOn k).start = s.start :=
    s.losePlansOn_keeps k State.start (fun _ => rfl) fun _ _ _ => rfl
  have hreset : (s.resetCanton k).start.cantonReset = updAt (s.losePlansOn k).start.cantonReset k fun _ => true :=
    congrArg Startup.cantonReset (State.record_start ..)
  rw [hreset, hstart, updAt, List.getElem?_modify_eq, List.getElem?_eq_getElem h]
  rfl

/-- A cluster at its place after the reset of a Canton. -/
def Cluster.resetOf (k : Nat) (x : Cluster × Nat) : Cluster :=
  if x.2 / 16 = k then Cluster.reset k (x.2 % 16) else x.1

theorem State.resetCanton_clusters :
    (s.resetCanton k).clusters = (s.losePlansOn k).clusters.zipIdx.map (Cluster.resetOf k) :=
  State.record_clusters ..

/-- The clusters of a Canton that is reset (R396). -/
theorem State.resetCanton_cluster {i : Nat} (hi : i < 16) (hlen : 16 * k + i < s.clusters.length) :
    (s.resetCanton k).cluster (16 * k + i) = Cluster.reset k i := by
  have hlen' : 16 * k + i < (s.losePlansOn k).clusters.length := (s.sheds_losePlansOn k).length ▸ hlen
  have hdiv : (16 * k + i) / 16 = k := by omega
  have hmod : (16 * k + i) % 16 = i := by omega
  simp [State.cluster, State.resetCanton_clusters, List.getD_eq_getElem?_getD, hlen', Cluster.resetOf, hdiv, hmod]

end

end Sys2Proof.Machine
end

section
/-!
O46: cluster, data and die-link faults (R22, R25, R154, R444 to R447).
-/
namespace Sys2Proof.Machine

/-- Settles O46: a fault is replayed by what a rollback and a replay leave alone; a failure and the loss of plans keep
time, power and start-up; a link that goes down rolls back exactly what it cuts. -/
theorem faultsAreContained : Obligations.FaultsAreContained := by
  unfold Obligations.FaultsAreContained
  refine ⟨?_, ?_, ?_, ?_, ?_, ?_, ?_, ?_, ?_, ?_, ?_, ?_, ?_, ?_, ?_, ?_⟩
  · intro s k p hk hlen _ hf hpos hat hlast
    have hk' : k < s.clusters.length := hlen ▸ hk
    obtain ⟨hnote, hlead⟩ := State.noteFault_replayAt_first (p := p) hlast
    obtain ⟨hspan, hbanks, hfailed, hposition⟩ := State.replayAt_own hk' hat
    rw [exec_clusterFault_replay hk hf hpos, hnote]
    refine ⟨_, rfl, hspan, hbanks, hfailed.trans hf, hposition.trans hpos, State.clears_replayAt hat,
      State.replayAt_of_quiet hk', hlead, ?_⟩
    exact congrArg (fun v : State => { v with lead := ((s.replayAt k p false).faultNoted k).lead })
      (State.eq_of_offReplay_eq (s.offReplay_replayAt k p false))
  · intro s k hk hlen hf
    exact ⟨_, exec_clusterFault_fail hk hf, (State.fails_failCluster (hlen ▸ hk) hf).runs_on⟩
  · intro s c hc hlen hf _
    have hk : 16 * c + 15 < s.clusters.length := by omega
    rw [exec_clusterFault_spare hc hf, State.portUse]
    refine ⟨fun ho => ?_, fun ho => ?_⟩
    · rw [if_neg (by simp [Cluster.portAllows, ho])]
    · rw [if_pos (by simp [Cluster.portAllows, ho])]
      exact ⟨_, rfl, State.cluster_updCluster_same hk _, fun i hi => State.cluster_updCluster_ne hi _, rfl⟩
  · intro s c k w hc hlen hk hw hlt hlead hhold hload htest hf hun
    obtain ⟨hne, hlt'⟩ := State.takeoverOf_ne_spare hk
    obtain ⟨hspare, hspan, hbanks⟩ := State.replayAt_updCluster (s := s) (p := (s.cluster k).position.getD 0)
      (k := k) (i := 16 * c + 15) (by omega) (by omega) hne
      fun x => { x with tableLoaded := true, request := some (.service, s.hal.beatCount) }
    refine ⟨_, exec_spareTakeover hk hw hlt hlead hhold hload htest hf hun, ?_, ?_, hspan, hbanks, ?_⟩
    · rw [hspare]
    · rw [hspare]
    · exact State.eq_of_offReplay_eq (s.offReplay_replayAt k _ true)
  · intro s c k p b hc hlen hk hp hbeat hhold hload hreq hdue _
    have hi : 16 * c + 15 < s.clusters.length := by omega
    obtain ⟨hne, hlt⟩ := State.takeoverOf_ne_spare hk
    obtain ⟨body, hexec⟩ := exec_spareBecomesService hi hk hp hbeat hhold hload hreq hdue
    have hcl := State.cluster_congr (s.spareServes_clusters c k p body)
    have hspare := State.takesPosition_spare (s := s.ownerChange (16 * c + 15)) (k := k) (p := p) (by simpa using hi)
    have hfailed := State.takesPosition_failed (s := s.ownerChange (16 * c + 15)) (p := p) (k := k) (by simp; omega) hne
    refine ⟨_, hexec, ?_, ?_, ?_, ?_, s.spareServes_lead .., fun i hik hi => ?_,
      fun x hx => State.plan_spareServes body hx, State.eq_of_offTakeover_eq (s.offTakeover_spareServes ..)⟩
    · rw [hcl, hspare.1]
    · rw [hcl, hspare.2, (s.ownerChange_due hi hreq hdue).1]
    · rw [hcl, hfailed]
    · rw [hcl, hfailed]
    · rw [hcl, State.takesPosition_ne hik hi, s.ownerChange_cluster_ne hi]
  · exact fun s c h k => ⟨rfl, rfl, rfl⟩
  · intro s c h x r im o hr him hfind ho hcommit
    have hexec := exec_dataFault_header hr hfind
    obtain ⟨hround, hbanks⟩ := s.rollbackSet_round_banks c h o.position o.cursor (x / 8) 0x02110001 him hr
    obtain ⟨hframe, howner⟩ := Round.rollback_of_no_commit (j := o.cursor) ho hcommit
    exact ⟨_, _, hexec, hround, howner, r.rollback_pos .., hframe, (s.clears_rollbackSet ..).others, hbanks,
      State.eq_of_offReplay_eq (s.offReplay_rollbackSet ..)⟩
  · intro s c h k r im hr him hk hunmask
    obtain ⟨op, hround, hframe⟩ := State.voidSets_one_round (k := k) hr him
    have hset := Round.set_dataVoid (op := op) hk hunmask
    exact ⟨_, _, rfl, hround, congrArg TileSet.unmask hset, congrArg TileSet.cause hset,
      congrArg TileSet.dataFault hset, fun j hj => Round.set_dataVoid_ne hj, r.dataVoid_frame k op,
      fun x hx => Round.tile_dataVoid hx, State.eq_of_offRecords_eq hframe⟩
  · intro s c h k hactive _
    obtain ⟨hstate, hothers⟩ := State.loseContext_active hactive
    exact ⟨_, rfl, hstate, fun d hd => ⟨hothers.entries d hd, hothers.record d hd⟩,
      State.eq_of_offTeardown_eq hothers.frame⟩
  · intro s c h i k hlo hhi
    obtain ⟨ht0, hkind, hcause, hstage, hrounds, hslots, hpowered, hout⟩ := s.restartsAt_fatal
    exact ⟨_, exec_dataFault_fatal s hlo hhi, ht0, hkind, hcause, hstage, hrounds, hslots, hpowered, hout⟩
  · intro s i now l hl hup
    have hlead := (s.at now).linkCut_lead i l
    obtain ⟨-, hown, hothers⟩ := State.linkDown_links (s := s.at now) hl
    refine ⟨(s.at now).linkCut i l, exec_dieLinkDown hl false, ?_, fun j hj => ?_, fun hnone => ?_, ?_⟩
    · rw [hlead, hown, if_neg (by simp [hup])]
    · exact (congrArg (·.links[j]?) hlead).trans (hothers j hj)
    · have hcut := (s.cutCommits_linkDown i l now).trans hnone
      rw [State.linkCut_of_no_cut (.inr hcut), State.linkDown, if_neg (by simp [hup])]
      rfl
    · have heq := State.eq_of_offLinks_eq ((s.at now).offLinks_linkCut i l)
      rwa [(s.at now).linkCut_draws i l] at heq
  · intro s i now c h l o r hl hup hcut hr ho hseq
    obtain ⟨hcommit, im, him⟩ := State.mem_cutCommits (hcut ▸ List.mem_singleton_self _)
    obtain ⟨hround, -⟩ := State.rollbackSet_round_banks ((s.at now).linkDown i l) c h o.position o.cursor o.set
      0x02110001 ((State.linkDown_image ..).trans him) ((State.linkDown_round? ..).trans hr)
    obtain ⟨hframe, howner⟩ := Round.rollback_of_cut (j := o.cursor) ho hcommit hseq
    rw [exec_dieLinkDown hl false, State.linkCut_one hup hcut]
    exact ⟨_, _, rfl, hround, howner, r.rollback_pos .., hframe⟩
  · intro s i now l hl
    obtain ⟨⟨m, hm, hdown, hfails, hsession⟩, hothers, hdraws⟩ := State.relinked_links (s := s.at now) hl
    refine ⟨(s.at now).relinked i l, m, exec_dieLinkDown hl true, hm, hdown, hfails, hsession, hothers, hdraws,
      fun hnone => State.recorded_relinked ?_, State.eq_of_offLinks_eq ((s.at now).offLinks_relinked i l)⟩
    exact hnone.imp_right fun hcut => (s.cutCommits_linkDown i l now).trans hcut
  · intro s i now l hl hdown hfails ha hb hstage
    exact ⟨_, exec_dieLinkRetrainFail_hoists hl hdown hfails ha hb hstage, .one ..⟩
  · intro s i k now l hl hdown hfails ha hk hready hfurl hlen
    have hk4 : k < 4 := by split at hk <;> omega
    refine ⟨_, exec_dieLinkRetrainFail_canton hl hdown hfails ha hready hfurl, ?_, ?_, ?_⟩
    · have hslot : k < ((s.at now).linkFailed i l).start.cantonReset.length := by
        rw [State.linkFailed_start]
        exact hlen.symm ▸ hk4
      rw [← hk, State.resetCanton_cantonReset _ k hslot]
    · intro j hj hlt
      rw [← hk]
      exact State.resetCanton_cluster _ k hj ((State.linkFailed_clusters ..).symm ▸ hlt)
    · exact (State.resetCanton_hal ..).trans (State.record_hal ..)
  · intro s k p x hk hlen hf hpos hlast hx
    rw [exec_clusterFault_replay hk hf hpos]
    exact ⟨_, rfl, (State.fails_replay_again (hlen ▸ hk) hf hlast hx).runs_on⟩

end Sys2Proof.Machine
end

section
/-!
Rounds under the leader's commands and at their boundaries (R36, R313 to R315, R438, R439): how a round and its accepted
opening are found after an update, what a command is applied to, and what its completion leaves alone.
-/
namespace Sys2Proof.Machine

/-! The round of a cohort. -/

section
variable {s t : State} {c h : Nat} {r q : Round}

theorem State.isCurrent_of_round? (hr : s.round? c h = some r) : r.isCurrent c h = true :=
  List.find?_some (p := fun r : Round => r.isCurrent c h) hr

/-- The current round after an update under which every current round stays one. -/
theorem State.round?_updRound_of_current {f : Round → Round}
    (hf : ∀ r : Round, r.isCurrent c h = true → (f r).isCurrent c h = true) (hr : s.round? c h = some r) :
    (s.updRound c h f).round? c h = some (f r) := by
  have hfind : (s.updRound c h f).round? c h = (s.round? c h).map f := find?_updIf hf s.rounds
  rw [hfind, hr, Option.map_some]

/-- The current round after it has been put in a state other than the opening. -/
theorem State.round?_updRound_of_state {f : Round → Round} {st : RoundState} (hst : st ≠ .opening)
    (hf : ∀ r : Round, (f r).ctx = r.ctx ∧ (f r).template = r.template ∧ (f r).state = st)
    (hr : s.round? c h = some r) : (s.updRound c h f).round? c h = some (f r) := by
  refine State.round?_updRound_of_current (fun r hcur => ?_) hr
  obtain ⟨hctx, htemplate, hstate⟩ := hf r
  simp only [Round.isCurrent, Bool.and_eq_true] at hcur
  simp [Round.isCurrent, hctx, htemplate, hstate, hcur, hst]

/-- The current round after another that is current has taken its place. -/
theorem State.round?_updRound_const (hq : q.isCurrent c h = true) (hr : s.round? c h = some r) :
    (s.updRound c h fun _ => q).round? c h = some q :=
  State.round?_updRound_of_current (fun _ _ => hq) hr

theorem State.opening?_congr (hrounds : t.rounds = s.rounds) : t.opening? c h = s.opening? c h := by
  unfold State.opening?
  rw [hrounds]

/-- A round that a command names is the current one (R315). -/
theorem State.round?_of_namedRound {n : Nat} (hn : s.namedRound c h n = .ok r) : s.round? c h = some r := by
  unfold State.namedRound at hn
  split at hn
  · cases hn
  · split at hn
    next hr =>
      split at hn
      · rwa [← Except.ok.inj hn]
      · cases hn
    next => cases hn

end

/-! Commands of a virtual function. -/

section
variable {s : State} {v op j : Nat} {e : Bytes} {rest : List Bytes} {r : Round}

/-- A command that nothing turns away is decided on the state without it (R314, R317, R321). -/
theorem State.Commands.command (hc : s.Commands v op e rest) (f : State → Bytes → State) :
    s.command v op f = f (s.taken v rest) e := by
  obtain ⟨-, hfetched, hidle, hop, hbound, hgate⟩ := hc
  have hgate' : (s.taken v rest).commandGate v op = none := hgate
  simp only [State.taken] at hgate'
  simp [State.command, State.taken, hfetched, hidle, hop, hbound, hgate']

/-- A command that names a cohort's round is decided on that round (R315). -/
theorem State.Commands.roundCommand (hc : s.Commands v op e rest) (hj : s.cohortOf (vfCtx v) (leAt e 8 4) = some j)
    (hn : s.namedRound (vfCtx v) j (leAt e 12 4) = .ok r) (noCohort : Nat) (f : State → Bytes → Nat → Round → State) :
    s.roundCommand v op noCohort f = f (s.taken v rest) e j r := by
  have hj' : (s.taken v rest).cohortOf (vfCtx v) (leAt e 8 4) = some j := hj
  have hn' : (s.taken v rest).namedRound (vfCtx v) j (leAt e 12 4) = .ok r := hn
  unfold State.roundCommand
  rw [hc.command]
  simp only [hj', hn']

end

/-! What journal and completions leave alone. -/

/-- The state without the virtual functions, the journal, and what records touch. -/
def State.offCommand (s : State) : State := { s.offJournal with host := .reset }

section
variable (s : State)

theorem State.offCommand_record (code source : Nat) (ctx : Option Nat) (p : Bytes) :
    (s.record code source ctx p).offCommand = s.offCommand :=
  (congrArg State.offCommand (s.record_unrecorded code source ctx p) :)

theorem State.offCommand_journal1 (kind : Nat) (ctx : Option Nat) (body : Bytes) :
    (s.journal1 kind ctx body).offCommand = s.offCommand :=
  (congrArg State.offCommand (s.offJournal_journal1 kind ctx body) :)

theorem State.offCommand_completeRunning (v opcode status r0 r1 : Nat) :
    (s.completeRunning v opcode status r0 r1).offCommand = s.offCommand :=
  (congrArg State.offCommand (s.offHost_completeRunning v opcode status r0 r1) :)

theorem State.offCommand_leaderDone (v : Nat) (e : Bytes) (status r0 r1 : Nat) :
    (s.leaderDone v e status r0 r1).offCommand = s.offCommand := by
  unfold State.leaderDone
  exact (congrArg State.offCommand (State.offHost_complete ..) :).trans (s.offCommand_journal1 ..)

theorem State.journal1_host (kind : Nat) (ctx : Option Nat) (body : Bytes) :
    (s.journal1 kind ctx body).host = s.host :=
  (congrArg State.host (s.offJournal_journal1 kind ctx body) :)

theorem State.journal1_rounds (kind : Nat) (ctx : Option Nat) (body : Bytes) :
    (s.journal1 kind ctx body).rounds = s.rounds :=
  (congrArg State.rounds (s.offJournal_journal1 kind ctx body) :)

end

section
variable {s t : State}

/-- A state that agrees with another outside of its rounds, the journal, and what records touch, written as an update of
it. -/
theorem State.eq_of_offJournal_rounds {rs : List Round} (h : t.offJournal = { s with rounds := rs }.offJournal) :
    t = { s with set := t.set, setA := t.setA, setB := t.setB, slotB := t.slotB, recorder := t.recorder,
                 journal := t.journal, mgmt := t.mgmt, rounds := t.rounds } :=
  congrArg (fun x : State =>
    { x with set := t.set, setA := t.setA, setB := t.setB, slotB := t.slotB, recorder := t.recorder,
             journal := t.journal, mgmt := t.mgmt, rounds := t.rounds }) h

/-- A state that agrees with another outside of its rounds, the virtual functions, the journal, and what records touch,
written as an update of it. -/
theorem State.eq_of_offCommand_rounds {rs : List Round} (h : t.offCommand = { s with rounds := rs }.offCommand) :
    t = { s with set := t.set, setA := t.setA, setB := t.setB, slotB := t.slotB, recorder := t.recorder,
                 journal := t.journal, mgmt := t.mgmt, host := t.host, rounds := t.rounds } :=
  congrArg (fun x : State =>
    { x with set := t.set, setA := t.setA, setB := t.setB, slotB := t.slotB, recorder := t.recorder,
             journal := t.journal, mgmt := t.mgmt, host := t.host, rounds := t.rounds }) h

end

/-! ROUND_CLOSE, ROUND_ABANDON, RELEASE. -/

section
variable {s : State} {v j : Nat} {e : Bytes} {rest : List Bytes} {r : Round}

/-- A close is accepted once, and falls due at the next window boundary (R315). -/
def Round.closeDue (r : Round) (due : Nat) : Round :=
  { r with closeAccepted := true, closeBeat := if r.closeAccepted then r.closeBeat else due }

theorem Round.closeDue_eq (r : Round) (due : Nat) :
    r.closeDue due = if r.closeAccepted then r else { r with closeAccepted := true, closeBeat := due } := by
  cases r
  unfold Round.closeDue
  dsimp only
  split
  next h => rw [h]
  next => rfl

theorem exec_roundClose (hc : s.Commands v 0x04 e rest) (hj : s.cohortOf (vfCtx v) (leAt e 8 4) = some j)
    (hn : s.namedRound (vfCtx v) j (leAt e 12 4) = .ok r) (hopen : r.state = .open) :
    ∃ body r0, exec (.roundClose v) s = .next
      ((((s.taken v rest).updRound (vfCtx v) j fun r => r.closeDue ((s.window + 1) * 256)).journal1 4 (some (vfCtx v))
        body).leaderDone v e 0 r0 0) := by
  have hdue := funext fun r : Round => r.closeDue_eq ((s.window + 1) * 256)
  have hexec : exec (.roundClose v) s = .next (s.roundCommand v 0x04 0x01210016 _) := rfl
  rw [hexec, hc.roundCommand hj hn, if_neg (not_not_intro hopen), hdue]
  exact ⟨_, _, rfl⟩

theorem exec_roundAbandon (hc : s.Commands v 0x05 e rest) (hj : s.cohortOf (vfCtx v) (leAt e 8 4) = some j)
    (hn : s.namedRound (vfCtx v) j (leAt e 12 4) = .ok r) (hlive : r.state.live = true) :
    exec (.roundAbandon v) s = .next (((s.taken v rest).abandonRound (vfCtx v) j 1).leaderDone v e 0 0 0) := by
  change Host.Outcome.next (s.roundCommand _ _ _ _) = _
  rw [hc.roundCommand hj hn, if_pos hlive]

end

end Sys2Proof.Machine
end

section
/-!
The release gate and the acceptance of an opening (R36, R63, R253, R315): what the commands RELEASE and ROUND_OPEN come to.
-/
namespace Sys2Proof.Machine

/-! RELEASE (R63, R253 to R255). -/

section
variable {s : State} {v j : Nat} {e : Bytes} {rest : List Bytes} {r : Round} {im : PlanImage}

/-- What the release gate has found of a round that it lets pass (R63). -/
structure Round.Releasable (r : Round) : Prop where
  state : r.state = .finished
  sets : ∀ x ∈ r.sets, x.commits ≠ 0 ∧ r.kmin ≤ x.count
  outputs : ∀ f ∈ r.finishRecs, f.state ≠ 2 ∧ f.state ≠ 3 ∧ f.state ≠ 4 ∧ (r.noiseRequired = true → f.noise = true)

theorem State.releasable_of_gate {c : Nat} {t : Template} (h : s.releaseGate c t r = (0, 0)) : r.Releasable := by
  unfold State.releaseGate at h
  dsimp only at h
  split at h
  · simp at h
  next hstate =>
  split at h
  · simp at h
  next hcommits =>
  split at h
  · simp at h
  next hcount =>
  split at h
  · simp at h
  next hvoid =>
  split at h
  · simp at h
  next hspent =>
  split at h
  · simp at h
  next hrange =>
  split at h
  · simp at h
  next hnoise =>
  simp only [List.findIdx?_eq_none_iff, Option.orElse_eq_none, beq_eq_false_iff_ne, decide_eq_false_iff_not]
    at hcommits hcount hvoid hspent hrange
  obtain ⟨-, hvoid⟩ := hvoid
  obtain ⟨-, hspent⟩ := hspent
  refine ⟨Classical.not_not.mp fun hne => hstate (.inl hne), fun x hx => ⟨hcommits x hx, Nat.le_of_not_lt (hcount x hx)⟩,
    fun f hf => ⟨hrange f hf, hvoid f hf, hspent f hf, fun hreq => ?_⟩⟩
  rw [if_pos hreq, List.findIdx?_eq_none_iff] at hnoise
  simpa using hnoise f hf

/-- The release point of a round: its delivery begins (R254). -/
def Round.releasing (r : Round) (beat v : Nat) : Round :=
  { r with state := .released, releaseBeat := beat, delivering := true, releaseCmd := some v }

/-- A release that may be judged is judged by the gate (R63, R253). -/
theorem exec_release (hc : s.Commands v 0x06 e rest) (hhold : s.lead.hold = none) (haway : s.leaderAway v = false)
    (hj : s.cohortOf (vfCtx v) (leAt e 8 4) = some j) (him : s.image (vfCtx v) = some im)
    (hleaf : (im.template j).isLeaf = false) (hn : s.namedRound (vfCtx v) j (leAt e 12 4) = .ok r) :
    ∃ body, exec (.release v) s = .next
      (if (s.releaseGate (vfCtx v) (im.template j) r).1 ≠ 0 then
        (s.taken v rest).leaderDone v e (s.releaseGate (vfCtx v) (im.template j) r).1
          (s.releaseGate (vfCtx v) (im.template j) r).2 0
      else
        (((s.taken v rest).updRound (vfCtx v) j fun r => r.releasing s.hal.beatCount v).journal1 7 (some (vfCtx v))
          body).updVf v fun x => { x with running := some e }) := by
  have hexec : exec (.release v) s = .next (s.command v 0x06 _) := rfl
  have hj' : (s.taken v rest).cohortOf (vfCtx v) (leAt e 8 4) = some j := hj
  have him' : (s.taken v rest).image (vfCtx v) = some im := him
  have hn' : (s.taken v rest).namedRound (vfCtx v) j (leAt e 12 4) = .ok r := hn
  have hhold' : (s.taken v rest).inHold = false := by
    change s.lead.hold.isSome = false
    rw [hhold, Option.isSome_none]
  have haway' : (s.taken v rest).leaderAway v = false := haway
  rw [hexec, hc.command]
  simp only [hj', him', hleaf, hhold', haway', hn', Bool.false_eq_true, if_false]
  exact ⟨_, rfl⟩

end

/-! ROUND_OPEN (R36, R315, R330, R345). -/

section
variable {s : State} {v j : Nat} {e : Bytes} {rest : List Bytes} {im : PlanImage} {pol : Policy}

/-- No opening of a cohort waits when another is accepted (R315). -/
theorem State.opening?_of_checks {c : Nat} (h : s.roundOpenChecks c e = .ok (im, j, pol)) : s.opening? c j = none := by
  unfold State.roundOpenChecks at h
  dsimp only at h
  split at h
  · split at h
    · cases h
    next hfree =>
      simp only [not_or, Bool.not_eq_true, Option.isSome_eq_false_iff, Option.isNone_iff_eq_none] at hfree
      obtain ⟨-, -, -, hopening⟩ := hfree
      repeat' split at h
      all_goals cases h
      all_goals exact hopening
  · cases h

theorem State.reserveSlots_length (s : State) (c : Nat) (ring : Bool) :
    (s.reserveSlots c ring).2.length = if ring then 4 else 2 := by
  cases ring <;> rfl

/-- Reserving slots changes the key store only. -/
theorem State.reserveSlots_frame (s : State) (c : Nat) (ring : Bool) :
    (s.reserveSlots c ring).1 = { s with keys := (s.reserveSlots c ring).1.keys } := by
  cases ring <;> rfl

/-- A round waits for its opening boundary, its salt drawn and its slots reserved, and its command runs (R315). -/
def State.opens (s : State) (v : Nat) (e : Bytes) (ks : Keys) (r : Round) : State :=
  State.updVf { s with keys := ks, rounds := s.rounds ++ [r], draws := s.draws + 1 } v fun x =>
    { x with running := some e }

/-- A ROUND_OPEN that fails its checks completes with the code of the first (R315). -/
theorem exec_roundOpen_of_error {code : Nat} (hc : s.Commands v 0x03 e rest)
    (h : s.roundOpenChecks (vfCtx v) e = .error code) :
    exec (.roundOpen v) s = .next ((s.taken v rest).leaderDone v e code 0 0) := by
  have hexec : exec (.roundOpen v) s = .next (s.command v 0x03 _) := rfl
  have h' : (s.taken v rest).roundOpenChecks (vfCtx v) e = .error code := h
  rw [hexec, hc.command]
  simp only [h']

/-- A ROUND_OPEN that passes its checks binds a round's values, and waits for its boundary (R315). -/
theorem exec_roundOpen_of_ok (hc : s.Commands v 0x03 e rest)
    (h : s.roundOpenChecks (vfCtx v) e = .ok (im, j, pol)) :
    ∃ key slots ks body, slots.length = (if (im.template j).isRing then 4 else 2) ∧ exec (.roundOpen v) s =
      .next (((s.taken v rest).opens v e ks (im.newRound (vfCtx v) j (leAt e 12 4) key s.hal.beatCount
        (s.plan (vfCtx v)).digest pol (s.draw 32).1 slots)).journal1 3 (some (vfCtx v)) body) := by
  have hexec : exec (.roundOpen v) s = .next (s.command v 0x03 _) := rfl
  have h' : (s.taken v rest).roundOpenChecks (vfCtx v) e = .ok (im, j, pol) := h
  have hslots := State.reserveSlots_length ((s.taken v rest).draw 32).2 (vfCtx v) (im.template j).isRing
  rw [hexec, hc.command]
  simp only [h']
  rw [State.reserveSlots_frame]
  exact ⟨_, _, _, _, hslots, rfl⟩

/-- The round of an accepted opening, among those that were there (R315). -/
theorem State.opening?_append {c : Nat} {u : State} {r : Round} (hu : u.rounds = s.rounds ++ [r])
    (hnone : s.opening? c j = none) (hr : (r.ctx == c && r.template == j && r.state == .opening) = true) :
    u.opening? c j = some r := by
  unfold State.opening? at hnone ⊢
  simp [hu, List.find?_append, hnone, hr]

theorem State.vf_updVf_same {u : State} (hv : v < u.host.vfs.length) (f : Vf → Vf) :
    (u.updVf v f).vf v = f (u.vf v) := by
  simp [State.vf, State.updVf, updAt, List.getD_eq_getElem?_getD, hv]

end

end Sys2Proof.Machine
end

section
/-!
The delivery of a released round (R254, R255): the memory it writes, and what it leaves alone.
-/
namespace Sys2Proof.Machine

/-! The delivery of a released round (R254, R255). -/

/-- The command that waits for a delivery completes. -/
def State.endDelivery (s : State) (r : Round) : State :=
  match r.releaseCmd with
  | some v => s.completeRunning v 0x06 0 0 r.releaseBeat
  | none => s

/-- What is left of a round once its output is delivered (R254). -/
def Round.deliveredOut (r : Round) : Round := { r.zeroed .released with delivering := false, delivered := true }

/-- An update of elements that are not looked for, before and after, is not seen. -/
theorem find?_updIf_of_disjoint {α : Type} {p q : α → Bool} {f : α → α} (hp : ∀ x, p x = true → q x = false)
    (hf : ∀ x, p x = true → q (f x) = false) (l : List α) : (updIf l p f).find? q = l.find? q := by
  induction l with
  | nil => rfl
  | cons x l ih =>
    unfold updIf at ih ⊢
    by_cases hx : p x = true
    · rw [List.map_cons, if_pos hx, List.find?_cons_of_neg (by simp [hf x hx]),
        List.find?_cons_of_neg (by simp [hp x hx]), ih]
    · rw [List.map_cons, if_neg hx, List.find?_cons, List.find?_cons, ih]

section
variable {s : State} {c h : Nat} {r : Round} {im : PlanImage}

theorem State.deliver_of_round (hr : s.round? c h = some r) (him : s.image c = some im) :
    s.deliver c h = ((s.releaseData c h (((im.regionsOf 7 h).head?.map Region.base).getD 0) r
      (r.outputImage (im.template h) ((policySpec r.policyObject r.cohortId).getD ⟨0, 0, 0, 0, 1, 0, 0, []⟩))).reportRelease
        c h (leBytes 4 r.cohortId ++ leBytes 4 r.number)).endDelivery r := by
  unfold State.deliver
  simp only [hr, him]
  rfl

theorem State.offCommand_endDelivery (s : State) (r : Round) : (s.endDelivery r).offCommand = s.offCommand := by
  unfold State.endDelivery
  split
  · exact State.offCommand_completeRunning ..
  · rfl

theorem State.offCommand_reportRelease (s : State) (c h : Nat) (body : Bytes) :
    (s.reportRelease c h body).offCommand =
      ((s.countRelease c h).count c fun x => { x with releases := x.releases + 1 }).offCommand := by
  rw [State.reportRelease, State.offCommand_record, State.offCommand_journal1]

/-- A delivery beside what it does to the journal, the virtual functions, and what records touch. -/
theorem State.offCommand_deliver (hr : s.round? c h = some r) (him : s.image c = some im) :
    (s.deliver c h).offCommand = (((s.releaseData c h (((im.regionsOf 7 h).head?.map Region.base).getD 0) r
      (r.outputImage (im.template h)
        ((policySpec r.policyObject r.cohortId).getD ⟨0, 0, 0, 0, 1, 0, 0, []⟩))).countRelease c h).count c fun x =>
          { x with releases := x.releases + 1 }).offCommand := by
  rw [State.deliver_of_round hr him, State.offCommand_endDelivery, State.offCommand_reportRelease]

theorem State.deliver_rounds (hr : s.round? c h = some r) (him : s.image c = some im) :
    (s.deliver c h).rounds = (s.updRound c h Round.deliveredOut).rounds :=
  (congrArg State.rounds (State.offCommand_deliver hr him) :)

theorem State.round?_deliver (hr : s.round? c h = some r) (him : s.image c = some im) :
    (s.deliver c h).round? c h = some r.deliveredOut := by
  rw [State.round?_congr (State.deliver_rounds hr him)]
  exact State.round?_updRound_of_state (st := .released) (by decide) (fun _ => ⟨rfl, rfl, rfl⟩) hr

/-- An accepted opening waits as before while the cohort's current round changes. -/
theorem State.opening?_updRound {f : Round → Round} {st : RoundState} (hst : st ≠ .opening)
    (hf : ∀ r : Round, (f r).state = st) : (s.updRound c h f).opening? c h = s.opening? c h := by
  refine find?_updIf_of_disjoint (fun r hr => ?_) (fun r _ => ?_) s.rounds
  · simp only [Bool.and_eq_true, bne_iff_ne] at hr
    simp [hr.2]
  · simp [hf r, hst]

theorem State.opening?_deliver (hr : s.round? c h = some r) (him : s.image c = some im) :
    (s.deliver c h).opening? c h = s.opening? c h := by
  rw [State.opening?_congr (State.deliver_rounds hr him)]
  exact State.opening?_updRound (st := .released) (by decide) fun _ => rfl

/-- What a delivery writes is read by no other context (R254, R357). -/
theorem State.ctx_updCtx_ne {d : Nat} (hd : d ≠ c) (f : Ctx → Ctx) : (s.updCtx c f).ctx d = s.ctx d := by
  simp [State.ctx, State.updCtx, updAt, List.getD_eq_getElem?_getD, hd.symm]

theorem State.ctx_updCtx_same (hc : c < s.ctxs.length) (f : Ctx → Ctx) : (s.updCtx c f).ctx c = f (s.ctx c) := by
  simp [State.ctx, State.updCtx, updAt, List.getD_eq_getElem?_getD, hc]

/-- The memory of a context after a write, read byte by byte. -/
theorem State.readMem_writeMem (hc : c < s.ctxs.length) (a : Nat) (b : Bytes) (x n : Nat) :
    (s.writeMem c a b).readMem c x n =
      (List.range n).map fun i =>
        memRead ((s.ctx c).unlisted c) (memWriteBytes ((s.ctx c).unlisted c) (s.ctx c).memory a b) (x + i) := by
  unfold State.readMem State.writeMem
  rw [State.ctx_updCtx_same hc]
  rfl

/-- The bytes written read back. -/
theorem State.readMem_writeMem_same (hc : c < s.ctxs.length) (hm : s.MemOk) (a : Nat) (b : Bytes) :
    (s.writeMem c a b).readMem c a b.length = b := by
  rw [State.readMem_writeMem hc]
  refine List.ext_getElem (by simp) fun i h₁ h₂ => ?_
  rw [List.getElem_map, List.getElem_range, memRead_memWriteBytes_inside (hm c) b i h₂]

/-- A byte outside the bytes written reads as before. -/
theorem State.readMem_writeMem_outside (hc : c < s.ctxs.length) (hm : s.MemOk) {a x : Nat} {b : Bytes}
    (hx : x < a ∨ a + b.length ≤ x) : (s.writeMem c a b).readMem c x 1 = s.readMem c x 1 := by
  rw [State.readMem_writeMem hc]
  simp [State.readMem, memRead_memWriteBytes_outside (hm c) b hx]

/-- Memories are read from the contexts only. -/
theorem State.readMem_congr {t : State} (hctxs : t.ctxs = s.ctxs) (a n : Nat) : t.readMem c a n = s.readMem c a n := by
  unfold State.readMem State.ctx
  rw [hctxs]

end

end Sys2Proof.Machine
end

section
/-!
The opening that takes effect (R36, R146, R162, R226, R345): the keys drawn for a round, and the round that begins.
-/
namespace Sys2Proof.Machine

/-! ROUND_OPEN_EFFECT (R36, R146, R162, R226, R315, R345). -/

/-- Slots of a Hoist after one of them has been given its value (R345). -/
def loadedSlots (l : List KeySlot) (h : Nat) (slot : Option Nat) (key : Bytes) : List KeySlot :=
  match slot with
  | some x => updIf l (fun k => k.hoist == h && k.slot == x) fun k => { k with attr := k.attr ||| 1#32, value := key }
  | none => l

/-- A slot that has been loaded is VALID and holds the key. -/
theorem value_of_mem_loadedSlots {l : List KeySlot} {h : Nat} {o : Option Nat} {key : Bytes} {k : KeySlot}
    (hk : k ∈ loadedSlots l h o key) (hh : k.hoist = h) (ho : o = some k.slot) :
    k.value = key ∧ k.attr.getLsbD 0 = true := by
  subst ho
  obtain ⟨y, -, hy⟩ := List.mem_map.mp hk
  split at hy
  · subst hy
    exact ⟨rfl, by simp⟩
  next hno =>
    subst hy
    exact absurd (by simp [hh]) hno

/-- A slot that has not been loaded is as it was. -/
theorem mem_of_mem_loadedSlots {l : List KeySlot} {h : Nat} {o : Option Nat} {key : Bytes} {k : KeySlot}
    (hk : k ∈ loadedSlots l h o key) (ho : o ≠ some k.slot) : k ∈ l := by
  unfold loadedSlots at hk
  split at hk
  next x =>
    obtain ⟨y, hy, rfl⟩ := List.mem_map.mp hk
    split at ho
    next hy' =>
      simp only [Bool.and_eq_true, beq_iff_eq] at hy'
      exact absurd (congrArg some hy'.2.symm) ho
    next hy' => rwa [if_neg hy']
  next => exact hk

/-- What drawing a round's keys leaves alone. -/
def State.offDraw (s : State) : State := { s.offJournal with keys := .reset, draws := 0 }

section
variable (s : State) (r : Round) (i : Nat)

/-- A round key is drawn, journaled and loaded (R345, R352). -/
theorem State.drawRoundKey_eq : ∃ (b : List Blob) (u : State),
    u.offJournal = ({ (s.draw 32).2 with keys := { s.keys with blobs := b } } : State).offJournal ∧
      s.drawRoundKey r i = match r.slotOn (s.lead.holder.getD 0) i with
        | some x => u.loadSlot (s.lead.holder.getD 0) x (s.draw 32).1
        | none => u :=
  ⟨_, _, State.offJournal_journal1 .., rfl⟩

/-- The slots and the fuses after a round key has been drawn. -/
theorem State.drawRoundKey_keys : (s.drawRoundKey r i).keys.slots =
      loadedSlots s.keys.slots (s.lead.holder.getD 0) (r.slotOn (s.lead.holder.getD 0) i) (s.draw 32).1 ∧
    (s.drawRoundKey r i).keys.fuses = s.keys.fuses := by
  obtain ⟨b, u, hu, heq⟩ := s.drawRoundKey_eq r i
  have hslots : u.keys.slots = s.keys.slots := (congrArg (fun v : State => v.keys.slots) hu :)
  have hfuses : u.keys.fuses = s.keys.fuses := (congrArg (fun v : State => v.keys.fuses) hu :)
  rw [heq]
  cases r.slotOn (s.lead.holder.getD 0) i with
  | some x => exact ⟨congrArg (fun l => loadedSlots l _ (some x) _) hslots, hfuses⟩
  | none => exact ⟨hslots, hfuses⟩

theorem State.offDraw_drawRoundKey : (s.drawRoundKey r i).offDraw = s.offDraw := by
  obtain ⟨b, u, hu, heq⟩ := s.drawRoundKey_eq r i
  have hdraw : u.offDraw = s.offDraw := (congrArg State.offDraw hu :)
  rw [heq]
  split <;> exact hdraw

theorem State.drawRoundKey_draws : (s.drawRoundKey r i).draws = s.draws + 1 := by
  obtain ⟨b, u, hu, heq⟩ := s.drawRoundKey_eq r i
  have hdraws : u.draws = s.draws + 1 := (congrArg State.draws hu :)
  rw [heq]
  split <;> exact hdraws

/-- The keys of a round: its store key, and in ring mode the key that seals its blocks (R162, R226). -/
def State.drawRoundKeys (ring : Bool) : State :=
  if ring then (s.drawRoundKey r 0).drawRoundKey r 1 else s.drawRoundKey r 0

theorem State.offDraw_drawRoundKeys (ring : Bool) : (s.drawRoundKeys r ring).offDraw = s.offDraw := by
  unfold State.drawRoundKeys
  split
  · rw [State.offDraw_drawRoundKey, State.offDraw_drawRoundKey]
  · exact State.offDraw_drawRoundKey ..

theorem State.drawRoundKeys_fuses (ring : Bool) : (s.drawRoundKeys r ring).keys.fuses = s.keys.fuses := by
  unfold State.drawRoundKeys
  split
  · rw [(State.drawRoundKey_keys ..).2, (State.drawRoundKey_keys ..).2]
  · exact (State.drawRoundKey_keys ..).2

/-- The slot of the store key alone holds the first draw (R162). -/
theorem State.value_of_storeSlot {ring : Bool} {k : KeySlot} (hk : k ∈ (s.drawRoundKeys r ring).keys.slots)
    (hh : k.hoist = s.lead.holder.getD 0) (h0 : r.slotOn (s.lead.holder.getD 0) 0 = some k.slot)
    (h1 : r.slotOn (s.lead.holder.getD 0) 1 ≠ some k.slot) :
    k.value = (s.draw 32).1 ∧ k.attr.getLsbD 0 = true := by
  have hlead : (s.drawRoundKey r 0).lead = s.lead := (congrArg State.lead (s.offDraw_drawRoundKey r 0) :)
  have hfirst : k ∈ (s.drawRoundKey r 0).keys.slots := by
    unfold State.drawRoundKeys at hk
    split at hk
    · rw [(State.drawRoundKey_keys ..).1, hlead] at hk
      exact mem_of_mem_loadedSlots hk h1
    · exact hk
  rw [(State.drawRoundKey_keys ..).1] at hfirst
  exact value_of_mem_loadedSlots hfirst hh h0

/-- The slot of the ring key holds the second draw (R226). -/
theorem State.value_of_exportSlot {k : KeySlot} (hk : k ∈ (s.drawRoundKeys r true).keys.slots)
    (hh : k.hoist = s.lead.holder.getD 0) (h1 : r.slotOn (s.lead.holder.getD 0) 1 = some k.slot) :
    k.value = ((s.draw 32).2.draw 32).1 ∧ k.attr.getLsbD 0 = true := by
  have hlead : (s.drawRoundKey r 0).lead = s.lead := (congrArg State.lead (s.offDraw_drawRoundKey r 0) :)
  have hdraw : ((s.drawRoundKey r 0).draw 32).1 = ((s.draw 32).2.draw 32).1 :=
    congrArg (fun n => padTo 32 (Config.randomBytes n 32)) (s.drawRoundKey_draws r 0)
  rw [State.drawRoundKeys, if_pos rfl, (State.drawRoundKey_keys ..).1, hlead, hdraw] at hk
  exact value_of_mem_loadedSlots hk hh h1

end

theorem State.roundPrivate_congr {s t : State} (hfuses : t.keys.fuses = s.keys.fuses) (hatt : t.att = s.att)
    (c cohort n : Nat) (salt : Bytes) : t.roundPrivate c cohort n salt = s.roundPrivate c cohort n salt := by
  simp only [State.roundPrivate, State.roundFamily, State.measuredKey, State.lifecycle, hfuses, hatt]

/-- The round that an opening begins (R36, R146): `n` is the next SEQ of the cohort's last round. -/
def Round.opened (r : Round) (beat : Nat) (key : Bytes) (n : Option Nat) : Round :=
  { r with state := .open, openBeat := beat, roundKey := key, nextSeq := n.getD r.nextSeq }

/-- A round takes the place of its cohort's last one, and its number the last number's. -/
def State.beginsRound (s : State) (c j : Nat) (r : Round) : State :=
  State.updPlan { s with rounds := (s.rounds.filter fun x => !(x.ctx == c && x.template == j)) ++ [r] } c fun p =>
    { p with lastRound := assocSet p.lastRound j r.number }

/-- An opening takes effect: keys are drawn, the round begins, and its command completes (R315). -/
def State.openRound (s : State) (c j : Nat) (ring : Bool) (r : Round) : State :=
  let u := s.drawRoundKeys r ring
  let q := r.opened u.hal.beatCount (u.roundPrivate c r.cohortId r.number r.saltR) ((u.round? c j).map Round.nextSeq)
  (u.beginsRound c j q).completeRunning ((u.beginsRound c j q).vfOf c) 0x03 0 u.hal.beatCount 0

section
variable {s : State} {c j : Nat} {im : PlanImage} {r : Round}

theorem exec_roundOpenEffect (hr : s.opening? c j = some r) (him : s.image c = some im) (hwin : s.atWindow = true)
    (hhold : s.lead.hold = none) (hbeat : r.acceptedBeat < s.hal.beatCount) :
    exec (.roundOpenEffect c j) s = .next
      ((if (s.round? c j).any Round.delivering then s.deliver c j else s).openRound c j (im.template j).isRing r) := by
  have hgo : (!s.atWindow || s.inHold || decide (s.hal.beatCount ≤ r.acceptedBeat)) = false := by
    simp [hwin, State.inHold, hhold, hbeat]
  change execRoundOpenEffect c j s = _
  unfold execRoundOpenEffect
  simp only [hr, him, hgo, Bool.false_eq_true, if_false]
  rfl

/-- The round that an opening has begun is the cohort's current one, and no opening waits any more. -/
theorem State.round?_beginsRound (hctx : r.ctx = c) (htemplate : r.template = j) (hst : r.state ≠ .opening) :
    (s.beginsRound c j r).round? c j = some r ∧ (s.beginsRound c j r).opening? c j = none := by
  have hnone (q : Round → Bool) (hq : ∀ x : Round, q x = true → (x.ctx == c && x.template == j) = true) :
      (s.rounds.filter fun x => !(x.ctx == c && x.template == j)).find? q = none := by
    rw [List.find?_eq_none]
    intro x hx hqx
    simpa [hq x hqx] using (List.mem_filter.mp hx).2
  constructor
  · refine (List.find?_append).trans ?_
    rw [hnone _ fun x hx => (Bool.and_eq_true_iff.mp hx).1]
    simp [hctx, htemplate, hst]
  · refine (List.find?_append).trans ?_
    rw [hnone _ fun x hx => (Bool.and_eq_true_iff.mp hx).1]
    simp [hst]

end

end Sys2Proof.Machine
end

section
/-!
Work on one round (R36): what it leaves of the rest of the state, and tile sets that become VOID by it (R54, R180, R181).
-/
namespace Sys2Proof.Machine

/-! Tile sets. -/

section
variable {r q u : Round} {k j : Nat}

theorem Round.set_updSet (r : Round) (k : Nat) (f : TileSet → TileSet) (j : Nat) :
    (r.updSet k f).set j = if j = k ∧ j < r.sets.length then f (r.set j) else r.set j := by
  by_cases hj : j < r.sets.length
  · by_cases hk : j = k
    · simp [Round.set, Round.updSet, updAt, List.getD_eq_getElem?_getD, hk ▸ hj, hk]
    · simp [Round.set, Round.updSet, updAt, List.getD_eq_getElem?_getD, hk, Ne.symm hk]
  · simp [Round.set, Round.updSet, updAt, List.getD_eq_getElem?_getD, hj]

/-- A tile set without its unmask record. -/
def TileSet.offUnmask (x : TileSet) : TileSet := { x with unmask := 0, cause := 0 }

/-- Tile sets have become VOID at most: one that is FOLDED or VOID stays so, and no committed sum changes. -/
structure Round.Voids (r q : Round) : Prop where
  frame : q = { r with sets := q.sets }
  kept : ∀ j, (q.set j).offUnmask = (r.set j).offUnmask
  settled : ∀ j, (r.set j).unmask = 1 ∨ (r.set j).unmask = 2 → (q.set j).unmask = (r.set j).unmask

theorem Round.Voids.refl (r : Round) : r.Voids r := ⟨rfl, fun _ => rfl, fun _ _ => rfl⟩

theorem Round.Voids.trans (h : r.Voids q) (g : q.Voids u) : r.Voids u := by
  refine ⟨?_, fun j => (g.kept j).trans (h.kept j), fun j hj => ?_⟩
  · rw [g.frame, h.frame]
  · have hq := h.settled j hj
    rw [g.settled j (hq ▸ hj), hq]

theorem Round.Voids.same (h : r.Voids q) : r.Same q := by
  rw [h.frame]
  exact ⟨rfl, rfl, rfl⟩

theorem Round.voids_voidSet (r : Round) (k cause : Nat) : r.Voids (r.voidSet k cause) := by
  refine ⟨rfl, fun j => ?_, fun j hj => ?_⟩
  · rw [Round.voidSet, Round.set_updSet]
    split
    · split <;> rfl
    · rfl
  · rw [Round.voidSet, Round.set_updSet]
    split
    · split
      · rfl
      next hne => exact (hj.resolve_left hne).symm
    · rfl

/-- A MASKED set becomes VOID with its cause. -/
theorem Round.set_voidSet (hk : k < r.sets.length) (cause : Nat) (h : (r.set k).unmask ≠ 1) :
    (r.voidSet k cause).set k = { r.set k with unmask := 2, cause := cause } := by
  rw [Round.voidSet, Round.set_updSet, if_pos ⟨rfl, hk⟩, if_neg h]

theorem Round.set_voidSet_ne (h : j ≠ k) (cause : Nat) : (r.voidSet k cause).set j = r.set j := by
  rw [Round.voidSet, Round.set_updSet, if_neg fun hj => h hj.1]

/-- Sets become VOID one after another, those not MASKED excepted (R54, R180). -/
def Round.voidTiles (r : Round) (cause : Nat) (l : List Nat) : Round :=
  l.foldl (fun r k => if (r.set k).unmask ≠ 0 then r else r.voidSet k cause) r

theorem Round.voids_voidTiles (r : Round) (cause : Nat) (l : List Nat) : r.Voids (r.voidTiles cause l) := by
  refine List.foldlRecOn l _ (.refl r) fun q hq k _ => ?_
  split
  · exact hq
  · exact hq.trans (q.voids_voidSet k cause)

/-- A set that is not MASKED is left as it is. -/
theorem Round.set_voidTiles_of_settled (cause : Nat) (l : List Nat) (h : (r.set j).unmask ≠ 0) :
    (r.voidTiles cause l).set j = r.set j := by
  refine List.foldlRecOn (motive := fun q : Round => q.set j = r.set j) l _ rfl fun q hq k _ => ?_
  split
  · exact hq
  next hk => rw [Round.set_voidSet_ne (fun hjk => h (by rw [← hq, hjk]; exact not_not.mp hk)), hq]

/-- A MASKED set among them becomes VOID with the cause. -/
theorem Round.set_voidTiles (cause : Nat) {l : List Nat} (hj : j ∈ l) (hlen : j < r.sets.length)
    (hmasked : (r.set j).unmask = 0) :
    ((r.voidTiles cause l).set j).unmask = 2 ∧ ((r.voidTiles cause l).set j).cause = cause := by
  induction l generalizing r with
  | nil => cases hj
  | cons k l ih =>
    unfold Round.voidTiles at ih ⊢
    rw [List.foldl_cons]
    by_cases hjk : j = k
    · subst hjk
      have hset := Round.set_voidSet hlen cause (hmasked ▸ Nat.zero_ne_one)
      rw [if_neg (not_not_intro hmasked)]
      have hrest := (r.voidSet j cause).set_voidTiles_of_settled (j := j) cause l (by rw [hset]; exact OfNat.ofNat_ne_zero 2)
      unfold Round.voidTiles at hrest
      rw [hrest, hset]
      exact ⟨rfl, rfl⟩
    · have hjl : j ∈ l := (List.mem_cons.mp hj).resolve_left hjk
      split
      · exact ih hjl hlen hmasked
      · refine ih hjl ?_ ?_
        · simpa [Round.voidSet, Round.updSet, updAt] using hlen
        · rw [Round.set_voidSet_ne hjk, hmasked]

end

/-! States. -/

/-- From `s` to `t` nothing has changed but a cohort's rounds and what records touch; its current round has a property. -/
structure State.Became (s : State) (c h : Nat) (P : Round → Prop) (t : State) : Prop where
  frame : t.offRecords = s.offRecords
  round : ∃ q, t.round? c h = some q ∧ P q

section
variable {s t u : State} {c h : Nat} {r : Round} {P Q : Round → Prop}

theorem State.Became.refl (hr : s.round? c h = some r) (hP : P r) : s.Became c h P s := ⟨rfl, r, hr, hP⟩

theorem State.Became.imp (g : s.Became c h P t) (hPQ : ∀ q, P q → Q q) : s.Became c h Q t :=
  let ⟨q, hq, hP⟩ := g.round
  ⟨g.frame, q, hq, hPQ q hP⟩

/-- What is done next to the round it has become. -/
theorem State.Became.andThen (g : s.Became c h P t) (hu : ∀ q, t.round? c h = some q → P q → t.Became c h Q u) :
    s.Became c h Q u :=
  let ⟨q, hq, hP⟩ := g.round
  let ⟨hframe, hround⟩ := hu q hq hP
  ⟨hframe.trans g.frame, hround⟩

theorem State.Became.record (g : s.Became c h P t) (code source : Nat) (ctx : Option Nat) (p : Bytes) :
    s.Became c h P (t.record code source ctx p) :=
  let ⟨q, hq, hP⟩ := g.round
  ⟨(State.offRecords_record ..).trans g.frame, q, (State.round?_congr (State.record_rounds ..)).trans hq, hP⟩

theorem State.Became.updRound (g : s.Became c h P t) {f : Round → Round} (hf : ∀ r : Round, r.Same (f r))
    (hQ : ∀ q, P q → Q (f q)) : s.Became c h Q (t.updRound c h f) :=
  let ⟨q, hq, hP⟩ := g.round
  ⟨g.frame, f q, State.round?_updRound_of_some hf hq, hQ q hP⟩

theorem State.Became.foldl {α : Type} (g : s.Became c h P t) {f : State → α → State} (l : List α)
    (hf : ∀ u x, s.Became c h P u → s.Became c h P (f u x)) : s.Became c h P (l.foldl f t) :=
  List.foldlRecOn l f g fun u hu x _ => hf u x hu

/-- Sets that become VOID, each with its record (R54, R180). -/
theorem State.became_voidTiles (hr : s.round? c h = some r) (cause code source : Nat) (l : List Nat) (extra : Bytes) :
    s.Became c h (· = r.voidTiles cause l) (s.voidTiles c h cause code source l extra) := by
  induction l generalizing s r with
  | nil => exact .refl hr rfl
  | cons k l ih =>
    unfold State.voidTiles Round.voidTiles at ih ⊢
    simp only [List.foldl_cons, hr]
    split
    · exact ih hr
    next =>
      have hstep : s.Became c h (· = r.voidSet k cause) ((s.updRound c h fun r => r.voidSet k cause).record code source
          (some c) (leBytes 4 r.cohortId ++ leBytes 4 k ++ extra)) :=
        ((State.Became.refl hr rfl).updRound (fun r => (r.voids_voidSet k cause).same) fun q hq => hq ▸ rfl).record ..
      exact hstep.andThen fun q hq heq => heq ▸ ih hq

end

end Sys2Proof.Machine
end

section
/-!
Boundaries of a round's life (R41, R43, R149, R165, R166, R213, R231, R251): the close, the freeze, the entry to
UNMASKING, and what they leave alone.
-/
namespace Sys2Proof.Machine

/-- What a boundary of a round's life leaves alone: the state without rounds, connections, contexts' counts, the journal,
and what records touch. -/
def State.offBoundary (s : State) : State := { s.offJournal with ctxs := [], rounds := [], grixo := .reset }

section
variable {s t : State}

/-- A state that agrees with another outside of what a boundary touches, written as an update of it. -/
theorem State.eq_of_offBoundary_eq (h : t.offBoundary = s.offBoundary) :
    t = { s with set := t.set, setA := t.setA, setB := t.setB, slotB := t.slotB, recorder := t.recorder,
                 journal := t.journal, mgmt := t.mgmt, ctxs := t.ctxs, rounds := t.rounds, grixo := t.grixo } :=
  congrArg (fun x : State =>
    { x with set := t.set, setA := t.setA, setB := t.setB, slotB := t.slotB, recorder := t.recorder,
             journal := t.journal, mgmt := t.mgmt, ctxs := t.ctxs, rounds := t.rounds, grixo := t.grixo }) h

end

section
variable (s : State)

theorem State.offBoundary_record (code source : Nat) (ctx : Option Nat) (p : Bytes) :
    (s.record code source ctx p).offBoundary = s.offBoundary :=
  (congrArg State.offBoundary (s.record_unrecorded code source ctx p) :)

theorem State.offBoundary_journal1 (kind : Nat) (ctx : Option Nat) (body : Bytes) :
    (s.journal1 kind ctx body).offBoundary = s.offBoundary :=
  (congrArg State.offBoundary (s.offJournal_journal1 kind ctx body) :)

theorem State.offBoundary_notice (i code : Nat) (f : Bytes) (action : Nat) :
    (s.notice i code f action).offBoundary = s.offBoundary := by
  unfold State.notice
  split
  · rfl
  · split <;> rfl

variable (c canton : Nat) (l : List (Nat × Bytes))

theorem State.offBoundary_discardFrames : (s.discardFrames c canton l).offBoundary = s.offBoundary := by
  refine foldl_keeps State.offBoundary (fun u x => ?_) l s
  rw [State.offBoundary_notice, State.offBoundary_record]
  rfl

theorem State.discardFrames_rounds : (s.discardFrames c canton l).rounds = s.rounds := by
  refine foldl_keeps State.rounds (fun u x => ?_) l s
  rw [State.notice_rounds, State.record_rounds]
  rfl

/-- A boundary's frames are discarded, and it is journaled. -/
def State.passes (body : Bytes) : State := (s.discardFrames c canton l).journal1 5 (some c) body

theorem State.offBoundary_passes (body : Bytes) : (s.passes c canton l body).offBoundary = s.offBoundary :=
  (State.offBoundary_journal1 ..).trans (s.offBoundary_discardFrames ..)

theorem State.passes_rounds (body : Bytes) : (s.passes c canton l body).rounds = s.rounds :=
  (State.journal1_rounds ..).trans (s.discardFrames_rounds ..)

end

/-! The close (R41, R125, R149). -/

section
variable {s : State} {c h : Nat} {r : Round} {im : PlanImage}

theorem State.closeRound_of_round (hr : s.round? c h = some r) (him : s.image c = some im) :
    ∃ canton l body, s.closeRound c h =
      (s.updRound c h fun r => r.closed s.hal.beatCount).passes c canton l body := by
  unfold State.closeRound
  simp only [hr, him]
  exact ⟨_, _, _, rfl⟩

/-- Owners of a closed round hold no sum but one that a drain works on, and nothing waits in their bins (R149). -/
theorem Round.owners_closed (beat : Nat) {o : OwnerSet} (ho : o ∈ (r.closed beat).owners) :
    (o.active = [] ∨ o.busy = true) ∧ o.read = o.write := by
  obtain ⟨x, -, rfl⟩ := List.mem_map.mp ho
  refine ⟨?_, rfl⟩
  by_cases hbusy : x.busy = true
  · exact .inr hbusy
  · exact .inl (if_neg hbusy)

theorem State.round?_closeRound (hr : s.round? c h = some r) (him : s.image c = some im) :
    (s.closeRound c h).round? c h = some (r.closed s.hal.beatCount) := by
  obtain ⟨canton, l, body, heq⟩ := State.closeRound_of_round hr him
  rw [heq, State.round?_congr (State.passes_rounds ..)]
  exact State.round?_updRound_of_state (st := .closed) (by decide) (fun _ => ⟨rfl, rfl, rfl⟩) hr

theorem State.offBoundary_closeRound (hr : s.round? c h = some r) (him : s.image c = some im) :
    (s.closeRound c h).offBoundary = s.offBoundary := by
  obtain ⟨canton, l, body, heq⟩ := State.closeRound_of_round hr him
  rw [heq]
  exact State.offBoundary_passes ..

theorem exec_roundCloseEffect (hr : s.round? c h = some r) (hopen : r.state = .open) (hwin : s.atWindow = true)
    (hhold : s.lead.hold = none) (hacc : r.closeAccepted = true) (hdue : r.closeBeat ≤ s.hal.beatCount) :
    exec (.roundCloseEffect c h) s = .next (s.closeRound c h) := by
  change execRoundCloseEffect c h s = _
  simp [execRoundCloseEffect, hr, hopen, hwin, State.inHold, hhold, hacc, hdue]

theorem exec_roundDurationLimit (hr : s.round? c h = some r) (him : s.image c = some im) (hopen : r.state = .open)
    (hwin : s.atWindow = true) (hhold : s.lead.hold = none) (hw : (im.template h).wR ≤ r.openWindows) :
    exec (.roundDurationLimit c h) s = .next (s.closeRound c h) := by
  change execRoundDurationLimit c h s = _
  simp [execRoundDurationLimit, hr, him, hopen, hwin, State.inHold, hhold, hw]

end

/-! The freeze (R47, R149, R165, R187, R213, R229). -/

/-- A round after the freeze has derived the lists of its mode from the ledger. -/
structure Round.Freezes (t : Template) (r q : Round) : Prop where
  frame : q = { r with sets := q.sets, mask := q.mask, ring := q.ring }
  sums : ∀ k, (q.set k).offUnmask = (r.set k).offUnmask
  pair : t.isLeaf = false → t.isPair = true → q.mask.secrets = r.secretRecords t ∧ q.mask.requestPublished = true
  ring : t.isLeaf = false → t.isPair = false → t.isSum = false → q.ring = (r.freezeRing t).ring

/-- A round without its work lists. -/
def Round.offLists (r : Round) : Round := { r with mask := { r.mask with lists := [] } }

theorem Round.offLists_appendItems (r : Round) (p : Nat) (kind : ListKind) (items : List Item) (built : Bool) :
    (r.appendItems p kind items built).offLists = r.offLists := rfl

theorem Round.Same.of_offLists {r q : Round} (h : q.offLists = r.offLists) : r.Same q :=
  ⟨(congrArg Round.ctx h :), (congrArg Round.template h :), (congrArg Round.state h :)⟩

/-- Rounds that differ in their lists only are the same with the same mask side. -/
theorem Round.withMask_congr {r q : Round} (h : q.offLists = r.offLists) (m : RoundMask) :
    ({ q with mask := m } : Round) = { r with mask := m } :=
  (congrArg (fun v : Round => ({ v with mask := m } : Round)) h :)

section
variable {s : State} {c h : Nat} {r : Round} {im : PlanImage}

/-- The SEEDACC lists of a sum-seed round are built (R187). -/
def Round.seedLists (r : Round) (im : PlanImage) (t : Nat) : Round :=
  let r := (im.unmaskers t).foldl (fun r x => r.appendItems x .seedAcc (r.seedList im t x) true) r
  { r with mask := { r.mask with seedStarted := true } }

theorem Round.seedLists_frame (r : Round) (im : PlanImage) (t : Nat) :
    r.seedLists im t = { r with mask := (r.seedLists im t).mask } := by
  have hlists : ((im.unmaskers t).foldl (fun r x => r.appendItems x .seedAcc (r.seedList im t x) true) r).offLists =
      r.offLists := foldl_keeps Round.offLists (fun _ _ => Round.offLists_appendItems ..) _ r
  exact Round.withMask_congr hlists _

theorem Round.same_seedLists (im : PlanImage) (t : Nat) (r : Round) : r.Same (r.seedLists im t) := by
  rw [r.seedLists_frame]
  exact ⟨rfl, rfl, rfl⟩

theorem State.became_freezeLists (hr : s.round? c h = some r) :
    s.Became c h (r.Freezes (im.template h)) (s.freezeLists c h im) := by
  unfold State.freezeLists
  dsimp only
  by_cases hleaf : (im.template h).isLeaf = true
  · rw [if_pos hleaf]
    exact .refl hr ⟨rfl, fun _ => rfl, by simp [hleaf], by simp [hleaf]⟩
  rw [if_neg hleaf]
  by_cases hpair : (im.template h).isPair = true
  · rw [if_pos hpair]
    refine State.Became.record ?_ ..
    refine State.Became.updRound (P := (r = ·)) (.refl hr rfl) (fun _ => ⟨rfl, rfl, rfl⟩) fun q hq => ?_
    subst hq
    exact ⟨rfl, fun _ => rfl, fun _ _ => ⟨rfl, rfl⟩, by simp [hpair]⟩
  rw [if_neg hpair]
  by_cases hsum : (im.template h).isSum = true
  · rw [if_pos hsum]
    refine State.Became.updRound (P := r.Voids) (f := fun r => r.seedLists im h) ?_ (Round.same_seedLists im h)
      fun q hq => ?_
    · have hvoid (u : State) (x : Nat × Nat) (hu : s.Became c h r.Voids u) : s.Became c h r.Voids
          (u.voidTiles c h 1 0x05120012 u.srcLeader [x.1] (leBytes 4 x.2)) :=
        hu.andThen fun q hq hv => (State.became_voidTiles hq ..).imp fun u heq => heq ▸ hv.trans (q.voids_voidTiles ..)
      have hstart : s.Became c h r.Voids s := .refl hr (.refl r)
      split
      · simp only [hr]
        exact hstart.foldl _ hvoid
      · exact hstart
    · have hset (k : Nat) : (q.seedLists im h).set k = q.set k := by
        rw [q.seedLists_frame]
        rfl
      refine ⟨?_, fun k => by rw [hset, hq.kept], by simp [hpair], by simp [hsum]⟩
      rw [q.seedLists_frame, hq.frame]
  rw [if_neg hsum]
  have hring : s.Became c h (r.Freezes (im.template h)) (s.updRound c h fun r => r.freezeRing (im.template h)) := by
    refine State.Became.updRound (P := (r = ·)) (.refl hr rfl) (fun _ => ⟨rfl, rfl, rfl⟩) fun q hq => ?_
    subst hq
    exact ⟨rfl, fun _ => rfl, by simp [hpair], fun _ _ _ => rfl⟩
  split
  · split
    · exact hring.record ..
    · exact hring
  · exact hring

/-- The freeze of a CLOSED round that no commit runs in any more (R149). -/
theorem exec_freeze (hr : s.round? c h = some r) (him : s.image c = some im) (hclosed : r.state = .closed)
    (hfrozen : r.frozen = false) (hcommit : ∀ o ∈ r.owners, o.commit.state ≠ 1) :
    ∃ body, exec (.freeze c h) s = .next (State.freezeLists ((s.updRound c h fun r =>
      { r with frozen := true, frozenBeat := s.hal.beatCount }).journal1 5 (some c) body) c h im) := by
  have hgo : ¬(r.state ≠ .closed ∨ r.frozen = true ∨ (r.owners.any fun o => o.commit.state == 1) = true) := by
    simpa [hclosed, hfrozen] using hcommit
  have hexec : exec (.freeze c h) s = execFreeze c h s := rfl
  rw [hexec]
  unfold execFreeze
  simp only [hr, him, if_neg hgo]
  exact ⟨_, rfl⟩

end

/-! The entry to UNMASKING (R43, R166, R231). -/

/-- A round after its entry to UNMASKING has settled what its mode waited for. -/
structure Round.EntersUnmasking (t : Template) (r q : Round) : Prop where
  state : q.state = .unmasking
  waiting : q.intake.waiting = []
  secretQueue : q.intake.secretQueue = []
  ledger : q.intake.ledger = r.intake.ledger
  owners : q.owners = r.owners
  settled : t.isLeaf = false → t.isPair = true → ∀ y ∈ q.mask.secrets, y.stateSelf ≠ 1 ∧ y.stateKey ≠ 1

/-- At the entry no secret is left COLLECTING (R166). -/
theorem settledState_ne_one (st shares threshold : Nat) (complete : Bool) :
    settledState st shares threshold complete true ≠ 1 := by
  unfold settledState
  split
  · assumption
  · split
    · decide
    · rw [if_neg (by decide)]
      split <;> decide

theorem Round.settleSecrets_settled (r : Round) (t : Template) :
    ∀ y ∈ (r.settleSecrets t true).mask.secrets, y.stateSelf ≠ 1 ∧ y.stateKey ≠ 1 := by
  intro y hy
  obtain ⟨x, -, rfl⟩ := List.mem_map.mp hy
  constructor
  · exact settledState_ne_one _ _ _ _
  · exact settledState_ne_one _ _ _ _

/-- Listing READY secrets changes the lists and the marks of what is listed (R173). -/
theorem Round.queueShamir_frame (r : Round) (im : PlanImage) (t : Nat) :
    r.queueShamir im t = { r with mask := (r.queueShamir im t).mask } ∧
      ∀ y ∈ (r.queueShamir im t).mask.secrets, ∃ x ∈ r.mask.secrets,
        y.stateSelf = x.stateSelf ∧ y.stateKey = x.stateKey := by
  unfold Round.queueShamir
  dsimp only
  split
  · exact ⟨rfl, fun y hy => ⟨y, hy, rfl, rfl⟩⟩
  · generalize hq : List.foldl _ r _ = q
    have hlists : q.offLists = r.offLists := by
      rw [← hq]
      exact foldl_keeps Round.offLists (fun _ _ => Round.offLists_appendItems ..) _ r
    have hsecrets : q.mask.secrets = r.mask.secrets := (congrArg (fun v : Round => v.mask.secrets) hlists :)
    refine ⟨?_, fun y hy => ?_⟩
    · exact Round.withMask_congr hlists _
    · obtain ⟨x, hx, rfl⟩ := List.mem_map.mp hy
      exact ⟨x, hsecrets ▸ hx, rfl, rfl⟩

/-- Ring tiles get their verdict: besides them only lists change (R231). -/
theorem Round.selectSets_frame (r : Round) (im : PlanImage) (t : Nat) :
    r.selectSets im t = { r with mask := (r.selectSets im t).mask, ring := (r.selectSets im t).ring } := by
  unfold Round.selectSets
  dsimp only
  generalize hu : ({ r with ring := _ } : Round) = u
  generalize hq : List.foldl _ u _ = q
  have hlists : q.offLists = u.offLists := by
    rw [← hq]
    exact foldl_keeps Round.offLists (fun _ _ => Round.offLists_appendItems ..) _ u
  subst hu
  exact (congrArg (fun v : Round => { v with mask := q.mask, ring := q.ring }) hlists :)

section
variable {t : Template} {r q u : Round}

/-- Sets that become VOID do not undo an entry. -/
theorem Round.EntersUnmasking.voids (h : r.EntersUnmasking t q) (g : q.Voids u) : r.EntersUnmasking t u := by
  rw [g.frame]
  exact ⟨h.state, h.waiting, h.secretQueue, h.ledger, h.owners, h.settled⟩

end

/-- The state of a round that enters UNMASKING, with nothing waiting any more. -/
def Round.unwaiting (r : Round) : Round :=
  { r with state := .unmasking, intake := { r.intake with waiting := [], secretQueue := [] } }

/-- What a round's mode settles at its entry to UNMASKING: secrets, or the verdict of ring tiles (R166, R231). -/
def State.settleEntry (s : State) (c h : Nat) (im : PlanImage) (r : Round) : State :=
  if (im.template h).isLeaf then s
  else if (im.template h).isPair then
    let s := s.updRound c h fun r => (r.settleSecrets (im.template h) true).queueShamir im h
    match s.round? c h with
    | some r => s.voidTiles c h 1 0x05120011 s.srcLeader (r.failedTiles (im.template h)) []
    | none => s
  else if (im.template h).isRing then
    let lost := (r.ring.tiles.zipIdx.filter fun (x, n) => (r.ringVerdict im h n x).1.isSome).map Prod.snd
    lost.foldl (fun s n => s.record 0x05130011 s.srcLeader (some c)
      (leBytes 4 r.cohortId ++ leBytes 4 (n * max 1 (im.template h).setTiles)))
      (s.updRound c h fun r => r.selectSets im h)
  else s

section
variable {s : State} {c h : Nat} {r q : Round} {im : PlanImage}

theorem State.enterUnmasking_of_round (hr : s.round? c h = some r) (him : s.image c = some im) :
    ∃ canton l body, s.enterUnmasking c h =
      ((s.updRound c h Round.unwaiting).passes c canton l body).settleEntry c h im r := by
  unfold State.enterUnmasking
  simp only [hr, him]
  exact ⟨_, _, _, rfl⟩

theorem Round.same_settleQueue (im : PlanImage) (h : Nat) (r : Round) :
    r.Same ((r.settleSecrets (im.template h) true).queueShamir im h) := by
  rw [(Round.queueShamir_frame _ im h).1]
  exact ⟨rfl, rfl, rfl⟩

theorem Round.same_selectSets (im : PlanImage) (h : Nat) (r : Round) : r.Same (r.selectSets im h) := by
  rw [r.selectSets_frame]
  exact ⟨rfl, rfl, rfl⟩

/-- In pairwise mode no secret is COLLECTING any more (R166). -/
theorem Round.entersUnmasking_settleQueue (r : Round) (im : PlanImage) (h : Nat) :
    r.EntersUnmasking (im.template h) ((r.unwaiting.settleSecrets (im.template h) true).queueShamir im h) := by
  obtain ⟨hframe, hsecrets⟩ := (r.unwaiting.settleSecrets (im.template h) true).queueShamir_frame im h
  have hsettled : ∀ y ∈ ((r.unwaiting.settleSecrets (im.template h) true).queueShamir im h).mask.secrets,
      y.stateSelf ≠ 1 ∧ y.stateKey ≠ 1 := by
    intro y hy
    obtain ⟨x, hx, hself, hkey⟩ := hsecrets y hy
    rw [hself, hkey]
    exact r.unwaiting.settleSecrets_settled _ x hx
  generalize Round.queueShamir _ im h = q at hframe hsettled
  have hkeep := congrArg (fun v : Round => (v.state, v.intake, v.owners)) hframe
  obtain ⟨hstate, hrest⟩ := Prod.mk.inj hkeep
  obtain ⟨hintake, howners⟩ := Prod.mk.inj hrest
  exact ⟨hstate, by rw [hintake]; rfl, by rw [hintake]; rfl, by rw [hintake]; rfl, howners, fun _ _ => hsettled⟩

theorem Round.entersUnmasking_selectSets (r : Round) (im : PlanImage) (h : Nat)
    (hpair : (im.template h).isPair = false) :
    r.EntersUnmasking (im.template h) (r.unwaiting.selectSets im h) := by
  rw [r.unwaiting.selectSets_frame]
  exact ⟨rfl, rfl, rfl, rfl, rfl, by simp [hpair]⟩

theorem Round.entersUnmasking_unwaiting (r : Round) (t : Template) (hno : t.isLeaf = true ∨ t.isPair = false) :
    r.EntersUnmasking t r.unwaiting :=
  ⟨rfl, rfl, rfl, rfl, rfl, fun hleaf hpair => by simp [hleaf, hpair] at hno⟩

theorem State.became_settleEntry (hr : s.round? c h = some r.unwaiting) :
    s.Became c h (r.EntersUnmasking (im.template h)) (s.settleEntry c h im r) := by
  unfold State.settleEntry
  by_cases hleaf : (im.template h).isLeaf = true
  · rw [if_pos hleaf]
    exact .refl hr (r.entersUnmasking_unwaiting _ (.inl hleaf))
  rw [if_neg hleaf]
  by_cases hpair : (im.template h).isPair = true
  · rw [if_pos hpair]
    have hqueue : s.Became c h (r.EntersUnmasking (im.template h))
        (s.updRound c h fun r => (r.settleSecrets (im.template h) true).queueShamir im h) := by
      refine State.Became.updRound (P := (· = r.unwaiting)) (.refl hr rfl) (Round.same_settleQueue im h) fun q hq => ?_
      rw [hq]
      exact r.entersUnmasking_settleQueue im h
    refine hqueue.andThen fun q hq henters => ?_
    simp only [hq]
    exact (State.became_voidTiles hq ..).imp fun u hu => hu ▸ henters.voids (q.voids_voidTiles ..)
  rw [if_neg hpair]
  have hpair' : (im.template h).isPair = false := Bool.eq_false_of_not_eq_true hpair
  split
  · have hselect : s.Became c h (r.EntersUnmasking (im.template h)) (s.updRound c h fun r => r.selectSets im h) := by
      refine State.Became.updRound (P := (· = r.unwaiting)) (.refl hr rfl) (Round.same_selectSets im h) fun q hq => ?_
      rw [hq]
      exact r.entersUnmasking_selectSets im h hpair'
    exact hselect.foldl _ fun u n hu => hu.record ..
  · exact .refl hr (r.entersUnmasking_unwaiting _ (.inr hpair'))

/-- The entry to UNMASKING at a boundary (R43). -/
theorem State.enterUnmasking_became (hr : s.round? c h = some r) (him : s.image c = some im) :
    (s.enterUnmasking c h).offBoundary = s.offBoundary ∧
      ∃ q, (s.enterUnmasking c h).round? c h = some q ∧ r.EntersUnmasking (im.template h) q := by
  obtain ⟨canton, l, body, heq⟩ := State.enterUnmasking_of_round hr him
  have hround : ((s.updRound c h Round.unwaiting).passes c canton l body).round? c h = some r.unwaiting := by
    rw [State.round?_congr (State.passes_rounds ..)]
    exact State.round?_updRound_of_state (st := .unmasking) (by decide) (fun _ => ⟨rfl, rfl, rfl⟩) hr
  obtain ⟨hframe, hq⟩ := State.became_settleEntry (im := im) hround
  rw [heq]
  refine ⟨?_, hq⟩
  have hoff := congrArg State.offBoundary hframe
  exact hoff.trans (State.offBoundary_passes ..)

theorem exec_secretPeriodEnd (hr : s.round? c h = some r) (him : s.image c = some im) (hclosed : r.state = .closed)
    (hfrozen : r.frozen = true) (hbeat : r.frozenBeat < s.hal.beatCount) (hwin : s.atWindow = true)
    (hhold : s.lead.hold = none) (hover : (im.template h).wS ≤ r.closedWindows) :
    exec (.secretPeriodEnd c h) s = .next (s.enterUnmasking c h) := by
  change execSecretPeriodEnd c h s = _
  simp [execSecretPeriodEnd, hr, him, hclosed, hfrozen, hbeat, hwin, State.inHold, hhold, Round.periodOver, hover]

theorem exec_unmaskingEntry (hr : s.round? c h = some r) (him : s.image c = some im) (hclosed : r.state = .closed)
    (hfrozen : r.frozen = true) (hbeat : r.frozenBeat < s.hal.beatCount) (hwin : s.atWindow = true)
    (hhold : s.lead.hold = none)
    (hdue : (im.template h).wS ≤ r.closedWindows ∨ r.earlyUnmasking im h = true) :
    exec (.unmaskingEntry c h) s = .next (s.enterUnmasking c h) := by
  change execUnmaskingEntry c h s = _
  simp [execUnmaskingEntry, hr, him, hclosed, hfrozen, hbeat, hwin, State.inHold, hhold, Round.periodOver, hdue]

end

end Sys2Proof.Machine
end

section
/-!
Removal lists, the finish phase and FINISHED (R179, R187, R251).
-/
namespace Sys2Proof.Machine

/-! Work lists. -/

section
variable {r q : Round} {p p' : Nat} {kind kind' : ListKind}

/-- Items put where there was no list make a list. -/
theorem Round.list?_appendItems_same (h : r.list? p kind = none) (items : List Item) (built : Bool) :
    (r.appendItems p kind items built).list? p kind = some ⟨p, kind, items, 0, built⟩ := by
  unfold Round.list? at h
  simp only [Round.list?, Round.appendItems, h]
  exact List.find?_cons_of_pos (by simp)

/-- Items put in one list leave the others. -/
theorem Round.list?_appendItems_ne (hne : p ≠ p' ∨ kind ≠ kind') (items : List Item) (built : Bool) :
    (r.appendItems p' kind' items built).list? p kind = r.list? p kind := by
  have hmine : ∀ l : WorkList, (l.position == p && l.kind == kind) = true →
      (l.position == p' && l.kind == kind') = false := by
    intro l hl
    simp only [Bool.and_eq_true, beq_iff_eq] at hl
    obtain ⟨rfl, rfl⟩ := hl
    rcases hne with hne | hne
    · simp [hne]
    · simp [hne]
  have hold : ((r.mask.lists.find? fun l => l.position == p' && l.kind == kind').getD
      ⟨p', kind', [], 0, false⟩).position = p' ∧ ((r.mask.lists.find? fun l => l.position == p' && l.kind == kind').getD
      ⟨p', kind', [], 0, false⟩).kind = kind' := by
    cases hfind : r.mask.lists.find? fun l => l.position == p' && l.kind == kind' with
    | none => exact ⟨rfl, rfl⟩
    | some l =>
      have hl := List.find?_some hfind
      simpa using hl
  unfold Round.list? Round.appendItems
  dsimp only
  rw [List.find?_cons_of_neg, List.find?_filter]
  · refine congrArg (fun f => List.find? f r.mask.lists) (funext fun l => ?_)
    by_cases hl : (l.position == p && l.kind == kind) = true
    · simp [hl, hmine l hl]
    · simp [hl]
  · dsimp only
    rw [hold.1, hold.2]
    rcases hne with hne | hne
    · simp [hne.symm]
    · simp [hne.symm]

/-- Lists of a kind are built at some positions. -/
def Round.buildAt (r : Round) (kind : ListKind) (items : Round → Nat → List Item) (l : List Nat) : Round :=
  l.foldl (fun r x => r.appendItems x kind (items r x) true) r

variable {items : Round → Nat → List Item} {l : List Nat}

theorem Round.offLists_buildAt (r : Round) (kind : ListKind) (items : Round → Nat → List Item) (l : List Nat) :
    (r.buildAt kind items l).offLists = r.offLists :=
  foldl_keeps Round.offLists (fun _ _ => Round.offLists_appendItems ..) l r

theorem Round.list?_buildAt_ne (hne : p ∉ l ∨ kind ≠ kind') :
    (r.buildAt kind' items l).list? p kind = r.list? p kind := by
  refine List.foldlRecOn (motive := fun q : Round => q.list? p kind = r.list? p kind) l _ rfl fun q hq x hx => ?_
  refine (Round.list?_appendItems_ne (hne.imp_left fun hp hpx => hp (hpx ▸ hx)) _ _).trans hq

/-- A position of theirs that had no list has its items, which the other lists do not touch. -/
theorem Round.list?_buildAt (hitems : ∀ u v : Round, u.offLists = v.offLists → items u p = items v p)
    (hl : l.Nodup) (hp : p ∈ l) (hnone : r.list? p kind = none) :
    (r.buildAt kind items l).list? p kind = some ⟨p, kind, items r p, 0, true⟩ := by
  induction l generalizing r with
  | nil => cases hp
  | cons x l ih =>
    obtain ⟨hx, hl⟩ := List.nodup_cons.mp hl
    change ((r.appendItems x kind (items r x) true).buildAt kind items l).list? p kind = _
    by_cases hpx : p = x
    · rw [← hpx] at hx ⊢
      rw [Round.list?_buildAt_ne (.inl hx), Round.list?_appendItems_same hnone]
    · have hp := (List.mem_cons.mp hp).resolve_left hpx
      rw [ih hl hp ((Round.list?_appendItems_ne (.inl hpx) ..).trans hnone),
        hitems _ r (Round.offLists_appendItems ..)]

variable {im : PlanImage} {h : Nat} {ready : Nat → Bool}

theorem Round.offLists_buildLists (r : Round) (im : PlanImage) (h : Nat) (kind : ListKind)
    (items : Round → Nat → List Item) (ready : Nat → Bool) :
    (r.buildLists im h kind items ready).offLists = r.offLists := Round.offLists_buildAt ..

/-- Another kind's lists are left. -/
theorem Round.list?_buildLists_ne (hne : kind ≠ kind') :
    (r.buildLists im h kind' items ready).list? p kind = r.list? p kind := Round.list?_buildAt_ne (.inr hne)

/-- A ready unmasking cluster without a list of the kind has one (R179, R187). -/
theorem Round.list?_buildLists (hitems : ∀ u v : Round, u.offLists = v.offLists → items u p = items v p)
    (hp : p ∈ im.unmaskers h) (hready : ready p = true) (hnone : r.list? p kind = none) :
    (r.buildLists im h kind items ready).list? p kind = some ⟨p, kind, items r p, 0, true⟩ := by
  refine Round.list?_buildAt hitems ?_ ?_ hnone
  · exact (List.nodup_range.filter _).filter _
  · exact List.mem_filter.mpr ⟨hp, by simp [hnone, hready]⟩

/-- The removal lists of a pairwise round (R179). -/
def Round.pairwiseLists (r : Round) (im : PlanImage) (h : Nat) (selfOk pairOk : Bool) : Round :=
  let r := if selfOk then r.buildLists im h .self (fun r x => r.selfItems im h x) fun _ => true else r
  let r := if pairOk then r.buildLists im h .pair (fun r x => r.pairItems im h x) fun _ => true else r
  { r with mask := { r.mask with selfStarted := r.mask.selfStarted || selfOk
                                 pairStarted := r.mask.pairStarted || pairOk } }

theorem Round.pairwiseLists_frame (r : Round) (im : PlanImage) (h : Nat) (selfOk pairOk : Bool) :
    r.pairwiseLists im h selfOk pairOk = { r with mask := (r.pairwiseLists im h selfOk pairOk).mask } := by
  refine Round.withMask_congr ?_ _
  cases selfOk <;> cases pairOk <;> simp [Round.offLists_buildLists]

theorem Round.list?_self_pairwiseLists (hp : p ∈ im.unmaskers h) (hnone : r.list? p .self = none) (pairOk : Bool) :
    (r.pairwiseLists im h true pairOk).list? p .self = some ⟨p, .self, r.selfItems im h p, 0, true⟩ := by
  have hself := Round.list?_buildLists (items := fun r x => r.selfItems im h x) (ready := fun _ => true)
    (fun u v huv => (congrArg (fun w : Round => w.selfItems im h p) huv :)) hp rfl hnone
  cases pairOk with
  | false => exact hself
  | true => exact (Round.list?_buildLists_ne (by decide)).trans hself

theorem Round.list?_pair_pairwiseLists (hp : p ∈ im.unmaskers h) (hnone : r.list? p .pair = none) (selfOk : Bool) :
    (r.pairwiseLists im h selfOk true).list? p .pair = some ⟨p, .pair, r.pairItems im h p, 0, true⟩ := by
  have hitems : ∀ u v : Round, u.offLists = v.offLists → u.pairItems im h p = v.pairItems im h p :=
    fun u v huv => (congrArg (fun w : Round => w.pairItems im h p) huv :)
  cases selfOk with
  | false =>
    exact Round.list?_buildLists (items := fun r x => r.pairItems im h x) (ready := fun _ => true) hitems hp rfl hnone
  | true =>
    have hpair := Round.list?_buildLists (items := fun r x => r.pairItems im h x) (ready := fun _ => true) hitems hp rfl
      ((Round.list?_buildLists_ne (kind' := .self) (im := im) (h := h)
        (items := fun r x => r.selfItems im h x) (ready := fun _ => true) (by decide)).trans hnone)
    rw [hitems _ r (Round.offLists_buildLists ..)] at hpair
    exact hpair

end

section
variable {s : State} {c h : Nat} {r : Round} {im : PlanImage}

theorem exec_removalListBuild_pair (hr : s.round? c h = some r) (him : s.image c = some im)
    (hst : r.state = .unmasking) (hleaf : (im.template h).isLeaf = false) (hpair : (im.template h).isPair = true) :
    exec (.removalListBuild c h) s = .next (s.updRound c h fun q => q.pairwiseLists im h
      (r.mask.secrets.all (fun x => x.stateSelf != 1 && x.stateSelf != 2) && (s.atWindow || r.mask.selfStarted))
      (r.mask.secrets.all (fun x => x.stateKey != 1 && x.stateKey != 2) && r.mask.recompute.isEmpty &&
        (s.atWindow || r.mask.pairStarted))) := by
  have hexec : exec (.removalListBuild c h) s = execRemovalListBuild c h s := rfl
  rw [hexec]
  unfold execRemovalListBuild
  simp only [hr, him, hst, hleaf, hpair, ne_eq, not_true_eq_false, Bool.false_eq_true, or_self, if_false, if_true]
  rfl

theorem exec_removalListBuild_sum (hr : s.round? c h = some r) (him : s.image c = some im)
    (hst : r.state = .unmasking) (hleaf : (im.template h).isLeaf = false) (hpair : (im.template h).isPair = false)
    (hsum : (im.template h).isSum = true) :
    exec (.removalListBuild c h) s = .next (s.updRound c h fun r =>
      r.buildLists im h .lwr (fun r x => r.lwrItems im h x) fun x => !(r.hasItem x .seedAcc)) := by
  change execRemovalListBuild c h s = _
  simp [execRemovalListBuild, hr, him, hst, hleaf, hpair, hsum]

theorem exec_finishPhaseBegin (hr : s.round? c h = some r) (him : s.image c = some im) (hst : r.state = .unmasking)
    (hwin : s.atWindow = true) (hhold : s.lead.hold = none) (hphase : r.finishPhase = false)
    (hleaf : (im.template h).isLeaf = false) (hready : r.finishReady (im.template h) = true) :
    ∃ body, exec (.finishPhaseBegin c h) s = .next
      ((s.updRound c h fun r => { r with finishPhase := true }).journal1 5 (some c) body) := by
  have hexec : exec (.finishPhaseBegin c h) s = execFinishPhaseBegin c h s := rfl
  rw [hexec]
  unfold execFinishPhaseBegin
  simp only [hr, him, hst, hwin, State.inHold, hhold, hphase, hleaf, hready]
  exact ⟨_, rfl⟩

theorem exec_roundFinished (hr : s.round? c h = some r) (hst : r.state = .unmasking)
    (hwin : s.atWindow = true) (hhold : s.lead.hold = none) (hphase : r.finishPhase = true)
    (hrecs : ∀ f ∈ r.finishRecs, f.state ≠ 0) :
    ∃ body, exec (.roundFinished c h) s = .next
      ((s.updRound c h fun r => { r with state := .finished }).journal1 5 (some c) body) := by
  have hall : (r.finishRecs.all fun f => f.state != 0) = true := by simpa using hrecs
  have hexec : exec (.roundFinished c h) s = execRoundFinished c h s := rfl
  rw [hexec]
  unfold execRoundFinished
  simp only [hr, hst, hwin, State.inHold, hhold, hphase, hall]
  exact ⟨_, rfl⟩

end

end Sys2Proof.Machine
end

section
/-!
Rounds pass their states (R36 to R63, R149, R165, R166, R179, R213, R251 to R256): what each command and each boundary does
to its round, and what it leaves of the rest of the state.
-/
namespace Sys2Proof.Machine

/-! The opening (R315, R345). -/

section
variable {s t : State}

/-- A state that agrees with another outside of its key store, rounds, draws, virtual functions, the journal, and what
records touch, written as an update of it. -/
theorem State.eq_of_offCommand_opens {ks : Keys} {rs : List Round} {n : Nat}
    (h : t.offCommand = { s with keys := ks, rounds := rs, draws := n }.offCommand) :
    t = { s with set := t.set, setA := t.setA, setB := t.setB, slotB := t.slotB, recorder := t.recorder,
                 keys := t.keys, journal := t.journal, mgmt := t.mgmt, host := t.host, rounds := t.rounds,
                 draws := t.draws } :=
  congrArg (fun x : State =>
    { x with set := t.set, setA := t.setA, setB := t.setB, slotB := t.slotB, recorder := t.recorder,
             keys := t.keys, journal := t.journal, mgmt := t.mgmt, host := t.host, rounds := t.rounds,
             draws := t.draws }) h

/-- What an opening that takes effect leaves alone. -/
def State.offOpening (s : State) : State := { s.offDraw with host := .reset, plans := [], rounds := [] }

theorem State.eq_of_offOpening (h : t.offOpening = s.offOpening) :
    t = { s with set := t.set, setA := t.setA, setB := t.setB, slotB := t.slotB, recorder := t.recorder, keys := t.keys,
                 journal := t.journal, mgmt := t.mgmt, host := t.host, plans := t.plans, rounds := t.rounds,
                 draws := t.draws } :=
  congrArg (fun x : State =>
    { x with set := t.set, setA := t.setA, setB := t.setB, slotB := t.slotB, recorder := t.recorder, keys := t.keys,
             journal := t.journal, mgmt := t.mgmt, host := t.host, plans := t.plans, rounds := t.rounds,
             draws := t.draws }) h

variable {v j c : Nat} {e : Bytes} {rest : List Bytes} {im : PlanImage} {pol : Policy} {r : Round}

/-- The command of an accepted opening runs. -/
theorem State.running_opens {ks : Keys} (hv : v < s.host.vfs.length) :
    ((s.opens v e ks r).vf v).running = some e :=
  (congrArg Vf.running (State.vf_updVf_same (u := { s with keys := ks, rounds := s.rounds ++ [r], draws := s.draws + 1 })
    hv fun x => { x with running := some e }) :)

/-- An accepted opening binds its values, draws its salt and reserves its slots (R315; log 43). -/
theorem roundOpen_accepts (hc : s.Commands v 0x03 e rest) (h : s.roundOpenChecks (vfCtx v) e = .ok (im, j, pol)) :
    ∃ t r, exec (.roundOpen v) s = .next t ∧ t.rounds = s.rounds ++ [r] ∧ t.opening? (vfCtx v) j = some r ∧
      r.number = leAt e 12 4 ∧ r.kmin = pol.kmin ∧ r.noiseRequired = policyNoise pol.object ∧
      r.policyDigest = pol.digest ∧ r.planDigest = (s.plan (vfCtx v)).digest ∧ r.saltR = (s.draw 32).1 ∧
      r.acceptedBeat = s.hal.beatCount ∧ r.slots.length = (if (im.template j).isRing then 4 else 2) ∧
      (t.vf v).running = some e ∧ t.draws = s.draws + 1 ∧
      t = { s with set := t.set, setA := t.setA, setB := t.setB, slotB := t.slotB, recorder := t.recorder,
                   keys := t.keys, journal := t.journal, mgmt := t.mgmt, host := t.host, rounds := t.rounds,
                   draws := t.draws } := by
  obtain ⟨key, slots, ks, body, hslots, hexec⟩ := exec_roundOpen_of_ok hc h
  generalize hr : im.newRound (vfCtx v) j (leAt e 12 4) key s.hal.beatCount (s.plan (vfCtx v)).digest pol
    (s.draw 32).1 slots = r at hexec
  generalize ht : State.journal1 _ 3 (some (vfCtx v)) body = t at hexec
  have hoff := ((s.taken v rest).opens v e ks r).offJournal_journal1 3 (some (vfCtx v)) body
  rw [ht] at hoff
  have hrounds : t.rounds = s.rounds ++ [r] := (congrArg State.rounds hoff :)
  have hdraws : t.draws = s.draws + 1 := (congrArg State.draws hoff :)
  have hhost : t.host = ((s.taken v rest).opens v e ks r).host := (congrArg State.host hoff :)
  have hopening : t.opening? (vfCtx v) j = some r :=
    State.opening?_append hrounds (State.opening?_of_checks h) (by simp [← hr, PlanImage.newRound])
  have hrunning : (t.vf v).running = some e := by
    have hv : v < (s.taken v rest).host.vfs.length := by simpa [State.taken, State.updVf, updAt] using hc.1
    have hvf : t.vf v = ((s.taken v rest).opens v e ks r).vf v := by rw [State.vf, hhost, State.vf]
    rw [hvf, State.running_opens hv]
  have hframe : t.offCommand =
      { s with keys := ks, rounds := s.rounds ++ [r], draws := s.draws + 1 }.offCommand :=
    (congrArg State.offCommand hoff :)
  refine ⟨t, r, hexec, hrounds, hopening, ?_, ?_, ?_, ?_, ?_, ?_, ?_, ?_, hrunning, hdraws,
    State.eq_of_offCommand_opens hframe⟩
  all_goals subst hr
  case refine_8 => exact hslots
  all_goals rfl

theorem State.find_opening (hr : s.opening? c j = some r) : r.ctx = c ∧ r.template = j := by
  have hfind := List.find?_some (p := fun r : Round => r.ctx == c && r.template == j && r.state == .opening) hr
  simp only [Bool.and_eq_true, beq_iff_eq] at hfind
  exact hfind.1

/-- The plan slot of a context after its cohort's round has begun. -/
theorem State.lastRound_beginsRound (hc : c < s.plans.length) :
    assocGet ((s.beginsRound c j r).plan c).lastRound j = some r.number := by
  have hplan : (s.beginsRound c j r).plan c =
      { s.plan c with lastRound := assocSet (s.plan c).lastRound j r.number } := by
    simp [State.plan, State.beginsRound, State.updPlan, updAt, List.getD_eq_getElem?_getD, hc]
  rw [hplan]
  simp [assocGet, assocSet]

/-- At its boundary the accepted round becomes OPEN, its keys drawn (R36, R146, R162, R226, R315). -/
theorem roundOpenEffect_opens (hr : s.opening? c j = some r) (him : s.image c = some im) (hwin : s.atWindow = true)
    (hhold : s.lead.hold = none) (hbeat : r.acceptedBeat < s.hal.beatCount)
    (hdeliver : (s.round? c j).any Round.delivering = false) :
    ∃ t q, exec (.roundOpenEffect c j) s = .next t ∧ t.round? c j = some q ∧ t.opening? c j = none ∧
      q = { r with state := .open, openBeat := s.hal.beatCount
                   roundKey := s.roundPrivate c r.cohortId r.number r.saltR
                   nextSeq := ((s.round? c j).map Round.nextSeq).getD r.nextSeq } ∧
      (let h := s.lead.holder.getD 0
       ∀ k ∈ t.keys.slots, k.hoist = h →
         (r.slotOn h 0 = some k.slot → r.slotOn h 1 ≠ some k.slot → k.value = (s.draw 32).1 ∧ k.attr.getLsbD 0 = true) ∧
         ((im.template j).isRing = true → r.slotOn h 1 = some k.slot →
           k.value = ((s.draw 32).2.draw 32).1 ∧ k.attr.getLsbD 0 = true)) ∧
      (c < s.plans.length → (assocGet (t.plan c).lastRound j) = some r.number) ∧
      t = { s with set := t.set, setA := t.setA, setB := t.setB, slotB := t.slotB, recorder := t.recorder, keys := t.keys,
                   journal := t.journal, mgmt := t.mgmt, host := t.host, plans := t.plans, rounds := t.rounds,
                   draws := t.draws } := by
  have hexec := exec_roundOpenEffect hr him hwin hhold hbeat
  rw [hdeliver, if_neg Bool.false_ne_true] at hexec
  obtain ⟨hctx, htemplate⟩ := State.find_opening hr
  unfold State.openRound at hexec
  dsimp only at hexec
  have hkeys (k : KeySlot) (hk : k ∈ (s.drawRoundKeys r (im.template j).isRing).keys.slots)
      (hh : k.hoist = s.lead.holder.getD 0) := And.intro
    (s.value_of_storeSlot r hk hh)
    (fun hring : (im.template j).isRing = true => s.value_of_exportSlot r (hring ▸ hk) hh)
  have hoff := s.offDraw_drawRoundKeys r (im.template j).isRing
  have hfuses := s.drawRoundKeys_fuses r (im.template j).isRing
  generalize s.drawRoundKeys r (im.template j).isRing = u at hexec hkeys hoff hfuses
  have hhal : u.hal = s.hal := (congrArg State.hal hoff :)
  have hrounds : u.rounds = s.rounds := (congrArg State.rounds hoff :)
  have hplans : u.plans = s.plans := (congrArg State.plans hoff :)
  have hatt : u.att = s.att := (congrArg State.att hoff :)
  rw [hhal, State.round?_congr hrounds, State.roundPrivate_congr hfuses hatt] at hexec
  generalize hq : r.opened s.hal.beatCount _ _ = q at hexec
  have hdone := (u.beginsRound c j q).offHost_completeRunning ((u.beginsRound c j q).vfOf c) 0x03 0 s.hal.beatCount 0
  generalize State.completeRunning _ _ _ _ _ _ = t at hexec hdone
  have htrounds : t.rounds = (u.beginsRound c j q).rounds := (congrArg State.rounds hdone :)
  have htplan : t.plan c = (u.beginsRound c j q).plan c := (congrArg (fun v : State => v.plan c) hdone :)
  have htkeys : t.keys = u.keys := (congrArg State.keys hdone :)
  obtain ⟨hround, hopening⟩ := State.round?_beginsRound (s := u) (c := c) (j := j) (r := q)
    (by rw [← hq]; exact hctx) (by rw [← hq]; exact htemplate) (by rw [← hq]; exact RoundState.noConfusion)
  have hframe : t.offOpening = s.offOpening :=
    ((congrArg State.offOpening hdone :) : t.offOpening = u.offOpening).trans (congrArg State.offOpening hoff :)
  refine ⟨t, q, hexec, ?_, ?_, hq.symm, ?_, ?_, State.eq_of_offOpening hframe⟩
  · rw [State.round?_congr htrounds, hround]
  · rw [State.opening?_congr htrounds, hopening]
  · rw [htkeys]
    exact hkeys
  · intro hlt
    rw [htplan, State.lastRound_beginsRound (hplans ▸ hlt), ← hq]
    rfl

/-- What a delivery leaves alone. -/
def State.offRelease (s : State) : State := { s.offCommand with keys := .reset, ctxs := [], rounds := [], grixo := .reset }

theorem State.offRelease_releaseData (s : State) (c h base : Nat) (r : Round) (x : Bytes) :
    ((s.releaseData c h base r x).countRelease c h).offRelease = s.offRelease := by
  unfold State.releaseData State.countRelease State.freeSlots State.updRound
  rfl

theorem State.offRelease_count (s : State) (f : Counters → Counters) : (s.count c f).offRelease = s.offRelease := rfl

theorem State.offRelease_of_offCommand (h : t.offCommand = s.offCommand) : t.offRelease = s.offRelease :=
  (congrArg State.offRelease h :)

theorem State.offRelease_deliver {q : Round} (hq : s.round? c j = some q) (him : s.image c = some im) :
    (s.deliver c j).offRelease = s.offRelease := by
  rw [State.offRelease_of_offCommand (State.offCommand_deliver hq him), State.offRelease_count,
    State.offRelease_releaseData]

/-- A delivery leaves the beat, the lead and the plans. -/
theorem State.deliver_keeps {q : Round} (hq : s.round? c j = some q) (him : s.image c = some im) :
    (s.deliver c j).hal = s.hal ∧ (s.deliver c j).lead = s.lead ∧ (s.deliver c j).plans = s.plans := by
  have hoff := State.offRelease_deliver hq him
  exact ⟨(congrArg State.hal hoff :), (congrArg State.lead hoff :), (congrArg State.plans hoff :)⟩

/-- A delivery that still runs ends first (R254; log 20). -/
theorem roundOpenEffect_deliver (hr : s.opening? c j = some r) (him : s.image c = some im) (hwin : s.atWindow = true)
    (hhold : s.lead.hold = none) (hbeat : r.acceptedBeat < s.hal.beatCount)
    (hdeliver : (s.round? c j).any Round.delivering = true) :
    exec (.roundOpenEffect c j) s = exec (.roundOpenEffect c j) (s.deliver c j) := by
  obtain ⟨q, hq, -⟩ := (Option.any_eq_true ..).mp hdeliver
  obtain ⟨hhal, hlead, hplans⟩ := State.deliver_keeps hq him
  have hwin' : (s.deliver c j).atWindow = true := by
    rw [State.atWindow, hhal]
    exact hwin
  have him' : (s.deliver c j).image c = some im := by
    rw [State.image, State.plan, hplans]
    exact him
  have hround := State.round?_deliver hq him
  rw [exec_roundOpenEffect hr him hwin hhold hbeat, exec_roundOpenEffect
    ((State.opening?_deliver hq him).trans hr) him' hwin' (hlead ▸ hhold) (hhal ▸ hbeat), if_pos hdeliver, hround]
  rfl

end

end Sys2Proof.Machine
end

section
/-!
Rounds pass their states (R36 to R63, R149, R165, R166, R179, R213, R251 to R256): the close, the freeze, the entry to
UNMASKING, FINISHED, abandonment, release and delivery.
-/
namespace Sys2Proof.Machine

section
variable {s t : State} {v c j : Nat} {e : Bytes} {rest : List Bytes} {im : PlanImage} {r : Round}

theorem State.round?_of_offCommand (h : t.offCommand = s.offCommand) : t.round? c j = s.round? c j :=
  (congrArg (fun u : State => u.round? c j) h :)

/-- ROUND_CLOSE is accepted once (R41, R315). -/
theorem roundClose_accepts (hc : s.Commands v 0x04 e rest) (hj : s.cohortOf (vfCtx v) (leAt e 8 4) = some j)
    (hn : s.namedRound (vfCtx v) j (leAt e 12 4) = .ok r) (hopen : r.state = .open) :
    ∃ t, exec (.roundClose v) s = .next t ∧ t.round? (vfCtx v) j = some { r with
        closeAccepted := true, closeBeat := if r.closeAccepted then r.closeBeat else (s.window + 1) * 256 } ∧
      t = { s with set := t.set, setA := t.setA, setB := t.setB, slotB := t.slotB, recorder := t.recorder,
                   journal := t.journal, mgmt := t.mgmt, host := t.host, rounds := t.rounds } := by
  obtain ⟨body, r0, hexec⟩ := exec_roundClose hc hj hn hopen
  have hround := State.round?_updRound_of_some (s := s.taken v rest) (f := fun r => r.closeDue ((s.window + 1) * 256))
    (fun r => ⟨rfl, rfl, rfl⟩) (State.round?_of_namedRound hn)
  generalize hu : (s.taken v rest).updRound (vfCtx v) j (fun r => r.closeDue ((s.window + 1) * 256)) = u
    at hexec hround
  have hoff := (State.offCommand_leaderDone (u.journal1 4 (some (vfCtx v)) body) v e 0 r0 0).trans
    (State.offCommand_journal1 ..)
  generalize State.leaderDone _ v e 0 r0 0 = t at hexec hoff
  refine ⟨t, hexec, ?_, State.eq_of_offCommand_rounds (rs := u.rounds) (hoff.trans ?_)⟩
  · rw [State.round?_of_offCommand hoff, hround]
    rfl
  · rw [← hu]
    rfl

/-- The close takes effect at a window boundary, by command or at the end of the longest duration (R41, R125, R149). -/
theorem round_closes (hr : s.round? c j = some r) (him : s.image c = some im) (hopen : r.state = .open)
    (hwin : s.atWindow = true) (hhold : s.lead.hold = none) :
    ∀ x ∈ [(Instr.roundCloseEffect c j, r.closeAccepted = true ∧ r.closeBeat ≤ s.hal.beatCount),
           (.roundDurationLimit c j, (im.template j).wR ≤ r.openWindows)], x.2 →
      ∃ t q, exec x.1 s = .next t ∧ t.round? c j = some q ∧ q = r.closed s.hal.beatCount ∧ q.state = .closed ∧
        q.sets = r.sets ∧ q.intake.ledger = r.intake.ledger ∧ q.intake.waiting = [] ∧
        (∀ o ∈ q.owners, (o.active = [] ∨ o.busy = true) ∧ o.read = o.write) ∧
        t = { s with set := t.set, setA := t.setA, setB := t.setB, slotB := t.slotB, recorder := t.recorder,
                     journal := t.journal, mgmt := t.mgmt, ctxs := t.ctxs, rounds := t.rounds, grixo := t.grixo } := by
  intro x hx hdue
  have hexec : exec x.1 s = .next (s.closeRound c j) := by
    simp only [List.mem_cons, List.not_mem_nil, or_false] at hx
    rcases hx with rfl | rfl
    · exact exec_roundCloseEffect hr hopen hwin hhold hdue.1 hdue.2
    · exact exec_roundDurationLimit hr him hopen hwin hhold hdue
  exact ⟨_, _, hexec, State.round?_closeRound hr him, rfl, rfl, rfl, rfl, rfl,
    fun o ho => Round.owners_closed s.hal.beatCount ho, State.eq_of_offBoundary_eq (State.offBoundary_closeRound hr him)⟩

/-- A ring round exports a block when a set of its stands below K_min (R231). -/
theorem Round.exportBlock_freezeRing (r : Round) (t : Template) :
    (r.freezeRing t).ring.exportBlock = true ↔ ∃ k, k < t.sets ∧ (r.set k).count < r.kmin := by
  simp [Round.freezeRing]

/-- Rounds and records change after the journal, rounds before it. -/
theorem State.offJournal_of_offRecords {u : State} {rs : List Round} (h : t.offRecords = u.offRecords)
    (hu : u.offJournal = { s with rounds := rs }.offJournal) :
    t.offJournal = { s with rounds := t.rounds }.offJournal := by
  have ht := (congrArg (fun v : State => { v.offJournal with rounds := t.rounds }) h :)
  have hs := (congrArg (fun v : State => { v with rounds := t.rounds }) hu :)
  exact ht.trans hs

/-- A CLOSED round freezes: sums and ledger stay, and its mode's lists are derived (R47, R149, R165, R213, R229). -/
theorem round_freezes (hr : s.round? c j = some r) (him : s.image c = some im) (hclosed : r.state = .closed)
    (hfrozen : r.frozen = false) (hcommit : ∀ o ∈ r.owners, o.commit.state ≠ 1) :
    ∃ t q, exec (.freeze c j) s = .next t ∧ t.round? c j = some q ∧ q.frozen = true ∧ q.frozenBeat = s.hal.beatCount ∧
      q.state = .closed ∧ q.intake = r.intake ∧ q.owners = r.owners ∧
      (∀ k, (q.set k).copy = (r.set k).copy ∧ (q.set k).count = (r.set k).count) ∧
      ((im.template j).isLeaf = false → (im.template j).isPair = true →
        q.mask.secrets = r.secretRecords (im.template j) ∧ q.mask.requestPublished = true) ∧
      ((im.template j).isLeaf = false → (im.template j).isPair = false → (im.template j).isSum = false →
        q.ring.tiles = (List.range (im.template j).sets).map (fun k => ⟨r.aggHeader (im.template j) k, none, [], 0, []⟩) ∧
        (q.ring.exportBlock = true ↔ ∃ k, k < (im.template j).sets ∧ (r.set k).count < r.kmin)) ∧
      t = { s with set := t.set, setA := t.setA, setB := t.setB, slotB := t.slotB, recorder := t.recorder,
                   journal := t.journal, mgmt := t.mgmt, rounds := t.rounds } := by
  obtain ⟨body, hexec⟩ := exec_freeze hr him hclosed hfrozen hcommit
  generalize hf : (fun r : Round => { r with frozen := true, frozenBeat := s.hal.beatCount }) = f at hexec
  have hround : ((s.updRound c j f).journal1 5 (some c) body).round? c j = some (f r) := by
    rw [State.round?_congr (State.journal1_rounds ..)]
    exact State.round?_updRound_of_some (fun r => by rw [← hf]; exact ⟨rfl, rfl, rfl⟩) hr
  have hoff : ((s.updRound c j f).journal1 5 (some c) body).offJournal = (s.updRound c j f).offJournal :=
    State.offJournal_journal1 ..
  obtain ⟨hframe, q, hq, hfreezes⟩ := State.became_freezeLists (im := im) hround
  generalize State.freezeLists _ c j im = t at hexec hframe hq
  have hsame : (f r).frozen = true ∧ (f r).frozenBeat = s.hal.beatCount ∧ (f r).state = r.state ∧
      (f r).intake = r.intake ∧ (f r).owners = r.owners := by
    rw [← hf]
    exact ⟨rfl, rfl, rfl, rfl, rfl⟩
  obtain ⟨hfrozen', hbeat', hstate', hintake', howners'⟩ := hsame
  have hkeep := congrArg (fun v : Round => (v.frozen, v.frozenBeat, v.state, v.intake, v.owners)) hfreezes.frame
  simp only [Prod.mk.injEq] at hkeep
  obtain ⟨hqfrozen, hqbeat, hqstate, hqintake, hqowners⟩ := hkeep
  refine ⟨t, q, hexec, hq, hqfrozen.trans hfrozen', hqbeat.trans hbeat', hqstate.trans (hstate'.trans hclosed),
    hqintake.trans hintake', hqowners.trans howners', fun k => ?_, fun hleaf hpair => ?_, fun hleaf hpair hsum => ?_, ?_⟩
  · have hsums := hfreezes.sums k
    have hset : (f r).set k = r.set k := by rw [← hf]; rfl
    rw [hset] at hsums
    exact ⟨(congrArg TileSet.copy hsums :), (congrArg TileSet.count hsums :)⟩
  · obtain ⟨hsecrets, hpublished⟩ := hfreezes.pair hleaf hpair
    refine ⟨?_, hpublished⟩
    rw [hsecrets, ← hf]
    rfl
  · rw [hfreezes.ring hleaf hpair hsum, ← hf]
    exact ⟨rfl, (r.exportBlock_freezeRing (im.template j) :)⟩
  · exact State.eq_of_offJournal_rounds (rs := t.rounds)
      (State.offJournal_of_offRecords hframe (rs := (s.updRound c j f).rounds) hoff)

/-- A frozen CLOSED round enters UNMASKING at a boundary: what waits goes, and in pairwise mode its secrets are settled
(R43, R165, R166). -/
theorem round_enters_unmasking (hr : s.round? c j = some r) (him : s.image c = some im) (hclosed : r.state = .closed)
    (hfrozen : r.frozen = true) (hbeat : r.frozenBeat < s.hal.beatCount) (hwin : s.atWindow = true)
    (hhold : s.lead.hold = none) :
    ∀ x ∈ [(Instr.secretPeriodEnd c j, (im.template j).wS ≤ r.closedWindows),
           (.unmaskingEntry c j, (im.template j).wS ≤ r.closedWindows ∨ r.earlyUnmasking im j = true)], x.2 →
      ∃ t q, exec x.1 s = .next t ∧ t.round? c j = some q ∧ q.state = .unmasking ∧ q.intake.waiting = [] ∧
        q.intake.secretQueue = [] ∧ q.intake.ledger = r.intake.ledger ∧ q.owners = r.owners ∧
        ((im.template j).isLeaf = false → (im.template j).isPair = true →
          ∀ y ∈ q.mask.secrets, y.stateSelf ≠ 1 ∧ y.stateKey ≠ 1) ∧
        t = { s with set := t.set, setA := t.setA, setB := t.setB, slotB := t.slotB, recorder := t.recorder,
                     journal := t.journal, mgmt := t.mgmt, ctxs := t.ctxs, rounds := t.rounds, grixo := t.grixo } := by
  intro x hx hdue
  have hexec : exec x.1 s = .next (s.enterUnmasking c j) := by
    simp only [List.mem_cons, List.not_mem_nil, or_false] at hx
    rcases hx with rfl | rfl
    · exact exec_secretPeriodEnd hr him hclosed hfrozen hbeat hwin hhold hdue
    · exact exec_unmaskingEntry hr him hclosed hfrozen hbeat hwin hhold hdue
  obtain ⟨hoff, q, hq, henters⟩ := State.enterUnmasking_became hr him
  exact ⟨_, q, hexec, hq, henters.state, henters.waiting, henters.secretQueue, henters.ledger, henters.owners,
    henters.settled, State.eq_of_offBoundary_eq hoff⟩

/-- The builder starts the removal lists that are due, and changes nothing else of the round (R179, R187). -/
theorem removalLists_build (hr : s.round? c j = some r) (him : s.image c = some im) (hst : r.state = .unmasking)
    (hleaf : (im.template j).isLeaf = false)
    (hmode : (im.template j).isPair = true ∨ (im.template j).isSum = true) :
    ∃ t q, exec (.removalListBuild c j) s = .next t ∧ t.round? c j = some q ∧ q = { r with mask := q.mask } ∧
      ((im.template j).isPair = true → s.atWindow = true →
        (∀ y ∈ r.mask.secrets, y.stateSelf ≠ 1 ∧ y.stateSelf ≠ 2) → ∀ p ∈ im.unmaskers j, r.list? p .self = none →
        q.list? p .self = some ⟨p, .self, r.selfItems im j p, 0, true⟩) ∧
      ((im.template j).isPair = true → s.atWindow = true →
        (∀ y ∈ r.mask.secrets, y.stateKey ≠ 1 ∧ y.stateKey ≠ 2) → r.mask.recompute = [] →
        ∀ p ∈ im.unmaskers j, r.list? p .pair = none → q.list? p .pair = some ⟨p, .pair, r.pairItems im j p, 0, true⟩) ∧
      ((im.template j).isPair = false → ∀ p ∈ im.unmaskers j, r.list? p .lwr = none → r.hasItem p .seedAcc = false →
        q.list? p .lwr = some ⟨p, .lwr, r.lwrItems im j p, 0, true⟩) ∧
      t = { s with rounds := t.rounds } := by
  by_cases hpair : (im.template j).isPair = true
  · have hexec := exec_removalListBuild_pair hr him hst hleaf hpair
    generalize hself : (_ && (s.atWindow || r.mask.selfStarted)) = selfOk at hexec
    generalize hkey : (_ && (s.atWindow || r.mask.pairStarted)) = pairOk at hexec
    refine ⟨_, _, hexec, State.round?_updRound_of_some (fun q => ?_) hr, r.pairwiseLists_frame ..,
      fun _ hwin hsettled p hp hnone => ?_, fun _ hwin hsettled hrecompute p hp hnone => ?_,
      fun hno => absurd hpair (hno ▸ Bool.false_ne_true), rfl⟩
    · rw [q.pairwiseLists_frame]
      exact ⟨rfl, rfl, rfl⟩
    · have hok : selfOk = true := by
        rw [← hself, hwin]
        simpa using hsettled
      rw [hok]
      exact Round.list?_self_pairwiseLists hp hnone pairOk
    · have hok : pairOk = true := by
        rw [← hkey, hwin, hrecompute]
        simpa using hsettled
      rw [hok]
      exact Round.list?_pair_pairwiseLists hp hnone selfOk
  · have hexec := exec_removalListBuild_sum hr him hst hleaf (Bool.eq_false_of_not_eq_true hpair)
      (hmode.resolve_left hpair)
    refine ⟨_, _, hexec, State.round?_updRound_of_some (fun q => ?_) hr, ?_, fun h => absurd h hpair,
      fun h => absurd h hpair, fun _ p hp hnone hseed => ?_, rfl⟩
    · exact Round.Same.of_offLists (Round.offLists_buildLists ..)
    · exact Round.withMask_congr (Round.offLists_buildLists ..) _
    · exact Round.list?_buildLists (items := fun r x => r.lwrItems im j x)
        (fun u v huv => (congrArg (fun w : Round => w.lwrItems im j p) huv :)) hp (by rw [hseed]; rfl) hnone

/-- The finish phase begins, and ends with FINISHED (R251). -/
theorem round_finishes (hr : s.round? c j = some r) (him : s.image c = some im) (hst : r.state = .unmasking)
    (hwin : s.atWindow = true) (hhold : s.lead.hold = none) :
    (r.finishPhase = false → (im.template j).isLeaf = false → r.finishReady (im.template j) = true →
      ∃ t, exec (.finishPhaseBegin c j) s = .next t ∧ t.round? c j = some { r with finishPhase := true } ∧
        t = { s with set := t.set, setA := t.setA, setB := t.setB, slotB := t.slotB, recorder := t.recorder,
                     journal := t.journal, mgmt := t.mgmt, rounds := t.rounds }) ∧
    (r.finishPhase = true → (∀ f ∈ r.finishRecs, f.state ≠ 0) →
      ∃ t, exec (.roundFinished c j) s = .next t ∧ t.round? c j = some { r with state := .finished } ∧
        t = { s with set := t.set, setA := t.setA, setB := t.setB, slotB := t.slotB, recorder := t.recorder,
                     journal := t.journal, mgmt := t.mgmt, rounds := t.rounds }) := by
  constructor
  · intro hphase hleaf hready
    obtain ⟨body, hexec⟩ := exec_finishPhaseBegin hr him hst hwin hhold hphase hleaf hready
    refine ⟨_, hexec, ?_, State.eq_of_offJournal_rounds (State.offJournal_journal1 ..)⟩
    rw [State.round?_congr (State.journal1_rounds ..)]
    exact State.round?_updRound_of_some (fun _ => ⟨rfl, rfl, rfl⟩) hr
  · intro hphase hrecs
    obtain ⟨body, hexec⟩ := exec_roundFinished hr hst hwin hhold hphase hrecs
    refine ⟨_, hexec, ?_, State.eq_of_offJournal_rounds (State.offJournal_journal1 ..)⟩
    rw [State.round?_congr (State.journal1_rounds ..)]
    exact State.round?_updRound_of_state (st := .finished) RoundState.noConfusion (fun _ => ⟨rfl, rfl, rfl⟩) hr

/-! Abandonment (R44, R162). -/

/-- A state that agrees with another outside of its key slots, clusters, rounds, virtual functions, the journal, and what
records touch, written as an update of it. -/
theorem State.eq_of_offCommand_abandoned {l : List KeySlot} {cs : List Cluster} {rs : List Round}
    (h : t.offCommand = { s with keys := { s.keys with slots := l }, clusters := cs, rounds := rs }.offCommand) :
    t.keys.slots = l ∧ t.clusters = cs ∧ t.rounds = rs ∧
      t = { s with set := t.set, setA := t.setA, setB := t.setB, slotB := t.slotB, recorder := t.recorder,
                   keys := { s.keys with slots := t.keys.slots }, journal := t.journal, mgmt := t.mgmt, host := t.host
                   clusters := t.clusters, rounds := t.rounds } :=
  ⟨(congrArg (fun x : State => x.keys.slots) h :), (congrArg State.clusters h :), (congrArg State.rounds h :),
    congrArg (fun x : State =>
      { x with set := t.set, setA := t.setA, setB := t.setB, slotB := t.slotB, recorder := t.recorder,
               keys := { x.keys with slots := t.keys.slots }, journal := t.journal, mgmt := t.mgmt, host := t.host
               clusters := t.clusters, rounds := t.rounds }) h⟩

/-- An abandonment beside its records (R44). -/
theorem State.offCommand_abandonRound (hr : s.round? c j = some r) (cause : Nat) :
    (s.abandonRound c j cause).offCommand =
      { s with keys := { s.keys with slots := s.keys.slots.filter fun k => !(r.slots.contains (k.hoist, k.slot)) }
               clusters := s.clusters.map fun x : Cluster => x.forget c j
               rounds := (s.updRound c j fun r => r.zeroed .abandoned).rounds }.offCommand := by
  unfold State.abandonRound
  simp only [hr]
  rw [State.offCommand_record, State.offCommand_journal1]
  rfl

/-- A live round is abandoned: its sums and secrets go, its key slots are freed, and clusters drop what they hold of it
(R44, R256). -/
theorem roundAbandon_abandons (hc : s.Commands v 0x05 e rest) (hj : s.cohortOf (vfCtx v) (leAt e 8 4) = some j)
    (hn : s.namedRound (vfCtx v) j (leAt e 12 4) = .ok r) (hlive : r.state.live = true) :
    ∃ t, exec (.roundAbandon v) s = .next t ∧ t.round? (vfCtx v) j = some (r.zeroed .abandoned) ∧
      t.keys.slots = s.keys.slots.filter (fun k => !(r.slots.contains (k.hoist, k.slot))) ∧
      t.clusters = s.clusters.map (fun x => x.forget (vfCtx v) j) ∧
      t = { s with set := t.set, setA := t.setA, setB := t.setB, slotB := t.slotB, recorder := t.recorder,
                   keys := { s.keys with slots := t.keys.slots }, journal := t.journal, mgmt := t.mgmt, host := t.host
                   clusters := t.clusters, rounds := t.rounds } := by
  have hexec := exec_roundAbandon hc hj hn hlive
  have hr := State.round?_of_namedRound hn
  have hoff := (State.offCommand_leaderDone ((s.taken v rest).abandonRound (vfCtx v) j 1) v e 0 0 0).trans
    (State.offCommand_abandonRound (s := s.taken v rest) hr 1)
  generalize State.leaderDone _ v e 0 0 0 = t at hexec hoff
  obtain ⟨hslots, hclusters, hrounds, hframe⟩ := State.eq_of_offCommand_abandoned hoff
  refine ⟨t, hexec, ?_, hslots, hclusters, hframe⟩
  rw [State.round?_congr hrounds]
  exact State.round?_updRound_of_state (s := s) (st := .abandoned) RoundState.noConfusion (fun _ => ⟨rfl, rfl, rfl⟩) hr

/-! Release and delivery (R63, R253 to R255). -/

/-- A round that the gate lets pass has met it and begins its delivery; one that it does not is not released (R63). -/
theorem release_passes_gate (hc : s.Commands v 0x06 e rest) (hhold : s.lead.hold = none)
    (haway : s.leaderAway v = false) (hj : s.cohortOf (vfCtx v) (leAt e 8 4) = some j)
    (him : s.image (vfCtx v) = some im) (hleaf : (im.template j).isLeaf = false)
    (hn : s.namedRound (vfCtx v) j (leAt e 12 4) = .ok r) :
    (s.releaseGate (vfCtx v) (im.template j) r = (0, 0) →
      r.state = .finished ∧ (∀ x ∈ r.sets, x.commits ≠ 0 ∧ r.kmin ≤ x.count) ∧
      (∀ f ∈ r.finishRecs, f.state ≠ 2 ∧ f.state ≠ 3 ∧ f.state ≠ 4 ∧ (r.noiseRequired = true → f.noise = true)) ∧
      ∃ t, exec (.release v) s = .next t ∧ t.round? (vfCtx v) j = some { r with
          state := .released, releaseBeat := s.hal.beatCount, delivering := true, releaseCmd := some v } ∧
        (t.vf v).running = some e ∧
        t = { s with set := t.set, setA := t.setA, setB := t.setB, slotB := t.slotB, recorder := t.recorder,
                     journal := t.journal, mgmt := t.mgmt, host := t.host, rounds := t.rounds }) ∧
    ((s.releaseGate (vfCtx v) (im.template j) r).1 ≠ 0 →
      exec (.release v) s = .next ((s.taken v rest).leaderDone v e (s.releaseGate (vfCtx v) (im.template j) r).1
        (s.releaseGate (vfCtx v) (im.template j) r).2 0)) := by
  obtain ⟨body, hexec⟩ := exec_release hc hhold haway hj him hleaf hn
  refine ⟨fun hgate => ?_, fun hgate => by rw [hexec, if_pos hgate]⟩
  obtain ⟨hfinished, hsets, houtputs⟩ := State.releasable_of_gate hgate
  rw [hgate, if_neg (not_not_intro rfl)] at hexec
  have hround := State.round?_updRound_of_state (s := s.taken v rest) (f := fun r => r.releasing s.hal.beatCount v)
    (st := .released) RoundState.noConfusion (fun _ => ⟨rfl, rfl, rfl⟩) (State.round?_of_namedRound hn)
  generalize hu : (s.taken v rest).updRound (vfCtx v) j (fun r => r.releasing s.hal.beatCount v) = u at hexec hround
  have hv : v < (u.journal1 7 (some (vfCtx v)) body).host.vfs.length := by
    rw [State.journal1_host, ← hu]
    simpa [State.updRound, State.taken, State.updVf, updAt] using hc.1
  refine ⟨hfinished, hsets, houtputs, _, hexec, ?_, congrArg Vf.running (State.vf_updVf_same hv _),
    State.eq_of_offCommand_rounds (rs := u.rounds) ?_⟩
  · exact (State.round?_congr (State.journal1_rounds ..)).trans hround
  · have hoff := u.offCommand_journal1 7 (some (vfCtx v)) body
    have hs : u.offCommand = { s with rounds := u.rounds }.offCommand := by
      rw [← hu]
      rfl
    exact ((congrArg (fun w : State => w.offCommand) hoff :)).trans hs

/-- A state that agrees with another outside of its key slots, contexts, rounds, releases, virtual functions, the journal,
and what records touch, written as an update of it. -/
theorem State.eq_of_offCommand_delivered {l : List KeySlot} {cs : List Ctx} {rs : List Round}
    {n : List ((Nat × Nat) × Nat)}
    (h : t.offCommand = { s with keys := { s.keys with slots := l }, ctxs := cs, rounds := rs
                                 grixo := { s.grixo with releases := n } }.offCommand) :
    t.keys.slots = l ∧ t.ctxs = cs ∧
      t = { s with set := t.set, setA := t.setA, setB := t.setB, slotB := t.slotB, recorder := t.recorder,
                   keys := { s.keys with slots := t.keys.slots }, journal := t.journal, mgmt := t.mgmt, host := t.host
                   ctxs := t.ctxs, rounds := t.rounds, grixo := { s.grixo with releases := t.grixo.releases } } :=
  ⟨(congrArg (fun x : State => x.keys.slots) h :), (congrArg State.ctxs h :),
    congrArg (fun x : State =>
      { x with set := t.set, setA := t.setA, setB := t.setB, slotB := t.slotB, recorder := t.recorder,
               keys := { x.keys with slots := t.keys.slots }, journal := t.journal, mgmt := t.mgmt, host := t.host
               ctxs := t.ctxs, rounds := t.rounds, grixo := { x.grixo with releases := t.grixo.releases } }) h⟩

/-- What a delivery does to the state, beside its records. -/
structure State.Delivered (s : State) (c base : Nat) (r : Round) (x : Bytes) (t : State) : Prop where
  ctxs : ∃ f, t.ctxs = ((s.writeMem c base x).count c f).ctxs
  slots : t.keys.slots = s.keys.slots.filter fun k => !(r.slots.contains (k.hoist, k.slot))
  frame : t = { s with set := t.set, setA := t.setA, setB := t.setB, slotB := t.slotB, recorder := t.recorder,
                       keys := { s.keys with slots := t.keys.slots }, journal := t.journal, mgmt := t.mgmt
                       host := t.host, ctxs := t.ctxs, rounds := t.rounds
                       grixo := { s.grixo with releases := t.grixo.releases } }

theorem State.releaseData_eq (s : State) (c j base : Nat) (r : Round) (x : Bytes) (f : Counters → Counters) : ∃ n,
    ((s.releaseData c j base r x).countRelease c j).count c f =
      { s with keys := { s.keys with slots := s.keys.slots.filter fun k => !(r.slots.contains (k.hoist, k.slot)) }
               ctxs := ((s.writeMem c base x).count c f).ctxs
               rounds := (s.updRound c j Round.deliveredOut).rounds
               grixo := { s.grixo with releases := n } } := by
  unfold State.releaseData State.countRelease State.freeSlots State.updRound
  exact ⟨_, rfl⟩

theorem State.delivered_of_offCommand {base : Nat} {x : Bytes} {f : Counters → Counters}
    (h : t.offCommand = (((s.releaseData c j base r x).countRelease c j).count c f).offCommand) :
    s.Delivered c base r x t := by
  obtain ⟨n, heq⟩ := s.releaseData_eq c j base r x f
  rw [heq] at h
  obtain ⟨hslots, hctxs, hframe⟩ := State.eq_of_offCommand_delivered h
  exact ⟨⟨f, hctxs⟩, hslots, hframe⟩

theorem State.readMem_delivered {base a n : Nat} {x : Bytes} (h : s.Delivered c base r x t) :
    t.readMem c a n = (s.writeMem c base x).readMem c a n := by
  obtain ⟨f, hctxs⟩ := h.ctxs
  rw [State.readMem_congr hctxs, State.readMem_count]

theorem State.ctx_delivered {base d : Nat} {x : Bytes} (h : s.Delivered c base r x t) (hd : d ≠ c) :
    t.ctx d = s.ctx d := by
  obtain ⟨f, hctxs⟩ := h.ctxs
  have ht : t.ctx d = ((s.writeMem c base x).count c f).ctx d := by rw [State.ctx, hctxs, State.ctx]
  rw [ht, State.count, State.ctx_updCtx_ne hd, State.writeMem, State.ctx_updCtx_ne hd]

/-- A delivery writes the round's output image to the region of its outputs and nothing else of the memory, and leaves no
data of the round (R254, R255). -/
theorem delivery_completes {reg : Region} {spec : FinishSpec} (hr : s.round? c j = some r) (him : s.image c = some im)
    (hdelivering : r.delivering = true) (hhold : s.lead.hold = none) (hm : s.MemOk) (hc : c < s.ctxs.length)
    (hreg : (im.regionsOf 7 j).head? = some reg) (hspec : policySpec r.policyObject r.cohortId = some spec) :
    ∃ t, exec (.deliveryComplete c j) s = .next t ∧
      t.round? c j = some { r.zeroed .released with delivering := false, delivered := true } ∧
      (∀ n, n = (r.outputImage (im.template j) spec).length →
        t.readMem c reg.base n = r.outputImage (im.template j) spec) ∧
      (∀ a, a < reg.base ∨ reg.base + (r.outputImage (im.template j) spec).length ≤ a →
        t.readMem c a 1 = s.readMem c a 1) ∧ (∀ d, d ≠ c → t.ctx d = s.ctx d) ∧
      t.keys.slots = s.keys.slots.filter (fun k => !(r.slots.contains (k.hoist, k.slot))) ∧
      t = { s with set := t.set, setA := t.setA, setB := t.setB, slotB := t.slotB, recorder := t.recorder,
                   keys := { s.keys with slots := t.keys.slots }, journal := t.journal, mgmt := t.mgmt, host := t.host
                   ctxs := t.ctxs, rounds := t.rounds, grixo := { s.grixo with releases := t.grixo.releases } } := by
  have hexec : exec (.deliveryComplete c j) s = .next (s.deliver c j) := by
    change execDeliveryComplete c j s = _
    simp [execDeliveryComplete, hr, hdelivering, State.inHold, hhold]
  have hoff := State.offCommand_deliver hr him
  have hround := State.round?_deliver hr him
  rw [hreg, hspec] at hoff
  generalize s.deliver c j = t at hexec hoff hround
  rw [Option.map_some, Option.getD_some, Option.getD_some] at hoff
  generalize r.outputImage (im.template j) spec = x at hoff ⊢
  have hdel := State.delivered_of_offCommand hoff
  refine ⟨t, hexec, hround, fun n hn => ?_, fun a ha => ?_, fun d hd => State.ctx_delivered hdel hd, hdel.slots,
    hdel.frame⟩
  · rw [State.readMem_delivered hdel, hn, State.readMem_writeMem_same hc hm]
  · rw [State.readMem_delivered hdel, State.readMem_writeMem_outside hc hm ha]

end

/-- Settles O53: a round passes its states in order, each at its boundary, and the release gate stands between FINISHED and
the release. -/
theorem roundsPassTheirStates : Obligations.RoundsPassTheirStates :=
  ⟨fun _ _ _ _ _ _ _ hc => ⟨roundOpen_accepts hc, fun _ h => exec_roundOpen_of_error hc h⟩,
    fun _ _ _ _ _ => roundOpenEffect_opens,
    fun _ _ _ _ _ => roundOpenEffect_deliver,
    fun _ _ _ _ _ _ => roundClose_accepts,
    fun _ _ _ _ _ => round_closes,
    fun _ _ _ _ _ => round_freezes,
    fun _ _ _ _ _ => round_enters_unmasking,
    fun _ _ _ _ _ => removalLists_build,
    fun _ _ _ _ _ => round_finishes,
    fun _ _ _ _ _ _ => roundAbandon_abandons,
    fun _ _ _ _ _ _ _ => release_passes_gate,
    fun _ _ _ _ _ _ _ => delivery_completes⟩

end Sys2Proof.Machine
end

section
/-!
Items of a mask-removal opcode (R51, R172 to R180): the span that runs them, the items that it takes from its list, and what
one item does to its round.
-/
namespace Sys2Proof.Machine

/-! The span. -/

section
variable {s t : State} {k op p : Nat} {sp : RunningSpan}

/-- A cluster that carries an opcode runs its work on the state whose span is done (R93, R97). -/
theorem State.runSpan_of_carries (hc : s.Carries k op p sp) (f : State → Nat → RunningSpan → State) :
    s.runSpan k op f = f (s.spanDone k sp) p sp := by
  obtain ⟨-, -, hpos, hspan, hop, hdone, hdummy, hcost⟩ := hc
  simp [State.runSpan, State.spanDone, hspan, hpos, hop, hdone, hdummy, hcost]

/-- The clusters after a span has run its work. -/
theorem State.cluster_spanDone (hc : s.Carries k op p sp) :
    ((s.spanDone k sp).cluster k).span = some { sp with done := true } ∧
      ∀ i, i ≠ k → (s.spanDone k sp).cluster i = s.cluster i := by
  obtain ⟨hk, hlen, -⟩ := hc
  refine ⟨?_, fun i hi => State.cluster_updCluster_ne hi _⟩
  rw [State.spanDone, State.cluster_updCluster_same (hlen ▸ hk)]

/-- A state that agrees with another outside of its clusters and rounds and of what records touch, written as an update of
it. -/
theorem State.eq_of_offRecords_clusters {cs : List Cluster} (h : t.offRecords = { s with clusters := cs }.offRecords) :
    t = { s with set := t.set, setA := t.setA, setB := t.setB, slotB := t.slotB, recorder := t.recorder,
                 mgmt := t.mgmt, clusters := t.clusters, rounds := t.rounds } :=
  congrArg (fun v : State =>
    { v with set := t.set, setA := t.setA, setB := t.setB, slotB := t.slotB, recorder := t.recorder,
             mgmt := t.mgmt, clusters := t.clusters, rounds := t.rounds }) h

/-- Clusters that records leave as they were. -/
theorem State.cluster_of_offRecords (h : t.offRecords = s.offRecords) (i : Nat) : t.cluster i = s.cluster i :=
  (congrArg (fun v : State => v.cluster i) h :)

end

/-! The items taken. -/

section
variable {r q u : Round} {p n : Nat} {kind : ListKind} {l : WorkList}

/-- Taking items moves the cursors of lists and changes nothing else. -/
theorem Round.takeItems_frame (r : Round) (p : Nat) (kind : ListKind) (n : Nat) :
    ∃ ls, (r.takeItems p kind n).2 = { r with mask := { r.mask with lists := ls } } := by
  unfold Round.takeItems
  split
  · exact ⟨r.mask.lists, rfl⟩
  · exact ⟨_, rfl⟩

/-- The list after its items have been taken. -/
theorem Round.list?_takeItems (h : r.list? p kind = some l) (n : Nat) :
    (r.takeItems p kind n).2.list? p kind =
      some { l with consumed := l.consumed + min n (l.items.length - l.consumed) } := by
  have hfind : r.mask.lists.find? (fun x => x.position == p && x.kind == kind) = some l := h
  have hlen : ((l.items.drop l.consumed).take n).length = min n (l.items.length - l.consumed) := by
    rw [List.length_take, List.length_drop]
  unfold Round.takeItems
  simp only [h, hlen]
  have hupd := find?_updIf (p := fun x : WorkList => x.position == p && x.kind == kind)
    (f := fun x => { x with consumed := x.consumed + min n (l.items.length - l.consumed) }) (fun _ hx => hx) r.mask.lists
  rwa [hfind, Option.map_some] at hupd

end

/-! What removal work leaves alone. -/

/-- From `r` to `q` mask-removal work has been done at most: buffers and secrets change, and tiles become VOID. -/
structure Round.Removes (r q : Round) : Prop where
  frame : q = { r with sets := q.sets, owners := q.owners, mask := q.mask }
  lists : q.mask.lists = r.mask.lists
  kept : ∀ j, (q.set j).offUnmask = (r.set j).offUnmask
  settled : ∀ j, (r.set j).unmask = 1 ∨ (r.set j).unmask = 2 → (q.set j).unmask = (r.set j).unmask

section
variable {r q u : Round}

theorem Round.Removes.refl (r : Round) : r.Removes r := ⟨rfl, rfl, fun _ => rfl, fun _ _ => rfl⟩

theorem Round.Removes.trans (h : r.Removes q) (g : q.Removes u) : r.Removes u := by
  refine ⟨?_, g.lists.trans h.lists, fun j => (g.kept j).trans (h.kept j), fun j hj => ?_⟩
  · rw [g.frame, h.frame]
  · have hq := h.settled j hj
    rw [g.settled j (hq ▸ hj), hq]

theorem Round.Removes.same (h : r.Removes q) : r.Same q := by
  rw [h.frame]
  exact ⟨rfl, rfl, rfl⟩

theorem Round.Voids.removes (h : r.Voids q) : r.Removes q := by
  refine ⟨?_, ?_, h.kept, h.settled⟩
  · rw [h.frame]
  · rw [h.frame]

/-- Work on buffers and secrets alone. -/
theorem Round.removes_of_frame (h : q = { r with owners := q.owners, mask := q.mask })
    (hlists : q.mask.lists = r.mask.lists) : r.Removes q := by
  have hset (j : Nat) : q.set j = r.set j := by rw [h]; rfl
  refine ⟨?_, hlists, fun j => by rw [hset], fun j _ => by rw [hset]⟩
  rw [h]

theorem Round.removes_noteItem (r : Round) (p : Nat) (kind : ListKind) (x : Item) : r.Removes (r.noteItem p kind x) :=
  Round.removes_of_frame rfl rfl

theorem Round.removes_addMask (r : Round) (im : PlanImage) (h p tile : Nat) (add : Bool) (elems : List Nat) :
    r.Removes (r.addMask im h p tile add elems) := Round.removes_of_frame rfl rfl

/-- Sets that become VOID with cause 2, whatever stands in their record (R180). -/
theorem Round.voids_foldl_voidSet (r : Round) (cause : Nat) (l : List Nat) :
    r.Voids (l.foldl (fun r j => r.voidSet j cause) r) :=
  List.foldlRecOn l _ (.refl r) fun q hq j _ => hq.trans (q.voids_voidSet j cause)

/-- A round's key reads alike in a round with the same slots, in a state with the same key store. -/
theorem State.roundKey?_congr {s t : State} (h : t.offRecords = s.offRecords) (hctx : q.ctx = r.ctx)
    (hslots : q.slots = r.slots) (i : Nat) (master : Option Nat) :
    t.roundKey? q i master = s.roundKey? r i master := by
  have ht : t.roundKey? q i master = s.roundKey? q i master := (congrArg (fun v : State => v.roundKey? q i master) h :)
  rw [ht]
  simp only [State.roundKey?, Round.slotOn, hctx, hslots]

theorem State.roundKey?_of_removes {s t : State} (h : t.offRecords = s.offRecords) (g : r.Removes q) (i : Nat)
    (master : Option Nat) : t.roundKey? q i master = s.roundKey? r i master :=
  State.roundKey?_congr h (by rw [g.frame]) (by rw [g.frame]) i master

end

/-! One item. -/

/-- What the items of a list do: whose list it is, the test of an item, the tiles that a refused one marks, the recovery of
a lost secret, and the work of one that is taken. -/
structure ItemRule where
  position : Nat
  master : Nat
  kind : ListKind
  test : Round → Item → Nat
  marks : Item → List Nat
  lost : Item → State → State
  add : Round → Item → Round

/-- One item of an execution (R180). -/
def State.runItem (k c h : Nat) (w : ItemRule) (s : State) (x : Item) : State :=
  if x.kind = 0 then s
  else match s.round? c h with
    | none => s
    | some r =>
      let code := w.test r x
      let s := s.updRound c h fun r => r.noteItem w.position w.kind x
      if code ≠ 0 then
        let s := s.updRound c h fun r => (w.marks x).foldl (fun r j => r.voidSet j 2) r
        s.record code (srcCluster k) (some c) (leBytes 4 r.cohortId ++ leBytes 4 x.tile)
      else if x.kind ≠ 4 ∧ (r.set x.tile).unmask = 2 then s
      else s.withRoundKey r 0 (some w.master) (w.lost x) fun _ => s.updRound c h fun r => w.add r x

section
variable {s : State} {k c h : Nat} {w : ItemRule} {x : Item} {r : Round} {key : Bytes}

theorem State.withRoundKey_of_some {i : Nat} {master : Option Nat} (h : s.roundKey? r i master = some key)
    (refused : State → State) (go : Bytes → State) : s.withRoundKey r i master refused go = go key := by
  unfold State.withRoundKey
  simp only [h]

theorem State.withRoundKey_of_none {i : Nat} {master : Option Nat} (h : s.roundKey? r i master = none)
    (refused : State → State) (go : Bytes → State) :
    ∃ slot, s.withRoundKey r i master refused go =
      refused (s.refuseUse (s.lead.holder.getD 0) slot master (some r.ctx)) := by
  unfold State.withRoundKey
  simp only [h]
  exact ⟨_, rfl⟩

theorem Round.same_noteItem (p : Nat) (kind : ListKind) (x : Item) (r : Round) : r.Same (r.noteItem p kind x) :=
  ⟨rfl, rfl, rfl⟩

/-- An item that its test refuses makes its tiles VOID and is recorded (R180). -/
theorem State.runItem_refused (hr : s.round? c h = some r) (hx : x.kind ≠ 0) (htest : w.test r x ≠ 0) :
    s.Became c h (· = (w.marks x).foldl (fun r j => r.voidSet j 2) (r.noteItem w.position w.kind x))
      (s.runItem k c h w x) := by
  unfold State.runItem
  simp only [if_neg hx, hr, if_pos htest]
  refine State.Became.record (State.Became.updRound (P := (· = r.noteItem w.position w.kind x)) ?_ (fun r => ?_) ?_) ..
  · exact State.Became.updRound (P := (· = r)) (.refl hr rfl) (Round.same_noteItem _ _ _) fun q hq => hq ▸ rfl
  · exact (r.voids_foldl_voidSet 2 _).same
  · rintro q rfl
    rfl

/-- An item that its test lets pass, whose tile is not VOID and whose key is held, adds its part (R179, R180, R187). -/
theorem State.runItem_admitted (hadd : ∀ r : Round, r.Same (w.add r x)) (hr : s.round? c h = some r)
    (hx : x.kind ≠ 0) (htest : w.test r x = 0) (htile : x.kind = 4 ∨ (r.set x.tile).unmask ≠ 2)
    (hkey : (s.roundKey? r 0 (some w.master)).isSome = true) :
    s.Became c h (· = w.add (r.noteItem w.position w.kind x) x) (s.runItem k c h w x) := by
  have hno : ¬(x.kind ≠ 4 ∧ (r.set x.tile).unmask = 2) := fun hno => htile.elim hno.1 (absurd hno.2)
  obtain ⟨key, hkey⟩ := Option.isSome_iff_exists.mp hkey
  have hkey' : (s.updRound c h fun r => r.noteItem w.position w.kind x).roundKey? r 0 (some w.master) = some key := hkey
  unfold State.runItem
  simp only [if_neg hx, hr, if_neg (not_not_intro htest), if_neg hno, State.withRoundKey_of_some hkey']
  refine State.Became.updRound (P := (· = r.noteItem w.position w.kind x)) ?_ hadd ?_
  · exact State.Became.updRound (P := (· = r)) (.refl hr rfl) (Round.same_noteItem _ _ _) fun q hq => hq ▸ rfl
  · rintro q rfl
    rfl

/-- An item whose key is refused contributes nothing, and its secret is recovered (R348). -/
theorem State.runItem_lost (hr : s.round? c h = some r)
    (hx : x.kind ≠ 0) (htest : w.test r x = 0) (htile : x.kind = 4 ∨ (r.set x.tile).unmask ≠ 2)
    (hkey : s.roundKey? r 0 (some w.master) = none) :
    ∃ u, s.Became c h (· = r.noteItem w.position w.kind x) u ∧ s.runItem k c h w x = w.lost x u := by
  have hno : ¬(x.kind ≠ 4 ∧ (r.set x.tile).unmask = 2) := fun hno => htile.elim hno.1 (absurd hno.2)
  have hkey' : (s.updRound c h fun r => r.noteItem w.position w.kind x).roundKey? r 0 (some w.master) = none := hkey
  obtain ⟨slot, heq⟩ := State.withRoundKey_of_none hkey' (w.lost x) fun _ =>
    (s.updRound c h fun r => r.noteItem w.position w.kind x).updRound c h fun r => w.add r x
  unfold State.runItem
  simp only [if_neg hx, hr, if_neg (not_not_intro htest), if_neg hno]
  refine ⟨_, ?_, heq⟩
  exact State.Became.record (State.Became.updRound (P := (· = r)) (.refl hr rfl) (Round.same_noteItem _ _ _)
    fun q hq => hq ▸ rfl) ..

/-- Whatever becomes of an item, no committed sum and no FOLDED or VOID tile changes (R180). -/
theorem State.became_runItem (hadd : ∀ r : Round, r.Removes (w.add r x)) (hr : s.round? c h = some r)
    (hkey : (s.roundKey? r 0 (some w.master)).isSome = true) :
    s.Became c h r.Removes (s.runItem k c h w x) := by
  have hnote := r.removes_noteItem w.position w.kind x
  by_cases hx : x.kind = 0
  · rw [State.runItem, if_pos hx]
    exact .refl hr (.refl r)
  by_cases htest : w.test r x = 0
  · by_cases htile : x.kind = 4 ∨ (r.set x.tile).unmask ≠ 2
    · exact (State.runItem_admitted (fun r => (hadd r).same) hr hx htest htile hkey).imp
        fun q hq => hq ▸ hnote.trans (hadd _)
    · have hvoid : x.kind ≠ 4 ∧ (r.set x.tile).unmask = 2 := by simpa using htile
      unfold State.runItem
      simp only [if_neg hx, hr, if_neg (not_not_intro htest), if_pos hvoid]
      exact State.Became.updRound (P := (· = r)) (.refl hr rfl) (Round.same_noteItem _ _ _) fun q hq => hq ▸ hnote
  · exact (State.runItem_refused hr hx htest).imp fun q hq => hq ▸ hnote.trans (Round.voids_foldl_voidSet ..).removes

/-- Items one after another. -/
theorem State.became_foldl_items {f : State → Item → State} {master : Nat}
    (hf : ∀ (u : State) (q : Round) (x : Item), u.round? c h = some q →
      (u.roundKey? q 0 (some master)).isSome = true → u.Became c h q.Removes (f u x))
    (hr : s.round? c h = some r) (hkey : (s.roundKey? r 0 (some master)).isSome = true) (items : List Item) :
    s.Became c h r.Removes (items.foldl f s) := by
  refine State.Became.foldl (.refl hr (.refl r)) items fun u x hu => hu.andThen fun q hq hrq => ?_
  rw [← State.roundKey?_of_removes hu.frame hrq] at hkey
  exact (hf u q x hq hkey).imp fun v hv => hrq.trans hv

end

end Sys2Proof.Machine
end

section
/-!
SELFMASK, PAIRCORR, SEEDACC, LWRMASK (R51, R176 to R188): the rule of each list's items, and one item of each.
-/
namespace Sys2Proof.Machine

/-! The tests of R180. -/

section
variable {r q : Round} {im : PlanImage} {h p : Nat} {kind : ListKind} {kindOk own : Bool} {x : Item}

/-- An item of its kind, on a tile of the position that is not FOLDED, in order, is not refused. -/
theorem Round.refusal_eq_zero (hkind : kindOk = true) (hown : own = true)
    (hmine : x.kind = 4 ∨ (im.unmaskSets h p).any (fun y => y.2 == x.tile) = true)
    (hmasked : x.kind = 4 ∨ (r.set x.tile).unmask = 0) (horder : r.inOrder im h p kind x = true) :
    r.refusal im h p kind kindOk own x = 0 := by
  unfold Round.refusal
  dsimp only
  rw [if_neg, if_neg, if_neg (by simp [horder])]
  · rcases hmasked with hmasked | hmasked
    · simp [hmasked]
    · simp [hmasked]
  · rcases hmine with hmine | hmine
    · simp [hkind, hown, hmine]
    · simp [hkind, hown, hmine]

/-- An item that fails the condition of its kind is refused. -/
theorem Round.refusal_of_not_own : r.refusal im h p kind kindOk false x = 0x04120020 := by
  unfold Round.refusal
  dsimp only
  rw [if_pos (by simp)]

/-- Taking items is not seen by what does not read the lists. -/
theorem Round.offLists_takeItems (r : Round) (p : Nat) (kind : ListKind) (n : Nat) :
    (r.takeItems p kind n).2.offLists = r.offLists := by
  obtain ⟨ls, heq⟩ := r.takeItems_frame p kind n
  rw [heq]
  rfl

end

/-! The rules of the lists. -/

/-- SELF items subtract the keystream of their self seed (R51, R179). -/
def selfRule (c h p : Nat) (im : PlanImage) : ItemRule where
  position := p
  master := masterKs
  kind := .self
  test := fun r x => r.refusal im h p .self (x.kind == 1)
    (r.intake.ledger.contains (x.slot, x.tile) && (r.mask.secrets.getD x.slot .new).stateSelf == 3) x
  marks := fun x => [x.tile]
  lost := fun x s => s.failSecret c h x.slot
  add := fun r x => r.addMask im h p x.tile false
    (elemsOf (im.template h).format (keystream (im.template h).prg (r.mask.secrets.getD x.slot .new).selfSeed x.tile 1))

/-- PAIR items subtract the signed keystream of their pairwise seed (R51, R177). -/
def pairRule (c h p : Nat) (im : PlanImage) : ItemRule where
  position := p
  master := masterKs
  kind := .pair
  test := fun r x => r.refusal im h p .pair (x.kind == 2)
    (!(r.intake.ledger.contains (x.peer, x.tile)) && r.intake.ledger.contains (x.slot, x.tile) &&
      isNeighbour (im.template h) (im.template h).offsets x.slot x.peer && x.flag == decide (x.peer < x.slot) &&
      (r.pair? x.peer x.slot).isSome) x
  marks := fun x => [x.tile]
  lost := fun x s => s.voidSets c h [x.tile]
  add := fun r x => r.addMask im h p x.tile x.flag
    (elemsOf (im.template h).format
      (keystream (im.template h).prg (((r.pair? x.peer x.slot).map PairRec.seed).getD []) x.tile 2))

/-- A client slot is committed in every tile of a position. -/
def Round.full (r : Round) (im : PlanImage) (h p i : Nat) : Bool :=
  ((im.unmaskSets h p).map Prod.snd).all fun k => r.intake.ledger.contains (i, k)

/-- A seed item adds its seed vector to the base sum or to one tile's partial sum (R187). -/
def Round.addSeedItem (r : Round) (im : PlanImage) (h p : Nat) (x : Item) : Round :=
  if x.kind = 4 then { r with mask := { r.mask with
    baseSums := addSeed (im.template h).seedMod p ((assocGet r.mask.seeds x.slot).getD []) r.mask.baseSums } }
  else { r with mask := { r.mask with
    partSums := addSeed (im.template h).seedMod x.tile ((assocGet r.mask.seeds x.slot).getD []) r.mask.partSums } }

/-- Tiles that a refused seed item marks: every tile of the position for a base item (R180, R187). -/
def seedMarks (im : PlanImage) (h p : Nat) (x : Item) : List Nat :=
  if x.kind = 4 || !((im.unmaskSets h p).map Prod.snd).contains x.tile then (im.unmaskSets h p).map Prod.snd else [x.tile]

/-- Seed items (R187). -/
def seedRule (c h p : Nat) (im : PlanImage) : ItemRule where
  position := p
  master := masterAu
  kind := .seedAcc
  test := fun r x => r.refusal im h p .seedAcc (x.kind == 4 || x.kind == 5)
    (if x.kind = 4 then r.full im h p x.slot else r.intake.ledger.contains (x.slot, x.tile) && !(r.full im h p x.slot)) x
  marks := seedMarks im h p
  lost := fun x s => s.voidSets c h (seedMarks im h p x)
  add := fun r x => r.addSeedItem im h p x

/-- LWR items subtract the rounded product with the tile's seed sum (R185, R188). -/
def lwrRule (c h p : Nat) (im : PlanImage) : ItemRule where
  position := p
  master := masterRg
  kind := .lwr
  test := fun r x => r.refusal im h p .lwr (x.kind == 6) true x
  marks := fun x => [x.tile]
  lost := fun x s => s.voidSets c h [x.tile]
  add := fun r x => r.addMask im h p x.tile false (lwrMaskTile (im.template h) x.tile
    (addTile (im.template h).seedMod
      ((assocGet r.mask.baseSums p).getD (List.replicate (im.template h).lwrLambda 0))
      ((assocGet r.mask.partSums x.tile).getD [])))

theorem Round.removes_addSeedItem (r : Round) (im : PlanImage) (h p : Nat) (x : Item) :
    r.Removes (r.addSeedItem im h p x) := by
  unfold Round.addSeedItem
  split
  · exact Round.removes_of_frame rfl rfl
  · exact Round.removes_of_frame rfl rfl

/-! The opcodes. -/

/-- The span has run its work, and an opcode's items are taken from their list. -/
def State.takesItems (s : State) (k p n : Nat) (kind : ListKind) (sp : RunningSpan) (r : Round) : State :=
  (s.spanDone k sp).updRound sp.ctx sp.desc.cohort fun _ => (r.takeItems p kind n).2

section
variable {s : State} {i : Instr} {k op p n : Nat} {kind : ListKind} {sp : RunningSpan} {im : PlanImage} {r : Round}

theorem exec_selfmask (hc : s.Carries k 0x03 p sp) (hon : s.OnRound sp im r) :
    exec (.selfmask k) s = .next ((r.takeItems p .self 8).1.foldl
      (State.runItem k sp.ctx sp.desc.cohort (selfRule sp.ctx sp.desc.cohort p im)) (s.takesItems k p 8 .self sp r)) := by
  have him : (s.spanDone k sp).image sp.ctx = some im := hon.1
  have hr : (s.spanDone k sp).round? sp.ctx sp.desc.cohort = some r := hon.2
  have hexec : exec (.selfmask k) s = .next (s.runSpan k 0x03 _) := rfl
  rw [hexec, State.runSpan_of_carries hc]
  simp only [him, hr]
  rfl

theorem exec_paircorr (hc : s.Carries k 0x04 p sp) (hon : s.OnRound sp im r) :
    exec (.paircorr k) s = .next ((r.takeItems p .pair 8).1.foldl
      (State.runItem k sp.ctx sp.desc.cohort (pairRule sp.ctx sp.desc.cohort p im)) (s.takesItems k p 8 .pair sp r)) := by
  have him : (s.spanDone k sp).image sp.ctx = some im := hon.1
  have hr : (s.spanDone k sp).round? sp.ctx sp.desc.cohort = some r := hon.2
  have hexec : exec (.paircorr k) s = .next (s.runSpan k 0x04 _) := rfl
  rw [hexec, State.runSpan_of_carries hc]
  simp only [him, hr]
  rfl

theorem exec_shamir (hc : s.Carries k 0x05 p sp) (hon : s.OnRound sp im r) :
    exec (.shamir k) s = .next (((r.takeItems p .shamir 8).1.filter fun x => x.kind != 0).foldl
      (fun s x => s.shamirItem k sp.ctx sp.desc.cohort (im.template sp.desc.cohort) x)
      (s.takesItems k p 8 .shamir sp r)) := by
  have him : (s.spanDone k sp).image sp.ctx = some im := hon.1
  have hr : (s.spanDone k sp).round? sp.ctx sp.desc.cohort = some r := hon.2
  have hexec : exec (.shamir k) s = .next (s.runSpan k 0x05 _) := rfl
  rw [hexec, State.runSpan_of_carries hc]
  simp only [him, hr]
  rfl

theorem exec_seedacc (hc : s.Carries k 0x07 p sp) (hon : s.OnRound sp im r) :
    exec (.seedacc k) s = .next ((r.takeItems p .seedAcc (seedItems (im.template sp.desc.cohort))).1.foldl
      (State.runItem k sp.ctx sp.desc.cohort (seedRule sp.ctx sp.desc.cohort p im))
      (s.takesItems k p (seedItems (im.template sp.desc.cohort)) .seedAcc sp r)) := by
  have him : (s.spanDone k sp).image sp.ctx = some im := hon.1
  have hr : (s.spanDone k sp).round? sp.ctx sp.desc.cohort = some r := hon.2
  have hexec : exec (.seedacc k) s = .next (s.runSpan k 0x07 _) := rfl
  rw [hexec, State.runSpan_of_carries hc]
  simp only [him, hr]
  rfl

theorem exec_lwrmask (hc : s.Carries k 0x08 p sp) (hon : s.OnRound sp im r) :
    exec (.lwrmask k) s = .next ((r.takeItems p .lwr 8).1.foldl
      (State.runItem k sp.ctx sp.desc.cohort (lwrRule sp.ctx sp.desc.cohort p im)) (s.takesItems k p 8 .lwr sp r)) := by
  have him : (s.spanDone k sp).image sp.ctx = some im := hon.1
  have hr : (s.spanDone k sp).round? sp.ctx sp.desc.cohort = some r := hon.2
  have hexec : exec (.lwrmask k) s = .next (s.runSpan k 0x08 _) := rfl
  rw [hexec, State.runSpan_of_carries hc]
  simp only [him, hr]
  rfl

/-- The round once its items have been taken. -/
theorem State.became_takesItems (hon : s.OnRound sp im r) (k p n : Nat) (kind : ListKind) :
    (s.spanDone k sp).Became sp.ctx sp.desc.cohort (· = (r.takeItems p kind n).2) (s.takesItems k p n kind sp r) := by
  have hsame := Round.Same.of_offLists (r.offLists_takeItems p kind n)
  have hcurrent := (hsame.isCurrent ..).trans (State.isCurrent_of_round? hon.2)
  have hr : (s.spanDone k sp).round? sp.ctx sp.desc.cohort = some r := hon.2
  exact ⟨rfl, _, State.round?_updRound_const hcurrent hr, rfl⟩

theorem State.roundKey?_takesItems (i : Nat) (master : Option Nat) :
    (s.takesItems k p n kind sp r).roundKey? (r.takeItems p kind n).2 i master = s.roundKey? r i master := by
  have hkeep (u : Round) : (s.takesItems k p n kind sp r).roundKey? u i master = s.roundKey? u i master := rfl
  have hoff := r.offLists_takeItems p kind n
  exact (hkeep _).trans (State.roundKey?_congr rfl (congrArg Round.ctx hoff :) (congrArg Round.slots hoff :) i master)

variable {w : ItemRule} {x : Item}

/-- The one item of an execution, if its rule takes it. -/
theorem exec_item_admitted (hexec : exec i s = .next ((r.takeItems p w.kind n).1.foldl
      (State.runItem k sp.ctx sp.desc.cohort w) (s.takesItems k p n w.kind sp r)))
    (hon : s.OnRound sp im r) (hitem : (r.takeItems p w.kind n).1 = [x])
    (hkey : (s.roundKey? r 0 (some w.master)).isSome = true) (hx : x.kind ≠ 0)
    (htest : w.test (r.takeItems p w.kind n).2 x = 0) (htile : x.kind = 4 ∨ (r.set x.tile).unmask = 0)
    (hadd : ∀ r : Round, r.Removes (w.add r x)) :
    ∃ t, exec i s = .next t ∧ t.round? sp.ctx sp.desc.cohort =
      some (w.add ((r.takeItems p w.kind n).2.noteItem w.position w.kind x) x) := by
  obtain ⟨-, q, hq, rfl⟩ := State.became_takesItems hon k p n w.kind
  have htile' : x.kind = 4 ∨ ((r.takeItems p w.kind n).2.set x.tile).unmask ≠ 2 := by
    refine htile.imp_right fun hmasked => ?_
    have hset : (r.takeItems p w.kind n).2.set x.tile = r.set x.tile :=
      (congrArg (fun v : Round => v.set x.tile) (r.offLists_takeItems p w.kind n) :)
    rw [hset, hmasked]
    decide
  have hdone := State.runItem_admitted (k := k) (fun r => (hadd r).same) hq hx htest htile'
    (by rw [State.roundKey?_takesItems]; exact hkey)
  obtain ⟨-, q, hq, rfl⟩ := hdone
  rw [hexec, hitem]
  exact ⟨_, rfl, hq⟩

/-- The one item of an execution, if its rule refuses it. -/
theorem exec_item_refused (hexec : exec i s = .next ((r.takeItems p w.kind n).1.foldl
      (State.runItem k sp.ctx sp.desc.cohort w) (s.takesItems k p n w.kind sp r)))
    (hon : s.OnRound sp im r) (hitem : (r.takeItems p w.kind n).1 = [x]) (hx : x.kind ≠ 0)
    (htest : w.test (r.takeItems p w.kind n).2 x ≠ 0) :
    ∃ t, exec i s = .next t ∧ t.round? sp.ctx sp.desc.cohort = some ((w.marks x).foldl (fun r j => r.voidSet j 2)
      ((r.takeItems p w.kind n).2.noteItem w.position w.kind x)) := by
  obtain ⟨-, q, hq, rfl⟩ := State.became_takesItems hon k p n w.kind
  obtain ⟨-, q, hq, rfl⟩ := State.runItem_refused (k := k) hq hx htest
  rw [hexec, hitem]
  exact ⟨_, rfl, hq⟩

/-- Removal work that leaves every committed sum, and takes its items from its list. -/
theorem exec_items_leave {items : List Item} {f : State → Item → State} {master : Nat} {l : WorkList}
    (hexec : exec i s = .next (items.foldl f (s.takesItems k p n kind sp r)))
    (hf : ∀ (u : State) (q : Round) (x : Item), u.round? sp.ctx sp.desc.cohort = some q →
      (u.roundKey? q 0 (some master)).isSome = true → u.Became sp.ctx sp.desc.cohort q.Removes (f u x))
    (hc : s.Carries k op p sp) (hon : s.OnRound sp im r) (hl : r.list? p kind = some l)
    (hkey : (s.roundKey? r 0 (some master)).isSome = true) :
    ∃ t q, exec i s = .next t ∧ t.round? sp.ctx sp.desc.cohort = some q ∧
      q.list? p kind = some { l with consumed := l.consumed + min n (l.items.length - l.consumed) } ∧
      (∀ j, { q.set j with unmask := (r.set j).unmask, cause := (r.set j).cause } = r.set j) ∧
      (∀ j, (r.set j).unmask = 1 ∨ (r.set j).unmask = 2 → (q.set j).unmask = (r.set j).unmask) ∧
      q = { r with sets := q.sets, owners := q.owners, mask := q.mask } ∧
      (t.cluster k).span = some { sp with done := true } ∧ (∀ i, i ≠ k → t.cluster i = s.cluster i) ∧
      t = { s with set := t.set, setA := t.setA, setB := t.setB, slotB := t.slotB, recorder := t.recorder,
                   mgmt := t.mgmt, clusters := t.clusters, rounds := t.rounds } := by
  obtain ⟨htakes, q, hq, rfl⟩ := State.became_takesItems hon k p n kind
  have hitems := State.became_foldl_items hf hq (by rw [State.roundKey?_takesItems]; exact hkey) items
  generalize List.foldl f _ items = t at hexec hitems
  obtain ⟨hframe, q, hq, hrem⟩ := hitems
  have hall : t.offRecords = (s.spanDone k sp).offRecords := hframe.trans htakes
  have hoff := r.offLists_takeItems p kind n
  have hset (j : Nat) : (r.takeItems p kind n).2.set j = r.set j := (congrArg (fun v : Round => v.set j) hoff :)
  obtain ⟨hspan, hothers⟩ := State.cluster_spanDone hc
  refine ⟨t, q, hexec, hq, ?_, fun j => ?_, fun j => ?_, ?_, ?_, fun i hi => ?_, State.eq_of_offRecords_clusters hall⟩
  · rw [← Round.list?_takeItems hl n, Round.list?, hrem.lists]
    rfl
  · have hkept := hrem.kept j
    rw [hset] at hkept
    exact (congrArg (fun v : TileSet => { v with unmask := (r.set j).unmask, cause := (r.set j).cause }) hkept :)
  · have hsettled := hrem.settled j
    rwa [hset] at hsettled
  · rw [hrem.frame]
    exact (congrArg (fun v : Round => { v with sets := q.sets, owners := q.owners, mask := q.mask }) hoff :)
  · rw [State.cluster_of_offRecords hall, hspan]
  · rw [State.cluster_of_offRecords hall, hothers i hi]

end

/-! One item of each list. -/

section
variable {s : State} {k p : Nat} {sp : RunningSpan} {im : PlanImage} {r : Round} {x : Item}

/-- A SELF item in order, its self seed held, subtracts the seed's keystream (R51, R179, R180). -/
theorem selfmask_subtracts (hc : s.Carries k 0x03 p sp) (hon : s.OnRound sp im r)
    (hitem : (r.takeItems p .self 8).1 = [x]) (hkey : (s.roundKey? r 0 (some masterKs)).isSome = true)
    (hx : x.kind = 1) (hmasked : (r.set x.tile).unmask = 0)
    (hmine : (im.unmaskSets sp.desc.cohort p).any (fun y => y.2 == x.tile) = true)
    (horder : r.inOrder im sp.desc.cohort p .self x = true) (hledger : (x.slot, x.tile) ∈ r.intake.ledger)
    (hheld : (r.mask.secrets.getD x.slot .new).stateSelf = 3) :
    ∃ t, exec (.selfmask k) s = .next t ∧ t.round? sp.ctx sp.desc.cohort = some
      ((((r.takeItems p .self 8).2.noteItem p .self x)).addMask im sp.desc.cohort p x.tile false
        (elemsOf (im.template sp.desc.cohort).format (keystream (im.template sp.desc.cohort).prg
          (r.mask.secrets.getD x.slot .new).selfSeed x.tile 1))) := by
  have hoff := r.offLists_takeItems p .self 8
  have htest : (selfRule sp.ctx sp.desc.cohort p im).test (r.takeItems p .self 8).2 x = 0 := by
    have heq : (selfRule sp.ctx sp.desc.cohort p im).test (r.takeItems p .self 8).2 x =
        (selfRule sp.ctx sp.desc.cohort p im).test r x :=
      (congrArg (fun v : Round => (selfRule sp.ctx sp.desc.cohort p im).test v x) hoff :)
    refine heq.trans (Round.refusal_eq_zero ?_ ?_ (.inr hmine) (.inr hmasked) horder)
    · simp [hx]
    · rw [hheld]
      simpa using hledger
  obtain ⟨t, hexec, hq⟩ := exec_item_admitted (w := selfRule sp.ctx sp.desc.cohort p im) (exec_selfmask hc hon) hon hitem
    hkey (by simp [hx]) htest (.inr hmasked) (fun r => r.removes_addMask ..)
  have hsecrets : ((r.takeItems p .self 8).2.noteItem p .self x).mask.secrets = r.mask.secrets :=
    (congrArg (fun v : Round => v.mask.secrets) hoff :)
  refine ⟨t, hexec, hq.trans ?_⟩
  rw [← hsecrets]
  rfl

/-- A SELF item whose secret is not held makes its tile VOID, and touches no buffer (R180). -/
theorem selfmask_voids (hc : s.Carries k 0x03 p sp) (hon : s.OnRound sp im r)
    (hitem : (r.takeItems p .self 8).1 = [x]) (hx : x.kind = 1) (hmasked : (r.set x.tile).unmask = 0)
    (hlen : x.tile < r.sets.length) (hheld : (r.mask.secrets.getD x.slot .new).stateSelf ≠ 3) :
    ∃ t q, exec (.selfmask k) s = .next t ∧ t.round? sp.ctx sp.desc.cohort = some q ∧ (q.set x.tile).unmask = 2 ∧
      (q.set x.tile).cause = 2 ∧ q.owners = r.owners := by
  have hoff := r.offLists_takeItems p .self 8
  have hown : (r.intake.ledger.contains (x.slot, x.tile) && (r.mask.secrets.getD x.slot .new).stateSelf == 3) = false := by
    rw [beq_eq_false_iff_ne.mpr hheld, Bool.and_false]
  have htest : (selfRule sp.ctx sp.desc.cohort p im).test (r.takeItems p .self 8).2 x ≠ 0 := by
    have heq : (selfRule sp.ctx sp.desc.cohort p im).test (r.takeItems p .self 8).2 x =
        r.refusal im sp.desc.cohort p .self (x.kind == 1)
          (r.intake.ledger.contains (x.slot, x.tile) && (r.mask.secrets.getD x.slot .new).stateSelf == 3) x :=
      (congrArg (fun v : Round => (selfRule sp.ctx sp.desc.cohort p im).test v x) hoff :)
    rw [heq, hown, Round.refusal_of_not_own]
    decide
  obtain ⟨t, hexec, hq⟩ := exec_item_refused (w := selfRule sp.ctx sp.desc.cohort p im) (exec_selfmask hc hon) hon hitem
    (by simp [hx]) htest
  have hset : ((r.takeItems p .self 8).2.noteItem p .self x).set x.tile = r.set x.tile :=
    (congrArg (fun v : Round => v.set x.tile) hoff :)
  have hsets : ((r.takeItems p .self 8).2.noteItem p .self x).sets = r.sets := (congrArg Round.sets hoff :)
  have hvoid := Round.set_voidSet (k := x.tile) (r := (r.takeItems p .self 8).2.noteItem p .self x) (hsets ▸ hlen) 2
    (by rw [hset, hmasked]; decide)
  refine ⟨t, _, hexec, hq, (congrArg TileSet.unmask hvoid :), (congrArg TileSet.cause hvoid :), ?_⟩
  exact (congrArg Round.owners hoff :)

/-- A PAIR item in order, its pairwise seed held, subtracts the signed keystream (R51, R176 to R180). -/
theorem paircorr_subtracts {y : PairRec} (hc : s.Carries k 0x04 p sp) (hon : s.OnRound sp im r)
    (hitem : (r.takeItems p .pair 8).1 = [x]) (hkey : (s.roundKey? r 0 (some masterKs)).isSome = true)
    (hx : x.kind = 2) (hmasked : (r.set x.tile).unmask = 0)
    (hmine : (im.unmaskSets sp.desc.cohort p).any (fun y => y.2 == x.tile) = true)
    (horder : r.inOrder im sp.desc.cohort p .pair x = true) (hledger : (x.slot, x.tile) ∈ r.intake.ledger)
    (hdropped : (x.peer, x.tile) ∉ r.intake.ledger) (hflag : x.flag = decide (x.peer < x.slot))
    (hy : r.pair? x.peer x.slot = some y)
    (hneighbour : isNeighbour (im.template sp.desc.cohort) (im.template sp.desc.cohort).offsets x.slot x.peer = true) :
    ∃ t, exec (.paircorr k) s = .next t ∧ t.round? sp.ctx sp.desc.cohort = some
      (((r.takeItems p .pair 8).2.noteItem p .pair x).addMask im sp.desc.cohort p x.tile x.flag
        (elemsOf (im.template sp.desc.cohort).format (keystream (im.template sp.desc.cohort).prg y.seed x.tile 2))) := by
  have hoff := r.offLists_takeItems p .pair 8
  have htest : (pairRule sp.ctx sp.desc.cohort p im).test (r.takeItems p .pair 8).2 x = 0 := by
    have heq : (pairRule sp.ctx sp.desc.cohort p im).test (r.takeItems p .pair 8).2 x =
        (pairRule sp.ctx sp.desc.cohort p im).test r x :=
      (congrArg (fun v : Round => (pairRule sp.ctx sp.desc.cohort p im).test v x) hoff :)
    refine heq.trans (Round.refusal_eq_zero ?_ ?_ (.inr hmine) (.inr hmasked) horder)
    · simp [hx]
    · rw [hy, hneighbour, hflag]
      simpa using ⟨hdropped, hledger⟩
  obtain ⟨t, hexec, hq⟩ := exec_item_admitted (w := pairRule sp.ctx sp.desc.cohort p im) (exec_paircorr hc hon) hon hitem
    hkey (by simp [hx]) htest (.inr hmasked) (fun r => r.removes_addMask ..)
  have hseed : ((((r.takeItems p .pair 8).2.noteItem p .pair x).pair? x.peer x.slot).map PairRec.seed).getD [] =
      y.seed := by
    have hpair : ((r.takeItems p .pair 8).2.noteItem p .pair x).pair? x.peer x.slot = r.pair? x.peer x.slot :=
      (congrArg (fun v : Round => v.pair? x.peer x.slot) hoff :)
    rw [hpair, hy, Option.map_some, Option.getD_some]
  refine ⟨t, hexec, hq.trans ?_⟩
  rw [← hseed]
  rfl

end

end Sys2Proof.Machine
end

section
/-!
Sum-seed items (R184 to R188), and secrets reconstructed, lost and recomputed (R161, R163, R172 to R177, R348).
-/
namespace Sys2Proof.Machine

/-! SEEDACC and LWRMASK. -/

section
variable {s : State} {k p : Nat} {sp : RunningSpan} {im : PlanImage} {r u : Round} {x : Item}

theorem Round.full_eq (r : Round) (im : PlanImage) (h p i : Nat) :
    r.full im h p i = (im.unmaskSets h p).all fun y => r.intake.ledger.contains (i, y.2) := by
  rw [Round.full, List.all_map]
  rfl

/-- A seed item adds to the sums of the round as it would to those of another with the same seeds and sums. -/
theorem Round.addSeedItem_congr (im : PlanImage) (h p : Nat) (x : Item) (hseeds : u.mask.seeds = r.mask.seeds)
    (hbase : u.mask.baseSums = r.mask.baseSums) (hpart : u.mask.partSums = r.mask.partSums) :
    (u.addSeedItem im h p x).mask.baseSums = (r.addSeedItem im h p x).mask.baseSums ∧
      (u.addSeedItem im h p x).mask.partSums = (r.addSeedItem im h p x).mask.partSums := by
  unfold Round.addSeedItem
  split
  · exact ⟨congrArg₂ (fun v b => addSeed _ p ((assocGet v x.slot).getD []) b) hseeds hbase, hpart⟩
  · exact ⟨hbase, congrArg₂ (fun v b => addSeed _ x.tile ((assocGet v x.slot).getD []) b) hseeds hpart⟩

theorem Round.sets_addSeedItem (im : PlanImage) (h p : Nat) (x : Item) : (r.addSeedItem im h p x).sets = r.sets := by
  unfold Round.addSeedItem
  split <;> rfl

/-- The one seed item of an execution, if its rule takes it (R187). -/
theorem seedacc_adds (hc : s.Carries k 0x07 p sp) (hon : s.OnRound sp im r)
    (hitem : (r.takeItems p .seedAcc (seedItems (im.template sp.desc.cohort))).1 = [x])
    (hkey : (s.roundKey? r 0 (some masterAu)).isSome = true) (hx : x.kind ≠ 0)
    (htest : (seedRule sp.ctx sp.desc.cohort p im).test r x = 0) (hmasked : x.kind = 4 ∨ (r.set x.tile).unmask = 0) :
    ∃ t q, exec (.seedacc k) s = .next t ∧ t.round? sp.ctx sp.desc.cohort = some q ∧ q.sets = r.sets ∧
      q.mask.baseSums = (r.addSeedItem im sp.desc.cohort p x).mask.baseSums ∧
      q.mask.partSums = (r.addSeedItem im sp.desc.cohort p x).mask.partSums := by
  have hoff := r.offLists_takeItems p .seedAcc (seedItems (im.template sp.desc.cohort))
  have htest' : (seedRule sp.ctx sp.desc.cohort p im).test
      (r.takeItems p .seedAcc (seedItems (im.template sp.desc.cohort))).2 x = 0 := by
    rw [← htest]
    exact (congrArg (fun v : Round => (seedRule sp.ctx sp.desc.cohort p im).test v x) hoff :)
  obtain ⟨t, hexec, hq⟩ := exec_item_admitted (w := seedRule sp.ctx sp.desc.cohort p im) (exec_seedacc hc hon) hon hitem
    hkey hx htest' hmasked (fun r => r.removes_addSeedItem ..)
  obtain ⟨hbase, hpart⟩ := Round.addSeedItem_congr
    (u := (r.takeItems p .seedAcc (seedItems (im.template sp.desc.cohort))).2.noteItem p .seedAcc x) (r := r) im
    sp.desc.cohort p x (congrArg (fun v : Round => v.mask.seeds) hoff :) (congrArg (fun v : Round => v.mask.baseSums) hoff :)
    (congrArg (fun v : Round => v.mask.partSums) hoff :)
  exact ⟨t, _, hexec, hq, (Round.sets_addSeedItem ..).trans (congrArg Round.sets hoff :), hbase, hpart⟩

/-- A base item, its client committed in every tile of the position, adds its seed vector to the base sum (R187). -/
theorem seedacc_adds_base (hc : s.Carries k 0x07 p sp) (hon : s.OnRound sp im r)
    (hitem : (r.takeItems p .seedAcc (seedItems (im.template sp.desc.cohort))).1 = [x])
    (hkey : (s.roundKey? r 0 (some masterAu)).isSome = true) (hx : x.kind = 4)
    (horder : r.inOrder im sp.desc.cohort p .seedAcc x = true)
    (hfull : ((im.unmaskSets sp.desc.cohort p).all fun y => r.intake.ledger.contains (x.slot, y.2)) = true) :
    ∃ t q, exec (.seedacc k) s = .next t ∧ t.round? sp.ctx sp.desc.cohort = some q ∧ q.sets = r.sets ∧
      q.mask.baseSums = addSeed (im.template sp.desc.cohort).seedMod p ((assocGet r.mask.seeds x.slot).getD [])
        r.mask.baseSums ∧ q.mask.partSums = r.mask.partSums := by
  have htest : (seedRule sp.ctx sp.desc.cohort p im).test r x = 0 := by
    refine Round.refusal_eq_zero ?_ ?_ (.inl hx) (.inl hx) horder
    · simp [hx]
    · rw [if_pos hx, Round.full_eq, hfull]
  obtain ⟨t, q, hexec, hq, hsets, hbase, hpart⟩ := seedacc_adds hc hon hitem hkey (by simp [hx]) htest (.inl hx)
  rw [Round.addSeedItem, if_pos hx] at hbase hpart
  exact ⟨t, q, hexec, hq, hsets, hbase, hpart⟩

/-- A tile's item, its client committed there but not in every tile, adds its seed vector to the tile's sum (R187). -/
theorem seedacc_adds_part (hc : s.Carries k 0x07 p sp) (hon : s.OnRound sp im r)
    (hitem : (r.takeItems p .seedAcc (seedItems (im.template sp.desc.cohort))).1 = [x])
    (hkey : (s.roundKey? r 0 (some masterAu)).isSome = true) (hx : x.kind = 5)
    (horder : r.inOrder im sp.desc.cohort p .seedAcc x = true) (hledger : (x.slot, x.tile) ∈ r.intake.ledger)
    (hfull : ((im.unmaskSets sp.desc.cohort p).all fun y => r.intake.ledger.contains (x.slot, y.2)) = false)
    (hmine : (im.unmaskSets sp.desc.cohort p).any (fun y => y.2 == x.tile) = true)
    (hmasked : (r.set x.tile).unmask = 0) :
    ∃ t q, exec (.seedacc k) s = .next t ∧ t.round? sp.ctx sp.desc.cohort = some q ∧ q.sets = r.sets ∧
      q.mask.partSums = addSeed (im.template sp.desc.cohort).seedMod x.tile ((assocGet r.mask.seeds x.slot).getD [])
        r.mask.partSums ∧ q.mask.baseSums = r.mask.baseSums := by
  have hx4 : x.kind ≠ 4 := by simp [hx]
  have htest : (seedRule sp.ctx sp.desc.cohort p im).test r x = 0 := by
    refine Round.refusal_eq_zero ?_ ?_ (.inr hmine) (.inr hmasked) horder
    · simp [hx]
    · rw [if_neg hx4, Round.full_eq, hfull]
      simpa using hledger
  obtain ⟨t, q, hexec, hq, hsets, hbase, hpart⟩ := seedacc_adds hc hon hitem hkey (by simp [hx]) htest (.inr hmasked)
  rw [Round.addSeedItem, if_neg hx4] at hbase hpart
  exact ⟨t, q, hexec, hq, hsets, hpart, hbase⟩

/-- An LWR item in order subtracts the rounded product with the sum of its tile's seeds (R185, R188). -/
theorem lwrmask_subtracts (hc : s.Carries k 0x08 p sp) (hon : s.OnRound sp im r)
    (hitem : (r.takeItems p .lwr 8).1 = [x]) (hkey : (s.roundKey? r 0 (some masterRg)).isSome = true)
    (hx : x.kind = 6) (hmasked : (r.set x.tile).unmask = 0)
    (hmine : (im.unmaskSets sp.desc.cohort p).any (fun y => y.2 == x.tile) = true)
    (horder : r.inOrder im sp.desc.cohort p .lwr x = true) :
    ∃ t, exec (.lwrmask k) s = .next t ∧ t.round? sp.ctx sp.desc.cohort = some
      (((r.takeItems p .lwr 8).2.noteItem p .lwr x).addMask im sp.desc.cohort p x.tile false
        (lwrMaskTile (im.template sp.desc.cohort) x.tile (addTile (im.template sp.desc.cohort).seedMod
          ((assocGet r.mask.baseSums p).getD (List.replicate (im.template sp.desc.cohort).lwrLambda 0))
          ((assocGet r.mask.partSums x.tile).getD [])))) := by
  have hoff := r.offLists_takeItems p .lwr 8
  have htest : (lwrRule sp.ctx sp.desc.cohort p im).test (r.takeItems p .lwr 8).2 x = 0 := by
    have heq : (lwrRule sp.ctx sp.desc.cohort p im).test (r.takeItems p .lwr 8).2 x =
        (lwrRule sp.ctx sp.desc.cohort p im).test r x :=
      (congrArg (fun v : Round => (lwrRule sp.ctx sp.desc.cohort p im).test v x) hoff :)
    exact heq.trans (Round.refusal_eq_zero (by simp [hx]) rfl (.inr hmine) (.inr hmasked) horder)
  obtain ⟨t, hexec, hq⟩ := exec_item_admitted (w := lwrRule sp.ctx sp.desc.cohort p im) (exec_lwrmask hc hon) hon hitem
    hkey (by simp [hx]) htest (.inr hmasked) (fun r => r.removes_addMask ..)
  have hbase : ((r.takeItems p .lwr 8).2.noteItem p .lwr x).mask.baseSums = r.mask.baseSums :=
    (congrArg (fun v : Round => v.mask.baseSums) hoff :)
  have hpart : ((r.takeItems p .lwr 8).2.noteItem p .lwr x).mask.partSums = r.mask.partSums :=
    (congrArg (fun v : Round => v.mask.partSums) hoff :)
  refine ⟨t, hexec, hq.trans ?_⟩
  rw [← hbase, ← hpart]
  rfl

end

/-! SHAMIR. -/

/-- A secret is reconstructed: it is HELD, and the recomputations of a dropped client's key are due (R173, R177). -/
def Round.holdSecret (r : Round) (t : Template) (x : Item) (v : Bytes) : Round :=
  { r with mask := { r.mask with
      recompute := r.mask.recompute ++ if x.flag then (r.recomputeFor t x.slot).map fun i => (x.slot, i) else []
      secrets := updAt r.mask.secrets x.slot fun q =>
        if x.flag then { q with stateKey := 3, privateKey := v } else { q with stateSelf := 3, selfSeed := v } } }

/-- A secret that cannot be reconstructed is FAILED (R173). -/
def Round.loseSecret (r : Round) (x : Item) : Round :=
  { r with mask := { r.mask with secrets := updAt r.mask.secrets x.slot fun q =>
      if x.flag then { q with stateKey := 4 } else { q with stateSelf := 4 } } }

/-- Tiles that a FAILED secret leaves VOID: in UNMASKING at once, before it at the end of the period (R54, R100). -/
def Round.lostTiles (r : Round) (t : Template) (x : Item) : List Nat :=
  if r.state ≠ .unmasking then []
  else if x.flag then r.needsKey t t.offsets x.slot else r.needsSelf t x.slot

section
variable {s : State} {k c h : Nat} {t : Template} {x : Item} {r : Round}

/-- A READY secret whose shares agree is HELD (R173). -/
theorem State.shamirItem_held {v : Bytes} (hr : s.round? c h = some r) (hx : x.kind = 3)
    (hready : (if x.flag then (r.mask.secrets.getD x.slot .new).stateKey else
      (r.mask.secrets.getD x.slot .new).stateSelf) = 2)
    (hkey : (s.roundKey? r 0 (some masterAu)).isSome = true)
    (hv : reconstruct t.threshold (r.sharesOf x.slot (if x.flag then 2 else 1)) = some v) :
    s.Became c h (· = r.holdSecret t x v) (s.shamirItem k c h t x) := by
  obtain ⟨key, hkey⟩ := Option.isSome_iff_exists.mp hkey
  unfold State.shamirItem
  simp only [hr, hx, hready, ne_eq, not_true_eq_false, or_self, if_false, State.withRoundKey_of_some hkey, hv]
  exact State.Became.updRound (f := fun r => r.holdSecret t x v) (P := (· = r)) (.refl hr rfl) (fun _ => ⟨rfl, rfl, rfl⟩)
    fun q hq => hq ▸ rfl

/-- A READY secret whose shares are too few or disagree is FAILED, and tiles that need it become VOID (R54, R173). -/
theorem State.shamirItem_failed (hr : s.round? c h = some r) (hx : x.kind = 3)
    (hready : (if x.flag then (r.mask.secrets.getD x.slot .new).stateKey else
      (r.mask.secrets.getD x.slot .new).stateSelf) = 2)
    (hkey : (s.roundKey? r 0 (some masterAu)).isSome = true)
    (hv : reconstruct t.threshold (r.sharesOf x.slot (if x.flag then 2 else 1)) = none) :
    s.Became c h (· = (r.loseSecret x).voidTiles 1 (r.lostTiles t x)) (s.shamirItem k c h t x) := by
  obtain ⟨key, hkey⟩ := Option.isSome_iff_exists.mp hkey
  unfold State.shamirItem
  simp only [hr, hx, hready, ne_eq, not_true_eq_false, or_self, if_false, State.withRoundKey_of_some hkey, hv]
  have hlost : s.Became c h (· = r.loseSecret x) (s.updRound c h fun r => r.loseSecret x) :=
    State.Became.updRound (P := (· = r)) (.refl hr rfl) (fun _ => ⟨rfl, rfl, rfl⟩) fun q hq => hq ▸ rfl
  refine hlost.andThen fun q hq heq => ?_
  subst heq
  exact State.became_voidTiles hq ..

theorem Round.removes_holdSecret (r : Round) (t : Template) (x : Item) (v : Bytes) : r.Removes (r.holdSecret t x v) :=
  Round.removes_of_frame rfl rfl

theorem Round.removes_loseSecret (r : Round) (x : Item) : r.Removes (r.loseSecret x) := Round.removes_of_frame rfl rfl

/-- Whatever becomes of a SHAMIR item, no committed sum and no FOLDED or VOID tile changes (R173). -/
theorem State.became_shamirItem (hr : s.round? c h = some r) (hkey : (s.roundKey? r 0 (some masterAu)).isSome = true) :
    s.Became c h r.Removes (s.shamirItem k c h t x) := by
  by_cases hgo : x.kind = 3 ∧ (if x.flag then (r.mask.secrets.getD x.slot .new).stateKey else
      (r.mask.secrets.getD x.slot .new).stateSelf) = 2
  · obtain ⟨hx, hready⟩ := hgo
    cases hv : reconstruct t.threshold (r.sharesOf x.slot (if x.flag then 2 else 1)) with
    | some v =>
      exact (State.shamirItem_held hr hx hready hkey hv).imp fun q hq => hq ▸ r.removes_holdSecret t x v
    | none =>
      exact (State.shamirItem_failed hr hx hready hkey hv).imp fun q hq =>
        hq ▸ (r.removes_loseSecret x).trans (Round.voids_voidTiles ..).removes
  · unfold State.shamirItem
    simp only [hr]
    rw [if_pos (by simpa only [not_and_or] using hgo)]
    exact State.Became.record (.refl hr (.refl r)) ..

end

section
variable {s : State} {k p : Nat} {sp : RunningSpan} {im : PlanImage} {r : Round} {x : Item}

/-- The one item of a SHAMIR execution, on a state and round that read like those before it. -/
theorem exec_shamir_one (hc : s.Carries k 0x05 p sp) (hon : s.OnRound sp im r)
    (hitem : (r.takeItems p .shamir 8).1 = [x]) (hx : x.kind = 3) :
    exec (.shamir k) s = .next
      ((s.takesItems k p 8 .shamir sp r).shamirItem k sp.ctx sp.desc.cohort (im.template sp.desc.cohort) x) := by
  rw [exec_shamir hc hon, hitem, List.filter_cons_of_pos (by simp [hx])]
  rfl

/-- A READY secret with shares that agree becomes HELD; the rest of the round stays, but for the recomputations that a
key makes due (R173, R177). -/
theorem shamir_holds {v : Bytes} (hc : s.Carries k 0x05 p sp) (hon : s.OnRound sp im r)
    (hitem : (r.takeItems p .shamir 8).1 = [x]) (hkey : (s.roundKey? r 0 (some masterAu)).isSome = true)
    (hx : x.kind = 3)
    (hready : (if x.flag then (r.mask.secrets.getD x.slot .new).stateKey else
      (r.mask.secrets.getD x.slot .new).stateSelf) = 2)
    (hv : reconstruct (im.template sp.desc.cohort).threshold (r.sharesOf x.slot (if x.flag then 2 else 1)) = some v) :
    ∃ t q, exec (.shamir k) s = .next t ∧ t.round? sp.ctx sp.desc.cohort = some q ∧
      q.mask.secrets = (r.holdSecret (im.template sp.desc.cohort) x v).mask.secrets ∧
      q.mask.recompute = (r.holdSecret (im.template sp.desc.cohort) x v).mask.recompute ∧ q.sets = r.sets := by
  obtain ⟨-, q, hq, rfl⟩ := State.became_takesItems hon k p 8 .shamir
  have hoff := r.offLists_takeItems p .shamir 8
  have hsecrets : (r.takeItems p .shamir 8).2.mask.secrets = r.mask.secrets :=
    (congrArg (fun v : Round => v.mask.secrets) hoff :)
  have hshares : (r.takeItems p .shamir 8).2.sharesOf x.slot (if x.flag then 2 else 1) =
      r.sharesOf x.slot (if x.flag then 2 else 1) :=
    (congrArg (fun v : Round => v.sharesOf x.slot (if x.flag then 2 else 1)) hoff :)
  obtain ⟨-, q, hq, rfl⟩ := State.shamirItem_held (k := k) (t := im.template sp.desc.cohort) hq hx
    (by rw [hsecrets]; exact hready) (by rw [State.roundKey?_takesItems]; exact hkey) (by rw [hshares]; exact hv)
  refine ⟨_, _, exec_shamir_one hc hon hitem hx, hq, ?_, ?_, (congrArg Round.sets hoff :)⟩
  · exact (congrArg (fun w : Round => (w.holdSecret (im.template sp.desc.cohort) x v).mask.secrets) hoff :)
  · exact (congrArg (fun w : Round => (w.holdSecret (im.template sp.desc.cohort) x v).mask.recompute) hoff :)

/-- A READY secret that cannot be reconstructed becomes FAILED, and so VOID the tiles that need it (R54, R173). -/
theorem shamir_fails (hc : s.Carries k 0x05 p sp) (hon : s.OnRound sp im r)
    (hitem : (r.takeItems p .shamir 8).1 = [x]) (hkey : (s.roundKey? r 0 (some masterAu)).isSome = true)
    (hx : x.kind = 3) (hflag : x.flag = false) (hready : (r.mask.secrets.getD x.slot .new).stateSelf = 2)
    (hv : reconstruct (im.template sp.desc.cohort).threshold (r.sharesOf x.slot 1) = none) :
    ∃ t q, exec (.shamir k) s = .next t ∧ t.round? sp.ctx sp.desc.cohort = some q ∧
      q.mask.secrets = updAt r.mask.secrets x.slot (fun y => { y with stateSelf := 4 }) ∧
      (r.state ≠ .unmasking → q.sets = r.sets) ∧
      (r.state = .unmasking → ∀ j, j < r.sets.length → j ∈ r.needsSelf (im.template sp.desc.cohort) x.slot →
        (r.set j).unmask = 0 → (q.set j).unmask = 2 ∧ (q.set j).cause = 1) := by
  obtain ⟨-, q, hq, rfl⟩ := State.became_takesItems hon k p 8 .shamir
  have hoff := r.offLists_takeItems p .shamir 8
  generalize hu : (r.takeItems p .shamir 8).2 = u at hoff hq
  have hsecrets : u.mask.secrets = r.mask.secrets := (congrArg (fun v : Round => v.mask.secrets) hoff :)
  have hshares : u.sharesOf x.slot 1 = r.sharesOf x.slot 1 := (congrArg (fun v : Round => v.sharesOf x.slot 1) hoff :)
  have hstate : u.state = r.state := (congrArg Round.state hoff :)
  have hsets : u.sets = r.sets := (congrArg Round.sets hoff :)
  have hneeds : u.needsSelf (im.template sp.desc.cohort) x.slot = r.needsSelf (im.template sp.desc.cohort) x.slot :=
    (congrArg (fun v : Round => v.needsSelf (im.template sp.desc.cohort) x.slot) hoff :)
  obtain ⟨-, q, hq, rfl⟩ := State.shamirItem_failed (k := k) (t := im.template sp.desc.cohort) hq hx
    (by rw [hflag, hsecrets]; exact hready) (by rw [← hu, State.roundKey?_takesItems]; exact hkey)
    (by rw [hflag, if_neg Bool.false_ne_true, hshares]; exact hv)
  have hvoids := (u.loseSecret x).voids_voidTiles 1 (u.lostTiles (im.template sp.desc.cohort) x)
  refine ⟨_, _, exec_shamir_one hc hon hitem hx, hq, ?_, fun hno => ?_, fun hun j hj hneed hmasked => ?_⟩
  · rw [hvoids.frame, ← hsecrets]
    simp [Round.loseSecret, hflag]
  · rw [Round.lostTiles, hstate, if_pos hno]
    exact hsets
  · rw [Round.lostTiles, hstate, if_neg (not_not_intro hun), hflag, hneeds]
    refine Round.set_voidTiles 1 hneed (hsets ▸ hj) ?_
    rw [← hmasked]
    exact (congrArg (fun v : Round => (v.set j).unmask) hoff :)

end

/-! Secrets that are lost (R161, R163, R348), and pairwise seeds recomputed (R177). -/

/-- A secret record after a data fault: what is not NONE is FAILED (R163). -/
def SecretRec.lose (y : SecretRec) : SecretRec :=
  { y with stateSelf := if y.stateSelf = 0 then 0 else 4, stateKey := if y.stateKey = 0 then 0 else 4
           selfSeed := [], privateKey := [] }

/-- A round whose secret record takes a data fault: recomputations from it end (R163). -/
def Round.losesSecret (r : Round) (i : Nat) : Round :=
  { r with mask := { r.mask with secrets := updAt r.mask.secrets i SecretRec.lose
                                 recompute := r.mask.recompute.filter fun x => x.1 != i } }

section
variable {s : State} {k c h p i : Nat} {sp : RunningSpan} {im : PlanImage} {r : Round} {x : Item}

theorem State.offRecords_countTier (s : State) (tier : Nat) : (s.countTier tier).offRecords = s.offRecords := by
  simp [State.offRecords, State.unrecorded, State.countTier]

theorem State.Became.countTier {t : State} {P : Round → Prop} (g : s.Became c h P t) (tier : Nat) :
    s.Became c h P (t.countTier tier) :=
  let ⟨q, hq, hP⟩ := g.round
  ⟨(State.offRecords_countTier ..).trans g.frame, q, (State.round?_congr (State.persist_rounds ..)).trans hq, hP⟩

/-- Sets that a data fault makes VOID: nothing changes but them and their ring tiles (R163). -/
theorem State.became_voidSets (hr : s.round? c h = some r) (l : List Nat) :
    s.Became c h (fun q => q = { r with sets := q.sets, ring := q.ring }) (s.voidSets c h l) := by
  unfold State.voidSets
  split
  next u im hu him =>
    rw [hr, Option.some.injEq] at hu
    subst hu
    generalize (fun k : Nat => s.ringOpcode (s.unmaskCluster im h k) r k) = op
    have hfold (u : Round) : ∃ a b, l.foldl (fun r k => r.dataVoid k (op k)) u = { u with sets := a, ring := b } := by
      refine List.foldlRecOn (motive := fun q : Round => ∃ a b, q = { u with sets := a, ring := b }) l _
        ⟨u.sets, u.ring, rfl⟩ ?_
      rintro _ ⟨a, b, rfl⟩ k -
      rw [Round.dataVoid_frame]
      exact ⟨_, _, rfl⟩
    have hvoid : s.Became c h (fun q => q = { r with sets := q.sets, ring := q.ring })
        (s.updRound c h fun u => l.foldl (fun r k => r.dataVoid k (op k)) u) := by
      refine State.Became.updRound (P := (· = r)) (.refl hr rfl) (fun u => ?_) fun q hq => ?_
      · obtain ⟨a, b, heq⟩ := hfold u
        rw [heq]
        exact ⟨rfl, rfl, rfl⟩
      · obtain ⟨a, b, heq⟩ := hfold q
        rw [heq, hq]
    exact (hvoid.countTier 2).foldl _ fun u n hu => hu.record ..
  next => exact .refl hr rfl

/-- A secret record that takes a data fault: its owner's buffers stay, and its secrets are FAILED and gone (R163). -/
theorem State.became_failSecret (hr : s.round? c h = some r) (him : s.image c = some im) :
    s.Became c h (fun q => q.owners = r.owners ∧ q.mask.secrets = updAt r.mask.secrets i SecretRec.lose)
      (s.failSecret c h i) := by
  unfold State.failSecret
  simp only [hr, him]
  have hfail : s.Became c h (fun q => q.owners = r.owners ∧ q.mask.secrets = updAt r.mask.secrets i SecretRec.lose)
      (s.updRound c h fun r => r.losesSecret i) :=
    State.Became.updRound (P := (· = r)) (.refl hr rfl) (fun _ => ⟨rfl, rfl, rfl⟩) fun q hq => hq ▸ ⟨rfl, rfl⟩
  generalize (if r.frozen = true then r.needing im h i else []) = tiles
  split
  · exact hfail.countTier 2
  · exact hfail.andThen fun q hq hlost => (State.became_voidSets hq tiles).imp fun u hu => hu ▸ hlost

theorem getD_updAt_same {α : Type} {l : List α} {i : Nat} (hi : i < l.length) (f : α → α) (d : α) :
    (updAt l i f).getD i d = f (l.getD i d) := by
  simp [updAt, List.getD_eq_getElem?_getD, hi]

/-- A SELF item whose store key is refused adds nothing, and its secret is FAILED (R161, R348; log 85). -/
theorem selfmask_loses (hc : s.Carries k 0x03 p sp) (hon : s.OnRound sp im r)
    (hitem : (r.takeItems p .self 8).1 = [x]) (hkey : s.roundKey? r 0 (some masterKs) = none)
    (hx : x.kind = 1) (hmasked : (r.set x.tile).unmask = 0)
    (hmine : (im.unmaskSets sp.desc.cohort p).any (fun y => y.2 == x.tile) = true)
    (horder : r.inOrder im sp.desc.cohort p .self x = true) (hledger : (x.slot, x.tile) ∈ r.intake.ledger)
    (hheld : (r.mask.secrets.getD x.slot .new).stateSelf = 3) (hlen : x.slot < r.mask.secrets.length) :
    ∃ t q, exec (.selfmask k) s = .next t ∧ t.round? sp.ctx sp.desc.cohort = some q ∧ q.owners = r.owners ∧
      (q.mask.secrets.getD x.slot .new).stateSelf = 4 ∧ (q.mask.secrets.getD x.slot .new).selfSeed = [] := by
  have htest : (selfRule sp.ctx sp.desc.cohort p im).test r x = 0 := by
    refine Round.refusal_eq_zero ?_ ?_ (.inr hmine) (.inr hmasked) horder
    · simp [hx]
    · rw [hheld]
      simpa using hledger
  obtain ⟨htakes, q, hq, rfl⟩ := State.became_takesItems hon k p 8 .self
  have hoff := r.offLists_takeItems p .self 8
  have htest' : (selfRule sp.ctx sp.desc.cohort p im).test (r.takeItems p .self 8).2 x = 0 := by
    rw [← htest]
    exact (congrArg (fun v : Round => (selfRule sp.ctx sp.desc.cohort p im).test v x) hoff :)
  have hunmask : ((r.takeItems p .self 8).2.set x.tile).unmask = 0 := by
    rw [← hmasked]
    exact (congrArg (fun v : Round => (v.set x.tile).unmask) hoff :)
  obtain ⟨u, hu, heq⟩ := State.runItem_lost (k := k) (w := selfRule sp.ctx sp.desc.cohort p im) hq (by simp [hx]) htest'
    (.inr (by rw [hunmask]; decide)) (by rw [State.roundKey?_takesItems]; exact hkey)
  have him : u.image sp.ctx = some im := by
    have himage : u.image sp.ctx = s.image sp.ctx :=
      (congrArg (fun v : State => v.image sp.ctx) (hu.frame.trans htakes) :)
    exact himage.trans hon.1
  obtain ⟨-, v, hv, hnoted⟩ := hu
  have hkeep : v.mask.secrets = r.mask.secrets ∧ v.owners = r.owners := by
    rw [hnoted]
    exact ⟨(congrArg (fun v : Round => v.mask.secrets) hoff :), (congrArg Round.owners hoff :)⟩
  obtain ⟨-, q, hq, howners, hsecrets⟩ := State.became_failSecret (i := x.slot) hv him
  have hgetD : q.mask.secrets.getD x.slot .new = (r.mask.secrets.getD x.slot .new).lose := by
    rw [hsecrets, hkeep.1, getD_updAt_same hlen]
  refine ⟨_, q, ?_, hq, howners.trans hkeep.2, ?_, ?_⟩
  · rw [exec_selfmask hc hon, hitem, List.foldl_cons, List.foldl_nil, heq]
    rfl
  · rw [hgetD, SecretRec.lose, hheld]
    rfl
  · rw [hgetD]
    rfl

/-- A recomputation has ended, and its pairwise seed is stored if the key is still HELD (R177). -/
def Round.storesPair (r : Round) (y : PairRec) : Round :=
  { r with mask := { r.mask with
      recompute := r.mask.recompute.filter fun x => decide (x ≠ (y.dropped, y.survivor))
      pairs := if (r.mask.secrets.getD y.dropped .new).stateKey = 3 then putPairRec y r.mask.pairs else r.mask.pairs } }

/-- A recomputation that ends stores its pairwise seed; one that an engine's fault discards changes nothing (R177). -/
theorem pairwiseRecompute_stores {j d : Nat} (hr : s.round? c j = some r) (hdue : (d, i) ∈ r.mask.recompute)
    (hstate : r.state = .closed ∨ r.state = .unmasking) (hheld : (r.mask.secrets.getD d .new).stateKey = 3)
    (hkey : (s.roundKey? r 0 none).isSome = true) :
    (∃ t, exec (.pairwiseRecompute c j d i false) s = .next t ∧ t.round? c j = some { r with mask := { r.mask with
        recompute := r.mask.recompute.filter fun x => decide (x ≠ (d, i))
        pairs := putPairRec ⟨d, i, pairwiseSeed (r.mask.secrets.getD d .new).privateKey
          (r.mask.secrets.getD i .new).publicKey r.cohortId r.number i d⟩ r.mask.pairs } } ∧
      t = { s with rounds := t.rounds }) ∧
    (∃ t, exec (.pairwiseRecompute c j d i true) s = .next t ∧ t.round? c j = some r ∧ Recorded s t) := by
  have hgo : (!r.mask.recompute.contains (d, i) || (r.state != .closed && r.state != .unmasking)) = false := by
    rcases hstate with hstate | hstate
    · simp [hdue, hstate]
    · simp [hdue, hstate]
  obtain ⟨key, hkey⟩ := Option.isSome_iff_exists.mp hkey
  constructor
  · have hexec : exec (.pairwiseRecompute c j d i false) s = execPairwiseRecompute c j d i false s := rfl
    rw [hexec]
    unfold execPairwiseRecompute
    simp only [hr, hgo, State.withRoundKey_of_some hkey, Bool.false_eq_true, if_false]
    generalize pairwiseSeed _ _ _ _ _ _ = seed
    refine ⟨_, rfl, ?_, rfl⟩
    have hstored := State.round?_updRound_of_some (f := fun q => q.storesPair ⟨d, i, seed⟩) (fun _ => ⟨rfl, rfl, rfl⟩) hr
    rw [Round.storesPair, if_pos hheld] at hstored
    exact hstored
  · have hexec : exec (.pairwiseRecompute c j d i true) s = execPairwiseRecompute c j d i true s := rfl
    rw [hexec]
    unfold execPairwiseRecompute
    simp only [hr, hgo, Bool.false_eq_true, if_false, if_true]
    exact ⟨_, rfl, (State.round?_congr (State.record_rounds ..)).trans hr, .one ..⟩

end

end Sys2Proof.Machine
end

section
/-!
The fold of a complete group (R142, R143, R182): the swap of its buffers, and the drain into the committed copies.
-/
namespace Sys2Proof.Machine

/-! Owners at a place. -/

/-- Elements that an update concerns, after the update. -/
theorem filter_updIf {α : Type} {p : α → Bool} {f : α → α} (h : ∀ x, p (f x) = p x) (l : List α) :
    (updIf l p f).filter p = (l.filter p).map f := by
  induction l with
  | nil => rfl
  | cons x l ih =>
    unfold updIf at ih ⊢
    by_cases hx : p x = true
    · rw [List.map_cons, if_pos hx, List.filter_cons_of_pos ((h x).trans hx), List.filter_cons_of_pos hx, List.map_cons, ih]
    · rw [List.map_cons, if_neg hx, List.filter_cons_of_neg hx, List.filter_cons_of_neg hx, ih]

/-- Elements that an update does not concern, before and after. -/
theorem filter_updIf_of_disjoint {α : Type} {p q : α → Bool} {f : α → α} (h : ∀ x, p (f x) = p x)
    (hpq : ∀ x, q x = true → p x = false) (l : List α) : (updIf l q f).filter p = l.filter p := by
  induction l with
  | nil => rfl
  | cons x l ih =>
    unfold updIf at ih ⊢
    by_cases hx : q x = true
    · have hno : ¬p x = true := by rw [hpq x hx]; exact Bool.false_ne_true
      rw [List.map_cons, if_pos hx, List.filter_cons_of_neg (by rwa [h]), List.filter_cons_of_neg hno, ih]
    · rw [List.map_cons, if_neg hx, List.filter_cons, List.filter_cons, ih]

/-- Sets of a position's owners at one tile set. -/
def Round.ownersAt (r : Round) (p n : Nat) : List OwnerSet := r.owners.filter fun o => o.isAt p n

section
variable {r u : Round} {p n m : Nat} {o : OwnerSet} {f : OwnerSet → OwnerSet}

theorem Round.ownersAt_updOwner_same (hf : ∀ o : OwnerSet, (f o).isAt p n = o.isAt p n) :
    (r.updOwner p n f).ownersAt p n = (r.ownersAt p n).map f := filter_updIf hf r.owners

theorem Round.ownersAt_updOwner_ne (hf : ∀ o : OwnerSet, (f o).isAt p n = o.isAt p n) (hn : n ≠ m) :
    (r.updOwner p m f).ownersAt p n = r.ownersAt p n := by
  refine filter_updIf_of_disjoint hf (fun o ho => ?_) r.owners
  simp only [OwnerSet.isAt, Bool.and_eq_true, beq_iff_eq] at ho
  simp [OwnerSet.isAt, ho.1, ho.2, hn.symm]

theorem Round.owner?_of_ownersAt {l : List OwnerSet} (h : r.ownersAt p n = o :: l) : r.owner? p n = some o := by
  rw [Round.owner?, ← List.head?_filter]
  exact (congrArg List.head? h :)

theorem Round.ownersAt_congr (h : u.owners = r.owners) : u.ownersAt p n = r.ownersAt p n :=
  (congrArg (List.filter fun o : OwnerSet => o.isAt p n) h :)

end

theorem OwnerSet.isAt_swapped (o : OwnerSet) (c : CommitRec) (p n : Nat) : (o.swapped c).isAt p n = o.isAt p n := by
  unfold OwnerSet.swapped
  split <;> rfl

theorem OwnerSet.commit_swapped (o : OwnerSet) (c : CommitRec) : (o.swapped c).commit = c := by
  unfold OwnerSet.swapped
  split <;> rfl

/-- The drain adds what was in the active buffer when the buffers swapped (R142). -/
theorem OwnerSet.source_swapped (o : OwnerSet) (c : CommitRec) : (o.swapped c).source = o.active := by
  cases h : o.single with
  | true => simp [OwnerSet.swapped, OwnerSet.source, h]
  | false => simp [OwnerSet.swapped, OwnerSet.source, h]

/-- Once swapped and drained, a set's active buffer is empty (R142, R182). -/
theorem OwnerSet.active_drained_swapped (o : OwnerSet) (c : CommitRec) (st : Nat) :
    ((o.swapped c).drained st).active = [] := by
  cases h : o.single with
  | true => simp [OwnerSet.swapped, OwnerSet.drained, h]
  | false => simp [OwnerSet.swapped, OwnerSet.drained, h]

/-! The swap (R182). -/

/-- The commit record of a tile's fold: it is PREPARED and adds no contribution (R182). -/
def Round.foldRecord (r : Round) (cluster beat g n : Nat) : CommitRec :=
  { seq := r.nextSeq, tile := n, cluster := srcCluster cluster, state := 1, newSel := 1 - (r.set n).sel,
    markFrom := 0, cut := 0, added := 0, nextGroup := g + 1, fold := true, beat := beat, entry := 0 }

/-- The buffers of a tile that is not MASKED go (R182). -/
def OwnerSet.emptied (o : OwnerSet) : OwnerSet := { o with active := [], shadow := [] }

/-- The buffers of a group's tiles swap (R182). -/
def Round.swaps (r : Round) (cluster beat p g : Nat) (l : List Nat) : Round :=
  l.foldl (fun r n => r.foldSwapSet cluster beat p g n) r

section
variable {r : Round} {cluster beat p g n m : Nat} {l : List Nat} {o : OwnerSet}

theorem Round.foldSwapSet_of_masked (h : (r.set n).unmask = 0) : r.foldSwapSet cluster beat p g n =
    ({ r with nextSeq := r.nextSeq + 1 }).updOwner p n fun o => o.swapped (r.foldRecord cluster beat g n) := by
  rw [Round.foldSwapSet, if_neg (not_not_intro h)]
  rfl

theorem Round.foldSwapSet_of_settled (h : (r.set n).unmask ≠ 0) : r.foldSwapSet cluster beat p g n =
    r.updOwner p n OwnerSet.emptied := if_pos h

/-- A swap changes owners and the next SEQ, which rises. -/
structure Round.Swapped (r u : Round) : Prop where
  frame : u = { r with owners := u.owners, nextSeq := u.nextSeq }
  seq : r.nextSeq ≤ u.nextSeq

theorem Round.Swapped.refl (r : Round) : r.Swapped r := ⟨rfl, Nat.le_refl _⟩

theorem Round.Swapped.trans {u v : Round} (h : r.Swapped u) (g : u.Swapped v) : r.Swapped v := by
  refine ⟨?_, h.seq.trans g.seq⟩
  rw [g.frame, h.frame]

theorem Round.Swapped.set {u : Round} (h : r.Swapped u) (n : Nat) : u.set n = r.set n := by
  rw [h.frame]
  rfl

theorem Round.swapped_foldSwapSet (r : Round) (cluster beat p g n : Nat) :
    r.Swapped (r.foldSwapSet cluster beat p g n) := by
  by_cases h : (r.set n).unmask = 0
  · rw [Round.foldSwapSet_of_masked h]
    exact ⟨rfl, Nat.le_succ _⟩
  · rw [Round.foldSwapSet_of_settled h]
    exact ⟨rfl, Nat.le_refl _⟩

theorem Round.swapped_swaps (r : Round) (cluster beat p g : Nat) (l : List Nat) :
    r.Swapped (r.swaps cluster beat p g l) :=
  List.foldlRecOn l _ (.refl r) fun u hu _ _ => hu.trans (u.swapped_foldSwapSet ..)

/-- Owners at another tile set are left by a swap. -/
theorem Round.ownersAt_foldSwapSet_ne (hn : n ≠ m) :
    (r.foldSwapSet cluster beat p g m).ownersAt p n = r.ownersAt p n := by
  by_cases h : (r.set m).unmask = 0
  · rw [Round.foldSwapSet_of_masked h, Round.ownersAt_updOwner_ne (fun o => o.isAt_swapped ..) hn]
    rfl
  · rw [Round.foldSwapSet_of_settled h, Round.ownersAt_updOwner_ne (f := OwnerSet.emptied) (fun _ => rfl) hn]

theorem Round.ownersAt_swaps_of_not_mem (hn : n ∉ l) :
    (r.swaps cluster beat p g l).ownersAt p n = r.ownersAt p n := by
  refine List.foldlRecOn (motive := fun u : Round => u.ownersAt p n = r.ownersAt p n) l _ rfl fun u hu m hm => ?_
  have hnm : n ≠ m := fun hnm => hn (hnm ▸ hm)
  rw [Round.ownersAt_foldSwapSet_ne hnm, hu]

/-- The one owner of a MASKED tile of the group swaps once, with a SEQ of its own (R182). -/
theorem Round.ownersAt_swaps (hl : l.Nodup) (hn : n ∈ l) (hmasked : (r.set n).unmask = 0)
    (ho : r.ownersAt p n = [o]) :
    ∃ c, (r.swaps cluster beat p g l).ownersAt p n = [o.swapped c] ∧ c.state = 1 ∧ c.fold = true ∧ c.added = 0 ∧
      r.nextSeq ≤ c.seq ∧ c.seq < (r.swaps cluster beat p g l).nextSeq := by
  induction l generalizing r with
  | nil => cases hn
  | cons m l ih =>
    obtain ⟨hm, hl⟩ := List.nodup_cons.mp hl
    change ∃ c, ((r.foldSwapSet cluster beat p g m).swaps cluster beat p g l).ownersAt p n = [o.swapped c] ∧ _ ∧ _ ∧ _ ∧ _ ∧
      c.seq < ((r.foldSwapSet cluster beat p g m).swaps cluster beat p g l).nextSeq
    have hrest := (r.foldSwapSet cluster beat p g m).swapped_swaps cluster beat p g l
    by_cases hnm : n = m
    · subst hnm
      have hswap := Round.foldSwapSet_of_masked (cluster := cluster) (beat := beat) (p := p) (g := g) hmasked
      refine ⟨r.foldRecord cluster beat g n, ?_, rfl, rfl, rfl, Nat.le_refl _, ?_⟩
      · rw [Round.ownersAt_swaps_of_not_mem hm, hswap, Round.ownersAt_updOwner_same (fun o => o.isAt_swapped ..)]
        exact (congrArg (List.map fun o : OwnerSet => o.swapped (r.foldRecord cluster beat g n)) ho :)
      · refine Nat.lt_of_lt_of_le (Nat.lt_succ_self r.nextSeq) ?_
        have hseq := hrest.seq
        rw [hswap] at hseq ⊢
        exact hseq
    · have hn := (List.mem_cons.mp hn).resolve_left hnm
      have hstep := r.swapped_foldSwapSet cluster beat p g m
      obtain ⟨c, hc, hstate, hfold, hadded, hle, hlt⟩ := ih hl hn (by rw [hstep.set]; exact hmasked)
        ((Round.ownersAt_foldSwapSet_ne hnm).trans ho)
      exact ⟨c, hc, hstate, hfold, hadded, hstep.seq.trans hle, hlt⟩

/-- Where no commit ran at a position, those that run after the swap are folds of the group's MASKED tiles. -/
theorem Round.prepared_swaps (hno : ∀ o ∈ r.owners, o.position = p → o.commit.state ≠ 1) :
    ∀ o ∈ (r.swaps cluster beat p g l).owners, o.position = p → o.commit.state = 1 →
      o.set ∈ l ∧ (r.set o.set).unmask = 0 := by
  have hinv : r.Swapped (r.swaps cluster beat p g l) ∧ ∀ o ∈ (r.swaps cluster beat p g l).owners, o.position = p →
      o.commit.state = 1 → o.set ∈ l ∧ (r.set o.set).unmask = 0 := by
    refine List.foldlRecOn (motive := fun u : Round => r.Swapped u ∧ ∀ o ∈ u.owners, o.position = p →
      o.commit.state = 1 → o.set ∈ l ∧ (r.set o.set).unmask = 0) l _
      ⟨.refl r, fun o ho hp hst => absurd hst (hno o ho hp)⟩ fun u ⟨hu, hown⟩ n hn => ?_
    refine ⟨hu.trans (u.swapped_foldSwapSet ..), fun o ho hp hst => ?_⟩
    by_cases h : (u.set n).unmask = 0
    · rw [Round.foldSwapSet_of_masked h] at ho
      obtain ⟨x, hx, rfl⟩ := List.mem_map.mp ho
      split at hp
      next hat =>
        have hset : (x.swapped (u.foldRecord cluster beat g n)).set = n := by
          have hat' := ((x.isAt_swapped (u.foldRecord cluster beat g n) p n).trans hat)
          simp only [OwnerSet.isAt, Bool.and_eq_true, beq_iff_eq] at hat'
          exact hat'.2
        rw [if_pos hat, hset, ← hu.set]
        exact ⟨hn, h⟩
      next hat =>
        rw [if_neg hat] at hst ⊢
        exact hown x hx hp hst
    · rw [Round.foldSwapSet_of_settled h] at ho
      obtain ⟨x, hx, rfl⟩ := List.mem_map.mp ho
      split at hp
      next hat =>
        rw [if_pos hat] at hst ⊢
        exact hown x hx hp hst
      next hat =>
        rw [if_neg hat] at hst ⊢
        exact hown x hx hp hst
  exact hinv.2

end

/-! The drain (R143, R182). -/

/-- One fold is drained: its commit point, and FOLDED. -/
def Round.drains (r : Round) (q : Nat → Nat) (p : Nat) (o : OwnerSet) : Round :=
  (r.commitPoint q 1 p o.set).foldApplied p o.set o.commit.seq

/-- A MASKED tile set once its fold has been drained: the buffer is added, and it is FOLDED (R143, R182). -/
def TileSet.folded (x : TileSet) (q : Nat → Nat) (o : OwnerSet) : TileSet :=
  { ({ x with count := x.count + o.commit.added, commits := x.commits + 1, lastSeq := o.commit.seq }).flip
      (addSet q 1 x.copy o.source) with unmask := 1, foldSeq := o.commit.seq }

theorem TileSet.copy_flip (x : TileSet) (sum : List (List Nat)) : (x.flip sum).copy = sum := by
  unfold TileSet.flip
  split <;> rfl

theorem TileSet.flip_counts (x : TileSet) (sum : List (List Nat)) :
    (x.flip sum).count = x.count ∧ (x.flip sum).commits = x.commits ∧ (x.flip sum).unmask = x.unmask := by
  unfold TileSet.flip
  split <;> exact ⟨rfl, rfl, rfl⟩

section
variable {r u : Round} {q : Nat → Nat} {p n : Nat} {o : OwnerSet} {l : List OwnerSet}

theorem Round.commitPoint_frame (r : Round) (q : Nat → Nat) (i p n : Nat) :
    r.commitPoint q i p n = { r with sets := (r.commitPoint q i p n).sets } := by
  unfold Round.commitPoint
  split <;> rfl

theorem Round.set_commitPoint_ne {m : Nat} (hn : n ≠ m) (i : Nat) : (r.commitPoint q i p m).set n = r.set n := by
  unfold Round.commitPoint
  split
  · rfl
  · rw [Round.set_updSet, if_neg fun h => hn h.1]

/-- A drain changes sets and owners. -/
theorem Round.drains_frame (r : Round) (q : Nat → Nat) (p : Nat) (o : OwnerSet) :
    r.drains q p o = { r with sets := (r.drains q p o).sets, owners := (r.drains q p o).owners } := by
  unfold Round.drains Round.foldApplied
  rw [r.commitPoint_frame]
  rfl

theorem Round.set_drains_ne (hn : n ≠ o.set) : (r.drains q p o).set n = r.set n := by
  have hset : (r.drains q p o).set n = ((r.commitPoint q 1 p o.set).updSet o.set fun x =>
      if x.unmask = 2 then x else { x with unmask := 1, foldSeq := o.commit.seq }).set n := rfl
  rw [hset, Round.set_updSet, if_neg fun h => hn h.1, Round.set_commitPoint_ne hn]

theorem Round.ownersAt_drains (r : Round) (q : Nat → Nat) (p : Nat) (o : OwnerSet) (n : Nat) :
    (r.drains q p o).ownersAt p n =
      if n = o.set then (r.ownersAt p n).map fun o => o.drained 2 else r.ownersAt p n := by
  have howners : ((r.commitPoint q 1 p o.set).updSet o.set fun x =>
      if x.unmask = 2 then x else { x with unmask := 1, foldSeq := o.commit.seq }).ownersAt p n = r.ownersAt p n := by
    refine Round.ownersAt_congr ?_
    change (r.commitPoint q 1 p o.set).owners = r.owners
    rw [r.commitPoint_frame]
  rw [← howners]
  unfold Round.drains Round.foldApplied
  split
  next h => rw [h, Round.ownersAt_updOwner_same (f := fun o => o.drained 2) fun _ => rfl]
  next h => rw [Round.ownersAt_updOwner_ne (f := fun o => o.drained 2) (fun _ => rfl) h]

/-- The drain of a MASKED set's one fold. -/
theorem Round.set_drains (ho : r.ownersAt p o.set = [o]) (hmasked : (r.set o.set).unmask = 0)
    (hfault : (r.set o.set).dataFault = false) (hlen : o.set < r.sets.length) :
    (r.drains q p o).set o.set = (r.set o.set).folded q o := by
  have hpoint : r.commitPoint q 1 p o.set = r.updSet o.set fun x =>
      let cur := if x.sel = 0 then x.copyA else x.copyB
      let sum := addSet q 1 cur o.source
      let x := { x with count := x.count + o.commit.added, commits := x.commits + 1, lastSeq := o.commit.seq }
      if x.unmask = 2 ∨ x.dataFault then x else x.flip sum := by
    unfold Round.commitPoint
    simp only [Round.owner?_of_ownersAt ho]
  have hset : (r.drains q p o).set o.set = ((r.commitPoint q 1 p o.set).updSet o.set fun x =>
      if x.unmask = 2 then x else { x with unmask := 1, foldSeq := o.commit.seq }).set o.set := rfl
  have hlen' : o.set < (r.commitPoint q 1 p o.set).sets.length := by
    rw [hpoint]
    simpa [Round.updSet, updAt] using hlen
  have hcommit : (r.commitPoint q 1 p o.set).set o.set =
      ({ r.set o.set with count := (r.set o.set).count + o.commit.added, commits := (r.set o.set).commits + 1
                          lastSeq := o.commit.seq }).flip (addSet q 1 (r.set o.set).copy o.source) := by
    rw [hpoint, Round.set_updSet, if_pos ⟨rfl, hlen⟩]
    exact if_neg (by simp [hmasked, hfault])
  rw [hset, Round.set_updSet, if_pos ⟨rfl, hlen'⟩, hcommit, if_neg]
  · rfl
  · rw [(TileSet.flip_counts ..).2.2]
    simp [hmasked]

/-- Folds drained one after another. -/
def Round.drainAll (r : Round) (q : Nat → Nat) (p : Nat) (l : List OwnerSet) : Round :=
  l.foldl (fun r o => r.drains q p o) r

theorem Round.drainAll_frame (r : Round) (q : Nat → Nat) (p : Nat) (l : List OwnerSet) :
    r.drainAll q p l = { r with sets := (r.drainAll q p l).sets, owners := (r.drainAll q p l).owners } := by
  refine List.foldlRecOn (motive := fun u : Round => u = { r with sets := u.sets, owners := u.owners }) l _ rfl
    fun u hu o _ => ?_
  rw [u.drains_frame, hu]

/-- A set that none of them is for is left. -/
theorem Round.drainAll_of_not_mem (hn : ∀ o ∈ l, n ≠ o.set) :
    (r.drainAll q p l).set n = r.set n ∧ (r.drainAll q p l).ownersAt p n = r.ownersAt p n := by
  refine List.foldlRecOn (motive := fun u : Round => u.set n = r.set n ∧ u.ownersAt p n = r.ownersAt p n) l _ ⟨rfl, rfl⟩
    fun u ⟨hset, howners⟩ o ho => ?_
  rw [Round.set_drains_ne (hn o ho), Round.ownersAt_drains, if_neg (hn o ho)]
  exact ⟨hset, howners⟩

/-- A set that one of them is for is FOLDED. -/
theorem Round.set_drainAll (hl : l.filter (fun x => x.set == n) = [o]) (ho : r.ownersAt p n = [o])
    (hmasked : (r.set n).unmask = 0) (hfault : (r.set n).dataFault = false) (hlen : n < r.sets.length) :
    (r.drainAll q p l).set n = (r.set n).folded q o ∧ (r.drainAll q p l).ownersAt p n = [o.drained 2] := by
  induction l generalizing r with
  | nil => cases hl
  | cons x l ih =>
    change ((r.drains q p x).drainAll q p l).set n = _ ∧ ((r.drains q p x).drainAll q p l).ownersAt p n = _
    by_cases hx : x.set = n
    · rw [List.filter_cons_of_pos (by simp [hx])] at hl
      obtain ⟨rfl, hrest⟩ := List.cons.inj hl
      subst hx
      have hnone : ∀ o ∈ l, x.set ≠ o.set := fun o ho heq =>
        absurd (List.mem_filter.mpr ⟨ho, by simp [heq]⟩) (hrest ▸ List.not_mem_nil)
      obtain ⟨hset, howners⟩ := Round.drainAll_of_not_mem (r := r.drains q p x) (q := q) (p := p) hnone
      rw [hset, howners, Round.set_drains ho hmasked hfault hlen, Round.ownersAt_drains, if_pos rfl, ho]
      exact ⟨rfl, rfl⟩
    · rw [List.filter_cons_of_neg (by simp [hx])] at hl
      have hne : n ≠ x.set := fun h => hx h.symm
      have hset := Round.set_drains_ne (r := r) (q := q) (p := p) hne
      have hsets : (r.drains q p x).sets.length = r.sets.length := by
        unfold Round.drains Round.foldApplied Round.commitPoint
        split <;> simp [Round.updOwner, Round.updSet, updAt]
      rw [← hset] at hmasked hfault ⊢
      refine ih hl ?_ hmasked hfault (hsets ▸ hlen)
      rw [Round.ownersAt_drains, if_neg hne, ho]

end

end Sys2Proof.Machine
end

section
/-!
Masks are removed (R51, R166, R172 to R188): the fold of a complete group, a fold that a beat boundary has swapped, and the
statement over all opcodes.
-/
namespace Sys2Proof.Machine

/-! The group to fold (R178, R182). -/

section
variable {r : Round} {im : PlanImage} {h p cluster beat g f n : Nat} {cut : Route → Bool}

/-- A tile set's entry in the unmask list of a position: its residency group and its number (R178). -/
def PlanImage.unmaskEntry (im : PlanImage) (h p n : Nat) : Option (Nat × Nat) :=
  match im.owner0 h n with
  | some (x, i) =>
    if x = p then (im.cursor p i).map fun c => ((n - c.first) / max 1 (im.residency h p).1, n) else none
  | none => none

theorem PlanImage.unmaskSets_perm (im : PlanImage) (h p : Nat) :
    (im.unmaskSets h p).Perm ((List.range (im.template h).sets).filterMap (im.unmaskEntry h p)) :=
  List.mergeSort_perm ..

theorem PlanImage.snd_of_unmaskEntry {x : Nat × Nat} (hx : im.unmaskEntry h p n = some x) : x.2 = n := by
  unfold PlanImage.unmaskEntry at hx
  split at hx
  · split at hx
    · obtain ⟨c, -, rfl⟩ := Option.map_eq_some_iff.mp hx
      rfl
    · cases hx
  · cases hx

/-- A tile set stands once among those that a position unmasks. -/
theorem PlanImage.nodup_unmaskSets (im : PlanImage) (h p : Nat) : ((im.unmaskSets h p).map Prod.snd).Nodup := by
  rw [((im.unmaskSets_perm h p).map Prod.snd).nodup_iff, List.map_filterMap]
  refine List.Nodup.filterMap (fun a b n ha hb => ?_) List.nodup_range
  obtain ⟨x, hx, rfl⟩ := Option.map_eq_some_iff.mp ha
  obtain ⟨y, hy, hyx⟩ := Option.map_eq_some_iff.mp hb
  rw [← PlanImage.snd_of_unmaskEntry hx, ← PlanImage.snd_of_unmaskEntry hy, hyx]

/-- Tile sets of a group at a position. -/
def PlanImage.groupTiles (im : PlanImage) (h p g : Nat) : List Nat :=
  ((im.unmaskSets h p).filter fun y => y.1 == g).map Prod.snd

theorem PlanImage.mem_groupTiles : n ∈ im.groupTiles h p g ↔ (g, n) ∈ im.unmaskSets h p := by
  simp [PlanImage.groupTiles]

theorem PlanImage.nodup_groupTiles (im : PlanImage) (h p g : Nat) : (im.groupTiles h p g).Nodup :=
  (im.nodup_unmaskSets h p).sublist (List.filter_sublist.map Prod.snd)

/-- The lowest group that holds a MASKED tile swaps when its lists are consumed and no fold of it runs (R182). -/
theorem Round.foldSwap_eq (hst : r.state = .unmasking) (hring : (im.template h).isRing = false)
    (hleaf : (im.template h).isLeaf = false)
    (hgroup : (im.unmaskSets h p).find? (fun x => (r.set x.2).unmask == 0) = some (g, f))
    (hcomplete : r.groupComplete im h p g = true) (hno : ∀ o ∈ r.owners, o.position = p → o.commit.state ≠ 1) :
    r.foldSwap im h cluster beat p = r.swaps cluster beat p g (im.groupTiles h p g) := by
  have hfolding : ((im.groupTiles h p g).any (r.folding p)) = false := by
    rw [List.any_eq_false]
    intro n _ hn
    obtain ⟨o, ho, hcommit⟩ := Option.any_eq_true .. |>.mp hn
    have hat : o.isAt p n = true := List.find?_some (p := fun o : OwnerSet => o.isAt p n) ho
    simp only [OwnerSet.isAt, Bool.and_eq_true, beq_iff_eq] at hat hcommit
    exact hno o (List.mem_of_find?_eq_some ho) hat.1 hcommit.2
  have hfold : r.foldGroup im h p = some (g, im.groupTiles h p g) := by
    unfold Round.foldGroup
    simp only [hgroup, Option.map_some]
    rfl
  unfold Round.foldSwap
  simp only [hfold, hst, hring, hleaf, hfolding, hcomplete]
  simp
  rfl

/-- A swap at a position, whatever it does, changes owners and the next SEQ. -/
theorem Round.swapped_foldSwap (r : Round) (im : PlanImage) (h cluster beat p : Nat) :
    r.Swapped (r.foldSwap im h cluster beat p) := by
  unfold Round.foldSwap
  split
  · exact .refl r
  · split
    · exact .refl r
    · exact r.swapped_swaps ..

/-- Folds of a position that can be drained. -/
def Round.drainable (r : Round) (im : PlanImage) (p : Nat) (cut : Route → Bool) : List OwnerSet :=
  r.owners.filter fun o =>
    o.position == p && o.commit.state == 1 && o.commit.fold && !(r.set o.set).lock && !((im.commitRoutes o).any cut)

/-- Of a set with one owner, whose fold runs, that fold can be drained. -/
theorem Round.drainable_of_ownersAt {o : OwnerSet} (ho : r.ownersAt p n = [o]) (hstate : o.commit.state = 1)
    (hfold : o.commit.fold = true) (hlock : (r.set n).lock = false) (hcut : (im.commitRoutes o).any cut = false) :
    (r.drainable im p cut).filter (fun o => o.set == n) = [o] := by
  have hat : o.isAt p n = true := (List.mem_filter.mp (ho ▸ List.mem_singleton_self o : o ∈ r.ownersAt p n)).2
  have hset : o.set = n := by
    simp only [OwnerSet.isAt, Bool.and_eq_true, beq_iff_eq] at hat
    exact hat.2
  have hswap : (r.drainable im p cut).filter (fun o => o.set == n) = (r.ownersAt p n).filter fun o =>
      o.commit.state == 1 && o.commit.fold && !(r.set o.set).lock && !((im.commitRoutes o).any cut) := by
    unfold Round.drainable Round.ownersAt OwnerSet.isAt
    rw [List.filter_filter, List.filter_filter]
    refine List.filter_congr fun o _ => ?_
    ac_rfl
  rw [hswap, ho, List.filter_cons_of_pos (by simp [hstate, hfold, hset, hlock, hcut])]
  rfl

theorem Round.foldDrain_eq (r : Round) (im : PlanImage) (h p : Nat) (cut : Route → Bool) :
    r.foldDrain im h p cut = r.drainAll (im.modulus (im.template h)) p (r.drainable im p cut) := rfl

end

/-- The fields of a FOLDED set (R143, R182). -/
theorem TileSet.folded_eq (x : TileSet) (q : Nat → Nat) (o : OwnerSet) :
    (x.folded q o).unmask = 1 ∧ (x.folded q o).commits = x.commits + 1 ∧
      (x.folded q o).count = x.count + o.commit.added ∧ (x.folded q o).copy = addSet q 1 x.copy o.source ∧
      (x.folded q o).foldSeq = o.commit.seq := by
  obtain ⟨hcount, hcommits, -⟩ := TileSet.flip_counts
    { x with count := x.count + o.commit.added, commits := x.commits + 1, lastSeq := o.commit.seq }
    (addSet q 1 x.copy o.source)
  exact ⟨rfl, hcommits, hcount, TileSet.copy_flip .., rfl⟩

/-! FOLD. -/

section
variable {s : State} {k p c j g f : Nat} {im : PlanImage} {r : Round}

/-- With every link up no route is down. -/
theorem State.routeDown_of_up (h : ∀ l ∈ s.lead.links, l.down = false) (im : PlanImage) (o : OwnerSet) :
    (im.commitRoutes o).any s.routeDown = false := by
  rw [List.any_eq_false]
  intro x _ hx
  obtain ⟨l, hl, hdown⟩ := List.any_eq_true.mp hx
  simp [h l hl] at hdown

/-- FOLD swaps what is due and drains what can be drained (R182). -/
theorem exec_fold (hpos : (s.cluster k).position = some p) (hfailed : (s.cluster k).failed = false)
    (him : s.image c = some im) (hr : s.round? c j = some r) :
    ∃ t, exec (.fold k c j) s = .next t ∧ t.round? c j =
        some ((r.foldSwap im j k s.hal.beatCount p).foldDrain im j p s.routeDown) ∧ t = { s with rounds := t.rounds } := by
  have hsame (u : Round) : u.Same ((u.foldSwap im j k s.hal.beatCount p).foldDrain im j p s.routeDown) := by
    rw [Round.foldDrain_eq, Round.drainAll_frame, (u.swapped_foldSwap im j k s.hal.beatCount p).frame]
    exact ⟨rfl, rfl, rfl⟩
  have hexec : exec (.fold k c j) s = execFold k c j s := rfl
  rw [hexec]
  unfold execFold
  simp only [hpos, him, hfailed, Bool.false_eq_true, if_false]
  exact ⟨_, rfl, State.round?_updRound_of_some hsame hr, rfl⟩

/-- A complete group is folded: each MASKED tile's mask buffer is added to its committed copy, and no other tile changes
(R142, R143, R182; log 89). -/
theorem fold_folds_group (hpos : (s.cluster k).position = some p) (hfailed : (s.cluster k).failed = false)
    (hup : ∀ l ∈ s.lead.links, l.down = false) (hleaf : (im.template j).isLeaf = false)
    (hno : ∀ o ∈ r.owners, o.position = p → o.commit.state ≠ 1) (him : s.image c = some im) (hr : s.round? c j = some r)
    (hst : r.state = .unmasking) (hring : (im.template j).isRing = false)
    (hgroup : (im.unmaskSets j p).find? (fun x => (r.set x.2).unmask == 0) = some (g, f))
    (hcomplete : r.groupComplete im j p g = true) :
    ∃ t q, exec (.fold k c j) s = .next t ∧ t.round? c j = some q ∧
      (∀ n o, (g, n) ∈ im.unmaskSets j p → (r.set n).unmask = 0 → (r.set n).dataFault = false →
        (r.set n).lock = false → n < r.sets.length → r.owners.filter (fun o => o.isAt p n) = [o] →
        (q.set n).unmask = 1 ∧ (q.set n).commits = (r.set n).commits + 1 ∧ (q.set n).count = (r.set n).count ∧
        (q.set n).copy = addSet (im.modulus (im.template j)) 1 (r.set n).copy o.active ∧
        (q.owner? p n).map OwnerSet.active = some [] ∧ r.nextSeq ≤ (q.set n).foldSeq ∧ (q.set n).foldSeq < q.nextSeq) ∧
      (∀ n, (r.set n).unmask ≠ 0 → q.set n = r.set n) ∧ (∀ n, (g, n) ∉ im.unmaskSets j p → q.set n = r.set n) ∧
      q = { r with sets := q.sets, owners := q.owners, nextSeq := q.nextSeq } ∧ t = { s with rounds := t.rounds } := by
  obtain ⟨t, hexec, hq, hframe⟩ := exec_fold hpos hfailed him hr
  rw [Round.foldSwap_eq hst hring hleaf hgroup hcomplete hno] at hq
  have hswapped := r.swapped_swaps k s.hal.beatCount p g (im.groupTiles j p g)
  have hprepared := Round.prepared_swaps (cluster := k) (beat := s.hal.beatCount) (g := g) (l := im.groupTiles j p g) hno
  have howners := fun n o => Round.ownersAt_swaps (r := r) (cluster := k) (beat := s.hal.beatCount) (p := p) (g := g)
    (n := n) (o := o) (im.nodup_groupTiles j p g)
  generalize r.swaps k s.hal.beatCount p g (im.groupTiles j p g) = u at hq hswapped hprepared howners
  rw [Round.foldDrain_eq] at hq
  have hdrainable : ∀ o ∈ u.drainable im p s.routeDown, (g, o.set) ∈ im.unmaskSets j p ∧ (r.set o.set).unmask = 0 := by
    intro o ho
    obtain ⟨ho, hdue⟩ := List.mem_filter.mp ho
    simp only [Bool.and_eq_true, beq_iff_eq] at hdue
    obtain ⟨⟨⟨⟨hp, hstate⟩, -⟩, -⟩, -⟩ := hdue
    obtain ⟨hmem, hmasked⟩ := hprepared o ho hp hstate
    exact ⟨PlanImage.mem_groupTiles.mp hmem, hmasked⟩
  have hother (n : Nat) (hn : ∀ o ∈ u.drainable im p s.routeDown, n ≠ o.set) :
      (u.drainAll (im.modulus (im.template j)) p (u.drainable im p s.routeDown)).set n = r.set n :=
    (Round.drainAll_of_not_mem hn).1.trans (hswapped.set n)
  refine ⟨t, _, hexec, hq, fun n o hmem hmasked hfault hlock hlen ho => ?_, fun n hn => hother n fun o ho heq => ?_,
    fun n hn => hother n fun o ho heq => ?_, ?_, hframe⟩
  · obtain ⟨x, hx, hstate, hfold, hadded, hle, hlt⟩ := howners n o (PlanImage.mem_groupTiles.mpr hmem) hmasked ho
    have hmine := Round.drainable_of_ownersAt hx (by rw [OwnerSet.commit_swapped, hstate])
      (by rw [OwnerSet.commit_swapped, hfold]) (by rw [hswapped.set, hlock]) (State.routeDown_of_up hup im _)
    obtain ⟨hset, hown⟩ := Round.set_drainAll (q := im.modulus (im.template j)) hmine hx
      (by rw [hswapped.set, hmasked]) (by rw [hswapped.set, hfault]) (by rw [hswapped.frame]; exact hlen)
    have hsum : (o.swapped x).commit.added = 0 ∧ (o.swapped x).commit.seq = x.seq :=
      ⟨(congrArg CommitRec.added (o.commit_swapped x)).trans hadded, congrArg CommitRec.seq (o.commit_swapped x)⟩
    obtain ⟨hunmask, hcommits, hcount, hcopy, hseq⟩ := (r.set n).folded_eq (im.modulus (im.template j)) (o.swapped x)
    rw [hset, hswapped.set, hunmask, hcommits, hcount, hcopy, hseq, hsum.1, hsum.2, OwnerSet.source_swapped,
      Round.owner?_of_ownersAt hown, Option.map_some, OwnerSet.active_drained_swapped, Round.drainAll_frame]
    exact ⟨rfl, rfl, rfl, rfl, rfl, hle, hlt⟩
  · exact hn (heq ▸ (hdrainable o ho).2)
  · exact hn (heq ▸ (hdrainable o ho).1)
  · rw [Round.drainAll_frame, hswapped.frame]

/-- A fold that a beat boundary has swapped is drained (R143, R182). -/
theorem fold_drains {o : OwnerSet} (hpos : (s.cluster k).position = some p) (hfailed : (s.cluster k).failed = false)
    (hup : ∀ l ∈ s.lead.links, l.down = false) (him : s.image c = some im) (hr : s.round? c j = some r)
    (hswap : r.foldSwap im j k s.hal.beatCount p = r)
    (hmine : r.owners.filter (fun o => o.position == p && o.commit.state == 1 && o.commit.fold) = [o])
    (ho : r.owners.filter (fun x => x.isAt p o.set) = [o]) (hmasked : (r.set o.set).unmask = 0)
    (hfault : (r.set o.set).dataFault = false) (hlock : (r.set o.set).lock = false) (hlen : o.set < r.sets.length) :
    ∃ t q, exec (.fold k c j) s = .next t ∧ t.round? c j = some q ∧ (q.set o.set).unmask = 1 ∧
      (q.set o.set).foldSeq = o.commit.seq ∧ (q.set o.set).commits = (r.set o.set).commits + 1 ∧
      (q.set o.set).copy = addSet (im.modulus (im.template j)) 1 (r.set o.set).copy
        (if o.single then o.active else o.shadow) ∧
      (∀ n, n ≠ o.set → q.set n = r.set n) ∧ q = { r with sets := q.sets, owners := q.owners } ∧
      t = { s with rounds := t.rounds } := by
  obtain ⟨t, hexec, hq, hframe⟩ := exec_fold hpos hfailed him hr
  have hdrainable : r.drainable im p s.routeDown = [o] := by
    have hsplit : r.drainable im p s.routeDown = (r.owners.filter fun o =>
        o.position == p && o.commit.state == 1 && o.commit.fold).filter fun o =>
          !(r.set o.set).lock && !((im.commitRoutes o).any s.routeDown) := by
      unfold Round.drainable
      rw [List.filter_filter]
      refine List.filter_congr fun o _ => ?_
      ac_rfl
    rw [hsplit, hmine, List.filter_cons_of_pos (by simp [hlock, State.routeDown_of_up hup])]
    rfl
  rw [hswap, Round.foldDrain_eq, hdrainable] at hq
  obtain ⟨hunmask, hcommits, -, hcopy, hseq⟩ := (r.set o.set).folded_eq (im.modulus (im.template j)) o
  have hset := Round.set_drains (q := im.modulus (im.template j)) ho hmasked hfault hlen
  refine ⟨t, r.drains (im.modulus (im.template j)) p o, hexec, hq, ?_, ?_, ?_, ?_, fun n hn => Round.set_drains_ne hn,
    r.drains_frame .., hframe⟩
  · rw [hset, hunmask]
  · rw [hset, hseq]
  · rw [hset, hcommits]
  · rw [hset, hcopy]
    rfl

end

/-! All opcodes. -/

section
variable {s : State} {k p : Nat} {sp : RunningSpan} {im : PlanImage} {r : Round} {l : WorkList}

/-- Every removal opcode takes its items from its list and touches no committed sum (R172 to R188). -/
theorem removal_takes_items : ∀ x ∈ [(Instr.selfmask k, 0x03, masterKs, ListKind.self, 8),
      (.paircorr k, 0x04, masterKs, .pair, 8), (.shamir k, 0x05, masterAu, .shamir, 8),
      (.seedacc k, 0x07, masterAu, .seedAcc, seedItems (im.template sp.desc.cohort)),
      (.lwrmask k, 0x08, masterRg, .lwr, 8)],
    s.Carries k x.2.1 p sp → s.OnRound sp im r → r.list? p x.2.2.2.1 = some l →
    (s.roundKey? r 0 (some x.2.2.1)).isSome = true →
    ∃ t q, exec x.1 s = .next t ∧ t.round? sp.ctx sp.desc.cohort = some q ∧
      q.list? p x.2.2.2.1 = some { l with consumed := l.consumed + min x.2.2.2.2 (l.items.length - l.consumed) } ∧
      (∀ j, { q.set j with unmask := (r.set j).unmask, cause := (r.set j).cause } = r.set j) ∧
      (∀ j, (r.set j).unmask = 1 ∨ (r.set j).unmask = 2 → (q.set j).unmask = (r.set j).unmask) ∧
      q = { r with sets := q.sets, owners := q.owners, mask := q.mask } ∧
      (t.cluster k).span = some { sp with done := true } ∧ (∀ i, i ≠ k → t.cluster i = s.cluster i) ∧
      t = { s with set := t.set, setA := t.setA, setB := t.setB, slotB := t.slotB, recorder := t.recorder,
                   mgmt := t.mgmt, clusters := t.clusters, rounds := t.rounds } := by
  intro x hx hc hon hl hkey
  simp only [List.mem_cons, List.not_mem_nil, or_false] at hx
  rcases hx with rfl | rfl | rfl | rfl | rfl
  · exact exec_items_leave (exec_selfmask hc hon)
      (fun _ _ _ => State.became_runItem fun r => r.removes_addMask ..) hc hon hl hkey
  · exact exec_items_leave (exec_paircorr hc hon)
      (fun _ _ _ => State.became_runItem fun r => r.removes_addMask ..) hc hon hl hkey
  · exact exec_items_leave (exec_shamir hc hon) (fun _ _ _ => State.became_shamirItem) hc hon hl hkey
  · exact exec_items_leave (exec_seedacc hc hon)
      (fun _ _ _ => State.became_runItem fun r => r.removes_addSeedItem ..) hc hon hl hkey
  · exact exec_items_leave (exec_lwrmask hc hon)
      (fun _ _ _ => State.became_runItem fun r => r.removes_addMask ..) hc hon hl hkey

variable {x : Item} {v : Bytes}

/-- A self seed whose shares agree is HELD (R173). -/
theorem shamir_holds_self (hc : s.Carries k 0x05 p sp) (hon : s.OnRound sp im r)
    (hitem : (r.takeItems p .shamir 8).1 = [x]) (hkey : (s.roundKey? r 0 (some masterAu)).isSome = true)
    (hx : x.kind = 3) (hflag : x.flag = false) (hready : (r.mask.secrets.getD x.slot .new).stateSelf = 2)
    (hv : reconstruct (im.template sp.desc.cohort).threshold (r.sharesOf x.slot 1) = some v) :
    ∃ t q, exec (.shamir k) s = .next t ∧ t.round? sp.ctx sp.desc.cohort = some q ∧
      q.mask.secrets = updAt r.mask.secrets x.slot (fun y => { y with stateSelf := 3, selfSeed := v }) ∧
      q.sets = r.sets ∧ q.mask.recompute = r.mask.recompute := by
  obtain ⟨t, q, hexec, hq, hsecrets, hrecompute, hsets⟩ := shamir_holds (v := v) hc hon hitem hkey hx
    (by rw [hflag]; exact hready) (by rw [hflag]; exact hv)
  refine ⟨t, q, hexec, hq, ?_, hsets, ?_⟩
  · rw [hsecrets, Round.holdSecret]
    simp [hflag]
  · rw [hrecompute, Round.holdSecret]
    simp [hflag]

/-- A key whose shares agree is HELD, and the pairwise seeds that need it are due (R173, R177). -/
theorem shamir_holds_key (hc : s.Carries k 0x05 p sp) (hon : s.OnRound sp im r)
    (hitem : (r.takeItems p .shamir 8).1 = [x]) (hkey : (s.roundKey? r 0 (some masterAu)).isSome = true)
    (hx : x.kind = 3) (hflag : x.flag = true) (hready : (r.mask.secrets.getD x.slot .new).stateKey = 2)
    (hv : reconstruct (im.template sp.desc.cohort).threshold (r.sharesOf x.slot 2) = some v) :
    ∃ t q, exec (.shamir k) s = .next t ∧ t.round? sp.ctx sp.desc.cohort = some q ∧
      q.mask.secrets = updAt r.mask.secrets x.slot (fun y => { y with stateKey := 3, privateKey := v }) ∧
      q.mask.recompute = r.mask.recompute ++
        (r.recomputeFor (im.template sp.desc.cohort) x.slot).map (fun i => (x.slot, i)) ∧ q.sets = r.sets := by
  obtain ⟨t, q, hexec, hq, hsecrets, hrecompute, hsets⟩ := shamir_holds (v := v) hc hon hitem hkey hx
    (by rw [hflag]; exact hready) (by rw [hflag]; exact hv)
  refine ⟨t, q, hexec, hq, ?_, ?_, hsets⟩
  · rw [hsecrets, Round.holdSecret]
    simp [hflag]
  · rw [hrecompute, Round.holdSecret]
    simp [hflag]

end

/-- Settles O50: what one item of each list does, what an execution leaves alone, and the fold of a complete group. -/
theorem masksAreRemoved : Obligations.MasksAreRemoved :=
  ⟨fun _ _ _ _ _ _ _ => removal_takes_items,
    fun _ _ _ _ _ _ _ => selfmask_subtracts,
    fun _ _ _ _ _ _ _ hc hon hitem _ => selfmask_voids hc hon hitem,
    fun _ _ _ _ _ _ _ _ => paircorr_subtracts,
    fun _ _ _ _ _ _ _ _ hc hon hitem hkey hx hflag hready _ => shamir_holds_self hc hon hitem hkey hx hflag hready,
    fun _ _ _ _ _ _ _ _ hc hon hitem hkey hx hflag hready _ => shamir_holds_key hc hon hitem hkey hx hflag hready,
    fun _ _ _ _ _ _ _ hc hon hitem hkey hx hflag hready _ => shamir_fails hc hon hitem hkey hx hflag hready,
    fun _ _ _ _ _ _ _ => selfmask_loses,
    fun _ _ _ _ _ _ => pairwiseRecompute_stores,
    fun _ _ _ _ _ _ _ => seedacc_adds_base,
    fun _ _ _ _ _ _ _ => seedacc_adds_part,
    fun _ _ _ _ _ _ _ => lwrmask_subtracts,
    fun _ _ _ _ _ _ _ _ _ => fold_folds_group,
    fun _ _ _ _ _ _ _ _ => fold_drains⟩

end Sys2Proof.Machine
end

section
/-!
References of the Halyard (R67 to R73): what choosing one and losing some come to, and the commands that report on them.
-/
namespace Sys2Proof.Machine

/-- Records written over a change of the Halyard. -/
theorem Recorded.of_hal {a t : State} {h : Halyard} (hrec : Recorded { a with hal := h } t) :
    Recorded { a with hal := t.hal } t := by
  rw [hrec.keeps State.hal State.record_hal]
  exact hrec

theorem State.record_set_hal (s : State) (code source : Nat) (ctx : Option Nat) (p : Bytes) :
    (s.record code source ctx p).set.hal = s.set.hal :=
  (congrArg Settings.hal (s.record_set_unrecorded code source ctx p) :)

/-- The Halyard without the choice of a reference and the state that goes with it. -/
def Halyard.offRef (h : Halyard) : Halyard :=
  { h with state := .start, acqFrom := .start, refActive := 0, holdoverSince := none }

section
variable {s : State}

/-- Choosing a reference touches the Halyard and may be recorded. -/
theorem State.recorded_chooseRef (s : State) : ∃ h, Recorded { s with hal := h } s.chooseRef := by
  unfold State.chooseRef
  dsimp only
  split
  · exact ⟨_, .refl _⟩
  · split
    · split
      · exact ⟨_, .one ..⟩
      · exact ⟨_, .refl _⟩
      · exact ⟨_, .refl _⟩
    · split
      · split <;> exact ⟨_, .refl _⟩
      · exact ⟨_, .one ..⟩

theorem State.chooseRef_offRef (s : State) : s.chooseRef.hal.offRef = s.hal.offRef := by
  unfold State.chooseRef
  dsimp only
  split
  · rfl
  · split
    · split
      · rw [State.record_hal]; rfl
      · rfl
      · rfl
    · split
      · split <;> rfl
      · rw [State.record_hal]; rfl

/-- The loss of the last reference while LOCKED begins HOLDOVER (R73). -/
theorem State.chooseRef_holdover (hbest : s.hal.best = 0) (hactive : s.hal.refActive ≠ 0)
    (hst : s.hal.state = .locked) :
    s.chooseRef.hal = { s.hal with refActive := 0, state := .holdover, holdoverSince := some s.aon } := by
  simp [State.chooseRef, hbest, hactive.symm, State.updHal, hst]

/-- In START the first reference is acquired (R69, R73). -/
theorem State.chooseRef_acquire {b : Nat} (hbest : s.hal.best = b) (hb : b ≠ 0) (hactive : s.hal.refActive = 0)
    (hst : s.hal.state = .start) :
    s.chooseRef.hal = { s.hal with refActive := b, state := .acquiring, acqFrom := .start } := by
  simp [State.chooseRef, hbest, hb, hactive, State.updHal, hst]

/-- With no reference in use none is replaced, so the choice is not recorded. -/
theorem State.chooseRef_of_idle (hactive : s.hal.refActive = 0) : s.chooseRef = { s with hal := s.chooseRef.hal } := by
  unfold State.chooseRef
  dsimp only
  rw [hactive]
  split
  · rfl
  · rw [if_pos rfl]
    split <;> rfl

/-- The lowest four bits of REF_PRIORITY name the first choice (R69, R70). -/
theorem Halyard.best_of_first {h : Halyard} {ref : Nat} (href : ref ≠ 0) (hq : ref ∈ h.qualified)
    (hp : h.use.refPriority.toNat % 16 = ref) : h.best = ref := by
  have hbits : bits h.use.refPriority.toNat 3 0 = ref := by simpa [bits] using hp
  simp [Halyard.best, hbits, href, hq]

/-- With no reference qualified there is none to use. -/
theorem Halyard.best_of_none {h : Halyard} (hq : h.qualified = []) : h.best = 0 := by
  simp [Halyard.best, hq]

/-- The Halyard with one more qualified reference. -/
def Halyard.qualify (h : Halyard) (ref : Nat) : Halyard := { h with qualified := ref :: h.qualified }

/-- The first choice, once it qualifies in START with no reference in use, is acquired (R69). -/
theorem State.chooseRef_qualify {ref : Nat} (href : ref ≠ 0) (hactive : s.hal.refActive = 0)
    (hst : s.hal.state = .start) (hp : s.hal.use.refPriority.toNat % 16 = ref) :
    (s.updHal (Halyard.qualify · ref)).chooseRef.hal =
      { s.hal.qualify ref with refActive := ref, state := .acquiring, acqFrom := .start } := by
  have hbest : (s.hal.qualify ref).best = ref := Halyard.best_of_first href List.mem_cons_self hp
  exact State.chooseRef_acquire (s := s.updHal (Halyard.qualify · ref)) hbest href hactive hst

/-- The Halyard whose references of a list no longer qualify. -/
def Halyard.without (h : Halyard) (refs : List Nat) : Halyard :=
  { h with qualified := h.qualified.filter fun x => !refs.contains x
           syncGood := refs.foldl (fun p r => setPair p r 0) h.syncGood }

theorem Halyard.mem_without {h : Halyard} {refs : List Nat} {x : Nat} :
    x ∈ (h.without refs).qualified ↔ x ∈ h.qualified ∧ x ∉ refs := by
  simp [Halyard.without]

theorem State.loseRefs_of_mem {refs : List Nat} (h : s.hal.refActive ∈ refs) :
    s.loseRefs refs = (s.updHal (Halyard.without · refs)).chooseRef := if_pos (List.contains_iff_mem.mpr h)

theorem State.loseRefs_of_not_mem {refs : List Nat} (h : s.hal.refActive ∉ refs) :
    s.loseRefs refs = s.updHal (Halyard.without · refs) := if_neg (mt List.contains_iff_mem.mp h)

theorem State.recorded_loseRefs (s : State) (refs : List Nat) :
    ∃ h, Recorded { s with hal := h } (s.loseRefs refs) := by
  by_cases h : s.hal.refActive ∈ refs
  · rw [State.loseRefs_of_mem h]
    exact State.recorded_chooseRef _
  · rw [State.loseRefs_of_not_mem h]
    exact ⟨_, .refl _⟩

/-- But for the choice of a reference, losing some only ends their qualification. -/
theorem State.loseRefs_offRef (s : State) (refs : List Nat) :
    (s.loseRefs refs).hal.offRef = (s.hal.without refs).offRef := by
  by_cases h : s.hal.refActive ∈ refs
  · rw [State.loseRefs_of_mem h]
    exact State.chooseRef_offRef _
  · rw [State.loseRefs_of_not_mem h]
    rfl

theorem State.mem_loseRefs {refs : List Nat} {x : Nat} :
    x ∈ (s.loseRefs refs).hal.qualified ↔ x ∈ s.hal.qualified ∧ x ∉ refs := by
  have hq : (s.loseRefs refs).hal.qualified = (s.hal.without refs).qualified :=
    (congrArg Halyard.qualified (s.loseRefs_offRef refs) :)
  rw [hq, Halyard.mem_without]

/-- The loss of the only qualified reference, in use while LOCKED, begins HOLDOVER (R73). -/
theorem State.loseRefs_last {ref : Nat} (hactive : s.hal.refActive = ref) (hall : ∀ x ∈ s.hal.qualified, x = ref)
    (href : ref ≠ 0) (hst : s.hal.state = .locked) : (s.loseRefs [ref]).hal =
      { s.hal.without [ref] with refActive := 0, state := .holdover, holdoverSince := some s.aon } := by
  have hempty : (s.hal.without [ref]).qualified = [] := List.eq_nil_iff_forall_not_mem.mpr fun x hx => by
    obtain ⟨hx, hne⟩ := Halyard.mem_without.mp hx
    exact hne (List.mem_singleton.mpr (hall x hx))
  have hbest : (s.hal.without [ref]).best = 0 := Halyard.best_of_none hempty
  rw [State.loseRefs_of_mem (List.mem_singleton.mpr hactive)]
  exact State.chooseRef_holdover (s := s.updHal (Halyard.without · [ref])) hbest (hactive.symm ▸ href) hst

end

/-! Messages of the PTP references (R67, R68). -/

section
variable {s : State} {ref domain transport now : Nat}

/-- A message of the own domain and transport to a port with power is taken (R67). -/
theorem State.ptp_heard (hpow : s.ptpPowered ref = true) : (!((s.at now).hal.hears s.hal.use.ptpDomain
    s.hal.use.ptpTransport && (s.at now).ptpPowered ref)) = false := by
  have hpow' : (s.at now).ptpPowered ref = true := hpow
  simp [Halyard.hears, hpow']

/-- A message of another domain or transport, or to a port without power, is not taken (R67, R405). -/
theorem State.ptp_deaf (h : domain ≠ s.hal.use.ptpDomain ∨ transport ≠ s.hal.use.ptpTransport ∨
      s.power.powered.getLsbD (if ref = 3 then 10 else 1) = false) :
    (!(s.hal.hears domain transport && s.ptpPowered ref)) = true := by
  rcases h with h | h | h
  · simp [Halyard.hears, h]
  · simp [Halyard.hears, h]
  · simp only [State.ptpPowered, h, Bool.and_false, Bool.not_false]

/-- The run of good Sync intervals after one more, of which `before` stood before it (R68). -/
def syncRun (before t1 t2 t3 t4 : Nat) : Nat :=
  if (ptpOffset t1 t2 t3 t4).natAbs ≤ 40 then min 16 (before + 1) else 0

/-- A Sync that is heard is answered, and its offset goes on the run, which an interval without a Sync has ended. -/
theorem exec_ptpSyncRx (hpow : s.ptpPowered ref = true) (t1 t2 t3 t4 : Nat) :
    exec (.ptpSyncRx ref ⟨s.hal.use.ptpDomain, s.hal.use.ptpTransport, t1, t2, t3, t4⟩ now) s =
      .next { s.at now with
        out := s.out ++ [.delayReq ref]
        hal := { s.hal with
          lastSync := setPair s.hal.lastSync ref (s.at now).aon
          syncGood := setPair s.hal.syncGood ref (syncRun
            (if getPair s.hal.lastSync ref + 2 * syncTicks s.hal.use.ptpLogSync ≤ (s.at now).aon then 0
              else getPair s.hal.syncGood ref) t1 t2 t3 t4) } } := by
  have hheard := State.ptp_heard (now := now) hpow
  change execPtpSyncRx .. = _
  simp only [execPtpSyncRx, hheard, Bool.false_eq_true, if_false, decide_eq_true_eq]
  rfl

theorem exec_ptpAnnounceRx (hpow : s.ptpPowered ref = true) :
    exec (.ptpAnnounceRx ⟨ref, s.hal.use.ptpDomain, s.hal.use.ptpTransport⟩ now) s =
      .next { s.at now with hal := { s.hal with lastAnnounce := setPair s.hal.lastAnnounce ref (s.at now).aon } } :=
  if_neg (Bool.eq_false_iff.mp (State.ptp_heard hpow))

end

/-! Reports of a reference (R68, R69, R73). -/

section
variable {s : State} {ref hz now : Nat}

/-- REF_IN of 10 MHz within 20 ppm (R68). -/
theorem Halyard.refWithin_of_range {h : Halyard} (hnom : h.use.refInFreq = 10) (hlow : 9999800000 ≤ hz)
    (hhigh : hz ≤ 10000200000) : h.refWithin hz 20 = true := by
  have : ((hz : Int) - (10000000000 : Nat)).natAbs * 1000000 ≤ 20 * 10000000000 := by omega
  simpa [Halyard.refWithin, hnom] using this

theorem edgesSpaced_of_range {a b c : Nat} (h : ∀ x ∈ [a, b, c], 999999000 ≤ x ∧ x ≤ 1000001000) :
    edgesSpaced [a, b, c] = true := by
  have hnear (x : Nat) (hx : x ∈ [a, b, c]) : ((x : Int) - 1000000000).natAbs ≤ 1000 := by
    obtain ⟨hlow, hhigh⟩ := h x hx
    omega
  simpa [edgesSpaced] using hnear

/-- What qualifies a reference: the edges and the frequency of reference 1, the Sync intervals of the others (R68). -/
def State.qualifies (s : State) (seen : RefReport) : Bool :=
  if seen.ref = 1 then edgesSpaced seen.spacings && s.hal.refWithin seen.milliHz 20
  else decide (16 ≤ getPair s.hal.syncGood seen.ref)

theorem State.qualifies_of_report {a b c : Nat}
    (h : (ref = 1 ∧ (∀ x ∈ [a, b, c], 999999000 ≤ x ∧ x ≤ 1000001000) ∧ s.hal.use.refInFreq = 10 ∧ 9999800000 ≤ hz ∧
        hz ≤ 10000200000) ∨ (ref = 2 ∧ s.hal.syncGood.1 = 16) ∨ (ref = 3 ∧ s.hal.syncGood.2 = 16)) :
    s.qualifies ⟨ref, [a, b, c], hz⟩ = true := by
  rcases h with ⟨rfl, hedges, hnom, hlow, hhigh⟩ | ⟨rfl, hgood⟩ | ⟨rfl, hgood⟩
  · simp [State.qualifies, edgesSpaced_of_range hedges, Halyard.refWithin_of_range hnom hlow hhigh]
  · simp [State.qualifies, getPair, hgood]
  · simp [State.qualifies, getPair, hgood]

/-- A reference that meets its terms qualifies; with none in use the best is chosen (R68, R69). -/
theorem exec_referenceQualified {l : List Nat} (hlow : 1 ≤ ref) (hhigh : ref ≤ 3) (hnew : ref ∉ s.hal.qualified)
    (ht0 : s.start.t0.isSome = true) (hpll : s.start.pllLocked = true) (hmeets : s.qualifies ⟨ref, l, hz⟩ = true) :
    exec (.referenceQualified ⟨ref, l, hz⟩ now) s =
      .next (if s.hal.refActive = 0
        then ((s.at now).updHal (Halyard.qualify · ref)).chooseRef
        else (s.at now).updHal (Halyard.qualify · ref)) := by
  have hnone : s.start.t0.isNone = false := Option.isNone_eq_false_iff.mpr ht0
  have hguard : ¬ (ref = 0 ∨ 3 < ref ∨ (s.at now).hal.qualified.contains ref ∨ (s.at now).start.t0.isNone ∨
      !(s.at now).start.pllLocked ∨ !s.qualifies ⟨ref, l, hz⟩) := by
    simp [hnew, hnone, hpll, hmeets]
    omega
  exact if_neg hguard

/-- What loses a reference (R68, R73). -/
def State.loses (s : State) (seen : RefLoss) : Bool :=
  if seen.ref = 1 then decide (2000 < seen.lateNs) || !s.hal.refWithin seen.milliHz 50
  else decide (getPair s.hal.lastSync seen.ref + 3 * syncTicks s.hal.use.ptpLogSync ≤ s.aon ∨
    getPair s.hal.lastAnnounce seen.ref + 6 * tickS ≤ s.aon)

theorem State.loses_of_report {late : Nat} (h : if ref = 1 then 2000 < late else
      getPair s.hal.lastSync ref + 3 * syncTicks s.hal.use.ptpLogSync ≤ s.aon) : s.loses ⟨ref, late, hz⟩ = true := by
  unfold State.loses
  by_cases href : ref = 1
  · rw [if_pos href] at h ⊢
    simp [h]
  · rw [if_neg href] at h ⊢
    simp [h]

theorem exec_referenceLost {seen : RefLoss} (hq : seen.ref ∈ s.hal.qualified) (hlost : (s.at now).loses seen = true) :
    exec (.referenceLost seen now) s = .next ((s.at now).loseRefs [seen.ref]) := by
  have hguard : ¬ ((!(s.at now).hal.qualified.contains seen.ref || !(s.at now).loses seen) = true) := by
    simp [hq, hlost]
  exact if_neg hguard

end

/-- Settles O5: each message and report by its law; the loss of a reference by what choosing another one comes to. -/
theorem referencesQualifyAndFail : Obligations.ReferencesQualifyAndFail := by
  unfold Obligations.ReferencesQualifyAndFail
  refine ⟨?sync, ?syncLate, ?deaf, ?announce, ?qualified, ?lost⟩
  case sync =>
    intro s t1 t2 t3 t4 now hpow hnext
    refine ⟨_, exec_ptpSyncRx (ref := 2) hpow t1 t2 t3 t4, ?_⟩
    rw [show getPair s.hal.lastSync 2 = s.hal.lastSync.1 from rfl, if_neg (Nat.not_le.mpr hnext)]
    rfl
  case syncLate =>
    intro s t1 t2 t3 t4 now hpow hmissed
    refine ⟨_, exec_ptpSyncRx (ref := 3) hpow t1 t2 t3 t4, ?_⟩
    rw [show getPair s.hal.lastSync 3 = s.hal.lastSync.2 from rfl, if_pos hmissed]
    rfl
  case deaf =>
    intro s ref domain transport t1 t2 t3 t4 now h
    exact ⟨if_pos (State.ptp_deaf (s := s.at now) h), if_pos (State.ptp_deaf (s := s.at now) h)⟩
  case announce =>
    intro s now hport hdata
    exact ⟨⟨_, exec_ptpAnnounceRx (ref := 2) hport, rfl⟩, ⟨_, exec_ptpAnnounceRx (ref := 3) hdata, rfl⟩⟩
  case qualified =>
    intro s ref a b c hz now hlow hhigh hnew ht0 hpll hmeets
    refine ⟨_, exec_referenceQualified hlow hhigh hnew ht0 hpll (State.qualifies_of_report hmeets), ?_⟩
    by_cases hactive : s.hal.refActive = 0
    · rw [if_pos hactive]
      have hkeep := State.chooseRef_offRef ((s.at now).updHal (Halyard.qualify · ref))
      refine ⟨(congrArg Halyard.qualified hkeep :), fun h => absurd hactive h, fun _ hst hprio => ?_,
        (congrArg Halyard.beatCount hkeep :), (congrArg Halyard.seconds hkeep :), (congrArg Halyard.level hkeep :),
        State.chooseRef_of_idle hactive⟩
      rw [State.chooseRef_qualify (s := s.at now) (Nat.ne_of_gt hlow) hactive hst hprio]
      exact ⟨rfl, rfl, rfl⟩
    · rw [if_neg hactive]
      exact ⟨rfl, fun _ => rfl, fun h => absurd h hactive, rfl, rfl, rfl, rfl⟩
  case lost =>
    intro s ref late hz now hq hlost
    have hkeep := (s.at now).loseRefs_offRef [ref]
    obtain ⟨h, hrec⟩ := (s.at now).recorded_loseRefs [ref]
    refine ⟨_, exec_referenceLost hq (State.loses_of_report hlost), fun x => by simp [State.mem_loseRefs],
      fun hother => ?_, fun hactive hall href hst => ?_, (congrArg Halyard.beatCount hkeep :),
      (congrArg Halyard.seconds hkeep :), (congrArg Halyard.level hkeep :), hrec.of_hal⟩
    · rw [State.loseRefs_of_not_mem (by simpa using hother)]
      exact ⟨rfl, rfl⟩
    · rw [State.loseRefs_last (s := s.at now) hactive hall href hst]
      exact ⟨rfl, rfl, rfl⟩

end Sys2Proof.Machine
end

section
/-!
States of the Halyard (R71 to R73, R537) and the core rail before a change of level (R78, R407).
-/
namespace Sys2Proof.Machine

/-- The Halyard once SECONDS is set: but for a rise by one, what is pending for a second is cancelled (R537). -/
def Halyard.secondsSet (h : Halyard) (v : Nat) (step : Int) : Halyard :=
  { h with seconds := v
           pendingLevel := if step = 0 then h.pendingLevel else none
           pendingAlign := if step = 0 then h.pendingAlign else none }

/-- Setting SECONDS touches the Halyard, and records what it cancels (R537). -/
theorem State.recorded_setSeconds (s : State) (v : Nat) (step : Int) :
    Recorded (s.updHal (Halyard.secondsSet · v step)) (s.setSeconds v step) := by
  unfold State.setSeconds State.updHal Halyard.secondsSet
  dsimp only
  by_cases hstep : step = 0
  · simp only [if_pos hstep]
    exact .refl _
  · simp only [if_neg hstep]
    split
    · split
      · exact (Recorded.one ..).trans (.one ..)
      · exact .one ..
    · split
      · exact .one ..
      · exact .refl _

section
variable {s : State} {now : Nat}

/-- LOCKED begins; with no plan admitted the beat phase is stepped to the reference (R72, R73). -/
def State.locks (s : State) (p : Int) : State :=
  let s := s.updHal fun h =>
    { h with state := .locked, holdoverFlag := false, holdoverSince := none, everLocked := true, phaseOffset := p }
  if s.plansAdmitted then s else s.stepPhase

theorem State.locks_eq (s : State) (p : Int) : s.locks p = { s with hal := { s.hal with
    state := .locked, holdoverFlag := false, holdoverSince := none, everLocked := true, phaseOffset := p
    lastEdge := if s.plansAdmitted then s.hal.lastEdge else s.aon
    sinceEdge := if s.plansAdmitted then s.hal.sinceEdge else 0
    use := if s.plansAdmitted then s.hal.use else s.set.hal } } := by
  have hplans (f : Halyard → Halyard) : (s.updHal f).plansAdmitted = s.plansAdmitted := rfl
  unfold State.locks
  dsimp only
  rw [hplans]
  cases s.plansAdmitted <;> rfl

theorem State.locks_updHal (s : State) (p : Int) (f : Halyard → Halyard) :
    (s.locks p).updHal f = { s with hal := f (s.locks p).hal } := by
  rw [State.locks_eq]
  rfl

/-- The Halyard at LOCKED: SECONDS starts from 0 at the first one since a POWER-ON (R537). -/
def State.lockedHal (s : State) (p : Int) : Halyard :=
  if s.hal.everLocked then (s.locks p).hal else (s.locks p).hal.secondsSet 0 (-(s.hal.seconds : Int))

theorem State.lockedHal_eq (s : State) (p : Int) : s.lockedHal p = { s.hal with
    state := .locked, holdoverFlag := false, holdoverSince := none, everLocked := true, phaseOffset := p
    seconds := if s.hal.everLocked then s.hal.seconds else 0
    lastEdge := if s.plansAdmitted then s.hal.lastEdge else s.aon
    sinceEdge := if s.plansAdmitted then s.hal.sinceEdge else 0
    use := if s.plansAdmitted then s.hal.use else s.set.hal
    pendingLevel := (s.lockedHal p).pendingLevel, pendingAlign := (s.lockedHal p).pendingAlign } := by
  unfold State.lockedHal
  rw [State.locks_eq]
  cases s.hal.everLocked <;> rfl

/-- A phase within the tolerance of every reference ends ACQUIRING in LOCKED, which is recorded (R72). -/
theorem exec_halyardLocked {p : Int} (hst : s.hal.state = .acquiring) (href : s.hal.refActive ≠ 0) (hlow : -10000 ≤ p)
    (hhigh : p ≤ 10000) : ∃ t, exec (.halyardLocked ⟨p, now⟩) s = .next t ∧
      Recorded { s.at now with hal := (s.at now).lockedHal p } t := by
  have htol : 10000 ≤ lockTolerance (s.at now).hal.refActive := by
    unfold lockTolerance
    split <;> omega
  have hguard : ¬ ((s.at now).hal.state ≠ .acquiring ∨ (s.at now).hal.refActive = 0 ∨
      lockTolerance (s.at now).hal.refActive < p.natAbs) := by
    have hnear : p.natAbs ≤ 10000 := by omega
    simp [hst, href]
    exact hnear.trans htol
  have hseconds : ((s.at now).locks p).hal.seconds = s.hal.seconds := by rw [State.locks_eq]; rfl
  refine ⟨_, if_neg hguard, Recorded.trans ?_ (.one ..)⟩
  change Recorded _ (if !s.hal.everLocked then
    ((s.at now).locks p).setSeconds 0 (-(((s.at now).locks p).hal.seconds : Int)) else (s.at now).locks p)
  rw [hseconds, State.lockedHal, State.at_hal]
  cases s.hal.everLocked
  · have hrec := State.recorded_setSeconds ((s.at now).locks p) 0 (-(s.hal.seconds : Int))
    rw [State.locks_updHal] at hrec
    exact hrec
  · exact State.locks_updHal _ p id ▸ Recorded.refl _

/-- A holdover of 60 s is flagged and recorded once (R73). -/
theorem exec_holdover60sExpiry {b : Nat} (hsince : s.hal.holdoverSince = some b)
    (hdue : b + 60 * tickS ≤ (s.at now).aon) (hflag : s.hal.holdoverFlag = false) : exec (.holdover60sExpiry now) s =
      .next ({ s.at now with hal := { s.hal with holdoverFlag := true } }.record 0x04030003 (srcHoist 0) none []) := by
  change execHoldover60sExpiry now s = _
  unfold execHoldover60sExpiry
  dsimp only
  split
  · next c hc =>
    obtain rfl : b = c := Option.some.inj (hsince.symm.trans hc)
    exact if_pos ⟨hdue, by simp [hflag]⟩
  · next hc => cases hsince.symm.trans hc

/-- FREE-RUN is due 30 s after stage C with nothing qualified (R71). -/
theorem State.enterFreeRun_of_due (hst : s.hal.state = .start) (hallow : s.set.allowFreeRun = true)
    (hq : s.hal.qualified = []) (hstage : s.start.stage = some 3) (hdue : s.start.stageCAt + 30 * tickS ≤ s.aon) :
    s.enterFreeRun = s.updHal fun h => { h.edgesFromBeat with state := .freeRun } :=
  if_pos (by simp [State.freeRunDue, State.stageCDone, hst, hallow, hq, hstage, hdue])

end

/-- Settles O6: what LOCKED sets is read off its equation; the two timers have one outcome each. -/
theorem halyardStatesChange : Obligations.HalyardStatesChange := by
  unfold Obligations.HalyardStatesChange
  refine ⟨?locked, fun _ _ _ => exec_holdover60sExpiry, ?freeRun⟩
  case locked =>
    intro s p now hst href hlow hhigh
    obtain ⟨t, hexec, hrec⟩ := exec_halyardLocked (now := now) hst href hlow hhigh
    have hhal := (hrec.keeps State.hal State.record_hal).trans ((s.at now).lockedHal_eq p)
    refine ⟨t, hexec, (congrArg Halyard.state hhal :), (congrArg Halyard.holdoverFlag hhal :),
      (congrArg Halyard.holdoverSince hhal :), (congrArg Halyard.everLocked hhal :),
      (congrArg Halyard.phaseOffset hhal :), (congrArg Halyard.seconds hhal :), fun hplans => ?_, fun hplans => ?_,
      (congrArg Halyard.beatCount hhal :), (congrArg Halyard.level hhal :), (congrArg Halyard.refActive hhal :),
      hrec.of_hal⟩
    all_goals
      have hat : (s.at now).plansAdmitted = s.plansAdmitted := rfl
      simp [hhal, hat, hplans]
  case freeRun =>
    intro s now hst hallow hq hstage hdue
    exact congrArg Host.Outcome.next (State.enterFreeRun_of_due (s := s.at now) hst hallow hq hstage hdue)

/-! The core rail (R78, R407). -/

section
variable {s : State} {now : Nat} {x : LevelChange}

/-- 1,500 ms before the edge of an upward change the rail starts to ramp (R407). -/
theorem exec_railRampStart_of_pending (hpend : s.hal.pendingLevel = some x) (hup : s.hal.level < x.target)
    (hdue : (s.at now).edgeTime x.edge ≤ (s.at now).aon + 1500 * tickMs) :
    exec (.railRampStart now) s = .next ((s.at now).updPower fun p => { p with ramping := true }) := by
  change execRailRampStart now s = _
  simp only [execRailRampStart, State.at_hal, hpend]
  exact if_pos ⟨hup, hdue⟩

/-- After a downward change the rail goes down to the level in force (R407). -/
theorem exec_railRampStart_of_none (hpend : s.hal.pendingLevel = none) (hdown : s.hal.level < s.power.railLevel) :
    exec (.railRampStart now) s =
      .next ((s.at now).updPower fun p => { p with railLevel := s.hal.level, ramping := false }) := by
  change execRailRampStart now s = _
  simp only [execRailRampStart, State.at_hal, hpend]
  exact if_pos hdown

/-- 100 ms before the edge of an upward change the rail stands at the target, or the change is dropped (R78). -/
theorem exec_railReadyCheck {ready : Bool} (hpend : s.hal.pendingLevel = some x) (hup : s.hal.level < x.target)
    (hdue : (s.at now).edgeTime x.edge ≤ (s.at now).aon + 100 * tickMs) :
    exec (.railReadyCheck ready now) s =
      if ready && s.power.ramping then
        .next ((s.at now).updPower fun p => { p with railLevel := x.target, ramping := false })
      else .next ((((s.at now).updHal fun h => { h with pendingLevel := none }).updPower
        fun p => { p with ramping := false }).record 0x0403000B (srcHoist 0) none (levelPayload x.target x.edge)) := by
  change execRailReadyCheck ready now s = _
  simp only [execRailReadyCheck, State.at_hal, hpend]
  exact if_pos ⟨hup, hdue⟩

end

/-- Settles O7, one law of the rail for each case. -/
theorem railPrecedesUpwardChange : Obligations.RailPrecedesUpwardChange := by
  unfold Obligations.RailPrecedesUpwardChange
  refine ⟨fun s now x => exec_railRampStart_of_pending, fun s now => exec_railRampStart_of_none, ?ready, ?dropped⟩
  case ready =>
    intro s now x hpend hup hdue hramp
    rw [exec_railReadyCheck hpend hup hdue, hramp]
    rfl
  case dropped =>
    intro s now x hpend hup hdue
    refine ⟨_, exec_railReadyCheck hpend hup hdue, ?_⟩
    rw [State.record_hal, State.record_power]
    exact ⟨rfl, rfl, rfl⟩

end Sys2Proof.Machine
end

section
/-!
PPS_EDGE (R69, R70, R74 to R78, R84, R420, R537): laws of its parts, in the order in which it runs them, and what it
comes to.
-/
namespace Sys2Proof.Machine

/-- What a PPS edge leaves alone: of the settings only those of the Halyard are named, which it reads. -/
def State.offEdge (s : State) : State :=
  { s.unrecorded with
    set := { Settings.default with hal := s.set.hal }
    aon := 0, hal := .reset, power := .reset, sensors := .reset, lead := .reset, ctxs := [], clusters := [],
    grixo := .reset, out := [] }

/-- A state that agrees with another outside of what a PPS edge touches, written as an update of it. -/
theorem State.eq_of_offEdge_eq {s t : State} (h : t.offEdge = s.offEdge) :
    t = { s with aon := t.aon, set := t.set, setA := t.setA, setB := t.setB, slotB := t.slotB, recorder := t.recorder,
                 hal := t.hal, power := t.power, sensors := t.sensors, lead := t.lead, mgmt := t.mgmt, ctxs := t.ctxs,
                 clusters := t.clusters, grixo := t.grixo, out := t.out } :=
  congrArg (fun x : State =>
    { x with aon := t.aon, set := t.set, setA := t.setA, setB := t.setB, slotB := t.slotB, recorder := t.recorder,
             hal := t.hal, power := t.power, sensors := t.sensors, lead := t.lead, mgmt := t.mgmt, ctxs := t.ctxs,
             clusters := t.clusters, grixo := t.grixo, out := t.out }) h

theorem State.offEdge_record (s : State) (code source : Nat) (ctx : Option Nat) (p : Bytes) :
    (s.record code source ctx p).offEdge = s.offEdge := by
  simp [State.offEdge, State.record_unrecorded, State.record_set_hal]

theorem Recorded.offEdge {a t : State} (h : Recorded a t) : t.offEdge = a.offEdge :=
  h.keeps State.offEdge State.offEdge_record

/-! Levels (R77, R78, R80, R112). -/

section
variable (s : State)

theorem State.recorded_levelNotices (level : Nat) : Recorded s (s.levelNotices level) :=
  Recorded.foldl _ _ (fun _ _ => .one ..) s

/-- The Halyard without what a change of level touches. -/
def Halyard.offLevel (h : Halyard) : Halyard := { h with level := 0, pendingLevel := none, shadow := none }

/-- The pending change has taken effect (R77). -/
def Halyard.changed (h : Halyard) (x : LevelChange) : Halyard :=
  { h with pendingLevel := none, level := x.target, shadow := h.shadow.map fun y => { y with level := x.target } }

/-- A level change touches the Halyard and the rail, and is recorded. -/
theorem State.recorded_levelAtEdge : ∃ h p, Recorded { s with hal := h, power := p } s.levelAtEdge ∧
    h.offLevel = s.hal.offLevel := by
  unfold State.levelAtEdge
  split
  · exact ⟨_, _, .refl _, rfl⟩
  · split
    · exact ⟨_, _, .refl _, rfl⟩
    · dsimp only
      split
      · exact ⟨_, _, .one .., rfl⟩
      · split
        · exact ⟨_, _, (Recorded.one ..).trans (State.recorded_levelNotices ..), rfl⟩
        · exact ⟨_, _, .one .., rfl⟩

theorem State.levelAtEdge_offLevel : s.levelAtEdge.hal.offLevel = s.hal.offLevel := by
  obtain ⟨h, p, hrec, hkeep⟩ := s.recorded_levelAtEdge
  rw [hrec.keeps State.hal State.record_hal, hkeep]

theorem State.offEdge_levelAtEdge : s.levelAtEdge.offEdge = s.offEdge := by
  obtain ⟨h, p, hrec, -⟩ := s.recorded_levelAtEdge
  exact hrec.offEdge

/-- PL0 of an emergency touches the Halyard and the rail, and may be recorded (R80, R112). -/
theorem State.recorded_emergencyEffect : ∃ h p, Recorded { s with hal := h, power := p } s.emergencyEffect := by
  unfold State.emergencyEffect
  split
  · dsimp only
    split
    · exact ⟨_, _, .refl _⟩
    · exact ⟨_, _, State.recorded_levelNotices ..⟩
  · exact ⟨_, _, .refl _⟩

theorem State.offEdge_emergencyEffect : s.emergencyEffect.offEdge = s.offEdge := by
  obtain ⟨h, p, hrec⟩ := s.recorded_emergencyEffect
  exact hrec.offEdge

variable {s}

/-- Without an emergency due nothing is ordered. -/
theorem State.emergencyEffect_of_none (h : s.hal.emergencyDue = none) : s.emergencyEffect = s := by
  simp [State.emergencyEffect, State.emergencyNow, h]

/-- At a later beat boundary, a whole multiple of 2 µs after the edge, PL0 is in force (R80). -/
theorem State.emergencyEffect_due {b : Nat} (h : s.hal.emergencyDue = some b) (hlater : b < s.hal.beatCount)
    (hedge : s.hal.sinceEdge % 84 = 0) :
    Recorded { s with hal := { s.hal with emergencyDue := none, level := 0 }
                      power := { s.power with railLevel := 0 } } s.emergencyEffect := by
  have hnow : s.emergencyNow = true := by simp [State.emergencyNow, h, hlater, hedge]
  unfold State.emergencyEffect
  rw [if_pos hnow]
  dsimp only
  split
  · exact .refl _
  · exact State.recorded_levelNotices ..

theorem State.levelAtEdge_of_none (h : s.hal.pendingLevel = none) : s.levelAtEdge = s := by
  unfold State.levelAtEdge
  rw [h]

/-- At its edge a change downward, or upward with the rail at its target, takes effect (R77, R78). -/
theorem State.levelAtEdge_due {x : LevelChange} (h : s.hal.pendingLevel = some x) (hedge : x.edge = s.hal.seconds)
    (hrail : x.target ≤ s.hal.level ∨ x.target ≤ s.power.railLevel) : s.levelAtEdge.hal = s.hal.changed x := by
  have hready : ¬ (s.hal.level < x.target ∧ s.power.railLevel < x.target) := by omega
  unfold State.levelAtEdge
  simp only [h, hedge, ne_eq, not_true_eq_false, if_false]
  split
  · next hlow => exact absurd hlow hready
  split
  · exact ((Recorded.one ..).trans (State.recorded_levelNotices ..)).keeps State.hal State.record_hal
  · exact State.record_hal ..

end

/-! ALIGN (R75). -/

section
variable (s : State)

/-- The Halyard without what an ALIGN touches. -/
def Halyard.offAlign (h : Halyard) : Halyard :=
  { h with pendingAlign := none, beatCount := 0, windowDone := none, shadow := none, emergencyDue := none }

theorem State.alignAtEdge_offAlign : s.alignAtEdge.hal.offAlign = s.hal.offAlign := by
  unfold State.alignAtEdge
  split
  · rfl
  · split <;> rfl

theorem State.offEdge_alignAtEdge : s.alignAtEdge.offEdge = s.offEdge := by
  unfold State.alignAtEdge
  split
  · rfl
  · split <;> rfl

variable {s}

theorem State.alignAtEdge_of_none (h : s.hal.pendingAlign = none) : s.alignAtEdge = s := by
  unfold State.alignAtEdge
  rw [h]

/-- At the edge of its second an ALIGN sets BEAT_COUNT (R75). -/
theorem State.alignAtEdge_due {x : AlignReq} (h : s.hal.pendingAlign = some x) (hsec : x.second = s.hal.seconds) :
    s.alignAtEdge.hal.beatCount = x.count ∧ s.alignAtEdge.hal.pendingAlign = none := by
  unfold State.alignAtEdge
  simp only [h, hsec, ne_eq, not_true_eq_false, if_false]
  exact ⟨rfl, rfl⟩

end

/-! The command. -/

section
variable (s : State)

/-- The instant of an edge: the time since the last one begins anew, and the shadow count runs up to it (R74, R81). -/
def State.edgeBegins (s : State) : State :=
  (s.advance (max s.aon (s.hal.lastEdge + tickS))).updHal fun h =>
    { h with lastEdge := s.hal.lastEdge + tickS, sinceEdge := 0
             shadow := h.shadow.map fun x => x.run (tickS - h.sinceEdge) }

/-- The second that begins at an edge: the PTP second while LOCKED to a PTP reference, else the next (R69, R537). -/
def State.nextSecond (s : State) (ptp : Nat) : Nat :=
  if s.hal.state == .locked && decide (2 ≤ s.hal.refActive) then ptp else s.hal.seconds + 1

/-- SECONDS takes its value at an edge. -/
def State.edgeCounts (s : State) (ptp : Nat) : State :=
  s.setSeconds (s.nextSecond ptp) ((s.nextSecond ptp : Int) - ((s.hal.seconds : Int) + 1))

/-- What is pending for an edge has taken effect. -/
def State.edgeTakes (s : State) (ptp : Nat) : State := (s.edgeBegins.edgeCounts ptp).levelAtEdge.alignAtEdge

/-- Settings and a choice of reference are in force, and beats resume after a furl (R70, R84, R420). -/
def State.edgeSettles (s : State) (phase : Int) : State :=
  ((s.updHal fun h => { h with use := s.set.hal }).chooseRef).updHal fun h =>
    { h with frozen := h.frozen && !h.resumeAtEdge, resumeAtEdge := false
             phaseOffset := if h.refActive ≠ 0 then phase else h.phaseOffset }

/-- PPS_OUT is driven if it is enabled. -/
def State.edgeDrives (s : State) : State := if s.set.halyardOut then s.emit .ppsOut else s

theorem State.edgeDrives_hal : s.edgeDrives.hal = s.hal := by
  unfold State.edgeDrives
  split <;> rfl

/-- The Halyard is in START, or in ACQUIRING from it, where an edge counts no second. -/
def State.edgeIdle (s : State) : Bool :=
  s.hal.state == .start || (s.hal.state == .acquiring && s.hal.acqFrom == .start)

variable {s} {ptp : Nat} {phase : Int}

/-- In START an edge brings the settings and a choice of reference into force. -/
theorem exec_ppsEdge_idle (ht0 : s.start.t0.isSome = true) (hidle : s.edgeIdle = true) :
    exec (.ppsEdge ptp phase) s =
      .next (let u := (s.updHal fun h => { h with use := s.set.hal }).chooseRef
        if u.set.halyardOut && u.hal.state != .start then u.emit .ppsOut else u) := by
  have hnone : s.start.t0.isNone = false := Option.isNone_eq_false_iff.mpr ht0
  exact (if_neg (Bool.eq_false_iff.mp hnone)).trans (if_pos hidle)

theorem exec_ppsEdge (ht0 : s.start.t0.isSome = true) (hidle : s.edgeIdle = false)
    (hedge : s.hal.frozen = true ∨ s.hal.sinceEdge = tickS) :
    exec (.ppsEdge ptp phase) s = .next ((s.emergencyEffect.edgeTakes ptp).edgeSettles phase).edgeDrives := by
  have hnone : s.start.t0.isNone = false := Option.isNone_eq_false_iff.mpr ht0
  have hdue : ¬ ((!s.hal.frozen && s.hal.sinceEdge != tickS) = true) := by
    rcases hedge with h | h <;> simp [h]
  exact (if_neg (Bool.eq_false_iff.mp hnone)).trans ((if_neg (Bool.eq_false_iff.mp hidle)).trans (if_neg hdue))

/-! What an edge comes to. -/

theorem State.nextSecond_eq (s : State) (ptp : Nat) : s.nextSecond ptp =
    if s.hal.state = .locked ∧ 2 ≤ s.hal.refActive then ptp else s.hal.seconds + 1 := by
  simp [State.nextSecond]

theorem State.edgeCounts_hal (s : State) (ptp : Nat) : (s.edgeCounts ptp).hal =
    s.hal.secondsSet (s.nextSecond ptp) ((s.nextSecond ptp : Int) - ((s.hal.seconds : Int) + 1)) :=
  (State.recorded_setSeconds ..).keeps State.hal State.record_hal

theorem State.edgeCounts_power (s : State) (ptp : Nat) : (s.edgeCounts ptp).power = s.power := by
  have hrec := State.recorded_setSeconds s (s.nextSecond ptp) ((s.nextSecond ptp : Int) - ((s.hal.seconds : Int) + 1))
  exact (hrec.keeps State.power State.record_power :)

/-- A rise of SECONDS by one cancels nothing (R537). -/
theorem State.edgeCounts_of_next (h : s.nextSecond ptp = s.hal.seconds + 1) :
    (s.edgeCounts ptp).hal = { s.hal with seconds := s.hal.seconds + 1 } := by
  rw [State.edgeCounts_hal, h]
  simp [Halyard.secondsSet]

theorem State.offEdge_edgeCounts (s : State) (ptp : Nat) : (s.edgeCounts ptp).offEdge = s.offEdge :=
  (State.recorded_setSeconds ..).offEdge

theorem State.offEdge_edgeTakes (s : State) (ptp : Nat) : (s.edgeTakes ptp).offEdge = s.offEdge :=
  calc (s.edgeTakes ptp).offEdge
    _ = (s.edgeBegins.edgeCounts ptp).levelAtEdge.offEdge := State.offEdge_alignAtEdge _
    _ = (s.edgeBegins.edgeCounts ptp).offEdge := State.offEdge_levelAtEdge _
    _ = s.edgeBegins.offEdge := State.offEdge_edgeCounts ..
    _ = s.offEdge := rfl

/-- But for levels and ALIGN, an edge sets SECONDS and the time since the last edge. -/
theorem State.edgeTakes_clock (s : State) (ptp : Nat) : (s.edgeTakes ptp).hal.offLevel.offAlign =
    { s.hal.offLevel.offAlign with
      seconds := s.nextSecond ptp, lastEdge := s.hal.lastEdge + tickS, sinceEdge := 0 } := by
  have halign : (s.edgeTakes ptp).hal.offLevel.offAlign =
      (s.edgeBegins.edgeCounts ptp).levelAtEdge.hal.offLevel.offAlign :=
    congrArg Halyard.offLevel (State.alignAtEdge_offAlign (s.edgeBegins.edgeCounts ptp).levelAtEdge)
  rw [halign, State.levelAtEdge_offLevel, State.edgeCounts_hal]
  rfl

section
variable (hsec : (s.edgeTakes ptp).hal.seconds = s.hal.seconds + 1)
include hsec

/-- Where SECONDS rises by one, all that is pending still is. -/
theorem State.edgeCounts_of_rise : (s.edgeBegins.edgeCounts ptp).hal =
    { s.edgeBegins.hal with seconds := s.hal.seconds + 1 } :=
  State.edgeCounts_of_next ((congrArg Halyard.seconds (s.edgeTakes_clock ptp)).symm.trans hsec)

/-- The pending change of level takes effect at the edge of its second (R77). -/
theorem State.edgeTakes_level {x : LevelChange} (h : s.hal.pendingLevel = some x) (hedge : x.edge = s.hal.seconds + 1)
    (hrail : x.target ≤ s.hal.level ∨ x.target ≤ s.power.railLevel) :
    (s.edgeTakes ptp).hal.level = x.target ∧ (s.edgeTakes ptp).hal.pendingLevel = none := by
  have hcounts := State.edgeCounts_of_rise hsec
  have hpower : (s.edgeBegins.edgeCounts ptp).power = s.power := s.edgeBegins.edgeCounts_power ptp
  have hlevel : (s.edgeBegins.edgeCounts ptp).levelAtEdge.hal = (s.edgeBegins.edgeCounts ptp).hal.changed x :=
    State.levelAtEdge_due (by rw [hcounts]; exact h) (by rw [hcounts]; exact hedge)
      (by rw [hcounts, hpower]; exact hrail)
  have halign := (State.alignAtEdge_offAlign (s.edgeBegins.edgeCounts ptp).levelAtEdge).trans
    (congrArg Halyard.offAlign hlevel)
  exact ⟨(congrArg Halyard.level halign :), (congrArg Halyard.pendingLevel halign :)⟩

/-- The pending ALIGN takes effect at the edge of its second (R75). -/
theorem State.edgeTakes_align {x : AlignReq} (h : s.hal.pendingAlign = some x) (hedge : x.second = s.hal.seconds + 1) :
    (s.edgeTakes ptp).hal.beatCount = x.count ∧ (s.edgeTakes ptp).hal.pendingAlign = none := by
  have hlevel : (s.edgeBegins.edgeCounts ptp).levelAtEdge.hal.offLevel =
      ({ s.edgeBegins.hal with seconds := s.hal.seconds + 1 } : Halyard).offLevel := by
    rw [State.levelAtEdge_offLevel, State.edgeCounts_of_rise hsec]
  exact State.alignAtEdge_due ((congrArg Halyard.pendingAlign hlevel).trans h)
    (hedge.trans (congrArg Halyard.seconds hlevel).symm)

end

/-- With no change pending the level stays. -/
theorem State.edgeTakes_level_of_none (h : s.hal.pendingLevel = none) : (s.edgeTakes ptp).hal.level = s.hal.level := by
  have hnone : (s.edgeBegins.edgeCounts ptp).hal.pendingLevel = none := by
    rw [State.edgeCounts_hal]
    exact (ite_eq_right_iff.mpr fun _ => h)
  have hlevel : (s.edgeBegins.edgeCounts ptp).levelAtEdge.hal.level = s.hal.level := by
    rw [State.levelAtEdge_of_none hnone, State.edgeCounts_hal]
    rfl
  have halign := State.alignAtEdge_offAlign (s.edgeBegins.edgeCounts ptp).levelAtEdge
  exact (congrArg Halyard.level halign).trans hlevel

/-- With no ALIGN pending BEAT_COUNT stays. -/
theorem State.edgeTakes_beatCount_of_none (h : s.hal.pendingAlign = none) :
    (s.edgeTakes ptp).hal.beatCount = s.hal.beatCount := by
  have hlevel := State.levelAtEdge_offLevel (s.edgeBegins.edgeCounts ptp)
  rw [State.edgeCounts_hal] at hlevel
  have hnone : (s.edgeBegins.edgeCounts ptp).levelAtEdge.hal.pendingAlign = none :=
    (congrArg Halyard.pendingAlign hlevel).trans (ite_eq_right_iff.mpr fun _ => h)
  unfold State.edgeTakes
  rw [State.alignAtEdge_of_none hnone]
  exact (congrArg Halyard.beatCount hlevel :)

theorem State.offEdge_edgeSettles (s : State) (phase : Int) : (s.edgeSettles phase).offEdge = s.offEdge := by
  obtain ⟨h, hrec⟩ := (s.updHal fun h => { h with use := s.set.hal }).recorded_chooseRef
  exact hrec.offEdge

/-- But for the choice of a reference, the end of an edge brings settings and the resumption of beats. -/
theorem State.edgeSettles_hal (s : State) (phase : Int) : (s.edgeSettles phase).hal.offRef =
    { s.hal.offRef with use := s.set.hal, frozen := s.hal.frozen && !s.hal.resumeAtEdge, resumeAtEdge := false
                        phaseOffset := (s.edgeSettles phase).hal.phaseOffset } :=
  congrArg (fun h : Halyard => { h with frozen := h.frozen && !h.resumeAtEdge, resumeAtEdge := false
                                        phaseOffset := (s.edgeSettles phase).hal.phaseOffset })
    (State.chooseRef_offRef (s.updHal fun h => { h with use := s.set.hal }))

theorem State.offEdge_edgeDrives (s : State) : s.edgeDrives.offEdge = s.offEdge := by
  unfold State.edgeDrives
  split <;> rfl

end

/-- Settles O4: an edge in START chooses a reference only; another one takes what is pending, then settles. -/
theorem ppsEdgeActs : Obligations.PpsEdgeActs := by
  unfold Obligations.PpsEdgeActs
  refine ⟨?start, ?running⟩
  case start =>
    intro s ptp ph ht0 hst href
    refine ⟨_, exec_ppsEdge_idle ht0 (by simp [State.edgeIdle, hst]), ?_⟩
    have hkeep := (s.updHal fun h => { h with use := s.set.hal }).chooseRef_offRef
    have hframe (l : List Output) := congrArg (fun x : State => { x with out := l })
      (State.chooseRef_of_idle (s := s.updHal fun h => { h with use := s.set.hal }) href)
    dsimp only
    split
    all_goals exact ⟨(congrArg Halyard.use hkeep :), (congrArg Halyard.beatCount hkeep :),
      (congrArg Halyard.seconds hkeep :), hframe _⟩
  case running =>
    intro s ptp ph ht0 hst hacq hedge hdue
    have hidle : s.edgeIdle = false := by
      have : ∀ h : s.hal.state = .acquiring, s.hal.acqFrom ≠ .start := fun h hfrom => hacq ⟨h, hfrom⟩
      simpa [State.edgeIdle, hst] using this
    have hexec := exec_ppsEdge (ptp := ptp) (phase := ph) ht0 hidle hedge
    rw [State.emergencyEffect_of_none hdue] at hexec
    refine ⟨_, hexec, ?_⟩
    have hclock := s.edgeTakes_clock ptp
    have hset : (s.edgeTakes ptp).set.hal = s.set.hal := (congrArg (fun u => u.set.hal) (s.offEdge_edgeTakes ptp) :)
    have hend := (s.edgeTakes ptp).edgeSettles_hal ph
    rw [← State.edgeDrives_hal] at hend
    have hseconds : ((s.edgeTakes ptp).edgeSettles ph).edgeDrives.hal.seconds = s.nextSecond ptp :=
      (congrArg Halyard.seconds hend).trans (congrArg Halyard.seconds hclock)
    refine ⟨hseconds.trans (s.nextSecond_eq ptp),
      (congrArg Halyard.lastEdge hend).trans (congrArg Halyard.lastEdge hclock),
      (congrArg Halyard.sinceEdge hend).trans (congrArg Halyard.sinceEdge hclock),
      (congrArg Halyard.use hend).trans hset, ?frozen, (congrArg Halyard.resumeAtEdge hend :),
      fun hnone => (congrArg Halyard.level hend).trans (State.edgeTakes_level_of_none hnone), ?level,
      fun hnone => (congrArg Halyard.beatCount hend).trans (State.edgeTakes_beatCount_of_none hnone), ?align, ?frame⟩
    case frozen =>
      exact (congrArg Halyard.frozen hend).trans (congrArg (fun h : Halyard => h.frozen && !h.resumeAtEdge) hclock :)
    case level =>
      intro x hpend hrise hx hrail
      have hsec : (s.edgeTakes ptp).hal.seconds = s.hal.seconds + 1 := (congrArg Halyard.seconds hend).symm.trans hrise
      obtain ⟨hlevel, hnone⟩ := State.edgeTakes_level hsec hpend (hx.trans hrise) hrail
      exact ⟨(congrArg Halyard.level hend).trans hlevel, (congrArg Halyard.pendingLevel hend).trans hnone⟩
    case align =>
      intro x hpend hrise hx
      have hsec : (s.edgeTakes ptp).hal.seconds = s.hal.seconds + 1 := (congrArg Halyard.seconds hend).symm.trans hrise
      obtain ⟨hcount, hnone⟩ := State.edgeTakes_align hsec hpend (hx.trans hrise)
      exact ⟨(congrArg Halyard.beatCount hend).trans hcount, (congrArg Halyard.pendingAlign hend).trans hnone⟩
    case frame =>
      apply State.eq_of_offEdge_eq
      rw [State.offEdge_edgeDrives, State.offEdge_edgeSettles, State.offEdge_edgeTakes]

end Sys2Proof.Machine
end

section
/-!
BEAT_BOUNDARY (R66, R120, R132, R182, R279, R413): what judging the frames of the beat, dropping banks and swapping for
folds leave alone, and what the command comes to.
-/
namespace Sys2Proof.Machine

/-! Frames that arrived in the beat (R120, R122). -/

/-- What intake leaves alone: the state without rounds, connections, contexts' counts and the module's. -/
def State.offIntake (s : State) : State := { s with ctxs := [], rounds := [], grixo := .reset, stats := .reset }

section
variable (s : State)

theorem State.offIntake_notice (i code : Nat) (f : Bytes) (action : Nat) :
    (s.notice i code f action).offIntake = s.offIntake := by
  unfold State.notice
  split
  · rfl
  · split <;> rfl

theorem State.offIntake_reject (c i code : Nat) (f : Bytes) : (s.reject c i code f).offIntake = s.offIntake :=
  State.offIntake_notice ..

theorem State.offIntake_judgeFrame (c i : Nat) (f : Bytes) : (s.judgeFrame c i f).offIntake = s.offIntake := by
  unfold State.judgeFrame
  split
  · exact s.offIntake_reject ..
  split
  swap
  · exact s.offIntake_reject ..
  split
  · exact s.offIntake_reject ..
  split
  · exact s.offIntake_reject ..
  dsimp only
  split
  · exact s.offIntake_reject ..
  split
  · rfl
  split
  · exact s.offIntake_reject ..
  · rfl

theorem State.offIntake_peerNotices (m : Bytes) (r : Round) : (s.peerNotices m r).offIntake = s.offIntake := by
  unfold State.peerNotices
  split <;> rfl

theorem State.offIntake_takeFrame (i message : Nat) : (s.takeFrame i message).offIntake = s.offIntake := by
  unfold State.takeFrame
  split
  · rfl
  split
  · rfl
  split
  · rfl
  dsimp only
  split
  · exact State.offIntake_peerNotices ..
  · exact State.offIntake_judgeFrame ..

theorem State.offIntake_takeArrived : s.takeArrived.offIntake = s.offIntake :=
  foldl_keeps State.offIntake (fun u (x : Nat × Nat) => u.offIntake_takeFrame x.1 x.2) s.grixo.arrived s

end

/-! Banks of a context that does not own the beat (R132), and swaps for folds (R182). -/

/-- What the end of a beat leaves alone: the state without clusters and rounds. -/
def State.offBanks (s : State) : State := { s with clusters := [], rounds := [] }

section
variable (s : State)

theorem State.offBanks_skipBank (p : Nat) (b : Bank) : (s.skipBank p b).offBanks = s.offBanks := by
  unfold State.skipBank
  split <;> rfl

theorem State.offBanks_dropForeign (k : Nat) (owner : Option Nat) : (s.dropForeign k owner).offBanks = s.offBanks := by
  unfold State.dropForeign
  dsimp only
  split
  · rfl
  · exact foldl_keeps State.offBanks (fun u b => u.offBanks_skipBank _ b) ..

/-- Clusters lose banks at most. -/
theorem State.dropForeign_clusters (k : Nat) (owner : Option Nat) :
    (s.dropForeign k owner).clusters.map Cluster.offBanks = s.clusters.map Cluster.offBanks := by
  unfold State.dropForeign
  dsimp only
  split
  · rfl
  · have hskip : ∀ l : List Bank, (l.foldl (fun u b => u.skipBank ((s.cluster k).position.getD 0) b) s).clusters =
        s.clusters := fun l => foldl_keeps State.clusters (fun u b => u.skipBank_clusters _ b) l s
    exact (updAt_map_of_keeps Cluster.offBanks (by intro _; rfl) _ k).trans
      (congrArg (List.map Cluster.offBanks) (hskip _))

/-- The banks of contexts that do not own the beat that begins are dropped. -/
def State.dropAllForeign : State :=
  (List.range 64).foldl (fun u k => u.dropForeign k (s.beatOwner s.beat)) s

theorem State.offBanks_dropAllForeign : s.dropAllForeign.offBanks = s.offBanks :=
  foldl_keeps State.offBanks (fun u k => u.offBanks_dropForeign k _) ..

theorem State.dropAllForeign_clusters :
    s.dropAllForeign.clusters.map Cluster.offBanks = s.clusters.map Cluster.offBanks :=
  foldl_keeps (fun u : State => u.clusters.map Cluster.offBanks) (fun u k => u.dropForeign_clusters k _) ..

variable {s}

/-- A cluster without banks has none to drop. -/
theorem State.dropForeign_of_no_banks (h : ∀ c ∈ s.clusters, c.banks = []) (k : Nat) (owner : Option Nat) :
    s.dropForeign k owner = s := by
  have hbanks : (s.cluster k).banks = [] := by
    unfold State.cluster
    rw [List.getD_eq_getElem?_getD]
    cases hk : s.clusters[k]? with
    | none => rfl
    | some c => exact h c (List.mem_of_getElem? hk)
  simp [State.dropForeign, hbanks]

theorem State.dropAllForeign_of_no_banks (h : ∀ c ∈ s.clusters, c.banks = []) : s.dropAllForeign = s := by
  unfold State.dropAllForeign
  generalize s.beatOwner s.beat = owner
  induction List.range 64 with
  | nil => rfl
  | cons k l ih => rw [List.foldl_cons, State.dropForeign_of_no_banks h, ih]

/-- Only rounds in UNMASKING swap for folds. -/
theorem State.foldSwaps_rounds (h : ∀ r ∈ s.rounds, r.state ≠ .unmasking) : s.foldSwaps.rounds = s.rounds := by
  refine (List.map_congr_left (g := id) fun r hr => ?_).trans (List.map_id _)
  split
  · rfl
  · exact if_pos (h r hr)

end

/-! The command. -/

section
variable (s : State)

/-- The state when the running beat ends: its frames judged, and the time of a beat at the level in force run (R66). -/
def State.beatEnds : State :=
  let s := s.takeArrived.emergencyEffect.trackIdle
  let t := beatTicks s.hal.level
  (s.advance (max s.aon (s.hal.lastEdge + s.hal.sinceEdge + t))).updHal fun h =>
    { h with beatCount := h.beatCount + 1, sinceEdge := h.sinceEdge + t, shadow := h.shadow.map fun x => x.run t }

variable {s}

theorem exec_beatBoundary (ht0 : s.start.t0.isSome = true) (hfrozen : s.hal.frozen = false) :
    exec .beatBoundary s = .next s.beatEnds.dropAllForeign.foldSwaps := by
  have hnone : s.start.t0.isNone = false := Option.isNone_eq_false_iff.mpr ht0
  have hguard : ¬ ((s.start.t0.isNone || s.hal.frozen) = true) := by simp [hnone, hfrozen]
  exact if_neg hguard

theorem State.beatEnds_of_no_emergency (h : s.hal.emergencyDue = none) : ∃ x since retry, s.beatEnds =
    { s.takeArrived with
      aon := max s.aon (s.hal.lastEdge + s.hal.sinceEdge + beatTicks s.hal.level)
      sensors := x
      power := { s.power with idleSince := since, retryAt := retry }
      hal := { s.hal with beatCount := s.hal.beatCount + 1, sinceEdge := s.hal.sinceEdge + beatTicks s.hal.level
                          shadow := s.hal.shadow.map fun x => x.run (beatTicks s.hal.level) } } := by
  have hkeep := s.offIntake_takeArrived
  have hhal : s.takeArrived.hal = s.hal := (congrArg State.hal hkeep :)
  have haon : s.takeArrived.aon = s.aon := (congrArg State.aon hkeep :)
  have hpower : s.takeArrived.power = s.power := (congrArg State.power hkeep :)
  unfold State.beatEnds
  rw [State.emergencyEffect_of_none (hhal ▸ h), ← hhal, ← haon, ← hpower]
  exact ⟨_, _, _, rfl⟩

end

/-- Settles O2: the beat's own end first, then what banks and folds leave of it; PL0 of an emergency by its law. -/
theorem beatsRunAtTheLevelInForce : Obligations.BeatsRunAtTheLevelInForce := by
  unfold Obligations.BeatsRunAtTheLevelInForce
  refine ⟨⟨rfl, rfl, rfl, rfl⟩, ?beat, ?emergency⟩
  case beat =>
    intro s ht0 hfrozen hdue
    refine ⟨_, exec_beatBoundary ht0 hfrozen, ?_⟩
    obtain ⟨x, since, retry, hend⟩ := State.beatEnds_of_no_emergency hdue
    have hframe := s.beatEnds.offBanks_dropAllForeign
    have hclusters := s.beatEnds.dropAllForeign_clusters
    have hsame := State.dropAllForeign_of_no_banks (s := s.beatEnds)
    have harrived : s.takeArrived.clusters = s.clusters := (congrArg State.clusters s.offIntake_takeArrived :)
    generalize s.beatEnds.dropAllForeign = u at hframe hclusters hsame ⊢
    rw [hend] at hframe hclusters hsame
    refine ⟨(congrArg State.hal hframe :), (congrArg State.aon hframe :), ?frame, fun hbanks hstate => ?rounds,
      (congrArg (fun u : State => { u.power with idleSince := none, retryAt := none }) hframe :),
      hclusters.trans (congrArg (List.map Cluster.offBanks) harrived)⟩
    case frame =>
      exact congrArg (fun y : State => { y with
        aon := u.aon, hal := u.hal, power := u.power, sensors := u.sensors, clusters := u.clusters
        rounds := u.foldSwaps.rounds }) hframe
    case rounds =>
      obtain rfl := hsame (harrived ▸ hbanks)
      exact State.foldSwaps_rounds hstate
  case emergency =>
    intro s b hdue hlater hedge
    have hrec := State.emergencyEffect_due hdue hlater hedge
    have hhal := hrec.keeps State.hal State.record_hal
    have hpower := hrec.keeps State.power State.record_power
    refine ⟨_, rfl, hhal, hpower, ?_⟩
    rw [hhal, hpower]
    exact hrec

end Sys2Proof.Machine
end

section
/-!
Single writes of dictionary entries (R458, R461, R541): what a write of a whole value by an operator or a keyholder
comes to once it passes its checks, and the write of REF_PRIORITY (R70).
-/
namespace Sys2Proof.Machine

section
variable {s : State} {n role index sub : Nat} {v : Bytes} {e : EntryDef}

/-- A whole value of the entry's length passes checks 1 to 6; what is left is its range (R541). -/
theorem State.writeCheck_wholeItem (hdef : entryDef index sub = .ok e) (hacc : e.access ≠ .ro)
    (hmay : mayWrite role index sub = true) (hlen : v.length = e.len) (hres : reservedSet index sub v = false)
    (hseg : segmentEntry index sub = false) :
    s.writeCheck role (wholeItem index sub v) = rangeCheck s index sub v := by
  simp [State.writeCheck, wholeItem, hdef, hacc, hmay, hlen, hres, hseg]

/-- A whole value is what its item leaves in the entry, where an entry takes no parts. -/
theorem State.wholeValue_wholeItem (hdef : entryDef index sub = .ok e) (h : e.type ≠ tyOct ∨ e.access = .wo) :
    s.wholeValue (wholeItem index sub v) = v := by
  have hparts : ¬ (e.type = tyOct ∧ e.access ≠ .wo) := by
    rintro ⟨htype, hacc⟩
    exact h.elim (· htype) hacc
  simp [State.wholeValue, wholeItem, hdef, hparts]

/-- An entry of a group that operators and keyholders write alike: it takes whole values, and one operator suffices. -/
structure PlainEntry (index sub : Nat) (e : EntryDef) : Prop where
  entry : entryDef index sub = .ok e
  short : e.len ≤ 1176
  access : e.access ≠ .ro
  whole : e.type ≠ tyOct ∨ e.access = .wo
  operator : mayWrite 2 index sub = true
  keyholder : mayWrite 3 index sub = true
  segment : segmentEntry index sub = false
  dual : ∀ (s : State) (v : Bytes), s.isDual index sub v = false

/-- A write of a whole value in range to such an entry has its effect at once, or is refused with the entry's code. -/
theorem PlainEntry.rowWrite (h : PlainEntry index sub e) (hin : s.InSession n role) (hrole : role = 2 ∨ role = 3)
    (hlen : v.length = e.len) (hres : reservedSet index sub v = false)
    (hrange : rangeCheck (s.touch n) index sub v = 0) {code : Nat} {a : State}
    (heffect : (s.touch n).writeEffect n role false index sub v = (code, a)) :
    s.rowWrite n index sub v = a.answered n index sub code := by
  obtain ⟨hd, hopen⟩ := hin
  obtain ⟨x, hx, rfl⟩ := Option.map_eq_some_iff.mp hopen
  have hmay : mayWrite x.role index sub = true := by
    rcases hrole with hr | hr <;> rw [hr]
    · exact h.operator
    · exact h.keyholder
  have hcheck : (s.touch n).writeCheck x.role (wholeItem index sub v) = 0 :=
    (State.writeCheck_wholeItem h.entry h.access hmay hlen hres h.segment).trans hrange
  rw [rowWrite_single hx hd (hlen ▸ h.short) hcheck (h.dual _ v), State.itemEffect, wholeItem_index, wholeItem_sub,
    State.wholeValue_wholeItem h.entry h.whole, heffect]

end

theorem typeBytes_le (type : Nat) : typeBytes type ≤ 64 := by
  unfold typeBytes
  split <;> decide

/-- The numbers among the Halyard's entries are plain (R83). -/
theorem plainEntry_halyard {sub type : Nat} (hdef : entryDef 0x1200 sub = .ok (fixedEntry type .rw))
    (htype : type ≠ tyOct) : PlainEntry 0x1200 sub (fixedEntry type .rw) := by
  refine ⟨hdef, (typeBytes_le type).trans (by decide), by simp [fixedEntry], .inl htype, rfl, rfl, rfl, fun s v => ?_⟩
  unfold State.isDual
  split <;> simp_all

/-- A number in range that an operator or a keyholder writes to one of the Halyard's entries. -/
theorem State.InSession.rowWrite_halyard {s a : State} {n role type code : Nat} {v : Bytes} (hin : s.InSession n role)
    (hrole : role = 2 ∨ role = 3) (sub : Nat) (hdef : entryDef 0x1200 sub = .ok (fixedEntry type .rw))
    (htype : type ≠ tyOct) (hlen : v.length = typeBytes type) (hres : reservedSet 0x1200 sub v = false)
    (hrange : rangeCheck (s.touch n) 0x1200 sub v = 0)
    (heffect : (s.touch n).writeEffect n role false 0x1200 sub v = (code, a)) :
    s.rowWrite n 0x1200 sub v = a.answered n 0x1200 sub code :=
  (plainEntry_halyard hdef htype).rowWrite hin hrole hlen hres hrange heffect

/-! REF_PRIORITY (R70). -/

section
variable {s : State} {n role a b c k : Nat} {v : Bytes}

/-- The codes of the three references in a value of REF_PRIORITY (R70). -/
theorem bits_refPriority (hk : k = a + 16 * b + 256 * c) (ha : a < 16) (hb : b < 16) (hc : c < 16) :
    bits k 3 0 = a ∧ bits k 7 4 = b ∧ bits k 11 8 = c := by
  simp only [bits]
  omega

/-- A code above 3, a code named twice, or a 0 before a nonzero code (R70). -/
def badPriority (a b c : Nat) : Prop :=
  3 < a ∨ 3 < b ∨ 3 < c ∨ (a ≠ 0 ∧ (a = b ∨ a = c)) ∨ (b ≠ 0 ∧ b = c) ∨ (a = 0 ∧ (b ≠ 0 ∨ c ≠ 0)) ∨ (b = 0 ∧ c ≠ 0)

theorem State.writeRefPriority_rejects (hk : k = a + 16 * b + 256 * c) (ha : a < 16) (hb : b < 16) (hc : c < 16)
    (hbad : badPriority a b c) : s.writeRefPriority k = (0x01030017, s) := by
  obtain ⟨h₁, h₂, h₃⟩ := bits_refPriority hk ha hb hc
  refine if_pos ?_
  simp only [h₁, h₂, h₃, Bool.or_eq_true, Bool.and_eq_true, bne_iff_ne, beq_iff_eq]
  unfold badPriority at hbad
  omega

theorem State.writeRefPriority_accepts (hk : k = a + 16 * b + 256 * c) (ha : a < 16) (hb : b < 16) (hc : c < 16)
    (hgood : ¬ badPriority a b c) : s.writeRefPriority k =
      (0, s.persist fun p => { p with hal := { p.hal with refPriority := BitVec.ofNat 32 k } }) := by
  obtain ⟨h₁, h₂, h₃⟩ := bits_refPriority hk ha hb hc
  refine if_neg ?_
  simp only [h₁, h₂, h₃, Bool.or_eq_true, Bool.and_eq_true, bne_iff_ne, beq_iff_eq]
  unfold badPriority at hgood
  omega

theorem exec_refPriorityWrite (hin : s.InSession n role) (hrole : role = 2 ∨ role = 3) (hlen : v.length = 4)
    (hsmall : beNat v < 0x1000) {code : Nat} {t : State}
    (heffect : (s.touch n).writeRefPriority (beNat v) = (code, t)) :
    exec (.refPriorityWrite n v) s = .next (t.answered n 0x1200 0x01 code) := by
  have hres : reservedSet 0x1200 0x01 v = false := decide_eq_false (Nat.not_le.mpr hsmall)
  exact congrArg Host.Outcome.next
    (hin.rowWrite_halyard hrole 0x01 rfl (by decide) hlen hres rfl heffect)

/-- A persistent entry stands in the settings and in one of their slots. -/
theorem State.persist_eq (s : State) (f : Settings → Settings) : s.persist f =
    { s with set := (s.persist f).set, setA := (s.persist f).setA, setB := (s.persist f).setB
             slotB := (s.persist f).slotB } := by
  unfold State.persist
  dsimp only
  split <;> rfl

/-- Every edge brings the settings into force, in START too (R70, R84). -/
theorem exec_ppsEdge_use {ptp : Nat} {phase : Int} (ht0 : s.start.t0.isSome = true)
    (hedge : s.hal.state = .start ∨ s.hal.sinceEdge = tickS) :
    ∃ t, exec (.ppsEdge ptp phase) s = .next t ∧ t.hal.use = s.set.hal := by
  cases hidle : s.edgeIdle
  case true =>
    refine ⟨_, exec_ppsEdge_idle ht0 hidle, ?_⟩
    have hkeep := (s.updHal fun h => { h with use := s.set.hal }).chooseRef_offRef
    dsimp only
    split <;> exact (congrArg Halyard.use hkeep :)
  case false =>
    have hlast : s.hal.sinceEdge = tickS := hedge.resolve_left fun hst => by simp [State.edgeIdle, hst] at hidle
    refine ⟨_, exec_ppsEdge ht0 hidle (.inr hlast), ?_⟩
    have hset := (s.emergencyEffect.offEdge_edgeTakes ptp).trans s.offEdge_emergencyEffect
    rw [State.edgeDrives_hal]
    exact (congrArg Halyard.use ((s.emergencyEffect.edgeTakes ptp).edgeSettles_hal phase)).trans
      (congrArg (fun u : State => u.set.hal) hset :)

end

/-- Settles O10: the three codes of a value decide, and every edge brings the settings into force. -/
theorem refPriorityRule : Obligations.RefPriorityRule := by
  unfold Obligations.RefPriorityRule
  refine ⟨?rejected, ?accepted, ?edge⟩
  case rejected =>
    intro s n role a b c v hin hrole hlen hk ha hb hc hbad
    exact exec_refPriorityWrite hin hrole hlen (by omega) (State.writeRefPriority_rejects hk ha hb hc hbad)
  case accepted =>
    intro s n role a b c v hin hrole hlen hk ha hb hc hab hac hbc ha0 hb0
    have hgood : ¬ badPriority a b c := by
      unfold badPriority
      omega
    have heffect := State.writeRefPriority_accepts (s := s.touch n) hk (by omega) (by omega) (by omega) hgood
    refine ⟨_, exec_refPriorityWrite hin hrole hlen (by omega) heffect, ?_⟩
    exact ⟨State.persist_set .., State.persist_hal ..,
      congrArg (State.answered · n 0x1200 0x01 0) (State.persist_eq (s.touch n) _)⟩
  case edge =>
    intro s ptp ph ht0 _ hedge
    obtain ⟨t, hexec, huse⟩ := exec_ppsEdge_use (ptp := ptp) (phase := ph) ht0 hedge
    exact ⟨t, hexec, congrArg HalSettings.refPriority huse⟩

end Sys2Proof.Machine
end

section
/-!
The Halyard's entries (R71, R75, R84) and a level request (R76, R406): writes in range, and what each comes to.
-/
namespace Sys2Proof.Machine

/-! Settings of references (R84). -/

/-- A value of an entry 2 to 6 of index 0x1200 in its range (R83). -/
def halSettingInRange (sub : Nat) (v : Bytes) : Prop :=
  (sub = 2 ∧ (v = [10] ∨ v = [25])) ∨
  (sub = 3 ∧ v.length = 4 ∧ -100000 ≤ signedOf 32 (beNat v) ∧ signedOf 32 (beNat v) ≤ 100000) ∨
  (sub = 4 ∧ v.length = 1 ∧ beNat v ≤ 127) ∨ (sub = 5 ∧ v.length = 1 ∧ 1 ≤ beNat v ∧ beNat v ≤ 3) ∨
  (sub = 6 ∧ v.length = 2 ∧ -7 ≤ signedOf 16 (beNat v) ∧ signedOf 16 (beNat v) ≤ 0)

section
variable {s : State} {n role sub : Nat} {v : Bytes}

/-- A value in range passes the checks of its entry, and the entry's write is that of the settings. -/
theorem rowWrite_halSetting (hin : s.InSession n role) (hrole : role = 2 ∨ role = 3) (hv : halSettingInRange sub v) :
    s.rowWrite n 0x1200 sub v = ((s.touch n).writeHalSetting sub (beNat v)).2.answered n 0x1200 sub 0 := by
  rcases hv with ⟨rfl, hv⟩ | ⟨rfl, hlen, hlow, hhigh⟩ | ⟨rfl, hlen, hhigh⟩ | ⟨rfl, hlen, hlow, hhigh⟩ |
    ⟨rfl, hlen, hlow, hhigh⟩
  · rcases hv with rfl | rfl <;> exact hin.rowWrite_halyard hrole 0x02 rfl (by decide) rfl rfl rfl rfl
  · exact hin.rowWrite_halyard hrole 0x03 rfl (by decide) hlen rfl (if_pos (decide_eq_true ⟨hlow, hhigh⟩)) rfl
  · exact hin.rowWrite_halyard hrole 0x04 rfl (by decide) hlen rfl (if_pos (decide_eq_true ⟨Nat.zero_le _, hhigh⟩)) rfl
  · exact hin.rowWrite_halyard hrole 0x05 rfl (by decide) hlen rfl (if_pos (decide_eq_true ⟨hlow, hhigh⟩)) rfl
  · exact hin.rowWrite_halyard hrole 0x06 rfl (by decide) hlen rfl (if_pos (decide_eq_true ⟨hlow, hhigh⟩)) rfl

/-- What a write of a setting leaves alone: the state without the Halyard and what records touch. -/
def State.offSetting (s : State) : State := { s.unrecorded with hal := .reset }

theorem State.eq_of_offSetting_eq {s t : State} (h : t.offSetting = s.offSetting) :
    t = { s with set := t.set, setA := t.setA, setB := t.setB, slotB := t.slotB, hal := t.hal, recorder := t.recorder,
                 mgmt := t.mgmt } :=
  congrArg (fun x : State => { x with
    set := t.set, setA := t.setA, setB := t.setB, slotB := t.slotB, hal := t.hal, recorder := t.recorder
    mgmt := t.mgmt }) h

theorem State.offSetting_record (s : State) (code source : Nat) (ctx : Option Nat) (p : Bytes) :
    (s.record code source ctx p).offSetting = s.offSetting := by
  simp [State.offSetting, State.record_unrecorded]

/-- The references that a setting puts out of use: that of REF_IN, or those of PTP (R84). -/
def touchedRefs (sub : Nat) : List Nat := if sub ≤ 3 then [1] else [2, 3]

/-- The setting stands in the settings; in START it is in force at once. -/
def State.standsSetting (s : State) (sub k : Nat) : State :=
  let s := s.persist fun p => { p with hal := p.hal.write sub k }
  if s.hal.state = .start then s.updHal fun h => { h with use := { s.set.hal with refPriority := h.use.refPriority } }
  else s

theorem State.writeHalSetting_eq (s : State) (sub k : Nat) :
    s.writeHalSetting sub k = (0, (s.standsSetting sub k).loseRefs (touchedRefs sub)) := rfl

theorem State.standsSetting_eq (s : State) (sub k : Nat) : ∃ u, (s.hal.state ≠ .start → u = s.hal.use) ∧
    s.standsSetting sub k =
      { s.persist fun p => { p with hal := p.hal.write sub k } with hal := { s.hal with use := u } } := by
  have hold : (s.persist fun p => { p with hal := p.hal.write sub k }).hal = s.hal := State.persist_hal ..
  unfold State.standsSetting
  dsimp only
  rw [← hold]
  split
  · next hst => exact ⟨_, fun hne => absurd hst hne, rfl⟩
  · exact ⟨_, fun _ => rfl, rfl⟩

/-- What the write of a setting does to the Halyard, the settings and the rest. -/
structure State.Sets (s : State) (sub k : Nat) (a : State) : Prop where
  set : a.set.hal = s.set.hal.write sub k
  beatCount : a.hal.beatCount = s.hal.beatCount
  level : a.hal.level = s.hal.level
  seconds : a.hal.seconds = s.hal.seconds
  use : s.hal.state ≠ .start → a.hal.use = s.hal.use
  lost : ∀ x ∈ touchedRefs sub, x ∉ a.hal.qualified
  frame : a.offSetting = s.offSetting

theorem State.sets_writeHalSetting (s : State) (sub k : Nat) : s.Sets sub k (s.writeHalSetting sub k).2 := by
  obtain ⟨h, hrec⟩ := (s.standsSetting sub k).recorded_loseRefs (touchedRefs sub)
  have hkeep := (s.standsSetting sub k).loseRefs_offRef (touchedRefs sub)
  have hset := hrec.keeps (fun u => u.set.hal) State.record_set_hal
  have hframe := hrec.keeps State.offSetting State.offSetting_record
  obtain ⟨u, huse, hstands⟩ := s.standsSetting_eq sub k
  rw [State.writeHalSetting_eq]
  refine ⟨hset.trans ?set, ?beatCount, ?level, ?seconds, fun hst => ?use,
    fun x hx hq => (State.mem_loseRefs.mp hq).2 hx, hframe.trans ?frame⟩
  all_goals rw [hstands] at hkeep ⊢
  case set => exact congrArg Settings.hal (State.persist_set ..)
  case beatCount => exact (congrArg Halyard.beatCount hkeep :)
  case level => exact (congrArg Halyard.level hkeep :)
  case seconds => exact (congrArg Halyard.seconds hkeep :)
  case use => exact (congrArg Halyard.use hkeep).trans (huse hst)
  case frame => simp [State.offSetting, State.unrecorded]

end

/-! ALLOW_FREE_RUN (R71). -/

section
variable {s : State} {n role : Nat} {v : Bytes}

theorem State.enterFreeRun_eq (s : State) : ∃ h, s.enterFreeRun = { s with hal := h } := by
  unfold State.enterFreeRun
  split <;> exact ⟨_, rfl⟩

/-- FREE-RUN is entered from START only (R71). -/
theorem State.enterFreeRun_of_ne_start (h : s.hal.state ≠ .start) : s.enterFreeRun = s :=
  if_neg (by simp [State.freeRunDue, h])

theorem exec_allowFreeRunWrite (hin : s.InSession n role) (hrole : role = 2 ∨ role = 3) (b : Bool) :
    exec (.allowFreeRunWrite n [if b then 1 else 0]) s =
      .next (((s.touch n).persist fun p => { p with allowFreeRun := b }).enterFreeRun.answered n 0x1200 0x07 0) := by
  cases b <;> exact congrArg Host.Outcome.next (hin.rowWrite_halyard hrole 0x07 rfl (by decide) rfl rfl rfl rfl)

/-! Leads, ALIGN and level requests (R75, R76, R406). -/

/-- The lead of the edge of a second is 2 to 3,600 s, the time since the last edge counted (R75, R76). -/
theorem State.lead_in_range {second : Nat}
    (hlow : (s.hal.seconds + 2) * tickS + min tickS (s.aon - s.hal.lastEdge) ≤ second * tickS)
    (hhigh : second * tickS ≤ (s.hal.seconds + 3600) * tickS + min tickS (s.aon - s.hal.lastEdge)) :
    s.leadBelow second 2 = false ∧ s.leadAbove second 3600 = false :=
  ⟨decide_eq_false (Nat.not_lt.mpr hlow), decide_eq_false (Nat.not_lt.mpr hhigh)⟩

theorem plainEntry_align : PlainEntry 0x1200 0x0F (octEntry 16 .wo) :=
  ⟨rfl, by decide, by decide, .inr rfl, rfl, rfl, rfl, fun _ _ => rfl⟩

theorem plainEntry_level : PlainEntry 0x1300 0x02 (octEntry 9 .wo) :=
  ⟨rfl, by decide, by decide, .inr rfl, rfl, rfl, rfl, fun _ _ => rfl⟩

/-- With no plan admitted an ALIGN in time waits for the edge of its second (R75). -/
theorem State.writeAlign_accepts (hplans : s.plansAdmitted = false) (hbelow : s.leadBelow (beAt v 0 8) 2 = false)
    (habove : s.leadAbove (beAt v 0 8) 3600 = false) :
    s.writeAlign v = (0, s.updHal fun h => { h with pendingAlign := some ⟨beAt v 0 8, beAt v 8 8⟩ }) := by
  simp [State.writeAlign, hplans, hbelow, habove]

/-- A level request that none of the checks of R406 and R76 turns down is pending, and recorded. -/
theorem State.writeLevel_accepts {target edge : Nat} (htarget : beAt v 0 1 = target) (hedge : beAt v 1 8 = edge)
    (hlevel : target ≤ 3) (hpowered : s.cantonsPowered = true) (hready : s.start.cantonReady.all id = true)
    (hst : s.hal.state ≠ .start) (hthermal : s.power.emergencyThermal = false)
    (helectrical : s.power.emergencyElectrical = false) (hpend : s.hal.pendingLevel = none)
    (hbelow : s.leadBelow edge 2 = false) (habove : s.leadAbove edge 3600 = false) (hnew : target ≠ s.hal.level) :
    s.writeLevel v = (0, ((s.updHal fun h => { h with pendingLevel := some ⟨target, edge⟩ }).updPower
      fun p => { p with ramping := false }).record 0x05030006 (srcHoist 0) none (levelPayload target edge)) := by
  have hlow : ¬ 3 < target := Nat.not_lt.mpr hlevel
  simp only [State.writeLevel, htarget, hedge]
  simp [hlow, hpowered, hready, hst, hthermal, helectrical, hpend, hbelow, habove, hnew]

end

/-- Settles O11: a setting by what its write does, ALLOW_FREE_RUN by the persistent entry, ALIGN by its checks. -/
theorem halyardEntriesAreWritten : Obligations.HalyardEntriesAreWritten := by
  unfold Obligations.HalyardEntriesAreWritten
  refine ⟨?setting, ?freeRun, ?align⟩
  case setting =>
    intro s n role sub v hin hrole hv
    have hsub : 2 ≤ sub ∧ sub ≤ 6 := by omega
    have h := (s.touch n).sets_writeHalSetting sub (beNat v)
    refine ⟨_, _, congrArg Host.Outcome.next ((if_pos hsub).trans (rowWrite_halSetting hin hrole hv)), rfl, h.set,
      h.beatCount, h.level, h.seconds, h.use, fun hlow => ?_, fun hhigh => ?_, State.eq_of_offSetting_eq h.frame⟩
    · exact h.lost 1 (by simp [touchedRefs, hlow])
    · have hptp : touchedRefs sub = [2, 3] := if_neg (by omega)
      exact ⟨h.lost 2 (by simp [hptp]), h.lost 3 (by simp [hptp])⟩
  case freeRun =>
    intro s n role b hin hrole
    refine ⟨_, exec_allowFreeRunWrite hin hrole b, ?_⟩
    obtain ⟨h, hfree⟩ := ((s.touch n).persist fun p => { p with allowFreeRun := b }).enterFreeRun_eq
    refine ⟨?set, fun hst => ?hal, congrArg (State.answered · n 0x1200 0x07 0) ?frame⟩
    case set => exact (congrArg State.set hfree).trans (State.persist_set ..)
    case hal =>
      rw [State.enterFreeRun_of_ne_start (by rw [State.persist_hal]; exact hst)]
      exact State.persist_hal ..
    case frame =>
      rw [hfree]
      exact congrArg (fun x : State => { x with hal := h }) (State.persist_eq (s.touch n) _)
  case align =>
    intro s n role v hin hrole hlen hplans hlow hhigh
    obtain ⟨hbelow, habove⟩ := State.lead_in_range (s := s.touch n) hlow hhigh
    exact congrArg Host.Outcome.next (plainEntry_align.rowWrite hin hrole hlen rfl rfl
      (State.writeAlign_accepts (s := s.touch n) hplans hbelow habove))

/-- Settles O12: the request passes the checks of R406 and of R76 in turn. -/
theorem levelRequestWaitsForItsEdge : Obligations.LevelRequestWaitsForItsEdge := by
  unfold Obligations.LevelRequestWaitsForItsEdge
  intro s n role target edge v hin hrole hlen htarget hedge hlevel hpowered hready hst hthermal helectrical hpend hlow
    hhigh hnew
  obtain ⟨hbelow, habove⟩ := State.lead_in_range (s := s.touch n) hlow hhigh
  have hcantons : (s.touch n).cantonsPowered = true := beq_iff_eq.mpr hpowered
  exact congrArg Host.Outcome.next (plainEntry_level.rowWrite hin hrole hlen rfl rfl
    (State.writeLevel_accepts (s := s.touch n) htarget hedge hlevel hcantons hready hst hthermal helectrical hpend
      hbelow habove hnew))

end Sys2Proof.Machine
end

section
/-!
Plans (R91, R109 to R111, R315): what a context's plan slot reads after an update, and what submission, admission, start
and unload come to.
-/
namespace Sys2Proof.Machine

/-! Plan slots. -/

section
variable {s t : State} {c d : Nat}

theorem State.plan_updPlan_same (hc : c < s.plans.length) (f : PlanSlot → PlanSlot) :
    (s.updPlan c f).plan c = f (s.plan c) := by
  simp [State.plan, State.updPlan, updAt, List.getD_eq_getElem?_getD, hc]

theorem State.plan_updPlan_ne (hd : d ≠ c) (f : PlanSlot → PlanSlot) : (s.updPlan c f).plan d = s.plan d := by
  simp [State.plan, State.updPlan, updAt, List.getD_eq_getElem?_getD, hd.symm]

theorem State.updPlan_updPlan (f g : PlanSlot → PlanSlot) :
    (s.updPlan c f).updPlan c g = s.updPlan c fun p => g (f p) := by
  simp [State.updPlan, updAt, List.modify_modify_eq, Function.comp_def]

theorem State.plan_of_offCommand (h : t.offCommand = s.offCommand) : t.plan c = s.plan c :=
  (congrArg (fun x : State => x.plan c) h :)

end

/-! Instants. -/

section
variable {s : State}

theorem State.atLoop_of_mod (h : s.hal.beatCount % 4096 = 0) : s.atLoop = true := beq_iff_eq.mpr h

theorem State.inHold_of_none (h : s.lead.hold = none) : s.inHold = false := by
  rw [State.inHold, h, Option.isSome_none]

end

/-! What commands leave alone. -/

/-- A state with what another holds of the virtual functions, the journal, and what records touch. -/
def State.withCommand (s t : State) : State :=
  { s with set := t.set, setA := t.setA, setB := t.setB, slotB := t.slotB, recorder := t.recorder
           journal := t.journal, mgmt := t.mgmt, host := t.host }

section
variable (s : State)

theorem State.offCommand_leaderRunning (v op status r0 r1 : Nat) :
    (s.leaderRunning v op status r0 r1).offCommand = s.offCommand := by
  unfold State.leaderRunning
  split
  · split
    · exact State.offCommand_leaderDone ..
    · rfl
  · rfl

/-- LAST_REJECT of a slot. -/
def PlanSlot.rejected (p : PlanSlot) (code offset : Nat) : PlanSlot :=
  { p with lastReject := (BitVec.ofNat 32 code, offset) }

theorem State.offCommand_rejectPlan (c code offset : Nat) :
    (s.rejectPlan c code offset).offCommand = (s.updPlan c fun p => p.rejected code offset).offCommand :=
  State.offCommand_record ..

/-- The slot of an admitted plan (R110). -/
def PlanSlot.loadedWith (p : PlanSlot) (b : Bytes) (beat : Nat) : PlanSlot :=
  { p with state := .loaded, image := some (readPlan b), digest := sha384 b, loadedBeat := beat, startAfter := 0
           startBeat := 0, unloadAccepted := none, lastRound := [] }

/-- An admitted plan is loaded, and the release counts of its context begin anew (R110, R298). -/
def State.loadsPlan (s : State) (c : Nat) (b : Bytes) : State :=
  { s.updPlan c fun p => p.loadedWith b s.hal.beatCount with
    grixo := { s.grixo with releases := s.grixo.releases.filter fun r => r.1.1 != c } }

theorem State.offCommand_admitPlan (c : Nat) (b : Bytes) :
    (s.admitPlan c b).offCommand = (s.loadsPlan c b).offCommand :=
  (foldl_keeps State.offCommand (fun _ _ => State.offCommand_record ..) ..).trans (State.offCommand_journal1 ..)

/-- The checks of admission read no counts of a context. -/
theorem State.admission_count (c d len : Nat) (f : Counters → Counters) (b : Bytes) :
    (s.count d f).admission c len b = s.admission c len b := rfl

end

/-! PLAN_SUBMIT (R109, R315). -/

section
variable {s : State} {v c : Nat} {e : Bytes} {rest : List Bytes}

/-- The command in hand runs on its virtual function. -/
def State.runs (s : State) (v : Nat) (e : Bytes) : State := s.updVf v fun x => { x with running := some e }

theorem State.running_runs {f : PlanSlot → PlanSlot} (hv : v < s.host.vfs.length) :
    (((((s.taken v rest).updPlan c f).runs v e).vf v).running) = some e := by
  have hlen : v < ((s.taken v rest).updPlan c f).host.vfs.length := by simpa [State.taken, State.updVf, updAt] using hv
  rw [State.runs, State.vf_updVf_same hlen]

/-- The slot of a submission whose image is being read. -/
def PlanSlot.checkingOf (p : PlanSlot) (len : Nat) : PlanSlot := { p with state := .checking, submitLength := len }

theorem exec_planSubmit_of_none (hc : s.Commands v 0x01 e rest) (haddr : leAt e 8 8 % 4096 = 0)
    (h : s.submitChecks (vfCtx v) = none) : exec (.planSubmit v) s =
      .next (((s.taken v rest).updPlan (vfCtx v) fun p => p.checkingOf (leAt e 16 4)).runs v e) := by
  have hexec : exec (.planSubmit v) s = .next (s.command v 0x01 _) := rfl
  have h' : (s.taken v rest).submitChecks (vfCtx v) = none := h
  rw [hexec, hc.command, if_neg (not_not_intro haddr)]
  simp only [h']
  rfl

theorem exec_planSubmit_of_some {code : Nat} (hc : s.Commands v 0x01 e rest) (haddr : leAt e 8 8 % 4096 = 0)
    (h : s.submitChecks (vfCtx v) = some code) : exec (.planSubmit v) s =
      .next (((s.taken v rest).rejectPlan (vfCtx v) code noField).leaderDone v e code noField 0) := by
  have hexec : exec (.planSubmit v) s = .next (s.command v 0x01 _) := rfl
  have h' : (s.taken v rest).submitChecks (vfCtx v) = some code := h
  rw [hexec, hc.command, if_neg (not_not_intro haddr)]
  simp only [h']

theorem planSubmit_is_checked (hc : s.Commands v 0x01 e rest) (haddr : leAt e 8 8 % 4096 = 0)
    (hplan : vfCtx v < s.plans.length) (h : s.submitChecks (vfCtx v) = none) :
    ∃ t, exec (.planSubmit v) s = .next t ∧
      t.plan (vfCtx v) = { s.plan (vfCtx v) with state := .checking, submitLength := leAt e 16 4 } ∧
      (t.vf v).running = some e ∧ t = { s with host := t.host, plans := t.plans } :=
  ⟨_, exec_planSubmit_of_none hc haddr h, State.plan_updPlan_same (s := s.taken v rest) hplan _,
    State.running_runs hc.1, rfl⟩

/-- A submission that fails one of checks 1 to 3 leaves the plan that is there (R109, R315; log 71). -/
theorem planSubmit_is_rejected {code : Nat} (hc : s.Commands v 0x01 e rest) (haddr : leAt e 8 8 % 4096 = 0)
    (hplan : vfCtx v < s.plans.length) (h : s.submitChecks (vfCtx v) = some code) :
    ∃ t, exec (.planSubmit v) s = .next t ∧
      t.plan (vfCtx v) = { s.plan (vfCtx v) with lastReject := (BitVec.ofNat 32 code, noField) } ∧ t.rounds = s.rounds ∧
      t = ((s.taken v rest).rejectPlan (vfCtx v) code noField).leaderDone v e code noField 0 := by
  have hoff := (State.offCommand_leaderDone _ v e code noField 0).trans
    ((s.taken v rest).offCommand_rejectPlan (vfCtx v) code noField)
  refine ⟨_, exec_planSubmit_of_some hc haddr h, ?_, (congrArg State.rounds hoff :), rfl⟩
  rw [State.plan_of_offCommand hoff]
  exact State.plan_updPlan_same (s := s.taken v rest) hplan _

end

/-! PLAN_CHECK_COMPLETE (R109, R110). -/

section
variable {s : State} {c : Nat} {image b : Bytes}

/-- The image has been read from host memory. -/
def State.readImage (s : State) (c n : Nat) : State := s.count c fun k => { k with dmaFromHost := k.dmaFromHost + n }

/-- The check of an image has ended without a plan. -/
def State.endsCheck (s : State) (c : Nat) : State := s.updPlan c fun p => { p with state := .none, submitLength := 0 }

/-- The slot of a plan that has failed a check (R109). -/
def PlanSlot.turnedAway (p : PlanSlot) (code offset : Nat) : PlanSlot :=
  { p with state := .none, submitLength := 0, lastReject := (BitVec.ofNat 32 code, offset) }

theorem State.offCommand_endsCheck (s : State) (c code offset : Nat) :
    ((s.endsCheck c).rejectPlan c code offset).offCommand =
      (s.updPlan c fun p => p.turnedAway code offset).offCommand := by
  rw [State.offCommand_rejectPlan, State.endsCheck, State.updPlan_updPlan]
  rfl

/-- What the checks are made on: the image as transferred. -/
def State.transferred (s : State) (c : Nat) (image : Bytes) : Bytes :=
  padTo (min (s.plan c).submitLength 0x4000001) image

theorem exec_planCheckComplete (hst : (s.plan c).state = .checking) (hhold : s.lead.hold = none)
    (hlead : s.noLeader = false) (hb : b = s.transferred c image) : exec (.planCheckComplete c image) s =
      match s.admission c (s.plan c).submitLength b with
      | some (code, offset) => .next ((((s.readImage c b.length).endsCheck c).rejectPlan c code offset).leaderRunning
          (s.vfOf c) 0x01 code offset 0)
      | none => .next (((s.readImage c b.length).admitPlan c b).leaderRunning (s.vfOf c) 0x01 0 0 0) := by
  have hgate : ¬ ((s.plan c).state ≠ .checking || s.inHold || s.noLeader) = true := by
    simp [hst, State.inHold_of_none hhold, hlead]
  change execPlanCheckComplete c image s = _
  unfold execPlanCheckComplete
  rw [if_neg hgate]
  dsimp only
  rw [State.admission_count, ← State.transferred, ← hb]
  rfl

/-- A state that agrees with another outside of its contexts, plans, release counts, virtual functions, the journal, and
what records touch, written as an update of it. -/
theorem State.eq_of_offCommand_loads {t : State} {cs : List Ctx} {ps : List PlanSlot} {rs : List ((Nat × Nat) × Nat)}
    (h : t.offCommand = { s with ctxs := cs, plans := ps, grixo := { s.grixo with releases := rs } }.offCommand) :
    t = { s with set := t.set, setA := t.setA, setB := t.setB, slotB := t.slotB, recorder := t.recorder,
                 journal := t.journal, mgmt := t.mgmt, host := t.host, ctxs := t.ctxs, plans := t.plans
                 grixo := { s.grixo with releases := t.grixo.releases } } :=
  congrArg (fun x : State => { x.withCommand t with
    ctxs := t.ctxs, plans := t.plans, grixo := { x.grixo with releases := t.grixo.releases } }) h

theorem planCheckComplete_loads (hplan : c < s.plans.length) (hst : (s.plan c).state = .checking)
    (hhold : s.lead.hold = none) (hlead : s.noLeader = false) (hb : b = s.transferred c image)
    (h : s.admission c (s.plan c).submitLength b = none) :
    ∃ t, exec (.planCheckComplete c image) s = .next t ∧ t.plan c = (s.plan c).loadedWith b s.hal.beatCount ∧
      (∀ d, d ≠ c → t.plan d = s.plan d) ∧ t.rounds = s.rounds ∧
      t = { s with set := t.set, setA := t.setA, setB := t.setB, slotB := t.slotB, recorder := t.recorder,
                   journal := t.journal, mgmt := t.mgmt, host := t.host, ctxs := t.ctxs, plans := t.plans
                   grixo := { s.grixo with releases := t.grixo.releases } } := by
  have hexec := exec_planCheckComplete hst hhold hlead hb
  simp only [h] at hexec
  have hoff := (State.offCommand_leaderRunning _ (s.vfOf c) 0x01 0 0 0).trans
    ((s.readImage c b.length).offCommand_admitPlan c b)
  generalize State.leaderRunning _ (s.vfOf c) 0x01 0 0 0 = t at hexec hoff
  refine ⟨t, hexec, ?_, fun d hd => ?_, (congrArg State.rounds hoff :), ?_⟩
  · rw [State.plan_of_offCommand hoff]
    exact State.plan_updPlan_same (s := s) hplan _
  · rw [State.plan_of_offCommand hoff]
    exact State.plan_updPlan_ne (s := s) hd _
  · exact State.eq_of_offCommand_loads hoff

theorem planCheckComplete_rejects (hplan : c < s.plans.length) (hst : (s.plan c).state = .checking)
    (hhold : s.lead.hold = none) (hlead : s.noLeader = false) (hb : b = s.transferred c image)
    {code off : Nat} (h : s.admission c (s.plan c).submitLength b = some (code, off)) :
    ∃ t, exec (.planCheckComplete c image) s = .next t ∧ (t.plan c).state = .none ∧
      (t.plan c).lastReject = (BitVec.ofNat 32 code, off) ∧ (t.plan c).image = (s.plan c).image ∧
      (∀ d, d ≠ c → t.plan d = s.plan d) ∧
      t = { s with set := t.set, setA := t.setA, setB := t.setB, slotB := t.slotB, recorder := t.recorder,
                   journal := t.journal, mgmt := t.mgmt, host := t.host, ctxs := t.ctxs, plans := t.plans } := by
  have hexec := exec_planCheckComplete hst hhold hlead hb
  simp only [h] at hexec
  have hoff := (State.offCommand_leaderRunning _ (s.vfOf c) 0x01 code off 0).trans
    ((s.readImage c b.length).offCommand_endsCheck c code off)
  generalize State.leaderRunning _ (s.vfOf c) 0x01 code off 0 = t at hexec hoff
  have hslot : t.plan c = (s.plan c).turnedAway code off :=
    (State.plan_of_offCommand hoff).trans (State.plan_updPlan_same (s := s.readImage c b.length) hplan _)
  refine ⟨t, hexec, (congrArg PlanSlot.state hslot :), (congrArg PlanSlot.lastReject hslot :),
    (congrArg PlanSlot.image hslot :), fun d hd => ?_,
    congrArg (fun x : State => { x.withCommand t with ctxs := t.ctxs, plans := t.plans }) hoff⟩
  rw [State.plan_of_offCommand hoff]
  exact State.plan_updPlan_ne (s := s.readImage c b.length) hd _

end

/-! PLAN_START (R91, R92, R110). -/

section
variable {s : State} {c : Nat}

theorem State.planDue_of_loaded (hst : (s.plan c).state = .loaded) (hloop : s.hal.beatCount % 4096 = 0)
    (hhold : s.lead.hold = none) (htake : s.lead.takeover = none)
    (hload : (s.plan c).loadedBeat + 256 ≤ s.hal.beatCount) (hafter : (s.plan c).startAfter ≤ s.hal.beatCount)
    (hspare : ∀ k ∈ s.clusters, k.takeoverWindow = none) : s.planDue c = true := by
  have hany : s.clusters.any (fun k => k.takeoverWindow.isSome) = false := by
    simpa [List.any_eq_false] using hspare
  simp [State.planDue, hst, State.atLoop_of_mod hloop, State.inHold_of_none hhold, htake, hany, hload, hafter]

/-- A plan that starts; the clusters read its entry 0 anew (R92). -/
def State.startsPlan (s : State) (c : Nat) : State :=
  { s.updPlan c fun p => { p with state := .running, startBeat := s.hal.beatCount } with
    clusters := s.clusters.map fun k => { k with ahead := none } }

theorem planStart_starts (hplan : c < s.plans.length) (hdue : s.planDue c = true) :
    ∃ t, exec (.planStart c) s = .next t ∧
      t.plan c = { s.plan c with state := .running, startBeat := s.hal.beatCount } ∧
      (∀ d, d ≠ c → t.plan d = s.plan d) ∧
      Recorded { s with plans := t.plans, clusters := s.clusters.map fun k => { k with ahead := none } } t := by
  have hexec : exec (.planStart c) s =
      .next ((s.startsPlan c).record 0x05300060 (s.startsPlan c).srcLeader (some c) []) := if_pos hdue
  have hplans := (s.startsPlan c).record_plans 0x05300060 (s.startsPlan c).srcLeader (some c) []
  have hrec := Recorded.one (s.startsPlan c) 0x05300060 (s.startsPlan c).srcLeader (some c) []
  generalize (s.startsPlan c).record 0x05300060 (s.startsPlan c).srcLeader (some c) [] = t at hexec hplans hrec
  refine ⟨t, hexec, ?_, fun d hd => ?_, ?_⟩
  · rw [State.plan, hplans]
    exact State.plan_updPlan_same hplan _
  · rw [State.plan, hplans]
    exact State.plan_updPlan_ne hd _
  · rw [hplans]
    exact hrec

end

/-! PLAN_UNLOAD (R91, R111). -/

section
variable {s : State} {v : Nat} {e : Bytes} {rest : List Bytes}

/-- A round of the context stands in the way of an unload (R111). -/
def State.hasLiveRound (s : State) (c : Nat) : Bool :=
  s.rounds.any fun r => r.ctx == c && (r.state.live || r.state == .opening)

theorem exec_planUnload (hc : s.Commands v 0x02 e rest)
    (hst : (s.plan (vfCtx v)).state = .loaded ∨ (s.plan (vfCtx v)).state = .running) :
    exec (.planUnload v) s = .next (if s.hasLiveRound (vfCtx v) then (s.taken v rest).leaderDone v e 0x01300059 0 0
      else ((s.taken v rest).updPlan (vfCtx v) fun p =>
        { p with state := .unloading, unloadAccepted := some s.hal.beatCount }).runs v e) := by
  have hexec : exec (.planUnload v) s = .next (s.command v 0x02 _) := rfl
  have hplan : ¬ (((s.taken v rest).plan (vfCtx v)).state ≠ .loaded ∧
      ((s.taken v rest).plan (vfCtx v)).state ≠ .running) := fun hne => hst.elim hne.1 hne.2
  rw [hexec, hc.command, if_neg hplan]
  rfl

theorem planUnload_accepted (hc : s.Commands v 0x02 e rest) (hplan : vfCtx v < s.plans.length)
    (hst : (s.plan (vfCtx v)).state = .loaded ∨ (s.plan (vfCtx v)).state = .running)
    (hlive : s.hasLiveRound (vfCtx v) = false) :
    ∃ t, exec (.planUnload v) s = .next t ∧ (t.vf v).running = some e ∧ t.plan (vfCtx v) = { s.plan (vfCtx v) with
        state := .unloading, unloadAccepted := some s.hal.beatCount } ∧
      t = { s with host := t.host, plans := t.plans } := by
  have hexec := exec_planUnload hc hst
  rw [hlive, if_neg Bool.false_ne_true] at hexec
  exact ⟨_, hexec, State.running_runs hc.1, State.plan_updPlan_same (s := s.taken v rest) hplan _, rfl⟩

theorem planUnload_turned_away (hc : s.Commands v 0x02 e rest)
    (hst : (s.plan (vfCtx v)).state = .loaded ∨ (s.plan (vfCtx v)).state = .running)
    (hlive : s.hasLiveRound (vfCtx v) = true) :
    exec (.planUnload v) s = .next ((s.taken v rest).leaderDone v e 0x01300059 0 0) := by
  rw [exec_planUnload hc hst, if_pos hlive]

end

end Sys2Proof.Machine
end

section
/-!
Connections that close (R284 to R288): what closing them, and making their records resident for it, leaves of the
others.
-/
namespace Sys2Proof.Machine

/-! Connection records. -/

/-- From `x` to `y` the record of a connection keeps its place; where its index does not meet `P`, only its residence
has changed (R286, R287). -/
structure Conn.Touched (P : Nat → Prop) (x y : Conn) : Prop where
  index : y.index = x.index
  ctx : y.ctx = x.ctx
  kind : y.kind = x.kind
  others : ¬ P x.index → y = { x with resident := y.resident, intact := y.intact }

section
variable {P Q : Nat → Prop} {x y z : Conn}

theorem Conn.Touched.refl (P : Nat → Prop) (x : Conn) : Conn.Touched P x x := ⟨rfl, rfl, rfl, fun _ => rfl⟩

theorem Conn.Touched.mono (hPQ : ∀ i, P i → Q i) (h : Conn.Touched P x y) : Conn.Touched Q x y :=
  ⟨h.index, h.ctx, h.kind, fun hq => h.others fun hp => hq (hPQ _ hp)⟩

theorem Conn.Touched.trans (h : Conn.Touched P x y) (k : Conn.Touched P y z) : Conn.Touched P x z := by
  refine ⟨k.index.trans h.index, k.ctx.trans h.ctx, k.kind.trans h.kind, fun hp => ?_⟩
  have hy := h.others hp
  have hz := k.others (h.index.symm ▸ hp)
  rw [hy] at hz
  exact hz

/-- A residence may change at any connection. -/
theorem Conn.Touched.residence (P : Nat → Prop) (x : Conn) (a b : Bool) :
    Conn.Touched P x { x with resident := a, intact := b } := ⟨rfl, rfl, rfl, fun _ => rfl⟩

end

/-- From `s` to `t` only connections whose index meets `P` have changed in more than their residence. -/
def State.Touches (P : Nat → Prop) (s t : State) : Prop :=
  ∃ g : Conn → Conn, (∀ x, Conn.Touched P x (g x)) ∧ t.grixo.conns = s.grixo.conns.map g

section
variable {P Q : Nat → Prop} {s t u : State} {i : Nat} {x y : Conn}

theorem State.Touches.of_conns (h : t.grixo.conns = s.grixo.conns) : State.Touches P s t :=
  ⟨id, Conn.Touched.refl P, by rw [h, List.map_id]⟩

theorem State.Touches.refl (P : Nat → Prop) (s : State) : State.Touches P s s := .of_conns rfl

theorem State.Touches.mono (hPQ : ∀ i, P i → Q i) (h : State.Touches P s t) : State.Touches Q s t := by
  obtain ⟨g, hg, hconns⟩ := h
  exact ⟨g, fun x => (hg x).mono hPQ, hconns⟩

theorem State.Touches.trans (h : State.Touches P s t) (k : State.Touches P t u) : State.Touches P s u := by
  obtain ⟨f, hf, hst⟩ := h
  obtain ⟨g, hg, htu⟩ := k
  exact ⟨g ∘ f, fun x => (hf x).trans (hg _), by rw [htu, hst, List.map_map]⟩

/-- Records keep their places. -/
theorem State.Touches.indices (h : State.Touches P s t) :
    t.grixo.conns.map Conn.index = s.grixo.conns.map Conn.index := by
  obtain ⟨g, hg, hconns⟩ := h
  rw [hconns, List.map_map]
  exact List.map_congr_left fun x _ => (hg x).index

/-- A record after, with the one that it was. -/
theorem State.Touches.before (h : State.Touches P s t) (hy : y ∈ t.grixo.conns) :
    ∃ x ∈ s.grixo.conns, Conn.Touched P x y := by
  obtain ⟨g, hg, hconns⟩ := h
  rw [hconns] at hy
  obtain ⟨x, hx, rfl⟩ := List.mem_map.mp hy
  exact ⟨x, hx, hg x⟩

/-- A record before, with the one that it becomes. -/
theorem State.Touches.after (h : State.Touches P s t) (hx : x ∈ s.grixo.conns) :
    ∃ y ∈ t.grixo.conns, Conn.Touched P x y := by
  obtain ⟨g, hg, hconns⟩ := h
  exact ⟨g x, hconns ▸ List.mem_map_of_mem hx, hg x⟩

/-- An update of the connection at an index. -/
theorem State.touches_updConn {f : Conn → Conn} (hf : ∀ x, x.index = i → Conn.Touched P x (f x)) :
    State.Touches P s (s.updConn i f) := by
  refine ⟨fun x => if x.index == i then f x else x, fun x => ?_, rfl⟩
  dsimp only
  split
  next h => exact hf x (beq_iff_eq.mp h)
  next => exact .refl P x

theorem State.conn?_some (h : s.conn? i = some x) : x ∈ s.grixo.conns ∧ x.index = i :=
  ⟨List.mem_of_find?_eq_some h, beq_iff_eq.mp (List.find?_some (p := fun c : Conn => c.index == i) h)⟩

end

/-! Residence (R286 to R288). -/

section
variable {s t : State} {i : Nat}

/-- The end of a connection as it stands in its record (R122, R284). -/
def Conn.ended (c : Conn) (st : ConnState) : Conn :=
  { c with state := st, tx := [], rx := c.rx.filter fun m => m.complete && c.kind == 1, reads := [], notices := [],
           waiting := [], ctrlQueue := [], sendArea := [], ackDue := [], ackCount := 0, ackDueAt := none,
           outBucket := List.replicate 16 0, inBucket := List.replicate 16 0,
           pathStates := c.pathStates.map fun _ => .new, reqSent := 0 }

theorem Conn.touched_ended {x : Conn} (h : x.index = i) (st : ConnState) : Conn.Touched (· = i) x (x.ended st) :=
  ⟨rfl, rfl, rfl, fun hne => absurd h hne⟩

/-- An end updates the record that it names. -/
theorem State.endConn_conns (s : State) (i : Nat) (st : ConnState) (status : Nat) :
    (s.endConn i st status).grixo.conns = s.grixo.conns ∧ s.conn? i = none ∨
      (s.endConn i st status).grixo.conns = (s.updConn i fun c => c.ended st).grixo.conns := by
  unfold State.endConn
  split
  next h => exact .inl ⟨rfl, h⟩
  next c h =>
    dsimp only
    split <;> exact .inr rfl

theorem State.touches_endConn (s : State) (i : Nat) (st : ConnState) (status : Nat) :
    State.Touches (· = i) s (s.endConn i st status) := by
  obtain ⟨h, -⟩ | h := s.endConn_conns i st status
  · exact .of_conns h
  · obtain ⟨g, hg, hconns⟩ := State.touches_updConn (s := s) fun x hx => Conn.touched_ended hx st
    exact ⟨g, hg, h.trans hconns⟩

theorem State.deriveConnKey_grixo (s : State) (c : Conn) : (s.deriveConnKey c).grixo = s.grixo := by
  unfold State.deriveConnKey
  split
  · exact State.record_grixo ..
  · rfl

theorem State.touches_fetchRecord (s : State) (c : Conn) : State.Touches (· = c.index) s (s.fetchRecord c) := by
  have hres : State.Touches (· = c.index) s ((s.updConn c.index fun x => { x with resident := true }).count c.ctx
      fun k => { k with recordFetches := k.recordFetches + 1 }) :=
    State.touches_updConn fun x _ => .residence _ x true x.intact
  unfold State.fetchRecord
  dsimp only
  split
  · exact hres.trans (.of_conns (congrArg Grixo.conns (State.deriveConnKey_grixo ..)))
  · exact hres.trans (State.touches_endConn ..)

/-- Making a record resident may write back another (R287). -/
theorem State.touches_makeResident (h : s.makeResident i = some t) : State.Touches (· = i) s t := by
  unfold State.makeResident at h
  split at h
  · cases h
  next c hc =>
    obtain ⟨-, hi⟩ := State.conn?_some hc
    dsimp only at h
    split at h
    · cases h
      exact .refl _ s
    · split at h
      · cases h
        exact hi ▸ State.touches_fetchRecord s c
      · obtain ⟨v, -, rfl⟩ := Option.map_eq_some_iff.mp h
        exact (State.touches_updConn fun x _ => .residence _ x false true).trans (hi ▸ State.touches_fetchRecord _ c)

theorem State.touches_residence (s : State) (i : Nat) : State.Touches (· = i) s ((s.makeResident i).getD s) := by
  cases h : s.makeResident i with
  | none => exact .refl _ s
  | some t => exact State.touches_makeResident h

end

/-! Closing (R284). -/

section
variable {s : State} {i : Nat}

theorem State.emitPacket_grixo {t : State} {c : Conn} {path type flags kos off lane : Nat} {id6 body : Bytes}
    (h : s.emitPacket c path type flags id6 kos off body = some (t, lane)) : t.grixo = s.grixo := by
  unfold State.emitPacket at h
  dsimp only at h
  split at h
  · cases h
  · obtain ⟨⟨l, f⟩, -, heq⟩ := Option.map_eq_some_iff.mp h
    cases heq
    rfl

theorem State.sendClosing_grixo (s : State) (k : Closing) : (s.sendClosing k).2.grixo = s.grixo := by
  unfold State.sendClosing
  dsimp only
  split
  · rfl
  next h => exact State.emitPacket_grixo h

/-- A close makes the record resident, and ends a connection that is not closed. -/
theorem State.closeConn_conns {u : State} (hu : (s.makeResident i).getD s = u) (reason : Nat) (st : ConnState) :
    (s.closeConn i reason st).grixo.conns = u.grixo.conns ∧ (∀ c, u.conn? i = some c → c.state = .closed) ∨
      ∃ status, (s.closeConn i reason st).grixo.conns = (u.endConn i st status).grixo.conns := by
  unfold State.closeConn
  dsimp only
  rw [hu]
  split
  next h => exact .inl ⟨rfl, fun c hc => by simp [h] at hc⟩
  next c h =>
    split
    next hst => exact .inl ⟨rfl, fun d hd => by rwa [← Option.some.inj (h.symm.trans hd)]⟩
    next =>
      refine .inr ⟨if reason = 0 then 0x05200025 else reason, ?_⟩
      rw [State.record_grixo]
      generalize hy : State.sendClosing _ _ = y
      have hsent : y.2.grixo = _ := hy ▸ State.sendClosing_grixo ..
      exact (congrArg Grixo.conns hsent :)

theorem State.touches_closeConn (s : State) (i reason : Nat) (st : ConnState) :
    State.Touches (· = i) s (s.closeConn i reason st) := by
  have hres := s.touches_residence i
  obtain ⟨h, -⟩ | ⟨status, h⟩ := State.closeConn_conns (s := s) (i := i) rfl reason st
  · exact hres.trans (.of_conns h)
  · exact (hres.trans (State.touches_endConn _ i st status)).trans (.of_conns h)

/-- Where no two records share an index, the record found at an index is the one that has it. -/
theorem State.conn?_of_mem {x : Conn} (hnodup : (s.grixo.conns.map Conn.index).Nodup) (hx : x ∈ s.grixo.conns) :
    s.conn? x.index = some x := by
  obtain ⟨y, hy⟩ := Option.isSome_iff_exists.mp
    (List.find?_isSome (p := fun c : Conn => c.index == x.index).mpr ⟨x, hx, beq_iff_eq.mpr rfl⟩)
  obtain ⟨hmem, hindex⟩ := State.conn?_some hy
  rwa [List.inj_on_of_nodup_map hnodup hmem hx hindex] at hy

/-- A connection that has been closed is CLOSED. -/
theorem State.closeConn_closes (hnodup : (s.grixo.conns.map Conn.index).Nodup) (i reason : Nat) {y : Conn}
    (hy : y ∈ (s.closeConn i reason .closed).grixo.conns) (hi : y.index = i) : y.state = .closed := by
  generalize hu : (s.makeResident i).getD s = u
  have hnodup' : (u.grixo.conns.map Conn.index).Nodup := by rwa [← hu, (s.touches_residence i).indices]
  obtain ⟨h, hclosed⟩ | ⟨status, h⟩ := State.closeConn_conns hu reason .closed
  · exact hclosed y (hi ▸ State.conn?_of_mem hnodup' (h ▸ hy))
  · rw [h] at hy
    obtain ⟨hend, hnone⟩ | hend := u.endConn_conns i .closed status
    · rw [hend] at hy
      rw [← hi, State.conn?_of_mem hnodup' hy] at hnone
      cases hnone
    · rw [hend] at hy
      obtain ⟨x, -, rfl⟩ := List.mem_map.mp hy
      by_cases hx : (x.index == i) = true
      · rw [if_pos hx]
        rfl
      · rw [if_neg hx] at hi
        exact absurd (beq_iff_eq.mpr hi) hx

/-- Connections that are closed one after another. -/
theorem State.touches_closeConns (reason : Nat) (l : List Conn) (s : State) :
    State.Touches (· ∈ l.map Conn.index) s (l.foldl (fun s c => s.closeConn c.index reason .closed) s) := by
  induction l generalizing s with
  | nil => exact .refl _ s
  | cons c l ih =>
    have hone := s.touches_closeConn c.index reason .closed
    exact (hone.mono fun i hi => hi ▸ List.mem_cons_self).trans ((ih _).mono fun i hi => List.mem_cons_of_mem _ hi)

theorem State.closeConns_close (reason : Nat) (l : List Conn) {s : State}
    (hnodup : (s.grixo.conns.map Conn.index).Nodup) {y : Conn}
    (hy : y ∈ (l.foldl (fun s c => s.closeConn c.index reason .closed) s).grixo.conns)
    (hmem : y.index ∈ l.map Conn.index) : y.state = .closed := by
  induction l generalizing s with
  | nil => cases hmem
  | cons c l ih =>
    rw [List.foldl_cons] at hy
    have hone := s.touches_closeConn c.index reason .closed
    by_cases hlater : y.index ∈ l.map Conn.index
    · exact ih (hone.indices ▸ hnodup) hy hlater
    · obtain ⟨x, hx, hxy⟩ := (State.touches_closeConns reason l _).before hy
      have hindex : x.index = c.index := by
        rw [← hxy.index]
        exact (List.mem_cons.mp hmem).resolve_right hlater
      have hstate : y.state = x.state := (congrArg Conn.state (hxy.others (hxy.index ▸ hlater)) :)
      exact hstate.trans (State.closeConn_closes hnodup _ reason hx hindex)

/-- Every connection that meets a condition on its place is CLOSED. -/
theorem State.closeAll_closes (hnodup : (s.grixo.conns.map Conn.index).Nodup) (c reason : Nat) {y : Conn}
    (hy : y ∈ (s.closeAll (fun x => x.ctx == c && x.kind == 1) reason).grixo.conns) (hctx : y.ctx = c)
    (hkind : y.kind = 1) : y.state = .closed := by
  obtain ⟨x, hx, hxy⟩ := (State.touches_closeConns reason _ s).before hy
  have hmem : x ∈ s.grixo.conns.filter fun x => x.ctx == c && x.kind == 1 := by
    simp [hx, ← hxy.ctx, ← hxy.kind, hctx, hkind]
  exact State.closeConns_close reason _ hnodup hy (hxy.index ▸ List.mem_map_of_mem hmem)

/-- Of every other connection only the residence may change. -/
theorem State.closeAll_others (hnodup : (s.grixo.conns.map Conn.index).Nodup) (c reason : Nat) {x : Conn}
    (hx : x ∈ s.grixo.conns) (hother : x.ctx ≠ c ∨ x.kind ≠ 1) :
    ∃ y ∈ (s.closeAll (fun x => x.ctx == c && x.kind == 1) reason).grixo.conns,
      y = { x with resident := y.resident, intact := y.intact } := by
  obtain ⟨y, hy, hxy⟩ := (State.touches_closeConns reason
    (s.grixo.conns.filter fun x => x.ctx == c && x.kind == 1) s).after hx
  refine ⟨y, hy, hxy.others fun hmem => ?_⟩
  obtain ⟨z, hz, hindex⟩ := List.mem_map.mp hmem
  obtain ⟨hzs, hzp⟩ := List.mem_filter.mp hz
  rw [List.inj_on_of_nodup_map hnodup hzs hx hindex] at hzp
  simp only [Bool.and_eq_true, beq_iff_eq] at hzp
  exact hother.elim (· hzp.1) (· hzp.2)

end

end Sys2Proof.Machine
end

section
/-!
PLAN_UNLOAD_EFFECT (R36, R91, R111, R254, R284): what an unload leaves of a context's plan, rounds and connections.
-/
namespace Sys2Proof.Machine

section
variable {s : State} {c b : Nat}

/-- The slot of a context without a plan (R111). -/
def PlanSlot.unloaded (p : PlanSlot) : PlanSlot := { PlanSlot.reset with lastReject := p.lastReject }

/-- A context without its plan, the plan's rounds, and what the clusters hold of it (R36, R91, R111). -/
def State.withoutPlan (s : State) (c : Nat) : State := (s.updPlan c PlanSlot.unloaded).clearPlan c

/-- The unload is reported to the peers, the journal and the recorder. -/
def State.reportUnload (s : State) (c : Nat) : State :=
  let s := (s.closeAll (fun x => x.ctx == c && x.kind == 1) 0x05300061).journal1 2 (some c) (leBytes 8 s.hal.beatCount)
  s.record 0x05300061 s.srcLeader (some c) []

theorem State.closeAll_hal (s : State) (p : Conn → Bool) (reason : Nat) : (s.closeAll p reason).hal = s.hal :=
  (congrArg State.hal (s.offWire_closeAll p reason) :)

theorem State.unloadPlan_eq (s : State) (c : Nat) :
    s.unloadPlan c = (s.withoutPlan c).reportUnload c := by
  unfold State.unloadPlan State.reportUnload
  dsimp only
  rw [State.closeAll_hal]
  rfl

theorem State.offCommand_reportUnload (s : State) (c : Nat) : (s.reportUnload c).offCommand =
    (s.closeAll (fun x => x.ctx == c && x.kind == 1) 0x05300061).offCommand :=
  (State.offCommand_record ..).trans (State.offCommand_journal1 ..)

theorem State.plan_of_offWire {t : State} (h : t.offWire = s.offWire) : t.plan c = s.plan c :=
  (congrArg (fun x : State => x.plan c) h :)

/-- A state with what another holds of all that an unload changes. -/
def State.withUnload (s t : State) : State :=
  { s.withCommand t with ctxs := t.ctxs, plans := t.plans, clusters := t.clusters, rounds := t.rounds, grixo := t.grixo,
                         out := t.out }

/-- What an unload leaves alone: `w` is the state once the connections are closed. -/
theorem State.eq_of_unload {t w : State} {ps : List PlanSlot} {cs : List Cluster} {rs : List Round}
    (h : t.offCommand = w.offCommand)
    (hw : w.offWire = { s with plans := ps, clusters := cs, rounds := rs }.offWire) :
    t = { s with set := t.set, setA := t.setA, setB := t.setB, slotB := t.slotB, recorder := t.recorder,
                 journal := t.journal, mgmt := t.mgmt, host := t.host, ctxs := t.ctxs, plans := t.plans,
                 clusters := t.clusters, rounds := t.rounds, grixo := t.grixo, out := t.out } :=
  (congrArg (fun x : State => x.withUnload t) h :).trans (congrArg (fun x : State => x.withUnload t) hw :)

theorem exec_planUnloadEffect (hst : (s.plan c).state = .unloading) (hacc : (s.plan c).unloadAccepted = some b)
    (hbeat : b < s.hal.beatCount) (hloop : s.hal.beatCount % 4096 = 0) (hhold : s.lead.hold = none)
    (htake : s.lead.takeover = none) (hdel : ∀ r ∈ s.rounds, r.ctx = c → r.delivering = false) :
    exec (.planUnloadEffect c) s =
      .next ((s.unloadPlan c).leaderRunning (s.vfOf c) 0x02 0 s.hal.beatCount 0) := by
  have hdue : ((s.plan c).state == .unloading && s.atLoop && !s.inHold && s.lead.takeover.isNone &&
      decide (b < s.hal.beatCount)) = true := by
    simp [hst, State.atLoop_of_mod hloop, State.inHold_of_none hhold, htake, hbeat]
  have hnone : (s.rounds.filter fun r => r.ctx == c && r.delivering) = [] := by
    simpa [List.filter_eq_nil_iff] using hdel
  change execPlanUnloadEffect c s = _
  unfold execPlanUnloadEffect
  simp only [hacc]
  rw [if_pos hdue, hnone, List.foldl_nil]

/-- What an unload comes to beside the commands, the journal and the recorder. -/
theorem State.offCommand_unloaded (s : State) (c v r0 : Nat) :
    ((s.unloadPlan c).leaderRunning v 0x02 0 r0 0).offCommand =
      ((s.withoutPlan c).closeAll (fun x => x.ctx == c && x.kind == 1)
        0x05300061).offCommand := by
  rw [State.offCommand_leaderRunning, State.unloadPlan_eq, State.offCommand_reportUnload]

theorem planUnloadEffect_unloads (hplan : c < s.plans.length) (hst : (s.plan c).state = .unloading)
    (hacc : (s.plan c).unloadAccepted = some b) (hbeat : b < s.hal.beatCount) (hloop : s.hal.beatCount % 4096 = 0)
    (hhold : s.lead.hold = none) (htake : s.lead.takeover = none)
    (hdel : ∀ r ∈ s.rounds, r.ctx = c → r.delivering = false) (hnodup : (s.grixo.conns.map Conn.index).Nodup) :
    ∃ t, exec (.planUnloadEffect c) s = .next t ∧
      t.plan c = { PlanSlot.reset with lastReject := (s.plan c).lastReject } ∧
      t.rounds = s.rounds.filter (fun r => r.ctx != c) ∧
      (∀ x ∈ t.grixo.conns, x.ctx = c → x.kind = 1 → x.state = .closed) ∧
      (∀ x ∈ s.grixo.conns, (x.ctx ≠ c ∨ x.kind ≠ 1) →
        ∃ y ∈ t.grixo.conns, y = { x with resident := y.resident, intact := y.intact }) ∧
      t.clusters = s.clusters.map (fun k => k.without c) ∧
      t = { s with set := t.set, setA := t.setA, setB := t.setB, slotB := t.slotB, recorder := t.recorder,
                   journal := t.journal, mgmt := t.mgmt, host := t.host, ctxs := t.ctxs, plans := t.plans
                   clusters := t.clusters, rounds := t.rounds, grixo := t.grixo, out := t.out } := by
  have hexec := exec_planUnloadEffect hst hacc hbeat hloop hhold htake hdel
  have hoff := s.offCommand_unloaded c (s.vfOf c) s.hal.beatCount
  have hwire := (s.withoutPlan c).offWire_closeAll (fun x => x.ctx == c && x.kind == 1) 0x05300061
  generalize State.leaderRunning _ (s.vfOf c) 0x02 0 s.hal.beatCount 0 = t at hexec hoff
  have hgrixo : t.grixo = ((s.withoutPlan c).closeAll (fun x => x.ctx == c && x.kind == 1) 0x05300061).grixo :=
    (congrArg State.grixo hoff :)
  refine ⟨t, hexec, ?_, ?_, fun x hx => ?_, fun x hx => ?_, ?_, State.eq_of_unload hoff hwire⟩
  · rw [State.plan_of_offCommand hoff, State.plan_of_offWire hwire]
    exact State.plan_updPlan_same hplan PlanSlot.unloaded
  · exact (congrArg State.rounds hoff :).trans (congrArg State.rounds hwire :)
  · rw [hgrixo] at hx
    exact State.closeAll_closes (s := s.withoutPlan c) hnodup c 0x05300061 hx
  · rw [hgrixo]
    exact State.closeAll_others (s := s.withoutPlan c) hnodup c 0x05300061 hx
  · exact (congrArg State.clusters hoff :).trans (congrArg State.clusters hwire :)

end

end Sys2Proof.Machine
end

section
/-!
Queries and peer reports (R103, R165, R314, R315, R375 to R378): ROUND_QUERY, REQUEST_LIST, ATTEST, PEER_REPORT.
-/
namespace Sys2Proof.Machine

/-! ROUND_QUERY, REQUEST_LIST, ATTEST. -/

section
variable {s : State} {v j n : Nat} {e : Bytes} {rest : List Bytes} {r : Round} {im : PlanImage}

theorem exec_roundQuery (hc : s.Commands v 0x07 e rest) (hj : s.cohortOf (vfCtx v) (leAt e 8 4) = some j)
    (hn : s.namedRound (vfCtx v) j (leAt e 12 4) = .ok r) :
    exec (.roundQuery v) s = .next ((s.taken v rest).leaderDone v e 0 r.state.queryCode r.chunksShown) := by
  change Host.Outcome.next (s.roundCommand _ _ _ _) = _
  rw [hc.roundCommand hj hn]

theorem exec_requestList (hc : s.Commands v 0x08 e rest) (him : s.image (vfCtx v) = some im)
    (hj : s.cohortOf (vfCtx v) (leAt e 8 4) = some j) (hn : s.namedRound (vfCtx v) j (leAt e 12 4) = .ok r)
    (hreleased : r.state ≠ .released) (habandoned : r.state ≠ .abandoned) (hfrozen : r.frozen = true)
    (hpair : (im.template j).isPair = true) (hlen : n = ceilDiv (im.template j).clientSlots 4) (hroom : n ≤ leAt e 24 4)
    (haddr : leAt e 16 8 % 64 = 0) :
    exec (.requestList v) s = .next (((s.taken v rest).toHost (vfCtx v) (leAt e 16 8)
      (r.requestObject (im.template j))).leaderDone v e 0 n 0) := by
  have him' : (s.taken v rest).image (vfCtx v) = some im := him
  have hlive : ¬ (r.state = .released ∨ r.state = .abandoned) := not_or.mpr ⟨hreleased, habandoned⟩
  have hfits : ¬ (leAt e 24 4 < n ∨ leAt e 16 8 % 64 ≠ 0) :=
    not_or.mpr ⟨Nat.not_lt.mpr hroom, not_not_intro haddr⟩
  change Host.Outcome.next (s.roundCommand _ _ _ _) = _
  rw [hc.roundCommand hj hn]
  simp only [him', Option.map_some, Option.getD_some, ← hlen, if_neg hlive, if_neg hfits]
  simp [hfrozen, hpair]

/-- A report and its signature (R375, R376). -/
def State.signedReport (s : State) (r : Round) (im : PlanImage) (nonce : Bytes) : Bytes :=
  s.reportBody r im nonce ++ padTo 96 (ecdsaSign s.aliasKey (p384Private (s.draw 64).1) (s.reportBody r im nonce))

theorem exec_attest (hc : s.Commands v 0x09 e rest) (him : s.image (vfCtx v) = some im)
    (hj : s.cohortOf (vfCtx v) (leAt e 8 4) = some j) (hn : s.namedRound (vfCtx v) j (leAt e 12 4) = .ok r)
    (hreleased : r.state ≠ .released) (habandoned : r.state ≠ .abandoned) (haddr : leAt e 16 8 % 64 = 0) :
    exec (.attest v) s = .next ((((s.taken v rest).draw 64).2.toHost (vfCtx v) (leAt e 16 8)
      ((s.taken v rest).signedReport r im (slice e 24 32))).leaderDone v e 0 0 0) := by
  have him' : (s.taken v rest).image (vfCtx v) = some im := him
  have hlive : ¬ (r.state = .released ∨ r.state = .abandoned) := not_or.mpr ⟨hreleased, habandoned⟩
  change Host.Outcome.next (s.roundCommand _ _ _ _) = _
  rw [hc.roundCommand hj hn]
  simp only [him', if_neg hlive, if_neg (not_not_intro haddr)]
  rfl

/-- A state that agrees with another outside of its contexts, draws, what it has sent, virtual functions, the journal,
and what records touch, written as an update of it. -/
theorem State.eq_of_offCommand_sends {t : State} {cs : List Ctx} {d : Nat} {o : List Output}
    (h : t.offCommand = { s with ctxs := cs, draws := d, out := o }.offCommand) :
    t = { s with set := t.set, setA := t.setA, setB := t.setB, slotB := t.slotB, recorder := t.recorder,
                 journal := t.journal, mgmt := t.mgmt, host := t.host, ctxs := t.ctxs, draws := d, out := t.out } :=
  congrArg (fun x : State => { x.withCommand t with ctxs := t.ctxs, out := t.out }) h

theorem attest_reports (hc : s.Commands v 0x09 e rest) (him : s.image (vfCtx v) = some im)
    (hj : s.cohortOf (vfCtx v) (leAt e 8 4) = some j) (hn : s.namedRound (vfCtx v) j (leAt e 12 4) = .ok r)
    (hreleased : r.state ≠ .released) (habandoned : r.state ≠ .abandoned) (haddr : leAt e 16 8 % 64 = 0) :
    ∃ t, exec (.attest v) s = .next t ∧
      t.out = s.out ++ [.hostWrite (s.ctxSet (vfCtx v)).endpoint (vfCtx v) (leAt e 16 8)
        (s.signedReport r im (slice e 24 32))] ∧
      t = { s with set := t.set, setA := t.setA, setB := t.setB, slotB := t.slotB, recorder := t.recorder,
                   journal := t.journal, mgmt := t.mgmt, host := t.host, ctxs := t.ctxs, draws := s.draws + 1
                   out := t.out } := by
  have hexec := exec_attest hc him hj hn hreleased habandoned haddr
  have hreport : (s.taken v rest).signedReport r im (slice e 24 32) = s.signedReport r im (slice e 24 32) := rfl
  rw [hreport] at hexec
  generalize s.signedReport r im (slice e 24 32) = b at hexec ⊢
  have hoff := State.offCommand_leaderDone (((s.taken v rest).draw 64).2.toHost (vfCtx v) (leAt e 16 8) b) v e 0 0 0
  generalize State.leaderDone _ v e 0 0 0 = t at hexec hoff
  exact ⟨t, hexec, (congrArg State.out hoff :), State.eq_of_offCommand_sends hoff⟩

end

/-! PEER_REPORT (R113 to R117, R315, R378). -/

section
variable {s : State} {v j len : Nat} {e report chain buf : Bytes} {rest : List Bytes} {r : Round} {im : PlanImage}

/-- The bytes of a report have been read from host memory. -/
def State.readsReport (s : State) (v len : Nat) (rest : List Bytes) : State := (s.taken v rest).readImage (vfCtx v) len

/-- What a round binds when its leaf accepts a root (R378). -/
def Round.joins (r : Round) (rootKey key enc : Bytes) (conn : Nat) : Round :=
  { r with root := some rootKey, rootKey := key, rootConn := conn, rootEnc := enc }

/-- The state in which a leaf's round has a root (R378). -/
def State.joinsRoot (s : State) (r : Round) (rootKey key enc : Bytes) (conn : Nat) : State :=
  (s.draw 32).2.updRound r.ctx r.template fun r => r.joins rootKey key enc conn

/-- A leaf that accepts a root journals it, and sends its SESSION frame (R113 to R117, R378). -/
theorem State.acceptRoot_eq (s : State) (r : Round) (t : Template) (rootKey : Bytes) (conn : Nat) :
    ∃ key enc body source body', s.acceptRoot r t rootKey conn =
      (((s.joinsRoot r rootKey key enc conn).journal1 3 (some r.ctx) body).queueModuleMsg conn
        (leafSession r t.slotBase key enc)).record 0x05410023 source (some r.ctx) body' :=
  ⟨_, _, _, _, _, rfl⟩

theorem State.offCommand_queueModuleMsg {s t : State} (h : t.offCommand = s.offCommand) (conn : Nat) (m : Bytes) :
    (t.queueModuleMsg conn m).offCommand = (s.queueModuleMsg conn m).offCommand :=
  (congrArg (fun x : State => (x.queueModuleMsg conn m).offCommand) h :)

theorem State.offCommand_acceptRoot (s : State) (r : Round) (t : Template) (rootKey : Bytes) (conn : Nat) :
    ∃ key enc, (s.acceptRoot r t rootKey conn).offCommand =
      ((s.joinsRoot r rootKey key enc conn).queueModuleMsg conn (leafSession r t.slotBase key enc)).offCommand := by
  obtain ⟨key, enc, body, source, body', h⟩ := s.acceptRoot_eq r t rootKey conn
  refine ⟨key, enc, ?_⟩
  rw [h, State.offCommand_record]
  exact State.offCommand_queueModuleMsg (State.offCommand_journal1 ..) ..

/-- An open connection takes a message of the module. -/
theorem State.conn?_queueModuleMsg {i : Nat} {m : Bytes} {x : Conn} (hx : s.conn? i = some x)
    (hopen : x.state = .open) : (s.queueModuleMsg i m).conn? i = some { x with sendArea := x.sendArea ++ [m] } := by
  have hfind : (s.queueModuleMsg i m).conn? i = (s.conn? i).map fun c =>
      if c.state = .open then { c with sendArea := c.sendArea ++ [m] } else c := by
    refine find?_updIf (p := fun c : Conn => c.index == i) (fun c hc => ?_) s.grixo.conns
    split <;> exact hc
  rw [hfind, hx, Option.map_some, if_pos hopen]

/-- A state that agrees with another outside of its contexts, rounds, connections, draws, virtual functions, the
journal, and what records touch, written as an update of it. -/
theorem State.eq_of_offCommand_joins {t : State} {cs : List Ctx} {rs : List Round} {xs : List Conn} {d : Nat}
    (h : t.offCommand =
      { s with ctxs := cs, rounds := rs, grixo := { s.grixo with conns := xs }, draws := d }.offCommand) :
    t = { s with set := t.set, setA := t.setA, setB := t.setB, slotB := t.slotB, recorder := t.recorder,
                 journal := t.journal, mgmt := t.mgmt, host := t.host, ctxs := t.ctxs, rounds := t.rounds
                 grixo := { s.grixo with conns := t.grixo.conns }, draws := d } :=
  congrArg (fun x : State => { x.withCommand t with
    ctxs := t.ctxs, rounds := t.rounds, grixo := { x.grixo with conns := t.grixo.conns } }) h

/-! A report that is judged. -/

section
variable (hc : s.Commands v 0x0A e rest) (hrun : (s.plan (vfCtx v)).state = .running)
  (him : s.image (vfCtx v) = some im) (hj : s.cohortOf (vfCtx v) (leAt e 8 4) = some j)
  (hleaf : (im.template j).isLeaf = true) (hn : s.namedRound (vfCtx v) j (leAt e 12 4) = .ok r)
  (hopen : r.state = .open) (hlen : len = leAt e 24 4) (hmin : 1345 ≤ len) (hmax : len ≤ 9536)
  (haddr : leAt e 16 8 % 64 = 0) (hroot : r.root = none)
  (hbuf : buf = padTo 1344 report ++ padTo (len - 1344) chain)
include hc hrun him hj hleaf hn hopen hlen hmin hmax haddr hroot hbuf

theorem exec_peerReport :
    ∃ body, exec (.peerReport v report chain) s = .next
      (if s.rootChecks r im buf (leAt e 28 2) && !lowOrder (slice buf 528 32) then
        ((s.readsReport v len rest).acceptRoot r (im.template j) (slice buf 528 32) (leAt e 28 2)).leaderDone v e 0 0 0
      else ((s.readsReport v len rest).record 0x01410016 (s.readsReport v len rest).srcLeader (some (vfCtx v))
        body).leaderDone v e 0x01410016 0 0) := by
  have hexec : exec (.peerReport v report chain) s = .next (s.command v 0x0A _) := rfl
  have hcohort : (if ((s.taken v rest).plan (vfCtx v)).state = .running then
      (s.taken v rest).cohortOf (vfCtx v) (leAt e 8 4) else none) = some j := (if_pos hrun).trans hj
  have him' : (s.taken v rest).image (vfCtx v) = some im := him
  have hn' : (s.taken v rest).namedRound (vfCtx v) j (leAt e 12 4) = .ok r := hn
  have hshape : ¬ (len < 1345 ∨ 9536 < len ∨ leAt e 16 8 % 64 ≠ 0) := by omega
  rw [hexec, hc.command]
  simp only [hcohort, him', hleaf, hn', hopen, ← hlen, ← hbuf, if_neg hshape, hroot]
  exact ⟨_, rfl⟩

theorem peerReport_accepts (hchecks : s.rootChecks r im buf (leAt e 28 2) = true)
    (horder : lowOrder (slice buf 528 32) = false) :
    ∃ t q, exec (.peerReport v report chain) s = .next t ∧ t.round? (vfCtx v) j = some q ∧
      q = { r with root := some (slice buf 528 32), rootKey := q.rootKey, rootConn := leAt e 28 2,
                   rootEnc := q.rootEnc } ∧
      (∀ x, s.conn? (leAt e 28 2) = some x → x.state = .open → t.conn? (leAt e 28 2) = some { x with sendArea :=
        x.sendArea ++ [leafSession r (im.template j).slotBase q.rootKey q.rootEnc] }) ∧
      t = { s with set := t.set, setA := t.setA, setB := t.setB, slotB := t.slotB, recorder := t.recorder,
                   journal := t.journal, mgmt := t.mgmt, host := t.host, ctxs := t.ctxs, rounds := t.rounds
                   grixo := { s.grixo with conns := t.grixo.conns }, draws := s.draws + 1 } := by
  obtain ⟨body, hexec⟩ := exec_peerReport hc hrun him hj hleaf hn hopen hlen hmin hmax haddr hroot hbuf
  rw [if_pos (by simp [hchecks, horder])] at hexec
  obtain ⟨key, enc, haccept⟩ :=
    (s.readsReport v len rest).offCommand_acceptRoot r (im.template j) (slice buf 528 32) (leAt e 28 2)
  have hoff := (State.offCommand_leaderDone _ v e 0 0 0).trans haccept
  generalize State.leaderDone _ v e 0 0 0 = t at hexec hoff
  generalize slice buf 528 32 = rootKey at hoff ⊢
  have hr := State.round?_of_namedRound hn
  obtain ⟨hctx, htemplate⟩ : r.ctx = vfCtx v ∧ r.template = j := by
    have hcur := State.isCurrent_of_round? hr
    simp only [Round.isCurrent, Bool.and_eq_true, beq_iff_eq] at hcur
    exact hcur.1
  have hround : ((s.readsReport v len rest).joinsRoot r rootKey key enc (leAt e 28 2)).round? (vfCtx v) j =
      some (r.joins rootKey key enc (leAt e 28 2)) := by
    rw [State.joinsRoot, hctx, htemplate]
    exact State.round?_updRound_of_some (s := ((s.readsReport v len rest).draw 32).2)
      (fun _ => ⟨rfl, rfl, rfl⟩) hr
  refine ⟨t, r.joins rootKey key enc (leAt e 28 2), hexec, (State.round?_of_offCommand hoff).trans hround, rfl,
    fun x hx hstate => ?_, State.eq_of_offCommand_joins hoff⟩
  exact (congrArg (fun u : State => u.conn? (leAt e 28 2)) hoff :).trans
    (State.conn?_queueModuleMsg (s := (s.readsReport v len rest).joinsRoot r rootKey key enc (leAt e 28 2)) hx hstate)

theorem peerReport_turns_away (hchecks : s.rootChecks r im buf (leAt e 28 2) = false) :
    ∃ t, exec (.peerReport v report chain) s = .next t ∧ t.rounds = s.rounds ∧ t.grixo = s.grixo ∧
      t = { s with set := t.set, setA := t.setA, setB := t.setB, slotB := t.slotB, recorder := t.recorder,
                   journal := t.journal, mgmt := t.mgmt, host := t.host, ctxs := t.ctxs } := by
  obtain ⟨body, hexec⟩ := exec_peerReport hc hrun him hj hleaf hn hopen hlen hmin hmax haddr hroot hbuf
  rw [hchecks, Bool.false_and, if_neg Bool.false_ne_true] at hexec
  have hoff := (State.offCommand_leaderDone _ v e 0x01410016 0 0).trans
    ((s.readsReport v len rest).offCommand_record 0x01410016 (s.readsReport v len rest).srcLeader (some (vfCtx v)) body)
  generalize State.leaderDone _ v e 0x01410016 0 0 = t at hexec hoff
  exact ⟨t, hexec, (congrArg State.rounds hoff :), (congrArg State.grixo hoff :),
    congrArg (fun x : State => { x.withCommand t with ctxs := t.ctxs }) hoff⟩

end

end

/-- Settles O54: each command by what it comes to outside of the commands, the journal and the recorder; an unload
through what closing connections leaves of each record, a peer report through the root that its round takes. -/
theorem plansAndQueries : Obligations.PlansAndQueries := by
  unfold Obligations.PlansAndQueries
  refine ⟨?submit, ?check, ?start, ?unload, ?effect, ?query, ?list, ?attest, ?report⟩
  case submit =>
    intro s v e rest hc haddr hplan
    exact ⟨planSubmit_is_checked hc haddr hplan, fun _ => planSubmit_is_rejected hc haddr hplan⟩
  case check =>
    intro s c image b hplan hst hhold hlead hb
    exact ⟨planCheckComplete_loads hplan hst hhold hlead hb,
      fun _ _ => planCheckComplete_rejects hplan hst hhold hlead hb⟩
  case start =>
    intro s c hplan hst hloop hhold htake hload hafter hspare
    exact planStart_starts hplan (State.planDue_of_loaded hst hloop hhold htake hload hafter hspare)
  case unload =>
    intro s v e rest hc hplan hst
    exact ⟨planUnload_accepted hc hplan hst, planUnload_turned_away hc hst⟩
  case effect =>
    intro s c b hplan hst hacc hbeat hloop hhold htake hdel hnodup
    exact planUnloadEffect_unloads hplan hst hacc hbeat hloop hhold htake hdel hnodup
  case query =>
    intro s v j e rest r hc hj hn
    exact exec_roundQuery hc hj hn
  case list =>
    intro s v j n e rest r im hc him hj hn hreleased habandoned hfrozen hpair hlen hroom haddr
    exact exec_requestList hc him hj hn hreleased habandoned hfrozen hpair hlen hroom haddr
  case attest =>
    intro s v j e rest r im hc him hj hn hreleased habandoned haddr
    exact attest_reports hc him hj hn hreleased habandoned haddr
  case report =>
    intro s v j len e report chain rest r im hc hrun him hj hleaf hn hopen hlen hmin hmax haddr hroot
    exact ⟨peerReport_accepts hc hrun him hj hleaf hn hopen hlen hmin hmax haddr hroot rfl,
      peerReport_turns_away hc hrun him hj hleaf hn hopen hlen hmin hmax haddr hroot rfl⟩

end Sys2Proof.Machine
end

section
/-!
ACCUM (R137, R138, R141, R158): the frames of a staged bank enter the active buffer of their set, and the cursor moves.
-/
namespace Sys2Proof.Machine

/-! The bank of a span. -/

/-- The span has run its work, and the banks filled for its lead are taken. -/
def State.takesBank (s : State) (k : Nat) (sp : RunningSpan) : State :=
  (s.spanDone k sp).updCluster k fun c => { c with banks := c.banks.filter fun b => b.entry != sp.lead }

/-- Only the cluster of the span has changed from `s` to `t`: its span is done, and the banks of its lead are gone. -/
structure State.TookBank (s : State) (k : Nat) (sp : RunningSpan) (t : State) : Prop where
  banks : (t.cluster k).banks = (s.cluster k).banks.filter fun b => b.entry != sp.lead
  span : (t.cluster k).span = some { sp with done := true }
  others : ∀ i, i ≠ k → t.cluster i = s.cluster i

section
variable {s t : State} {k op p : Nat} {sp : RunningSpan}

theorem State.cluster_takesBank (hc : s.Carries k op p sp) : (s.takesBank k sp).cluster k =
    { s.cluster k with span := some { sp with done := true }
                       banks := (s.cluster k).banks.filter fun b => b.entry != sp.lead } := by
  obtain ⟨hk, hlen, -⟩ := hc
  rw [State.takesBank, State.spanDone, State.updCluster_updCluster, State.cluster_updCluster_same (hlen ▸ hk)]

theorem State.tookBank_of_clusters (hc : s.Carries k op p sp) (h : t.clusters = (s.takesBank k sp).clusters) :
    s.TookBank k sp t := by
  have hcl (i : Nat) : t.cluster i = (s.takesBank k sp).cluster i := State.cluster_congr h i
  refine ⟨?_, ?_, fun i hi => ?_⟩
  · rw [hcl, State.cluster_takesBank hc]
  · rw [hcl, State.cluster_takesBank hc]
  · rw [hcl]
    exact (State.cluster_updCluster_ne hi _).trans (State.cluster_updCluster_ne hi _)

/-- The bank that a span takes is found as before the span was marked done. -/
theorem State.banks_spanDone (hc : s.Carries k op p sp) :
    ((s.spanDone k sp).cluster k).banks = (s.cluster k).banks := by
  obtain ⟨hk, hlen, -⟩ := hc
  rw [State.spanDone, State.cluster_updCluster_same (hlen ▸ hk)]

end

/-- `t` differs from `s` in clusters and rounds at most. -/
def State.OnlyRounds (s t : State) : Prop := ∃ cs rs, t = { s with clusters := cs, rounds := rs }

section
variable {s t : State} {k c h : Nat}

theorem State.OnlyRounds.updRound (g : s.OnlyRounds t) (c h : Nat) (f : Round → Round) :
    s.OnlyRounds (t.updRound c h f) := by
  obtain ⟨cs, rs, rfl⟩ := g
  exact ⟨cs, _, rfl⟩

theorem State.OnlyRounds.updCluster (g : s.OnlyRounds t) (k : Nat) (f : Cluster → Cluster) :
    s.OnlyRounds (t.updCluster k f) := by
  obtain ⟨cs, rs, rfl⟩ := g
  exact ⟨_, rs, rfl⟩

theorem State.onlyRounds_takesBank (s : State) (k : Nat) (sp : RunningSpan) : s.OnlyRounds (s.takesBank k sp) :=
  State.OnlyRounds.updCluster (State.OnlyRounds.updCluster ⟨s.clusters, s.rounds, rfl⟩ k _) k _

/-- Such a state, written as an update of the other. -/
theorem State.OnlyRounds.eq (g : s.OnlyRounds t) : t = { s with clusters := t.clusters, rounds := t.rounds } := by
  obtain ⟨cs, rs, rfl⟩ := g
  rfl

end

/-! Frames added to a set. -/

/-- Staged frames added to a set's active buffer, each with its ledger section (R132, R137). -/
def OwnerSet.addAll (im : PlanImage) (tm : Template) (l : List Staged) (o : OwnerSet) : OwnerSet :=
  l.foldl (fun o x => (o.addStaged im tm x).addSection x) o

theorem OwnerSet.addAll_frame (im : PlanImage) (tm : Template) (l : List Staged) (o : OwnerSet) :
    o.addAll im tm l = { o with active := (o.addAll im tm l).active, activeCount := (o.addAll im tm l).activeCount
                                sections := (o.addAll im tm l).sections } := by
  refine List.foldlRecOn (motive := fun u : OwnerSet =>
    u = { o with active := u.active, activeCount := u.activeCount, sections := u.sections }) l _ rfl fun u hu x _ => ?_
  unfold OwnerSet.addSection
  split
  · exact congrArg (fun v : OwnerSet => { (v.addStaged im tm x) with
      sections := assocSet (u.addStaged im tm x).sections x.record (peerSection x.plain) }) hu
  · exact congrArg (fun v : OwnerSet => v.addStaged im tm x) hu

theorem OwnerSet.isAt_addAll (im : PlanImage) (tm : Template) (l : List Staged) (p n : Nat) (o : OwnerSet) :
    (o.addAll im tm l).isAt p n = o.isAt p n := by
  rw [o.addAll_frame im tm l]
  rfl

/-- The frames of a bank with the buffers that hold them. -/
def Bank.staged (b : Bank) : List (Nat × Staged) :=
  b.buffers.zipIdx.filterMap fun (x : Option Staged × Nat) => x.1.map fun (y : Staged) => (x.2, y)

theorem Bank.map_snd_staged (b : Bank) : b.staged.map Prod.snd = b.buffers.filterMap id := by
  have hbuf (x : Option Staged × Nat) :
      Option.map Prod.snd (x.1.map fun y : Staged => (x.2, y)) = (id ∘ Prod.fst) x := by
    cases hx : x.1 <;> simp [hx]
  rw [Bank.staged, List.map_filterMap]
  simp only [hbuf]
  rw [← List.filterMap_map, List.zipIdx_map_fst]

/-! The sections of a ring group (R158). -/

section
variable {s : State} {k c h n : Nat}

/-- Comparing the sections touches what a failed frame touches, and nothing else. -/
theorem State.offFill_checkSections (s : State) (k c h n : Nat) (tm : Template) (bank : List (Nat × Staged)) :
    (s.checkSections k c h n tm bank).offFill = s.offFill := by
  unfold State.checkSections
  split
  · rfl
  · refine foldl_keeps State.offFill (fun u x => ?_) _ s
    split
    · rfl
    · exact u.offFill_failFill ..

/-- Groups with equal sections pass. -/
theorem State.checkSections_of_equal {p : Nat} {r : Round} {o : OwnerSet} {tm : Template} {bank : List (Nat × Staged)}
    (hpos : (s.cluster k).position = some p) (hr : s.round? c h = some r) (ho : r.owner? p n = some o)
    (hequal : o.unequalGroups (max 1 tm.setTiles) (bank.map Prod.snd) = []) :
    s.checkSections k c h n tm bank = s := by
  simp [State.checkSections, hpos, hr, ho, hequal]

end

/-! Cursors. -/

/-- A cursor after an update of it. -/
theorem Round.cursorAt_updCursor_same (r : Round) {p j : Nat} {f : CursorPos → CursorPos}
    (hf : ∀ c, (f c).position = c.position ∧ (f c).cursor = c.cursor) :
    (r.updCursor p j f).cursorAt p j = f (r.cursorAt p j) := by
  have hat : (r.cursorAt p j).position = p ∧ (r.cursorAt p j).cursor = j := by
    unfold Round.cursorAt
    cases hfind : r.cursors.find? fun c => c.position == p && c.cursor == j with
    | none => exact ⟨rfl, rfl⟩
    | some c => simpa using List.find?_some hfind
  unfold Round.updCursor
  rw [Round.cursorAt]
  simp [hf, hat.1, hat.2]

/-! The command. -/

/-- The frames of a bank are added to their set. -/
def Round.accumulates (r : Round) (im : PlanImage) (tm : Template) (p : Nat) (b : Bank) : Round :=
  r.updOwner p b.tileSet fun o => o.addAll im tm (b.buffers.filterMap id)

/-- The cursor of an ACCUM moves on within its group of `n` sets (R141). -/
def Round.cursorMoves (r : Round) (p j n : Nat) : Round :=
  r.updCursor p j fun q => { q with pos := (q.pos + 1) % max 1 n }

theorem Round.cursorAt_cursorMoves (r : Round) (p j n : Nat) :
    (r.cursorMoves p j n).cursorAt p j = { r.cursorAt p j with pos := ((r.cursorAt p j).pos + 1) % max 1 n } :=
  r.cursorAt_updCursor_same fun _ => ⟨rfl, rfl⟩

/-- Sets of the group that a cursor stands in. -/
def Round.currentSets (r : Round) (im : PlanImage) (h p j : Nat) (c : CursorDef) : List Nat :=
  im.groupSets h p c (r.cursorAt p j).group

/-- The state once an ACCUM has added its frames. -/
def State.accumulates (s : State) (k p : Nat) (sp : RunningSpan) (im : PlanImage) (b : Bank) : State :=
  (s.takesBank k sp).updRound sp.ctx sp.desc.cohort fun r => r.accumulates im (im.template sp.desc.cohort) p b

/-- The state once a ring ACCUM has compared its sections as well. -/
def State.accumChecked (s : State) (k p : Nat) (sp : RunningSpan) (im : PlanImage) (b : Bank) : State :=
  if (im.template sp.desc.cohort).isRing then
    (s.accumulates k p sp im b).checkSections k sp.ctx sp.desc.cohort b.tileSet (im.template sp.desc.cohort) b.staged
  else s.accumulates k p sp im b

section
variable {s : State} {k p : Nat} {sp : RunningSpan} {im : PlanImage} {r : Round} {c : CursorDef} {b : Bank}
  {o : OwnerSet}

theorem exec_accum (hc : s.Carries k 0x01 p sp) (him : s.image sp.ctx = some im)
    (hcur : im.cursor p sp.desc.cursor = some c)
    (hb : (s.cluster k).banks.find? (fun b => b.entry == sp.lead && b.ctx == sp.ctx && !b.secret) = some b) :
    exec (.accum k) s = .next ((s.accumChecked k p sp im b).updRound sp.ctx sp.desc.cohort fun r =>
      r.cursorMoves p sp.desc.cursor (r.currentSets im sp.desc.cohort p sp.desc.cursor c).length) := by
  have hbank : ((s.spanDone k sp).cluster k).banks.find?
      (fun b => b.entry == sp.lead && b.ctx == sp.ctx && !b.secret) = some b := (State.banks_spanDone hc).symm ▸ hb
  have him' : (s.takesBank k sp).image sp.ctx = some im := him
  have hadd (o : OwnerSet) : b.staged.foldl (fun o (x : Nat × Staged) =>
      (o.addStaged im (im.template sp.desc.cohort) x.2).addSection x.2) o =
        o.addAll im (im.template sp.desc.cohort) (b.buffers.filterMap id) := by
    rw [← b.map_snd_staged, OwnerSet.addAll, List.foldl_map]
  have hexec : exec (.accum k) s = .next (s.runSpan k 0x01 _) := rfl
  rw [hexec, State.runSpan_of_carries hc]
  simp only [State.takesBank, Bank.staged] at him' hadd
  simp only [hbank, him', hcur, hadd]
  rfl

theorem State.offFill_accumChecked (s : State) (k p : Nat) (sp : RunningSpan) (im : PlanImage) (b : Bank) :
    (s.accumChecked k p sp im b).offFill = (s.accumulates k p sp im b).offFill := by
  unfold State.accumChecked
  split
  · exact State.offFill_checkSections ..
  · rfl

theorem State.offStaging_of_offFill {s t : State} (h : t.offFill = s.offFill) : t.offStaging = s.offStaging :=
  (congrArg State.offStaging h :)

theorem State.offStaging_takesBank (s : State) (k : Nat) (sp : RunningSpan) :
    (s.takesBank k sp).offStaging = s.offStaging := rfl

theorem State.offStaging_updRound (s : State) (c h : Nat) (f : Round → Round) :
    (s.updRound c h f).offStaging = s.offStaging := rfl

theorem State.round?_accumulates (hon : s.OnRound sp im r) :
    (s.accumulates k p sp im b).round? sp.ctx sp.desc.cohort =
      some (r.accumulates im (im.template sp.desc.cohort) p b) :=
  State.round?_updRound_of_some (s := s.takesBank k sp) (fun _ => ⟨rfl, rfl, rfl⟩) hon.2

theorem Round.owner?_accumulates (im : PlanImage) (tm : Template) (ho : r.owner? p b.tileSet = some o) :
    (r.accumulates im tm p b).owner? p b.tileSet = some (o.addAll im tm (b.buffers.filterMap id)) := by
  rw [Round.accumulates, Round.owner?_updOwner fun o => OwnerSet.isAt_addAll im tm _ _ _ o, ho]
  rfl

/-- Equal sections leave a ring ACCUM as any other. -/
theorem State.accumChecked_of_equal (hc : s.Carries k 0x01 p sp) (hon : s.OnRound sp im r)
    (ho : r.owner? p b.tileSet = some o)
    (hequal : (im.template sp.desc.cohort).isRing = false ∨
      (o.addAll im (im.template sp.desc.cohort) (b.buffers.filterMap id)).unequalGroups
        (max 1 (im.template sp.desc.cohort).setTiles) (b.buffers.filterMap id) = []) :
    s.accumChecked k p sp im b = s.accumulates k p sp im b := by
  unfold State.accumChecked
  split
  next hring =>
    have hequal' := hequal.resolve_left (by simp [hring])
    refine State.checkSections_of_equal ?_ (State.round?_accumulates hon) (Round.owner?_accumulates im _ ho)
      (b.map_snd_staged.symm ▸ hequal')
    have hcl : (s.accumulates k p sp im b).cluster k = (s.takesBank k sp).cluster k := rfl
    rw [hcl, State.cluster_takesBank hc]
    obtain ⟨-, -, hpos, -⟩ := hc
    exact hpos
  next => rfl

/-- The round and the rest of the state once an ACCUM has run (R137, R138, R141). -/
theorem accum_adds (hc : s.Carries k 0x01 p sp) (hon : s.OnRound sp im r) (hcur : im.cursor p sp.desc.cursor = some c)
    (hb : (s.cluster k).banks.find? (fun b => b.entry == sp.lead && b.ctx == sp.ctx && !b.secret) = some b) :
    ∃ t u, exec (.accum k) s = .next t ∧ u.offMarks = (r.accumulates im (im.template sp.desc.cohort) p b).offMarks ∧
      t.round? sp.ctx sp.desc.cohort = some (u.cursorMoves p sp.desc.cursor
        (u.currentSets im sp.desc.cohort p sp.desc.cursor c).length) ∧
      s.TookBank k sp t ∧ t.offStaging = s.offStaging ∧
      (s.accumChecked k p sp im b = s.accumulates k p sp im b →
        u = r.accumulates im (im.template sp.desc.cohort) p b ∧
        t = { s with clusters := t.clusters, rounds := t.rounds }) := by
  have hfill := s.offFill_accumChecked k p sp im b
  obtain ⟨u, hu, hmarks⟩ := State.round?_of_offFill hfill (State.round?_accumulates hon)
  refine ⟨_, u, exec_accum hc hon.1 hcur hb, hmarks, ?_, ?_, ?_, fun hequal => ?_⟩
  · exact State.round?_updRound_of_some (fun _ => ⟨rfl, rfl, rfl⟩) hu
  · exact State.tookBank_of_clusters hc (congrArg State.clusters hfill :)
  · exact (State.offStaging_updRound ..).trans ((State.offStaging_of_offFill hfill).trans
      ((State.offStaging_updRound ..).trans (s.offStaging_takesBank k sp)))
  · rw [hequal, State.round?_accumulates hon, Option.some.injEq] at hu
    rw [hequal]
    exact ⟨hu.symm, (((s.onlyRounds_takesBank k sp).updRound ..).updRound ..).eq⟩

end

end Sys2Proof.Machine
end

section
/-!
COMMIT (R40, R141, R142, R150, R153): each set of the cursor's group is cut and swapped, or rolled back.
-/
namespace Sys2Proof.Machine

/-! A set of a round, while another is cut or rolled back. -/

section
variable {r : Round} {p i j m : Nat} {o : OwnerSet} {f : OwnerSet → OwnerSet}

theorem Round.owner?_eq_head? (r : Round) (p j : Nat) : r.owner? p j = (r.ownersAt p j).head? :=
  List.head?_filter.symm

theorem Round.owner?_updOwner_ne (hf : ∀ o : OwnerSet, (f o).isAt p j = o.isAt p j) (hj : j ≠ m) :
    (r.updOwner p m f).owner? p j = r.owner? p j := by
  rw [Round.owner?_eq_head?, Round.owner?_eq_head?, Round.ownersAt_updOwner_ne hf hj]

/-- From `r` to `q` no other set than `m` has changed at the owners of a position, and no commit number is used. -/
structure Round.OnlySet (p m : Nat) (r q : Round) : Prop where
  owner : ∀ j, j ≠ m → q.owner? p j = r.owner? p j
  set : ∀ j, j ≠ m → q.set j = r.set j
  nextSeq : q.nextSeq = r.nextSeq

theorem Round.onlySet_updOwner (r : Round) (hf : ∀ j o, OwnerSet.isAt (f o) p j = o.isAt p j) :
    Round.OnlySet p m r (r.updOwner p m f) :=
  ⟨fun j hj => Round.owner?_updOwner_ne (hf j) hj, fun _ _ => rfl, rfl⟩

theorem Round.OnlySet.trans {q u : Round} (h : Round.OnlySet p m r q) (g : Round.OnlySet p m q u) :
    Round.OnlySet p m r u :=
  ⟨fun j hj => (g.owner j hj).trans (h.owner j hj), fun j hj => (g.set j hj).trans (h.set j hj),
    g.nextSeq.trans h.nextSeq⟩

theorem Round.onlySet_applyCommit (r : Round) (p m : Nat) : Round.OnlySet p m r (r.applyCommit p m) := by
  unfold Round.applyCommit
  split
  · exact ⟨fun _ _ => rfl, fun _ _ => rfl, rfl⟩
  · exact ⟨fun j hj => Round.owner?_updOwner_ne (fun _ => rfl) hj, fun _ _ => rfl, rfl⟩

theorem Round.onlySet_foldApplied (r : Round) (p m seq : Nat) : Round.OnlySet p m r (r.foldApplied p m seq) := by
  refine ⟨fun j hj => ?_, fun j hj => ?_, rfl⟩
  · exact Round.owner?_updOwner_ne (f := fun o => o.drained 2) (fun _ => rfl) hj
  · exact (Round.set_updSet r m _ j).trans (if_neg fun h => hj h.1)

theorem Round.onlySet_settle (r : Round) (p m : Nat) : Round.OnlySet p m r (r.settle p m) := by
  have hself : Round.OnlySet p m r r := ⟨fun _ _ => rfl, fun _ _ => rfl, rfl⟩
  unfold Round.settle
  split
  · exact hself
  · split
    · exact hself
    · split
      · split
        · exact r.onlySet_foldApplied p m _
        · exact r.onlySet_applyCommit p m
      · exact r.onlySet_updOwner (f := fun o => o.drained 0) fun _ _ => rfl

theorem Round.onlySet_rollback (r : Round) (p i m : Nat) : Round.OnlySet p m r (r.rollback p i m) :=
  have hdiscard : Round.OnlySet p m (r.settle p m) ((r.settle p m).updOwner p m OwnerSet.discarded) :=
    Round.onlySet_updOwner _ fun _ _ => rfl
  let h := (r.onlySet_settle p m).trans hdiscard
  ⟨h.owner, h.set, h.nextSeq⟩

end

/-! Moving a cursor leaves sets and commit numbers alone. -/

theorem Round.owner?_updCursor (r : Round) (p i : Nat) (f : CursorPos → CursorPos) (q j : Nat) :
    (r.updCursor p i f).owner? q j = r.owner? q j := rfl

theorem Round.nextSeq_updCursor (r : Round) (p i : Nat) (f : CursorPos → CursorPos) :
    (r.updCursor p i f).nextSeq = r.nextSeq := rfl

/-! One set of the group. -/

/-- The place of a COMMIT: its cluster, beat, entry, position and cursor, and the group that becomes current. -/
structure CommitSite where
  cluster : Nat
  beat : Nat
  entry : Nat
  position : Nat
  cursor : Nat
  next : Nat

/-- A COMMIT rolls the set back: it is tainted, or its cut would take a part of a ring group (R40, R153). -/
def OwnerSet.refusesCut (o : OwnerSet) (ring : Bool) : Bool := o.taint || (ring && o.splits)

/-- The record of the commit of a set (R142). -/
def Round.commitRecord (r : Round) (x : CommitSite) (tm : Template) (j : Nat) (o : OwnerSet) : CommitRec where
  seq := r.nextSeq
  tile := tm.firstTile j
  cluster := srcCluster x.cluster
  state := 1
  newSel := 1 - (r.set j).sel
  markFrom := o.mark
  cut := o.read
  added := o.activeCount
  nextGroup := x.next
  fold := false
  beat := x.beat
  entry := x.entry

/-- What a COMMIT does to one set of its group (R142, R153). -/
def Round.commitsSet (x : CommitSite) (tm : Template) (r : Round) (j : Nat) : Round :=
  if (r.owner? x.position j).any fun o => o.refusesCut tm.isRing then r.rollback x.position x.cursor j
  else r.cutSet x.cluster x.beat x.entry x.next x.position j (tm.firstTile j)

section
variable {r : Round} {x : CommitSite} {tm : Template} {j m : Nat} {o : OwnerSet} {l : List Nat}

theorem Round.cutSet_of_owner (ho : r.owner? x.position j = some o) :
    r.cutSet x.cluster x.beat x.entry x.next x.position j (tm.firstTile j) =
      ({ r with nextSeq := r.nextSeq + 1 }).updOwner x.position j fun y => y.swapped (r.commitRecord x tm j o) := by
  unfold Round.cutSet
  simp only [ho]
  rfl

theorem Round.cutSet_of_none (ho : r.owner? x.position j = none) :
    r.cutSet x.cluster x.beat x.entry x.next x.position j (tm.firstTile j) = r := by
  unfold Round.cutSet
  simp only [ho]

/-- A set that may be cut is swapped, and its record is PREPARED under the next number (R142). -/
theorem Round.commitsSet_cuts (ho : r.owner? x.position j = some o) (hcut : o.refusesCut tm.isRing = false) :
    (r.commitsSet x tm j).owner? x.position j = some (o.swapped (r.commitRecord x tm j o)) ∧
      (r.commitsSet x tm j).nextSeq = r.nextSeq + 1 := by
  rw [Round.commitsSet, ho, Option.any_some, hcut, if_neg Bool.false_ne_true, Round.cutSet_of_owner ho,
    Round.owner?_updOwner fun y => y.isAt_swapped _ _ _]
  exact ⟨congrArg _ ho, rfl⟩

/-- A set that may not be cut goes back to its mark (R150, R153). -/
theorem Round.commitsSet_rolls (ho : r.owner? x.position j = some o) (hcut : o.refusesCut tm.isRing = true)
    (hidle : o.commit.state ≠ 1) : (r.commitsSet x tm j).owner? x.position j = some o.discarded := by
  rw [Round.commitsSet, ho, Option.any_some, hcut, if_pos rfl]
  exact (Round.rollback_of_no_commit ho hidle).2

/-- The other sets of a round whose COMMIT takes up set `m`; commit numbers go up. -/
theorem Round.commitsSet_others (r : Round) (x : CommitSite) (tm : Template) (m : Nat) :
    (∀ j, j ≠ m → (r.commitsSet x tm m).owner? x.position j = r.owner? x.position j) ∧
      (∀ j, j ≠ m → (r.commitsSet x tm m).set j = r.set j) ∧ r.nextSeq ≤ (r.commitsSet x tm m).nextSeq := by
  unfold Round.commitsSet
  split
  · have h := r.onlySet_rollback x.position x.cursor m
    exact ⟨h.owner, h.set, h.nextSeq.ge⟩
  · cases ho : r.owner? x.position m with
    | none => rw [Round.cutSet_of_none ho]; exact ⟨fun _ _ => rfl, fun _ _ => rfl, Nat.le_refl _⟩
    | some o =>
      rw [Round.cutSet_of_owner ho]
      exact ⟨fun j hj => Round.owner?_updOwner_ne (fun y => y.isAt_swapped _ _ _) hj, fun _ _ => rfl, Nat.le_succ _⟩

/-! All sets of the group. -/

/-- What a COMMIT does to the sets of its group. -/
def Round.commitsSets (r : Round) (x : CommitSite) (tm : Template) (l : List Nat) : Round :=
  l.foldl (Round.commitsSet x tm) r

/-- A set that is not of the group stays; commit numbers go up. -/
theorem Round.commitsSets_others (r : Round) (x : CommitSite) (tm : Template) (hj : j ∉ l) :
    (r.commitsSets x tm l).owner? x.position j = r.owner? x.position j ∧
      (r.commitsSets x tm l).set j = r.set j ∧ r.nextSeq ≤ (r.commitsSets x tm l).nextSeq := by
  refine List.foldlRecOn (motive := fun q : Round => q.owner? x.position j = r.owner? x.position j ∧
    q.set j = r.set j ∧ r.nextSeq ≤ q.nextSeq) l _ ⟨rfl, rfl, Nat.le_refl _⟩ fun q ⟨howner, hset, hseq⟩ m hm => ?_
  obtain ⟨gowner, gset, gseq⟩ := q.commitsSet_others x tm m
  have hjm : j ≠ m := fun h => hj (h ▸ hm)
  exact ⟨(gowner j hjm).trans howner, (gset j hjm).trans hset, hseq.trans gseq⟩

/-- What becomes of one set of the group is what its own turn makes of it. -/
theorem Round.commitsSets_turn (r : Round) (x : CommitSite) (tm : Template) (hl : l.Nodup) (hj : j ∈ l) :
    ∃ u : Round, u.owner? x.position j = r.owner? x.position j ∧ u.set j = r.set j ∧ r.nextSeq ≤ u.nextSeq ∧
      (r.commitsSets x tm l).owner? x.position j = (u.commitsSet x tm j).owner? x.position j ∧
      (u.commitsSet x tm j).nextSeq ≤ (r.commitsSets x tm l).nextSeq := by
  obtain ⟨a, b, rfl⟩ := List.append_of_mem hj
  obtain ⟨-, hb, hab⟩ := List.nodup_append.mp hl
  have hja : j ∉ a := fun h => hab j h j List.mem_cons_self rfl
  obtain ⟨howner, hset, hseq⟩ := r.commitsSets_others x tm hja
  obtain ⟨gowner, -, gseq⟩ := ((r.commitsSets x tm a).commitsSet x tm j).commitsSets_others x tm
    (List.nodup_cons.mp hb).1
  refine ⟨r.commitsSets x tm a, howner, hset, hseq, ?_⟩
  rw [Round.commitsSets, List.foldl_append, List.foldl_cons]
  exact ⟨gowner, gseq⟩

theorem Round.commitsSets_cuts (hl : l.Nodup) (hj : j ∈ l) (ho : r.owner? x.position j = some o)
    (hcut : o.refusesCut tm.isRing = false) :
    ∃ n, r.nextSeq ≤ n ∧ n < (r.commitsSets x tm l).nextSeq ∧ (r.commitsSets x tm l).owner? x.position j =
      some (o.swapped { r.commitRecord x tm j o with seq := n }) := by
  obtain ⟨u, howner, hset, hseq, hturn, hlast⟩ := r.commitsSets_turn x tm hl hj
  obtain ⟨hswap, hnext⟩ := Round.commitsSet_cuts (tm := tm) (howner.trans ho) hcut
  refine ⟨u.nextSeq, hseq, by omega, ?_⟩
  rw [hturn, hswap]
  simp only [Round.commitRecord, hset]

theorem Round.commitsSets_rolls (hl : l.Nodup) (hj : j ∈ l) (ho : r.owner? x.position j = some o)
    (hcut : o.refusesCut tm.isRing = true) (hidle : o.commit.state ≠ 1) :
    (r.commitsSets x tm l).owner? x.position j = some o.discarded := by
  obtain ⟨u, howner, -, -, hturn, -⟩ := r.commitsSets_turn x tm hl hj
  rw [hturn, Round.commitsSet_rolls (howner.trans ho) hcut hidle]

end

/-- A set whose buffers have swapped, field by field (R142). -/
theorem OwnerSet.swapped_eq (o : OwnerSet) (c : CommitRec) : o.swapped c =
    { o with shadow := if o.single then o.shadow else o.active, active := if o.single then o.active else []
             activeCount := 0, commit := c } := by
  unfold OwnerSet.swapped
  split <;> rfl

/-! The command. -/

/-- What a COMMIT does to one set of its group, in the state: a set that is rolled back is counted and recorded. -/
def State.commitsSet (c h : Nat) (x : CommitSite) (tm : Template) (s : State) (j : Nat) : State :=
  if ((s.round? c h).bind fun r => r.owner? x.position j).any fun o => o.refusesCut tm.isRing then
    s.rollbackSet c h x.position x.cursor j 0x05110002
  else s.updRound c h fun r =>
    r.cutSet x.cluster s.hal.beatCount x.entry x.next x.position j (tm.firstTile j)

section
variable {s : State} {k p c h : Nat} {x : CommitSite} {tm : Template} {sp : RunningSpan} {im : PlanImage} {r : Round}

theorem State.commitsSet_round (him : s.image c = some im) (hr : s.round? c h = some r)
    (hbeat : s.hal.beatCount = x.beat) (j : Nat) :
    (s.commitsSet c h x tm j).round? c h = some (r.commitsSet x tm j) ∧
      (s.commitsSet c h x tm j).offReplay = s.offReplay := by
  unfold State.commitsSet
  rw [hr, Option.bind_some]
  split
  next hcut =>
    rw [Round.commitsSet, if_pos hcut]
    exact ⟨(s.rollbackSet_round_banks c h _ _ j _ him hr).1, State.offReplay_rollbackSet ..⟩
  next hcut =>
    have hsame (u : Round) : u.Same (u.cutSet x.cluster x.beat x.entry x.next x.position j (tm.firstTile j)) := by
      unfold Round.cutSet
      split <;> exact ⟨rfl, rfl, rfl⟩
    rw [Round.commitsSet, if_neg hcut, hbeat]
    exact ⟨State.round?_updRound_of_some hsame hr, rfl⟩

theorem State.image_of_offReplay {t : State} (h : t.offReplay = s.offReplay) (c : Nat) : t.image c = s.image c :=
  (congrArg (fun u : State => u.image c) h :)

/-- The sets of a group, one after another. -/
theorem State.commitsSets_round (him : s.image c = some im) (hr : s.round? c h = some r)
    (hbeat : s.hal.beatCount = x.beat) (l : List Nat) :
    (l.foldl (State.commitsSet c h x tm) s).round? c h = some (r.commitsSets x tm l) ∧
      (l.foldl (State.commitsSet c h x tm) s).offReplay = s.offReplay := by
  induction l generalizing s r with
  | nil => exact ⟨hr, rfl⟩
  | cons j l ih =>
    obtain ⟨hround, hframe⟩ := State.commitsSet_round (tm := tm) him hr hbeat j
    obtain ⟨ihround, ihframe⟩ := ih
      (s := s.commitsSet c h x tm j) ((State.image_of_offReplay hframe c).trans him) hround
      ((congrArg (fun u : State => u.hal.beatCount) hframe :).trans hbeat)
    exact ⟨ihround, ihframe.trans hframe⟩

/-- The place of a COMMIT on a round. -/
def State.commitSite (s : State) (k p : Nat) (sp : RunningSpan) (im : PlanImage) (r : Round) (c : CursorDef) :
    CommitSite where
  cluster := k
  beat := s.hal.beatCount
  entry := sp.lead
  position := p
  cursor := sp.desc.cursor
  next := ((r.cursorAt p sp.desc.cursor).group + 1) % max 1 (im.groups sp.desc.cohort p c)

theorem exec_commit {c : CursorDef} (hc : s.Carries k 0x02 p sp) (hon : s.OnRound sp im r)
    (hcur : im.cursor p sp.desc.cursor = some c) :
    exec (.commit k) s = .next (((r.currentSets im sp.desc.cohort p sp.desc.cursor c).foldl
      (State.commitsSet sp.ctx sp.desc.cohort (s.commitSite k p sp im r c) (im.template sp.desc.cohort))
      (s.spanDone k sp)).updRound sp.ctx sp.desc.cohort fun r' => r'.updCursor p sp.desc.cursor fun q =>
        { q with group := (s.commitSite k p sp im r c).next, pos := 0 }) := by
  have him : (s.spanDone k sp).image sp.ctx = some im := hon.1
  have hr : (s.spanDone k sp).round? sp.ctx sp.desc.cohort = some r := hon.2
  have hexec : exec (.commit k) s = .next (s.runSpan k 0x02 _) := rfl
  rw [hexec, State.runSpan_of_carries hc]
  simp only [him, hr, hcur]
  rfl

/-- The round and the rest of the state once a COMMIT has run. -/
theorem commit_commits {c : CursorDef} (hc : s.Carries k 0x02 p sp) (hon : s.OnRound sp im r)
    (hcur : im.cursor p sp.desc.cursor = some c) :
    ∃ t, exec (.commit k) s = .next t ∧ t.offReplay = s.offReplay ∧ t.round? sp.ctx sp.desc.cohort =
      some ((r.commitsSets (s.commitSite k p sp im r c) (im.template sp.desc.cohort)
        (r.currentSets im sp.desc.cohort p sp.desc.cursor c)).updCursor p sp.desc.cursor fun q =>
          { q with group := (s.commitSite k p sp im r c).next, pos := 0 }) := by
  have him : (s.spanDone k sp).image sp.ctx = some im := hon.1
  have hr : (s.spanDone k sp).round? sp.ctx sp.desc.cohort = some r := hon.2
  have hbeat : (s.spanDone k sp).hal.beatCount = (s.commitSite k p sp im r c).beat := rfl
  obtain ⟨hround, hframe⟩ := State.commitsSets_round (tm := im.template sp.desc.cohort) him hr hbeat
    (r.currentSets im sp.desc.cohort p sp.desc.cursor c)
  have hexec := exec_commit hc hon hcur
  generalize List.foldl _ (s.spanDone k sp) _ = u at hexec hround hframe
  exact ⟨_, hexec, hframe, State.round?_updRound_of_some (fun _ => ⟨rfl, rfl, rfl⟩) hround⟩

end

end Sys2Proof.Machine
end

section
/-!
COMMIT_DRAIN and DRAIN_BOUND_EXCEEDED (R143, R144, R147, R157): a drain passes the commit points of its sets and applies
their records to the ledger; one past its bound fails its cluster.
-/
namespace Sys2Proof.Machine

/-! The ledger (R144, R157). -/

theorem mem_putPair {x y : Nat × Nat} {l : List (Nat × Nat)} : x ∈ putPair y l ↔ x = y ∨ x ∈ l := by
  induction l with
  | nil => simp [putPair]
  | cons z l ih =>
    unfold putPair
    split
    next h => subst h; simp
    next =>
      split
      · simp
      · simp only [List.mem_cons, ih]
        exact or_left_comm

theorem mem_foldl_putPair {α : Type} {x : Nat × Nat} (f : α → Nat × Nat) (l : List α) (m : List (Nat × Nat)) :
    x ∈ l.foldl (fun m y => putPair (f y) m) m ↔ (∃ y ∈ l, x = f y) ∨ x ∈ m := by
  induction l generalizing m with
  | nil => simp
  | cons y l ih =>
    rw [List.foldl_cons, ih, mem_putPair, List.exists_mem_cons_iff, ← or_assoc, or_comm (a := x = f y)]

/-- From `q` to `q'` ledger and peer bits have been set at most, and pending bits cleared. -/
structure RoundIntake.Applied (q q' : RoundIntake) : Prop where
  ledger : ∀ x ∈ q.ledger, x ∈ q'.ledger
  peerBits : ∀ x ∈ q.peerBits, x ∈ q'.peerBits
  pending : ∀ x ∈ q'.pending, x ∈ q.pending

/-- The commit of a record has set its bits and cleared its pending bit. -/
structure RoundIntake.Holds (k : Nat) (sections : List (Nat × Bytes)) (i : Nat) (x : BinRecord) (q : RoundIntake) :
    Prop where
  chunk : x.peer = false → (Frame.slot x.header, Frame.tile x.header) ∈ q.ledger
  leaf : x.peer = true → (Frame.slot x.header, k) ∈ q.peerBits
  slots : x.peer = true → ∀ z ∈ sectionSlots (Frame.slot x.header) ((assocGet sections i).getD []),
    (z, Frame.tile x.header) ∈ q.ledger
  pending : (Frame.slot x.header, Frame.tile x.header) ∉ q.pending

section
variable {q q' q'' : RoundIntake} {k i : Nat} {sections : List (Nat × Bytes)} {x : BinRecord}

theorem RoundIntake.Applied.refl (q : RoundIntake) : q.Applied q := ⟨fun _ => id, fun _ => id, fun _ => id⟩

theorem RoundIntake.Applied.trans (h : q.Applied q') (g : q'.Applied q'') : q.Applied q'' :=
  ⟨fun x hx => g.ledger x (h.ledger x hx), fun x hx => g.peerBits x (h.peerBits x hx),
    fun x hx => h.pending x (g.pending x hx)⟩

theorem RoundIntake.Holds.of_applied (h : q.Holds k sections i x) (g : q.Applied q') : q'.Holds k sections i x :=
  ⟨fun hp => g.ledger _ (h.chunk hp), fun hp => g.peerBits _ (h.leaf hp), fun hp z hz => g.ledger _ (h.slots hp z hz),
    fun hx => h.pending (g.pending _ hx)⟩

theorem applied_applyRecord (k : Nat) (sections : List (Nat × Bytes)) (i : Nat) (x : BinRecord) (q : RoundIntake) :
    q.Applied (applyRecord k sections i x q) := by
  unfold applyRecord
  dsimp only
  split
  · exact .refl q
  · refine ⟨fun y hy => ?_, fun y hy => ?_, fun y hy => List.mem_of_mem_filter hy⟩
    · exact (mem_foldl_putPair (fun z => (z, Frame.tile x.header)) _ _).mpr (.inr hy)
    · dsimp only
      split
      · exact mem_putPair.mpr (.inr hy)
      · exact hy

theorem holds_applyRecord (k : Nat) (sections : List (Nat × Bytes)) (i : Nat) (q : RoundIntake) (hcont : x.cont = false)
    (hskip : x.skip = false) : (applyRecord k sections i x q).Holds k sections i x := by
  unfold applyRecord
  rw [hcont, hskip, if_neg (by simp)]
  refine ⟨fun hp => ?_, fun hp => ?_, fun hp z hz => ?_, by simp⟩
  · exact (mem_foldl_putPair (fun z => (z, Frame.tile x.header)) _ _).mpr (.inl ⟨_, by simp [hp], rfl⟩)
  · simp [hp, mem_putPair]
  · exact (mem_foldl_putPair (fun z => (z, Frame.tile x.header)) _ _).mpr (.inl ⟨z, by simpa [hp] using hz, rfl⟩)

/-- The records of a commit applied in order. -/
def applyRecords (k : Nat) (sections : List (Nat × Bytes)) (l : List (Nat × BinRecord)) (q : RoundIntake) :
    RoundIntake :=
  l.foldl (fun q x => applyRecord k sections x.1 x.2 q) q

theorem applied_applyRecords (k : Nat) (sections : List (Nat × Bytes)) (l : List (Nat × BinRecord)) (q : RoundIntake) :
    q.Applied (applyRecords k sections l q) :=
  List.foldlRecOn l _ (.refl q) fun _ hu x _ => hu.trans (applied_applyRecord k sections x.1 x.2 _)

theorem holds_applyRecords {l : List (Nat × BinRecord)} (hx : (i, x) ∈ l) (hcont : x.cont = false)
    (hskip : x.skip = false) : (applyRecords k sections l q).Holds k sections i x := by
  obtain ⟨a, b, rfl⟩ := List.append_of_mem hx
  rw [applyRecords, List.foldl_append, List.foldl_cons]
  exact (holds_applyRecord k sections i _ hcont hskip).of_applied (applied_applyRecords k sections b _)

end

/-- A record of a bin under its number. -/
theorem OwnerSet.mem_numbered_take {o : OwnerSet} {i n : Nat} {x : BinRecord} (hx : o.bin[i]? = some x) (hi : i < n) :
    (o.release + i, x) ∈ o.numbered.take n := by
  refine List.mem_of_getElem? (i := i) ?_
  rw [List.getElem?_take_of_lt hi]
  simp [OwnerSet.numbered, hx]

/-! Sets that drain one after another. -/

/-- A set once the commit point of its owner has passed (R143, R445). -/
def TileSet.committed (x : TileSet) (q : Nat → Nat) (n : Nat) (o : OwnerSet) : TileSet :=
  let y := { x with count := x.count + o.commit.added, commits := x.commits + 1, lastSeq := o.commit.seq }
  if x.unmask = 2 ∨ x.dataFault then y else y.flip (addSet q n x.copy o.source)

/-- An owner's set once its commit has been applied (R143). -/
def OwnerSet.applied (o : OwnerSet) : OwnerSet :=
  { o.drained 2 with bin := o.bin.drop (o.commit.cut - o.release), mark := o.commit.cut, release := o.commit.cut
                     sections := o.sections.filter fun x => decide (o.commit.cut ≤ x.1) }

/-- The records that the commit of an owner's set applies. -/
def OwnerSet.cutRecords (o : OwnerSet) : List (Nat × BinRecord) := o.numbered.take (o.commit.cut - o.release)

/-- Commit points, one after another. -/
def Round.commitPoints (r : Round) (q : Nat → Nat) (n p : Nat) (l : List OwnerSet) : Round :=
  l.foldl (fun r o => r.commitPoint q n p o.set) r

/-- Commits applied, one after another. -/
def Round.applyCommits (r : Round) (p : Nat) (l : List OwnerSet) : Round :=
  l.foldl (fun r o => r.applyCommit p o.set) r

section
variable {r u : Round} {q : Nat → Nat} {n p j : Nat} {o : OwnerSet} {l : List OwnerSet}

theorem TileSet.committed_counts (x : TileSet) (q : Nat → Nat) (n : Nat) (o : OwnerSet) :
    (x.committed q n o).count = x.count + o.commit.added ∧ (x.committed q n o).commits = x.commits + 1 ∧
      (x.committed q n o).lastSeq = o.commit.seq := by
  unfold TileSet.committed TileSet.flip
  split
  · exact ⟨rfl, rfl, rfl⟩
  · dsimp only
    split <;> exact ⟨rfl, rfl, rfl⟩

theorem TileSet.copy_committed (x : TileSet) (q : Nat → Nat) (n : Nat) (o : OwnerSet) (hvoid : x.unmask ≠ 2)
    (hfault : x.dataFault = false) : (x.committed q n o).copy = addSet q n x.copy o.source := by
  rw [TileSet.committed, if_neg (by simp [hvoid, hfault]), TileSet.copy_flip]

theorem Round.set_commitPoint (ho : r.owner? p j = some o) (hlen : j < r.sets.length) :
    (r.commitPoint q n p j).set j = (r.set j).committed q n o := by
  unfold Round.commitPoint
  simp only [ho]
  rw [Round.set_updSet, if_pos ⟨rfl, hlen⟩]
  rfl

theorem Round.length_sets_commitPoint (r : Round) (q : Nat → Nat) (n p j : Nat) :
    (r.commitPoint q n p j).sets.length = r.sets.length := by
  unfold Round.commitPoint
  split <;> simp [Round.updSet, updAt]

theorem Round.commitPoints_frame (r : Round) (q : Nat → Nat) (n p : Nat) (l : List OwnerSet) :
    r.commitPoints q n p l = { r with sets := (r.commitPoints q n p l).sets } := by
  refine List.foldlRecOn (motive := fun u : Round => u = { r with sets := u.sets }) l _ rfl fun u hu o _ => ?_
  rw [u.commitPoint_frame, hu]

/-- Sets that none of them is for are left. -/
theorem Round.set_commitPoints_of_not_mem (h : ∀ o ∈ l, j ≠ o.set) :
    (r.commitPoints q n p l).set j = r.set j ∧ (r.commitPoints q n p l).sets.length = r.sets.length := by
  refine List.foldlRecOn (motive := fun u : Round => u.set j = r.set j ∧ u.sets.length = r.sets.length) l _ ⟨rfl, rfl⟩
    fun u ⟨hset, hlen⟩ o ho => ?_
  rw [Round.set_commitPoint_ne (h o ho), Round.length_sets_commitPoint]
  exact ⟨hset, hlen⟩

/-- A list with one owner of a set, taken apart at it. -/
theorem exists_append_of_only (h : l.filter (fun x => x.set == j) = [o]) : ∃ a b, l = a ++ o :: b ∧ o.set = j ∧
    (∀ x ∈ a, j ≠ x.set) ∧ ∀ x ∈ b, j ≠ x.set := by
  obtain ⟨a, b, rfl, ha, ho, hb⟩ := List.filter_eq_cons_iff.mp h
  refine ⟨a, b, rfl, by simpa using ho, fun x hx heq => ha x hx (by simp [heq]), fun x hx heq => ?_⟩
  exact List.filter_eq_nil_iff.mp hb x hx (by simp [heq])

/-- A set that one of them is for passes its commit point. -/
theorem Round.set_commitPoints (hl : l.filter (fun x => x.set == j) = [o]) (ho : r.owner? p j = some o)
    (hlen : j < r.sets.length) : (r.commitPoints q n p l).set j = (r.set j).committed q n o := by
  obtain ⟨a, b, rfl, rfl, ha, hb⟩ := exists_append_of_only hl
  obtain ⟨hset, hlen'⟩ := Round.set_commitPoints_of_not_mem (r := r) (q := q) (n := n) (p := p) ha
  have howner : (r.commitPoints q n p a).owner? p o.set = some o := by rw [r.commitPoints_frame]; exact ho
  rw [Round.commitPoints, List.foldl_append, List.foldl_cons]
  exact (Round.set_commitPoints_of_not_mem hb).1.trans
    ((Round.set_commitPoint howner (hlen'.symm ▸ hlen)).trans (hset ▸ rfl))

/-- A commit that is applied to its round (R143, R144). -/
theorem Round.applyCommit_of_owner (ho : r.owner? p j = some o) :
    (r.applyCommit p j).owner? p j = some o.applied ∧
      (r.applyCommit p j).intake = applyRecords j o.sections o.cutRecords r.intake := by
  have howner := Round.owner?_updOwner (r := { r with intake := applyRecords j o.sections o.cutRecords r.intake })
    (p := p) (k := j) (f := OwnerSet.applied) fun _ => rfl
  have happly : r.applyCommit p j =
      ({ r with intake := applyRecords j o.sections o.cutRecords r.intake }).updOwner p j OwnerSet.applied := by
    unfold Round.applyCommit
    simp only [ho]
    rfl
  rw [happly, howner]
  exact ⟨congrArg (Option.map OwnerSet.applied) ho, rfl⟩

theorem Round.applyCommit_frame (r : Round) (p j : Nat) :
    r.applyCommit p j = { r with owners := (r.applyCommit p j).owners, intake := (r.applyCommit p j).intake } := by
  unfold Round.applyCommit
  split <;> rfl

theorem Round.applied_applyCommit (r : Round) (p j : Nat) : r.intake.Applied (r.applyCommit p j).intake := by
  cases ho : r.owner? p j with
  | none => rw [Round.applyCommit, ho]; exact .refl _
  | some o => rw [(Round.applyCommit_of_owner ho).2]; exact applied_applyRecords ..

theorem Round.applyCommits_frame (r : Round) (p : Nat) (l : List OwnerSet) :
    r.applyCommits p l = { r with owners := (r.applyCommits p l).owners, intake := (r.applyCommits p l).intake } := by
  refine List.foldlRecOn (motive := fun u : Round => u = { r with owners := u.owners, intake := u.intake }) l _ rfl
    fun u hu o _ => ?_
  rw [u.applyCommit_frame, hu]

/-- Owners that none of them is for are left, and bits stay set. -/
theorem Round.applyCommits_of_not_mem (h : ∀ o ∈ l, j ≠ o.set) :
    (r.applyCommits p l).owner? p j = r.owner? p j ∧ r.intake.Applied (r.applyCommits p l).intake := by
  refine List.foldlRecOn (motive := fun u : Round => u.owner? p j = r.owner? p j ∧ r.intake.Applied u.intake) l _
    ⟨rfl, .refl _⟩ fun u ⟨howner, hint⟩ o ho => ?_
  exact ⟨((u.onlySet_applyCommit p o.set).owner j (h o ho)).trans howner, hint.trans (u.applied_applyCommit p o.set)⟩

/-- The commit of a set that one of them is for is applied. -/
theorem Round.applyCommits_only (hl : l.filter (fun x => x.set == j) = [o]) (ho : r.owner? p j = some o) :
    (r.applyCommits p l).owner? p j = some o.applied ∧ ∀ i x, (i, x) ∈ o.cutRecords → x.cont = false → x.skip = false →
      (r.applyCommits p l).intake.Holds j o.sections i x := by
  obtain ⟨a, b, rfl, rfl, ha, hb⟩ := exists_append_of_only hl
  obtain ⟨howner, -⟩ := Round.applyCommits_of_not_mem (r := r) (p := p) ha
  obtain ⟨hdone, hint⟩ := Round.applyCommit_of_owner (howner.trans ho)
  obtain ⟨hkept, happ⟩ := Round.applyCommits_of_not_mem (r := (r.applyCommits p a).applyCommit p o.set) (p := p) hb
  rw [Round.applyCommits, List.foldl_append, List.foldl_cons]
  refine ⟨hkept.trans hdone, fun i x hx hcont hskip => ?_⟩
  exact (hint ▸ holds_applyRecords hx hcont hskip : RoundIntake.Holds ..).of_applied happ

end

/-! COMMIT_DRAIN. -/

/-- The sets of a position whose commits a drain of a round carries out (R143, R157, R446). -/
def Round.committable (r : Round) (im : PlanImage) (p : Nat) (cut : Route → Bool) : List OwnerSet :=
  r.owners.filter fun o => o.position == p && o.commit.state == 1 && !o.commit.fold && !(r.set o.set).lock &&
    !((im.commitRoutes o).any cut)

/-- A round once the commits of some owners' sets have been drained. -/
def Round.drainsCommits (r : Round) (im : PlanImage) (tm : Template) (p : Nat) (l : List OwnerSet) : Round :=
  let q := (r.commitPoints (im.modulus tm) (max 1 tm.setTiles) p l).applyCommits p l
  { q with chunks := q.chunks + (l.map fun o => o.commit.added).sum }

section
variable {s : State} {k p ctx j : Nat} {im : PlanImage} {r : Round} {o : OwnerSet} {tm : Template}

theorem Round.drainsCommits_frame (r : Round) (im : PlanImage) (tm : Template) (p : Nat) (l : List OwnerSet) :
    r.drainsCommits im tm p l = { r with
      sets := (r.drainsCommits im tm p l).sets, owners := (r.drainsCommits im tm p l).owners
      intake := (r.drainsCommits im tm p l).intake, chunks := (r.drainsCommits im tm p l).chunks } := by
  unfold Round.drainsCommits
  dsimp only
  rw [Round.applyCommits_frame, Round.commitPoints_frame]

theorem Round.same_drainsCommits (im : PlanImage) (tm : Template) (p : Nat) (l : List OwnerSet) (r : Round) :
    r.Same (r.drainsCommits im tm p l) := by
  rw [r.drainsCommits_frame im tm p l]
  exact ⟨rfl, rfl, rfl⟩

/-- A drain of several sets, at a set with one owner among them (R143, R144). -/
theorem Round.drainsCommits_only {n : Nat} {l : List OwnerSet} (hl : l.filter (fun x => x.set == n) = [o])
    (ho : r.owner? p n = some o) (hlen : n < r.sets.length) :
    (r.drainsCommits im tm p l).set n = (r.set n).committed (im.modulus tm) (max 1 tm.setTiles) o ∧
      (r.drainsCommits im tm p l).owner? p n = some o.applied ∧
      ∀ i x, (i, x) ∈ o.cutRecords → x.cont = false → x.skip = false →
        (r.drainsCommits im tm p l).intake.Holds n o.sections i x := by
  have hset := Round.set_commitPoints (q := im.modulus tm) (n := max 1 tm.setTiles) hl ho hlen
  have howner : (r.commitPoints (im.modulus tm) (max 1 tm.setTiles) p l).owner? p n = some o := by
    rw [r.commitPoints_frame]
    exact ho
  obtain ⟨hdone, hheld⟩ := Round.applyCommits_only hl howner
  refine ⟨?_, hdone, hheld⟩
  rw [← hset]
  exact (congrArg (fun u : Round => u.set n)
    ((r.commitPoints (im.modulus tm) (max 1 tm.setTiles) p l).applyCommits_frame p l) :)

theorem exec_commitDrain (hpos : (s.cluster k).position = some p) (hfailed : (s.cluster k).failed = false)
    (him : s.image ctx = some im) (hr : s.round? ctx j = some r) :
    ∃ f, exec (.commitDrain k ctx j) s = .next ((s.updRound ctx j fun r' =>
      r'.drainsCommits im (im.template j) p (r.committable im p s.routeDown)).count ctx f) := by
  have hexec : exec (.commitDrain k ctx j) s = execCommitDrain k ctx j s := rfl
  rw [hexec]
  unfold execCommitDrain State.drain
  simp only [hpos, hfailed, him, hr]
  exact ⟨_, rfl⟩

/-- The one owner of a set whose commit may drain is the one of the set that does. -/
theorem Round.committable_only {cut : Route → Bool} (hstate : o.commit.state = 1) (hfold : o.commit.fold = false)
    (hlock : (r.set o.set).lock = false) (hpos : o.position = p) (hup : ∀ x ∈ im.commitRoutes o, cut x = false)
    (honly : r.owners.filter (fun x => x.position == p && x.set == o.set) = [o]) :
    (r.committable im p cut).filter (fun x => x.set == o.set) = [o] := by
  have hany : (im.commitRoutes o).any cut = false := List.any_eq_false.mpr fun x hx => by simp [hup x hx]
  have hcomm : (r.committable im p cut).filter (fun x => x.set == o.set) =
      (r.owners.filter fun x => x.position == p && x.set == o.set).filter fun x =>
        x.position == p && x.commit.state == 1 && !x.commit.fold && !(r.set x.set).lock &&
          !((im.commitRoutes x).any cut) := by
    rw [Round.committable, List.filter_filter, List.filter_filter]
    refine List.filter_congr fun x _ => ?_
    cases x.position == p <;> simp [Bool.and_comm]
  rw [hcomm, honly]
  simp [hstate, hfold, hlock, hpos, hany]

end

/-! DRAIN_BOUND_EXCEEDED. -/

/-- Rounds with a commit at a position past its bound (R147). -/
def State.lateRounds (s : State) (p : Nat) : List Round :=
  s.rounds.filter fun r => r.owners.any fun o => o.position == p && o.commit.state == 1 &&
    (((s.image r.ctx).map fun im => decide (im.drainDue r.planDigest r.template o ≤ s.hal.beatCount)).getD false)

/-- The sets of a position go back once its drain is late (R151, R183). -/
def State.rollsLate (s : State) (k p : Nat) : State :=
  ((s.lateRounds p).filter fun r => r.state == .unmasking).foldl (fun s r => s.replayMaskAt r.ctx r.template p [])
    ((s.record 0x04110004 (srcCluster k) none []).rollbackPosition p)

section
variable {s : State} {k p : Nat}

theorem exec_drainBoundExceeded_late (hpos : (s.cluster k).position = some p) (hlate : s.lateRounds p ≠ []) :
    exec (.drainBoundExceeded k) s = .next (if (s.rollsLate k p).lead.links.any DieLink.down then s.rollsLate k p
      else (s.rollsLate k p).failCluster k) := by
  have hexec : exec (.drainBoundExceeded k) s = execDrainBoundExceeded k s := rfl
  have hne : (s.lateRounds p).isEmpty = false := by simpa using hlate
  rw [hexec]
  unfold execDrainBoundExceeded
  simp only [hpos]
  exact if_neg (Bool.eq_false_iff.mp hne)

theorem exec_drainBoundExceeded_idle (hpos : (s.cluster k).position = some p) (hlate : s.lateRounds p = []) :
    exec (.drainBoundExceeded k) s = .next s := by
  have hexec : exec (.drainBoundExceeded k) s = execDrainBoundExceeded k s := rfl
  have hnil : (s.lateRounds p).isEmpty = true := by rw [hlate]; rfl
  rw [hexec]
  unfold execDrainBoundExceeded
  simp only [hpos]
  exact if_pos hnil

theorem State.offReplay_rollsLate (s : State) (k p : Nat) : (s.rollsLate k p).offReplay = s.offReplay := by
  have hmask (u : State) (r : Round) : (u.replayMaskAt r.ctx r.template p []).offReplay = u.offReplay :=
    (congrArg State.offReplay (u.offRecords_replayMaskAt ..) :)
  exact (foldl_keeps State.offReplay hmask _ _).trans
    ((State.offReplay_rollbackWhere ..).trans (State.offReplay_record ..))

theorem State.length_clusters_rollsLate (s : State) (k p : Nat) :
    (s.rollsLate k p).clusters.length = s.clusters.length := by
  have hmask (u : State) (r : Round) : (u.replayMaskAt r.ctx r.template p []).clusters = u.clusters :=
    (congrArg State.clusters (u.offRecords_replayMaskAt r.ctx r.template p []) :)
  have hfold := foldl_keeps State.clusters hmask ((s.lateRounds p).filter fun r => r.state == .unmasking)
    ((s.record 0x04110004 (srcCluster k) none []).rollbackPosition p)
  have hroll := ((s.record 0x04110004 (srcCluster k) none []).clears_rollbackWhere p fun _ _ => true).length
  exact (congrArg List.length hfold).trans (hroll.trans (congrArg List.length (State.record_clusters ..)))

/-- A cluster that is declared failed is failed, and time, power and start-up go on (R444). -/
theorem State.failCluster_runs_on (hk : k < s.clusters.length) :
    ((s.failCluster k).cluster k).failed = true ∧ (s.failCluster k).hal = s.hal ∧ (s.failCluster k).start = s.start ∧
      (s.failCluster k).power = s.power ∧ (s.failCluster k).aon = s.aon ∧ (s.failCluster k).drbgs = s.drbgs ∧
      (s.failCluster k).pending = s.pending := by
  cases hf : (s.cluster k).failed with
  | true =>
    have hself : s.failCluster k = s := by
      unfold State.failCluster
      exact if_pos hf
    rw [hself]
    exact ⟨hf, rfl, rfl, rfl, rfl, rfl, rfl⟩
  | false =>
    obtain ⟨hfailed, -, -, -, hrest⟩ := (State.fails_failCluster hk hf).runs_on
    exact ⟨hfailed, hrest⟩

end

end Sys2Proof.Machine
end

section
/-!
PEERFWD and SECRETIN (R132, R156, R161, R163): a leaf queues the PEER frames of its sums, and staged secrets are stored.
-/
namespace Sys2Proof.Machine

/-! Messages queued on a connection. -/

section
variable {s : State} {i : Nat} {x : Conn}

/-- Messages of the module queued on a connection, in order. -/
def State.queueMsgs (s : State) (i : Nat) (l : List Bytes) : State := l.foldl (fun s m => s.queueModuleMsg i m) s

theorem State.queueMsgs_frame (s : State) (i : Nat) (l : List Bytes) :
    ∃ xs, s.queueMsgs i l = { s with grixo := { s.grixo with conns := xs } } := by
  refine List.foldlRecOn (motive := fun u : State => ∃ xs, u = { s with grixo := { s.grixo with conns := xs } }) l _
    ⟨s.grixo.conns, rfl⟩ fun u ⟨xs, hu⟩ m _ => ?_
  rw [hu]
  exact ⟨_, rfl⟩

/-- A state that differs from another in clusters, rounds and connections, written as an update of it. -/
theorem State.eq_of_queued {s t : State} {cs : List Cluster} {rs : List Round} {xs : List Conn}
    (h : t = { s with clusters := cs, rounds := rs, grixo := { s.grixo with conns := xs } }) :
    t = { s with clusters := t.clusters, rounds := t.rounds, grixo := { s.grixo with conns := t.grixo.conns } } := by
  rw [h]

theorem State.conn?_queueMsgs (hx : s.conn? i = some x) (hopen : x.state = .open) (l : List Bytes) :
    (s.queueMsgs i l).conn? i = some { x with sendArea := x.sendArea ++ l } := by
  induction l generalizing s x with
  | nil => simpa [State.queueMsgs] using hx
  | cons m l ih =>
    have h := ih (State.conn?_queueModuleMsg (m := m) hx hopen) hopen
    rw [List.append_assoc] at h
    exact h

end

/-! PEERFWD. -/

/-- Ring tiles, or tiles, that one PEERFWD takes from a cursor (R156; log entry 9). -/
def Round.forwards (r : Round) (n p i : Nat) (c : CursorDef) : Nat :=
  min (max 1 (32 / n)) (c.count - (r.cursorAt p i).pos)

/-- The frames that one PEERFWD sends, those of a ring tile's `n` tiles together. -/
def Round.forwardFrames (r : Round) (tm : Template) (n p i : Nat) (c : CursorDef) : List Bytes :=
  ((List.range (r.forwards n p i c)).flatMap fun j =>
    (List.range n).map fun m => (c.first + (r.cursorAt p i).pos + j) * n + m).map (r.peerFrame tm)

section
variable {s : State} {k p : Nat} {sp : RunningSpan} {im : PlanImage} {r : Round} {c : CursorDef} {key : Bytes}
  {x : Conn}

/-- A PEERFWD whose route is down sends nothing (R446). -/
theorem exec_peerfwd_cut (hc : s.Carries k 0x30 p sp) (hon : s.OnRound sp im r)
    (hcur : im.cursor p sp.desc.cursor = some c) (hroot : r.root = some key)
    (hdown : s.routeDown (im.route sp.desc.dstRoute) = true) :
    exec (.peerfwd k) s = .next ((s.spanDone k sp).countTier 1) := by
  have him : (s.spanDone k sp).image sp.ctx = some im := hon.1
  have hr : (s.spanDone k sp).round? sp.ctx sp.desc.cohort = some r := hon.2
  have hdown' : (s.spanDone k sp).routeDown (im.route sp.desc.dstRoute) = true := hdown
  have hexec : exec (.peerfwd k) s = .next (s.runSpan k 0x30 _) := rfl
  rw [hexec, State.runSpan_of_carries hc]
  simp only [him, hr, hcur, hroot, hdown', if_true]

theorem exec_peerfwd (hc : s.Carries k 0x30 p sp) (hon : s.OnRound sp im r)
    (hcur : im.cursor p sp.desc.cursor = some c) (hroot : r.root = some key) (hagain : r.peerAgain = [])
    (hup : s.routeDown (im.route sp.desc.dstRoute) = false) :
    exec (.peerfwd k) s = .next (((s.spanDone k sp).queueMsgs r.rootConn
      (r.forwardFrames (im.template sp.desc.cohort) (max 1 (im.template sp.desc.cohort).setTiles) p sp.desc.cursor
        c)).updRound sp.ctx sp.desc.cohort fun r =>
          r.updCursor p sp.desc.cursor fun q =>
            { q with
              pos := q.pos + min (max 1 (32 / max 1 (im.template sp.desc.cohort).setTiles)) (c.count - q.pos) }) := by
  have him : (s.spanDone k sp).image sp.ctx = some im := hon.1
  have hr : (s.spanDone k sp).round? sp.ctx sp.desc.cohort = some r := hon.2
  have hup' : (s.spanDone k sp).routeDown (im.route sp.desc.dstRoute) = false := hup
  have hexec : exec (.peerfwd k) s = .next (s.runSpan k 0x30 _) := rfl
  rw [hexec, State.runSpan_of_carries hc]
  simp only [him, hr, hcur, hroot, hup', hagain, List.filter_nil, List.take_nil, List.isEmpty_nil, if_true,
    Bool.false_eq_true, if_false, State.queueMsgs, Round.forwardFrames, List.foldl_map]
  rfl

end

/-! A staged secret (R132, R161, R163). -/

/-- What taking secrets leaves alone: the intake engine's counts change besides what staging touches. -/
def State.offSecrets (s : State) : State := { s.offRounds with stats := .reset }

/-- A state that agrees with one whose clusters alone differ from another's, outside of what taking secrets touches,
written as an update of the other. -/
theorem State.eq_of_offSecrets {s t : State} {cs : List Cluster}
    (h : t.offSecrets = { s with clusters := cs }.offSecrets) :
    t = { s with set := t.set, setA := t.setA, setB := t.setB, slotB := t.slotB, recorder := t.recorder,
                 mgmt := t.mgmt, ctxs := t.ctxs, clusters := t.clusters, rounds := t.rounds, grixo := t.grixo
                 stats := t.stats } :=
  congrArg (fun x : State =>
    { x with set := t.set, setA := t.setA, setB := t.setB, slotB := t.slotB, recorder := t.recorder,
             mgmt := t.mgmt, ctxs := t.ctxs, clusters := t.clusters, rounds := t.rounds, grixo := t.grixo
             stats := t.stats }) h

/-- A frame leaves the secret queue. -/
def Round.takesSecret (r : Round) (x : Staged) : Round :=
  { r with intake := { r.intake with
      secretQueue := r.intake.secretQueue.filter fun w => !(Frame.header w.bytes == x.header) } }

/-- From `s` to `t` the round of a cohort has changed but for its intake, besides what taking secrets touches. -/
structure State.Stores (s : State) (c h : Nat) (q : RoundIntake) (t : State) : Prop where
  frame : t.offSecrets = s.offSecrets
  round : ∃ u, t.round? c h = some u ∧ u.intake = q

section
variable {s t : State} {c h i code : Nat} {r : Round} {x : Staged} {f : Bytes} {key : Bytes}

/-- Storing a secret changes the secret store or the shares of the ring (R165, R230). -/
theorem Round.storeSecret_frame (r : Round) (x : Staged) :
    ∃ m g, r.storeSecret x = { r with mask := m, ring := g } := by
  have hself : ∃ m g, r = { r with mask := m, ring := g } := ⟨r.mask, r.ring, rfl⟩
  have hite (q : Prop) [Decidable q] {a b : Round} (ha : ∃ m g, a = { r with mask := m, ring := g })
      (hb : ∃ m g, b = { r with mask := m, ring := g }) :
      ∃ m g, (if q then a else b) = { r with mask := m, ring := g } := by
    split
    · exact ha
    · exact hb
  unfold Round.storeSecret
  refine hite _ hself ?_
  split
  · exact hite _ ⟨_, _, rfl⟩ hself
  · exact hite _ hself ⟨_, _, rfl⟩
  · exact hite _ hself ⟨_, _, rfl⟩
  · exact hself

theorem Round.same_storeSecret (x : Staged) (r : Round) : r.Same (r.storeSecret x) := by
  obtain ⟨m, g, heq⟩ := r.storeSecret_frame x
  rw [heq]
  exact ⟨rfl, rfl, rfl⟩

theorem State.notice_stats (s : State) (i code : Nat) (f : Bytes) (action : Nat) :
    (s.notice i code f action).stats = s.stats := by
  unfold State.notice
  split
  · rfl
  · split <;> rfl

/-- A frame that is discarded is counted, and its connection notified (R122). -/
theorem State.reject_frame (s : State) (c i code : Nat) (f : Bytes) :
    (s.reject c i code f).rounds = s.rounds ∧ (s.reject c i code f).offSecrets = s.offSecrets ∧
      (s.reject c i code f).stats = { s.stats with intakeRejects := s.stats.intakeRejects + 1 } := by
  unfold State.reject
  exact ⟨State.notice_rounds .., congrArg (fun u : State => { u with stats := .reset }) (State.offRounds_notice ..),
    State.notice_stats ..⟩

/-- A secret record that takes a data fault leaves the intake alone. -/
theorem State.became_failSecret_intake (hr : s.round? c h = some r) :
    s.Became c h (fun u => u.intake = r.intake) (s.failSecret c h i) := by
  unfold State.failSecret
  split
  next im u him hu =>
    have hfail : s.Became c h (fun u => u.intake = r.intake) (s.updRound c h fun r => r.losesSecret i) :=
      State.Became.updRound (P := (· = r)) (.refl hr rfl) (fun _ => ⟨rfl, rfl, rfl⟩) fun q hq => hq ▸ rfl
    dsimp only
    generalize (if u.frozen = true then u.needing im h i else []) = tiles
    split
    · exact hfail.countTier 2
    · exact hfail.andThen fun q hq hint => (State.became_voidSets hq tiles).imp fun v hv => by rw [hv]; exact hint
  next => exact .refl hr rfl

/-- The state once a frame has left the secret queue. -/
def State.takesFrame (s : State) (c h : Nat) (x : Staged) : State := s.updRound c h fun r => r.takesSecret x

theorem State.round?_takesFrame (x : Staged) (hr : s.round? c h = some r) :
    (s.takesFrame c h x).round? c h = some (r.takesSecret x) :=
  State.round?_updRound_of_some (fun _ => ⟨rfl, rfl, rfl⟩) hr

/-- A frame that waits in the secret queue leaves it, and is discarded, lost or stored. -/
theorem State.takeSecret_of_waiting (hr : s.round? c h = some r)
    (hwaits : (r.intake.secretQueue.any fun w => Frame.header w.bytes == x.header) = true) :
    s.takeSecret c h x =
      if x.reservedSet then (s.takesFrame c h x).reject c x.record 0x01100004 x.header
      else (s.takesFrame c h x).withRoundKey r 0 (some masterAu)
        (fun s => if Frame.kind x.header = kShare then s.failSecret c h (Frame.slot x.header) else s)
        fun _ => (s.takesFrame c h x).updRound c h fun r => r.storeSecret x := by
  unfold State.takeSecret
  simp only [hr, hwaits]
  rfl

/-- A frame that no longer waits is left. -/
theorem State.takeSecret_of_gone (hr : s.round? c h = some r)
    (hgone : (r.intake.secretQueue.any fun w => Frame.header w.bytes == x.header) = false) :
    s.takeSecret c h x = s ∧ (r.takesSecret x).intake = r.intake := by
  constructor
  · unfold State.takeSecret
    simp [hr, hgone]
  · have hall : ∀ w ∈ r.intake.secretQueue, (!(Frame.header w.bytes == x.header)) = true := fun w hw => by
      simpa using List.any_eq_false.mp hgone w hw
    rw [Round.takesSecret, List.filter_eq_self.mpr hall]

theorem State.Stores.of_became {q : RoundIntake} {u v : State} (h : u.Became c i (fun r => r.intake = q) v)
    (hu : u.offSecrets = s.offSecrets) : s.Stores c i q v :=
  ⟨(congrArg State.offSecrets h.frame :).trans hu, h.round⟩

/-- Taking a secret takes its frame out of the queue, whatever becomes of it. -/
theorem State.stores_takeSecret (hr : s.round? c h = some r) (x : Staged) :
    s.Stores c h (r.takesSecret x).intake (s.takeSecret c h x) := by
  have hround := State.round?_takesFrame x hr
  cases hwaits : r.intake.secretQueue.any fun w => Frame.header w.bytes == x.header with
  | false =>
    obtain ⟨hself, hint⟩ := State.takeSecret_of_gone hr hwaits
    rw [hself, hint]
    exact ⟨rfl, r, hr, rfl⟩
  | true =>
    rw [State.takeSecret_of_waiting hr hwaits]
    split
    · obtain ⟨hrounds, hoff, -⟩ := (s.takesFrame c h x).reject_frame c x.record 0x01100004 x.header
      exact ⟨hoff, _, (State.round?_congr hrounds).trans hround, rfl⟩
    · cases hkey : (s.takesFrame c h x).roundKey? r 0 (some masterAu) with
      | some key =>
        rw [State.withRoundKey_of_some hkey]
        refine ⟨rfl, _, State.round?_updRound_of_some (Round.same_storeSecret x) hround, ?_⟩
        obtain ⟨m, g, heq⟩ := (r.takesSecret x).storeSecret_frame x
        rw [heq]
      | none =>
        obtain ⟨slot, heq⟩ := State.withRoundKey_of_none hkey
          (fun s => if Frame.kind x.header = kShare then s.failSecret c h (Frame.slot x.header) else s)
          fun _ => (s.takesFrame c h x).updRound c h fun r => r.storeSecret x
        rw [heq]
        have hrefused : (s.takesFrame c h x).Became c h (fun u => u.intake = (r.takesSecret x).intake)
            ((s.takesFrame c h x).refuseUse ((s.takesFrame c h x).lead.holder.getD 0) slot (some masterAu)
              (some r.ctx)) :=
          State.Became.record (P := fun u => u.intake = (r.takesSecret x).intake) (.refl hround rfl) ..
        refine State.Stores.of_became (u := s.takesFrame c h x) ?_ rfl
        split
        · exact hrefused.andThen fun q hq hint => (State.became_failSecret_intake hq).imp fun u hu => hu.trans hint
        · exact hrefused

/-- Secrets of a bank taken in order: the queue keeps the frames that are not among them. -/
theorem State.takeSecrets_queue (l : List Staged) (hr : s.round? c h = some r) :
    (l.foldl (fun s x => s.takeSecret c h x) s).offSecrets = s.offSecrets ∧
      ∃ q, (l.foldl (fun s x => s.takeSecret c h x) s).round? c h = some q ∧
        ∀ w, w ∈ q.intake.secretQueue ↔ w ∈ r.intake.secretQueue ∧ ∀ x ∈ l, Frame.header w.bytes ≠ x.header := by
  induction l generalizing s r with
  | nil => exact ⟨rfl, r, hr, by simp⟩
  | cons x l ih =>
    obtain ⟨hframe, u, hu, hint⟩ := State.stores_takeSecret hr x
    obtain ⟨ihframe, q, hq, hmem⟩ := ih hu
    refine ⟨ihframe.trans hframe, q, hq, fun w => ?_⟩
    rw [hmem, hint]
    simp [Round.takesSecret, and_assoc]

end

/-! SECRETIN. -/

section
variable {s : State} {k p : Nat} {sp : RunningSpan} {r : Round} {b : Bank} {x : Staged}

theorem exec_secretin (hc : s.Carries k 0x06 p sp)
    (hb : (s.cluster k).banks.find? (fun b => b.entry == sp.lead && b.ctx == sp.ctx && b.secret) = some b) :
    exec (.secretin k) s = .next ((b.buffers.filterMap id).foldl
      (fun s x => s.takeSecret sp.ctx sp.desc.cohort x) (s.takesBank k sp)) := by
  have hbank : ((s.spanDone k sp).cluster k).banks.find?
      (fun b => b.entry == sp.lead && b.ctx == sp.ctx && b.secret) = some b := (State.banks_spanDone hc).symm ▸ hb
  have hexec : exec (.secretin k) s = .next (s.runSpan k 0x06 _) := rfl
  rw [hexec, State.runSpan_of_carries hc]
  simp only [hbank]
  rfl

/-- A SECRETIN takes the frames of its bank out of the queue (R132, R163). -/
theorem secretin_takes (hc : s.Carries k 0x06 p sp) (hr : s.round? sp.ctx sp.desc.cohort = some r)
    (hb : (s.cluster k).banks.find? (fun b => b.entry == sp.lead && b.ctx == sp.ctx && b.secret) = some b) :
    ∃ t q, exec (.secretin k) s = .next t ∧ t.round? sp.ctx sp.desc.cohort = some q ∧
      (∀ w, w ∈ q.intake.secretQueue ↔ w ∈ r.intake.secretQueue ∧
        ∀ x ∈ b.buffers.filterMap id, Frame.header w.bytes ≠ x.header) ∧
      s.TookBank k sp t ∧ t.offSecrets = (s.takesBank k sp).offSecrets := by
  have hr' : (s.takesBank k sp).round? sp.ctx sp.desc.cohort = some r := hr
  obtain ⟨hframe, q, hq, hmem⟩ := State.takeSecrets_queue (b.buffers.filterMap id) hr'
  exact ⟨_, q, exec_secretin hc hb, hq, hmem, State.tookBank_of_clusters hc (congrArg State.clusters hframe :), hframe⟩

variable (hc : s.Carries k 0x06 p sp) (hr : s.round? sp.ctx sp.desc.cohort = some r)
  (hb : (s.cluster k).banks.find? (fun b => b.entry == sp.lead && b.ctx == sp.ctx && b.secret) = some b)
  (hone : b.buffers.filterMap id = [x])
  (hwaits : (r.intake.secretQueue.any fun w => Frame.header w.bytes == x.header) = true)
include hc hr hb hone hwaits

/-- A SECRETIN of one frame. -/
theorem exec_secretin_one : exec (.secretin k) s = .next (
    if x.reservedSet then
      ((s.takesBank k sp).takesFrame sp.ctx sp.desc.cohort x).reject sp.ctx x.record 0x01100004 x.header
    else ((s.takesBank k sp).takesFrame sp.ctx sp.desc.cohort x).withRoundKey r 0 (some masterAu)
      (fun s => if Frame.kind x.header = kShare then s.failSecret sp.ctx sp.desc.cohort (Frame.slot x.header) else s)
      fun _ => ((s.takesBank k sp).takesFrame sp.ctx sp.desc.cohort x).updRound sp.ctx sp.desc.cohort fun r =>
        r.storeSecret x) := by
  rw [exec_secretin hc hb, hone]
  exact congrArg Host.Outcome.next (State.takeSecret_of_waiting (s := s.takesBank k sp) hr hwaits)

/-- Its secret is stored once the store key is read (R161, R163). -/
theorem secretin_stores (hzero : x.reservedSet = false) (hkey : (s.roundKey? r 0 (some masterAu)).isSome = true) :
    ∃ t, exec (.secretin k) s = .next t ∧ t.round? sp.ctx sp.desc.cohort = some ((r.takesSecret x).storeSecret x) ∧
      t = { s with clusters := t.clusters, rounds := t.rounds } := by
  obtain ⟨key, hkey⟩ := Option.isSome_iff_exists.mp hkey
  have hkey' : ((s.takesBank k sp).takesFrame sp.ctx sp.desc.cohort x).roundKey? r 0 (some masterAu) = some key := hkey
  refine ⟨_, exec_secretin_one hc hr hb hone hwaits, ?_⟩
  rw [hzero, if_neg Bool.false_ne_true, State.withRoundKey_of_some hkey']
  exact ⟨State.round?_updRound_of_some (Round.same_storeSecret x)
    (State.round?_takesFrame (s := s.takesBank k sp) x hr),
    (((s.onlyRounds_takesBank k sp).updRound ..).updRound ..).eq⟩

/-- A SHARE whose reserved bytes are not 0 is discarded (R11, R114). -/
theorem secretin_discards (hset : x.reservedSet = true) :
    ∃ t, exec (.secretin k) s = .next t ∧ t.round? sp.ctx sp.desc.cohort = some (r.takesSecret x) ∧
      t.stats.intakeRejects = s.stats.intakeRejects + 1 := by
  obtain ⟨hrounds, -, hstats⟩ := ((s.takesBank k sp).takesFrame sp.ctx sp.desc.cohort x).reject_frame sp.ctx x.record
    0x01100004 x.header
  refine ⟨_, exec_secretin_one hc hr hb hone hwaits, ?_⟩
  rw [if_pos hset, hstats]
  exact ⟨(State.round?_congr hrounds).trans (State.round?_takesFrame (s := s.takesBank k sp) x hr), rfl⟩

/-- A SEED or DSHARE whose store key is refused is not stored (R348). -/
theorem secretin_refused (hzero : x.reservedSet = false) (hkind : Frame.kind x.header ≠ kShare)
    (hkey : s.roundKey? r 0 (some masterAu) = none) :
    ∃ t, exec (.secretin k) s = .next t ∧ t.round? sp.ctx sp.desc.cohort = some (r.takesSecret x) ∧
      Recorded { s with clusters := t.clusters, rounds := t.rounds } t := by
  have hkey' : ((s.takesBank k sp).takesFrame sp.ctx sp.desc.cohort x).roundKey? r 0 (some masterAu) = none := hkey
  refine ⟨_, exec_secretin_one hc hr hb hone hwaits, ?_⟩
  obtain ⟨slot, heq⟩ := State.withRoundKey_of_none hkey'
    (fun s => if Frame.kind x.header = kShare then s.failSecret sp.ctx sp.desc.cohort (Frame.slot x.header) else s)
    fun _ => ((s.takesBank k sp).takesFrame sp.ctx sp.desc.cohort x).updRound sp.ctx sp.desc.cohort fun r =>
      r.storeSecret x
  rw [hzero, if_neg Bool.false_ne_true, heq, if_neg hkind]
  refine ⟨(State.round?_congr (State.record_rounds ..)).trans
    (State.round?_takesFrame (s := s.takesBank k sp) x hr), ?_⟩
  unfold State.refuseUse
  rw [State.record_clusters, State.record_rounds]
  exact .one ..

end

end Sys2Proof.Machine
end

section
/-!
Chunks are committed once: the clauses of ACCUM, COMMIT, COMMIT_DRAIN, DRAIN_BOUND_EXCEEDED, PEERFWD and SECRETIN.
-/
namespace Sys2Proof.Machine

section
variable {s : State} {k p : Nat} {sp : RunningSpan} {im : PlanImage} {r : Round} {c : CursorDef} {b : Bank}
  {o : OwnerSet}

/-- A round read off one that agrees with it outside of what a failed frame marks. -/
theorem Round.eq_of_offMarks {u q : Round} (h : u.offMarks = q.offMarks) :
    u = { q with owners := u.owners, intake := u.intake } :=
  congrArg (fun v : Round => { v with owners := u.owners, intake := u.intake }) h

/-- The set of a bank once its frames are added, whatever a failed frame marks besides (R137). -/
theorem Round.accumulated_owner {u : Round} {tm : Template} (ho : r.owner? p b.tileSet = some o)
    (hmarks : u.offMarks = (r.accumulates im tm p b).offMarks) :
    (u.owner? p b.tileSet).map (fun y => (y.active, y.activeCount, y.sections, y.read, y.mark)) =
      some ((o.addAll im tm (b.buffers.filterMap id)).active, (o.addAll im tm (b.buffers.filterMap id)).activeCount,
        (o.addAll im tm (b.buffers.filterMap id)).sections, (o.addAll im tm (b.buffers.filterMap id)).read,
        (o.addAll im tm (b.buffers.filterMap id)).mark) := by
  obtain ⟨y, hy, hfields⟩ := Round.owner?_of_offMarks hmarks (Round.owner?_accumulates im tm ho)
  rw [hy]
  exact (congrArg (fun z : OwnerSet => some (z.active, z.activeCount, z.sections, z.read, z.mark)) hfields :)

/-- The cursor once the frames of a bank are added (R141). -/
theorem Round.accumulated_cursor {u : Round} {tm : Template} (hmarks : u.offMarks = (r.accumulates im tm p b).offMarks)
    (h j : Nat) : (u.cursorMoves p j (u.currentSets im h p j c).length).cursorAt p j =
      { r.cursorAt p j with pos := ((r.cursorAt p j).pos + 1) % max 1 (r.currentSets im h p j c).length } := by
  have hcursor : u.cursorAt p j = r.cursorAt p j := (congrArg (fun v : Round => v.cursorAt p j) hmarks :)
  rw [Round.cursorAt_cursorMoves, Round.currentSets, hcursor]
  rfl

/-- ACCUM (R137, R138, R141, R158). -/
theorem accum_law (hc : s.Carries k 0x01 p sp) (hon : s.OnRound sp im r) (hcur : im.cursor p sp.desc.cursor = some c)
    (hb : (s.cluster k).banks.find? (fun b => b.entry == sp.lead && b.ctx == sp.ctx && !b.secret) = some b)
    (ho : r.owner? p b.tileSet = some o) :
    let tm := im.template sp.desc.cohort
    let staged := b.buffers.filterMap id
    let o' := staged.foldl (fun o x => (o.addStaged im tm x).addSection x) o
    ∃ t q, exec (.accum k) s = .next t ∧ t.round? sp.ctx sp.desc.cohort = some q ∧
      (q.owner? p b.tileSet).map (fun y => (y.active, y.activeCount, y.sections, y.read, y.mark)) =
        some (o'.active, o'.activeCount, o'.sections, o'.read, o'.mark) ∧
      (q.cursorAt p sp.desc.cursor).pos = ((r.cursorAt p sp.desc.cursor).pos + 1) %
        max 1 (im.groupSets sp.desc.cohort p c (r.cursorAt p sp.desc.cursor).group).length ∧
      (q.cursorAt p sp.desc.cursor).group = (r.cursorAt p sp.desc.cursor).group ∧
      q = { r with owners := q.owners, cursors := q.cursors, intake := q.intake } ∧
      (t.cluster k).banks = (s.cluster k).banks.filter (fun b => b.entry != sp.lead) ∧
      (t.cluster k).span = some { sp with done := true } ∧ (∀ i, i ≠ k → t.cluster i = s.cluster i) ∧
      (tm.isRing = false ∨ o'.unequalGroups (max 1 tm.setTiles) staged = [] →
        q.owner? p b.tileSet = some o' ∧ q.intake = r.intake ∧
        t = { s with clusters := t.clusters, rounds := t.rounds }) ∧
      t = { s with set := t.set, setA := t.setA, setB := t.setB, slotB := t.slotB, recorder := t.recorder,
                   mgmt := t.mgmt, ctxs := t.ctxs, clusters := t.clusters, rounds := t.rounds, grixo := t.grixo } := by
  obtain ⟨t, u, hexec, hmarks, hround, htook, hframe, hequal⟩ := accum_adds hc hon hcur hb
  have hcursor := Round.accumulated_cursor (c := c) hmarks sp.desc.cohort sp.desc.cursor
  have hrest := Round.eq_of_offMarks hmarks
  refine ⟨t, _, hexec, hround, (Round.accumulated_owner ho hmarks :), ?_, ?_, ?_, htook.banks, htook.span, htook.others,
    fun hsame => ?_, State.eq_of_offStaging_eq hframe⟩
  · rw [hcursor]
    rfl
  · rw [hcursor]
  · exact congrArg (fun v : Round => { v with cursors := (u.cursorMoves p sp.desc.cursor
      (u.currentSets im sp.desc.cohort p sp.desc.cursor c).length).cursors }) hrest
  obtain ⟨hu, ht⟩ := hequal (State.accumChecked_of_equal hc hon ho hsame)
  refine ⟨?_, ?_, ht⟩
  · rw [hu]
    exact Round.owner?_accumulates im _ ho
  · rw [hu]
    rfl

/-- COMMIT (R40, R141, R142, R153). -/
theorem commit_law (hc : s.Carries k 0x02 p sp) (hon : s.OnRound sp im r) (hcur : im.cursor p sp.desc.cursor = some c)
    (hnodup : (im.groupSets sp.desc.cohort p c (r.cursorAt p sp.desc.cursor).group).Nodup) :
    ∃ t q, exec (.commit k) s = .next t ∧ t.round? sp.ctx sp.desc.cohort = some q ∧
      (q.cursorAt p sp.desc.cursor).group = ((r.cursorAt p sp.desc.cursor).group + 1) %
        max 1 (im.groups sp.desc.cohort p c) ∧
      (q.cursorAt p sp.desc.cursor).pos = 0 ∧
      (∀ j o, j ∈ im.groupSets sp.desc.cohort p c (r.cursorAt p sp.desc.cursor).group →
        r.owner? p j = some o → o.taint = false → ((im.template sp.desc.cohort).isRing = false ∨ o.splits = false) →
        ∃ n, r.nextSeq ≤ n ∧ n < q.nextSeq ∧ q.owner? p j = some { o with
          shadow := if o.single then o.shadow else o.active
          active := if o.single then o.active else []
          activeCount := 0
          commit := { seq := n, tile := (im.template sp.desc.cohort).firstTile j, cluster := srcCluster k, state := 1
                      newSel := 1 - (r.set j).sel, markFrom := o.mark, cut := o.read, added := o.activeCount
                      nextGroup := (q.cursorAt p sp.desc.cursor).group, fold := false, beat := s.hal.beatCount
                      entry := sp.lead } }) ∧
      (∀ j o, j ∈ im.groupSets sp.desc.cohort p c (r.cursorAt p sp.desc.cursor).group → r.owner? p j = some o →
        (o.taint = true ∨ ((im.template sp.desc.cohort).isRing = true ∧ o.splits = true)) → o.commit.state ≠ 1 →
        q.owner? p j = some { o with
          active := [], activeCount := 0, shadow := [], sections := [], taint := false, read := o.mark }) ∧
      (∀ j, j ∉ im.groupSets sp.desc.cohort p c (r.cursorAt p sp.desc.cursor).group →
        q.owner? p j = r.owner? p j) ∧
      t = { s with set := t.set, setA := t.setA, setB := t.setB, slotB := t.slotB, recorder := t.recorder,
                   mgmt := t.mgmt, ctxs := t.ctxs, clusters := t.clusters, rounds := t.rounds } := by
  obtain ⟨t, hexec, hframe, hround⟩ := commit_commits hc hon hcur
  have hcursor := ((r.commitsSets (s.commitSite k p sp im r c) (im.template sp.desc.cohort)
    (r.currentSets im sp.desc.cohort p sp.desc.cursor c))).cursorAt_updCursor_same (p := p) (j := sp.desc.cursor)
    (f := fun q => { q with group := (s.commitSite k p sp im r c).next, pos := 0 }) fun _ => ⟨rfl, rfl⟩
  refine ⟨t, _, hexec, hround, ?_, ?_, fun j o hj ho htaint hring => ?_, fun j o hj ho hbad hidle => ?_, fun j hj => ?_,
    State.eq_of_offReplay_eq hframe⟩
  · rw [hcursor]
    rfl
  · rw [hcursor]
  · have hcut : o.refusesCut (im.template sp.desc.cohort).isRing = false := by
      rcases hring with hring | hring <;> simp [OwnerSet.refusesCut, htaint, hring]
    obtain ⟨n, hlow, hhigh, howner⟩ := Round.commitsSets_cuts (x := s.commitSite k p sp im r c) hnodup hj ho hcut
    rw [OwnerSet.swapped_eq] at howner
    rw [hcursor, Round.owner?_updCursor, Round.nextSeq_updCursor]
    exact ⟨n, hlow, hhigh, howner⟩
  · have hcut : o.refusesCut (im.template sp.desc.cohort).isRing = true := by
      rcases hbad with hbad | ⟨hring, hsplits⟩ <;> simp [OwnerSet.refusesCut, *]
    rw [Round.owner?_updCursor]
    exact Round.commitsSets_rolls (x := s.commitSite k p sp im r c) hnodup hj ho hcut hidle
  · rw [Round.owner?_updCursor]
    exact (r.commitsSets_others (s.commitSite k p sp im r c) (im.template sp.desc.cohort) hj).1

/-- COMMIT_DRAIN (R143, R144, R157). -/
theorem commitDrain_law {ctx j : Nat} (hpos : (s.cluster k).position = some p) (him : s.image ctx = some im)
    (hr : s.round? ctx j = some r) (hstate : o.commit.state = 1) (hfold : o.commit.fold = false)
    (hlock : (r.set o.set).lock = false) (hlen : o.set < r.sets.length) (hop : o.position = p)
    (hfailed : (s.cluster k).failed = false) (hup : ∀ x ∈ im.commitRoutes o, s.routeDown x = false)
    (honly : r.owners.filter (fun x => x.position == p && x.set == o.set) = [o]) :
    ∃ t q, exec (.commitDrain k ctx j) s = .next t ∧ t.round? ctx j = some q ∧
      q.owner? p o.set = some { o with bin := o.bin.drop (o.commit.cut - o.release), mark := o.commit.cut
                                       release := o.commit.cut, shadow := []
                                       active := if o.single then [] else o.active
                                       sections := o.sections.filter fun x => decide (o.commit.cut ≤ x.1)
                                       commit := { o.commit with state := 2 } } ∧
      (q.set o.set).count = (r.set o.set).count + o.commit.added ∧
      (q.set o.set).commits = (r.set o.set).commits + 1 ∧ (q.set o.set).lastSeq = o.commit.seq ∧
      ((r.set o.set).unmask ≠ 2 → (r.set o.set).dataFault = false → (q.set o.set).copy = addSet
        (im.modulus (im.template j)) (max 1 (im.template j).setTiles) (r.set o.set).copy
          (if o.single then o.active else o.shadow)) ∧
      (∀ x ∈ o.bin.take (o.commit.cut - o.release), x.cont = false → x.skip = false → x.peer = false →
        (Frame.slot x.header, Frame.tile x.header) ∈ q.intake.ledger ∧
        (Frame.slot x.header, Frame.tile x.header) ∉ q.intake.pending) ∧
      (∀ i x, o.bin[i]? = some x → i < o.commit.cut - o.release → x.cont = false → x.skip = false → x.peer = true →
        (Frame.slot x.header, o.set) ∈ q.intake.peerBits ∧
        ∀ z ∈ sectionSlots (Frame.slot x.header) ((assocGet o.sections (o.release + i)).getD []),
          (z, Frame.tile x.header) ∈ q.intake.ledger) ∧
      q = { r with sets := q.sets, owners := q.owners, intake := q.intake, chunks := q.chunks } ∧
      t = { s with ctxs := t.ctxs, rounds := t.rounds } := by
  obtain ⟨f, hexec⟩ := exec_commitDrain hpos hfailed him hr
  have hmine := Round.committable_only (im := im) (cut := s.routeDown) hstate hfold hlock hop hup honly
  have howner : r.owner? p o.set = some o := Round.owner?_of_ownersAt (l := []) honly
  obtain ⟨hset, hdone, hheld⟩ := Round.drainsCommits_only (im := im) (tm := im.template j) hmine howner hlen
  obtain ⟨hcount, hcommits, hseq⟩ := (r.set o.set).committed_counts (im.modulus (im.template j))
    (max 1 (im.template j).setTiles) o
  refine ⟨_, _, hexec, State.round?_updRound_of_some (Round.same_drainsCommits im (im.template j) p _) hr, hdone,
    ?_, ?_, ?_, fun hvoid hfault => ?_, fun x hx hcont hskip hpeer => ?_, fun i x hx hi hcont hskip hpeer => ?_,
    Round.drainsCommits_frame .., rfl⟩
  · rw [hset, hcount]
  · rw [hset, hcommits]
  · rw [hset, hseq]
  · rw [hset, TileSet.copy_committed _ _ _ _ hvoid hfault]
    rfl
  · obtain ⟨i, hi, hat⟩ := List.mem_take_iff_getElem.mp hx
    have hholds := hheld (o.release + i) x
      (OwnerSet.mem_numbered_take (List.getElem?_eq_some_iff.mpr ⟨_, hat⟩) (lt_min_iff.mp hi).1) hcont hskip
    exact ⟨hholds.chunk hpeer, hholds.pending⟩
  · have hholds := hheld (o.release + i) x (OwnerSet.mem_numbered_take hx hi) hcont hskip
    exact ⟨hholds.leaf hpeer, hholds.slots hpeer⟩

/-- DRAIN_BOUND_EXCEEDED (R147, R151, R444, R446). -/
theorem drainBound_law (hk : k < 64) (hlen : s.clusters.length = 64) (hpos : (s.cluster k).position = some p)
    (hr : r ∈ s.rounds) (ho : o ∈ r.owners) (hop : o.position = p) (hstate : o.commit.state = 1)
    (him : s.image r.ctx = some im) (hdue : im.drainDue r.planDigest r.template o ≤ s.hal.beatCount) :
    ∃ t, exec (.drainBoundExceeded k) s = .next t ∧ t.hal = s.hal ∧ t.start = s.start ∧ t.power = s.power ∧
      t.aon = s.aon ∧ t.drbgs = s.drbgs ∧ t.pending = s.pending ∧
      (s.lead.links.any DieLink.down = false → (t.cluster k).failed = true) ∧
      (s.lead.links.any DieLink.down = true → t = { s with
        set := t.set, setA := t.setA, setB := t.setB, slotB := t.slotB, recorder := t.recorder, mgmt := t.mgmt
        ctxs := t.ctxs, clusters := t.clusters, rounds := t.rounds }) := by
  have hlate : s.lateRounds p ≠ [] := List.ne_nil_of_mem (List.mem_filter.mpr
    ⟨hr, List.any_eq_true.mpr ⟨o, ho, by simp [hop, hstate, him, hdue]⟩⟩)
  have hexec := exec_drainBoundExceeded_late hpos hlate
  have hframe := s.offReplay_rollsLate k p
  have hcl : k < (s.rollsLate k p).clusters.length := by
    rw [s.length_clusters_rollsLate, hlen]
    exact hk
  obtain ⟨hfailed, hhal, hstart, hpower, haon, hdrbgs, hpending⟩ := State.failCluster_runs_on hcl
  generalize s.rollsLate k p = u at hexec hframe hfailed hhal hstart hpower haon hdrbgs hpending
  have hlinks : u.lead.links = s.lead.links := (congrArg (fun v : State => v.lead.links) hframe :)
  rw [hlinks] at hexec
  cases hdown : s.lead.links.any DieLink.down with
  | true =>
    rw [hdown, if_pos rfl] at hexec
    exact ⟨u, hexec, (congrArg State.hal hframe :), (congrArg State.start hframe :), (congrArg State.power hframe :),
      (congrArg State.aon hframe :), (congrArg State.drbgs hframe :), (congrArg State.pending hframe :), nofun,
      fun _ => State.eq_of_offReplay_eq hframe⟩
  | false =>
    rw [hdown, if_neg Bool.false_ne_true] at hexec
    exact ⟨_, hexec, hhal.trans (congrArg State.hal hframe :), hstart.trans (congrArg State.start hframe :),
      hpower.trans (congrArg State.power hframe :), haon.trans (congrArg State.aon hframe :),
      hdrbgs.trans (congrArg State.drbgs hframe :), hpending.trans (congrArg State.pending hframe :), fun _ => hfailed,
      nofun⟩

/-- Without a commit under way no drain is late. -/
theorem drainBound_idle (hpos : (s.cluster k).position = some p)
    (hno : ∀ r ∈ s.rounds, ∀ o ∈ r.owners, o.position = p → o.commit.state ≠ 1) :
    exec (.drainBoundExceeded k) s = .next s := by
  refine exec_drainBoundExceeded_idle hpos (List.filter_eq_nil_iff.mpr fun r hr => ?_)
  rw [Bool.not_eq_true, List.any_eq_false]
  intro o ho
  by_cases hop : o.position = p
  · simp [hno r hr o ho hop]
  · simp [hop]

/-- PEERFWD over a route that carries it (R56, R156). -/
theorem peerfwd_sends {key : Bytes} {x : Conn} (hc : s.Carries k 0x30 p sp) (hon : s.OnRound sp im r)
    (hcur : im.cursor p sp.desc.cursor = some c) (hroot : r.root = some key) (hx : s.conn? r.rootConn = some x)
    (hopen : x.state = .open) (hagain : r.peerAgain = []) (hup : s.routeDown (im.route sp.desc.dstRoute) = false) :
    ∃ t q, exec (.peerfwd k) s = .next t ∧ t.round? sp.ctx sp.desc.cohort = some q ∧
      ((q.cursorAt p sp.desc.cursor).pos = (r.cursorAt p sp.desc.cursor).pos +
          r.forwards (max 1 (im.template sp.desc.cohort).setTiles) p sp.desc.cursor c ∧
        t.conn? r.rootConn = some { x with
          sendArea := x.sendArea ++ r.forwardFrames (im.template sp.desc.cohort)
            (max 1 (im.template sp.desc.cohort).setTiles) p sp.desc.cursor c }) ∧
      q = { r with cursors := q.cursors } ∧ (t.cluster k).span = some { sp with done := true } ∧
      t = { s with clusters := t.clusters, rounds := t.rounds, grixo := { s.grixo with conns := t.grixo.conns } } := by
  have hexec := exec_peerfwd hc hon hcur hroot hagain hup
  have hconn := State.conn?_queueMsgs (s := s.spanDone k sp) hx hopen
    (r.forwardFrames (im.template sp.desc.cohort) (max 1 (im.template sp.desc.cohort).setTiles) p sp.desc.cursor c)
  obtain ⟨xs, hframe⟩ := (s.spanDone k sp).queueMsgs_frame r.rootConn
    (r.forwardFrames (im.template sp.desc.cohort) (max 1 (im.template sp.desc.cohort).setTiles) p sp.desc.cursor c)
  generalize (s.spanDone k sp).queueMsgs _ _ = u at hexec hconn hframe
  have hround : u.round? sp.ctx sp.desc.cohort = some r :=
    (State.round?_congr (congrArg State.rounds hframe :)).trans hon.2
  have hspan : (u.cluster k).span = some { sp with done := true } :=
    (congrArg Cluster.span (State.cluster_congr (congrArg State.clusters hframe :) k)).trans
      (State.cluster_spanDone hc).1
  refine ⟨_, _, hexec, State.round?_updRound_of_some (fun _ => ⟨rfl, rfl, rfl⟩) hround, ⟨?_, hconn⟩, rfl, hspan, ?_⟩
  · rw [Round.cursorAt_updCursor_same]
    · rfl
    · exact fun _ => ⟨rfl, rfl⟩
  · rw [hframe]
    exact State.eq_of_queued rfl

end

/-- Settles O49: each command by its law; what a COMMIT makes of a set is that set's own turn, and a drain that of the
one owner of the set. -/
theorem chunksAreCommittedOnce : Obligations.ChunksAreCommittedOnce := by
  unfold Obligations.ChunksAreCommittedOnce
  refine ⟨?accum, ?commit, ?drain, ?late, ?idle, ?peerfwd, ?secretin, ?secret⟩
  case accum =>
    intro s k p sp im r c b o hc hon hcur hb ho
    exact accum_law hc hon hcur hb ho
  case commit =>
    intro s k p sp im r c hc hon hcur hnodup
    exact commit_law hc hon hcur hnodup
  case drain =>
    intro s k p ctx j im r o hpos him hr hstate hfold hlock hlen hop hfailed hup honly
    exact commitDrain_law hpos him hr hstate hfold hlock hlen hop hfailed hup honly
  case late =>
    intro s k p im r o hk hlen hpos hr ho hop hstate him hdue
    exact drainBound_law hk hlen hpos hr ho hop hstate him hdue
  case idle =>
    intro s k p hpos hno
    exact drainBound_idle hpos hno
  case peerfwd =>
    intro s k p sp im r c key x hc hon hcur hroot hx hopen hagain
    exact ⟨exec_peerfwd_cut hc hon hcur hroot, peerfwd_sends hc hon hcur hroot hx hopen hagain⟩
  case secretin =>
    intro s k p sp r b hc hr hb
    obtain ⟨t, q, hexec, hround, hqueue, htook, hframe⟩ := secretin_takes hc hr hb
    exact ⟨t, q, hexec, hround, hqueue, htook.banks, htook.span, htook.others, State.eq_of_offSecrets hframe⟩
  case secret =>
    intro s k p sp r b x hc hr hb hone hwaits
    exact ⟨secretin_stores hc hr hb hone hwaits, secretin_discards hc hr hb hone hwaits,
      secretin_refused hc hr hb hone hwaits⟩

end Sys2Proof.Machine
end

section
/-!
FRAME_ARRIVAL (R116, R120 to R125): a message received whole is judged as a frame, or read as the notices of a leaf's
root.
-/
namespace Sys2Proof.Machine

/-! Connections at an index. -/

section
variable {s : State} {i : Nat} {c : Conn} {f : Conn → Conn}

theorem State.conn?_updConn (hf : ∀ x : Conn, (f x).index = x.index) : (s.updConn i f).conn? i = (s.conn? i).map f :=
  find?_updIf (p := fun c : Conn => c.index == i) (fun x hx => by rw [hf]; exact hx) s.grixo.conns

theorem State.conn?_updConn_of_some (hf : ∀ x : Conn, (f x).index = x.index) (hc : s.conn? i = some c) :
    (s.updConn i f).conn? i = some (f c) := by
  rw [State.conn?_updConn hf, hc, Option.map_some]

/-- An open connection with room for a notice takes it (R122). -/
theorem State.notice_of_open {code action : Nat} {m : Bytes} (hc : s.conn? i = some c) (hopen : c.state = .open)
    (hroom : c.notices.length < 65536) : s.notice i code m action =
      s.updConn i fun x => { x with notices := x.notices ++ [noticeEntry code m action] } := by
  unfold State.notice
  simp only [hc, hopen, hroom, and_self, if_true]

/-- An open connection with room is notified of a frame that is discarded (R122). -/
theorem State.reject_of_open {ctx code : Nat} {m : Bytes} (hc : s.conn? i = some c) (hopen : c.state = .open)
    (hroom : c.notices.length < 65536) : ∃ g, s.reject ctx i code m =
      ({ s.count ctx g with stats := { s.stats with intakeRejects := s.stats.intakeRejects + 1 } }).updConn i fun x =>
        { x with notices := x.notices ++ [noticeEntry code m 2] } :=
  ⟨fun c => { c with intakeReject := updAt c.intakeReject (code % 0x10000) (· + 1) },
    State.notice_of_open (s := { s.count ctx _ with stats := { s.stats with
      intakeRejects := s.stats.intakeRejects + 1 } }) hc hopen hroom⟩

theorem State.conn?_reject_of_open {ctx code : Nat} {m : Bytes} (hc : s.conn? i = some c) (hopen : c.state = .open)
    (hroom : c.notices.length < 65536) :
    (s.reject ctx i code m).conn? i = some { c with notices := c.notices ++ [noticeEntry code m 2] } := by
  obtain ⟨g, heq⟩ := State.reject_of_open (ctx := ctx) (code := code) (m := m) hc hopen hroom
  rw [heq, State.conn?_updConn]
  · exact congrArg (Option.map _) hc
  · exact fun _ => rfl

end

/-! A message is taken over by intake. -/

/-- The parts of a message have been taken over, and its tracker is freed (R271). -/
def Conn.handsOver (c : Conn) (id : Nat) : Conn :=
  Conn.freeTrackers { c with rx := updIf c.rx (fun x => x.id == id) fun (x : RxMsg) => { x with parts := [] } }

/-- The message that connection `c` has received whole under an identifier. -/
def Conn.arrived? (c : Conn) (id : Nat) : Option RxMsg :=
  c.rx.find? fun m => m.id == id && m.complete && !m.parts.isEmpty

/-- The state once intake has taken a message over. -/
def State.handsOver (s : State) (i id : Nat) : State := s.updConn i fun c => c.handsOver id

section
variable {s : State} {i id : Nat} {c : Conn} {m : RxMsg}

/-- The message of a FRAME_ARRIVAL no longer counts as arrived in this beat. -/
def State.notesArrival (s : State) (i id : Nat) : State :=
  { s with grixo := { s.grixo with arrived := s.grixo.arrived.filter fun x => x != (i, id) } }

theorem exec_frameArrival (s : State) (i id : Nat) :
    exec (.frameArrival i id) s = .next ((s.takeFrame i id).notesArrival i id) := rfl

/-- A message that is no notice of a root is judged as a frame (R120; log entry 89). -/
theorem State.takeFrame_judges (hc : s.conn? i = some c) (hkind : c.kind = 1) (hm : c.arrived? id = some m)
    (hno : ∀ x ∈ s.rounds, x.ctx = c.ctx → x.root.isSome = true → x.rootConn = i → noticeShape m.bytes = false) :
    s.takeFrame i id = (s.handsOver i id).judgeFrame c.ctx i m.bytes := by
  have hm' : c.rx.find? (fun m => m.id == id && m.complete && !m.parts.isEmpty) = some m := hm
  have hnone : s.rounds.find? (fun r => r.ctx == c.ctx && r.root.isSome && r.rootConn == i && noticeShape m.bytes) =
      none := by
    refine List.find?_eq_none.mpr fun x hx hall => ?_
    simp only [Bool.and_eq_true, beq_iff_eq] at hall
    obtain ⟨⟨⟨hctx, hroot⟩, hconn⟩, hshape⟩ := hall
    exact Bool.false_ne_true ((hno x hx hctx hroot hconn).symm.trans hshape)
  have hnone' : (s.handsOver i id).rounds.find? (fun r => r.ctx == c.ctx && r.root.isSome && r.rootConn == i &&
      noticeShape m.bytes) = none := hnone
  unfold State.takeFrame
  simp only [hc, hm', hkind, ne_eq, not_true_eq_false, if_false]
  simp only [State.handsOver, Conn.handsOver] at hnone' ⊢
  rw [hnone']

/-- A notice of the root of a round is read (R122). -/
theorem State.takeFrame_reads {r : Round} {j : Nat} (hc : s.conn? i = some c) (hkind : c.kind = 1)
    (hm : c.arrived? id = some m) (hshape : noticeShape m.bytes = true) (hr : s.round? c.ctx j = some r)
    (hroot : r.root.isSome = true) (hconn : r.rootConn = i)
    (honly : ∀ x ∈ s.rounds, x.ctx = c.ctx → x.root.isSome = true → x.rootConn = i → x = r) :
    s.takeFrame i id = (s.handsOver i id).peerNotices m.bytes r := by
  have hm' : c.rx.find? (fun m => m.id == id && m.complete && !m.parts.isEmpty) = some m := hm
  have hcur := State.isCurrent_of_round? hr
  simp only [Round.isCurrent, Bool.and_eq_true, beq_iff_eq] at hcur
  obtain ⟨⟨hctx, -⟩, -⟩ := hcur
  have hfind : s.rounds.find? (fun r => r.ctx == c.ctx && r.root.isSome && r.rootConn == i && noticeShape m.bytes) =
      some r := by
    obtain ⟨y, hy⟩ := Option.isSome_iff_exists.mp (List.find?_isSome
      (p := fun r : Round => r.ctx == c.ctx && r.root.isSome && r.rootConn == i && noticeShape m.bytes).mpr
      ⟨r, List.mem_of_find?_eq_some hr, by simp [hctx, hroot, hconn, hshape]⟩)
    have hall := List.find?_some hy
    simp only [Bool.and_eq_true, beq_iff_eq] at hall
    obtain ⟨⟨⟨yctx, yroot⟩, yconn⟩, -⟩ := hall
    rw [hy, honly y (List.mem_of_find?_eq_some hy) yctx yroot yconn]
  have hfind' : (s.handsOver i id).rounds.find? (fun r => r.ctx == c.ctx && r.root.isSome && r.rootConn == i &&
      noticeShape m.bytes) = some r := hfind
  unfold State.takeFrame
  simp only [hc, hm', hkind, ne_eq, not_true_eq_false, if_false]
  simp only [State.handsOver, Conn.handsOver] at hfind' ⊢
  rw [hfind']

end

/-! A frame is judged (R120). -/

/-- The session of a frame is stored, or the frame is itself a SESSION (check 10 of R120). -/
def Round.sessionReady (r : Round) (f : Bytes) : Prop :=
  Frame.kind f = 6 ∨ ((r.session? (Frame.role f) (Frame.slot f)).map RoundSession.stored) = some true

/-- A frame of a context belongs to a round, and passes checks 1 to 10 of R120 (R113 to R121). -/
structure State.PassesMid (s : State) (c j : Nat) (im : PlanImage) (r : Round) (f : Bytes) : Prop where
  shape : frameShape f = true
  image : s.image c = some im
  cohort : s.cohortOf c (Frame.cohort f) = some j
  round : s.round? c j = some r
  number : r.number = Frame.round f
  mid : midChecks im j r f = 0

/-- From `r` to `q` a frame that passed every check is placed (R118, R124, R125). -/
structure Round.Accepts (i arrival : Nat) (f : Bytes) (r q : Round) : Prop where
  frame : q = { r with intake := q.intake }
  chunk : Frame.kind f = 1 ∨ Frame.kind f = 5 → q.intake = { r.intake with
    waiting := r.intake.waiting ++ [⟨i, arrival, f, false⟩]
    pending := putPair (Frame.slot f, Frame.tile f) r.intake.pending }
  session : Frame.kind f = 6 → q.intake = { r.intake with sessions := r.intake.sessions ++
    [⟨Frame.role f, Frame.slot f, [], Frame.payload f, false, i, f⟩] }
  secret : 2 ≤ Frame.kind f → Frame.kind f ≤ 4 → q.intake = { r.intake with
    secretQueue := r.intake.secretQueue ++ [⟨i, arrival, f, false⟩] }
  sessions : ∃ l, q.intake.sessions = r.intake.sessions ++ l

section
variable {s : State} {c j i : Nat} {im : PlanImage} {r : Round} {f : Bytes}

theorem Round.Accepts.same {arrival : Nat} {q : Round} (h : Round.Accepts i arrival f r q) : r.Same q := by
  rw [h.frame]
  exact ⟨rfl, rfl, rfl⟩

theorem State.acceptFrame_eq (s : State) (c j i arrival : Nat) (f : Bytes) : ∃ g h,
    s.acceptFrame c j i arrival f = (s.count c g).updRound c j h ∧ ∀ r : Round, Round.Accepts i arrival f r (h r) := by
  refine ⟨_, _, rfl, fun r => ?_⟩
  dsimp only
  split
  next h1 => exact ⟨rfl, fun _ => rfl, by omega, by omega, [], (List.append_nil _).symm⟩
  next h5 => exact ⟨rfl, fun _ => rfl, by omega, by omega, [], (List.append_nil _).symm⟩
  next h6 => exact ⟨rfl, by omega, fun _ => rfl, by omega, _, rfl⟩
  next h1 h5 h6 =>
    exact ⟨rfl, fun h => (h.elim h1 h5).elim, fun h => (h6 h).elim, fun _ _ => rfl, [], (List.append_nil _).symm⟩

/-- A frame that passes the checks up to its session is held, discarded or accepted (R120). -/
theorem State.judgeFrame_of_mid (h : s.PassesMid c j im r f) : s.judgeFrame c i f =
    if Frame.kind f ≠ 6 ∧ !(((r.session? (Frame.role f) (Frame.slot f)).map RoundSession.stored).getD false) then
      s.updRound c j fun r =>
        { r with intake := { r.intake with waiting := r.intake.waiting ++ [⟨i, s.hal.beatCount, f, true⟩] } }
    else if lateChecks (im.template j).setTiles r f ≠ 0 then
      s.reject c i (lateChecks (im.template j).setTiles r f) f
    else s.acceptFrame c j i s.hal.beatCount f := by
  obtain ⟨hshape, him, hj, hr, hnumber, hmid⟩ := h
  unfold State.judgeFrame
  simp only [hshape, him, hj, hr, hnumber, hmid, Bool.not_true, Bool.false_eq_true, ne_eq, not_true_eq_false, if_false]

theorem Round.not_held (h : r.sessionReady f) : ¬(Frame.kind f ≠ 6 ∧
    (!(((r.session? (Frame.role f) (Frame.slot f)).map RoundSession.stored).getD false)) = true) := by
  rintro ⟨hkind, hstored⟩
  rw [h.resolve_left hkind] at hstored
  cases hstored

theorem State.judgeFrame_accepts (h : s.PassesMid c j im r f) (hready : r.sessionReady f)
    (hlate : lateChecks (im.template j).setTiles r f = 0) :
    s.judgeFrame c i f = s.acceptFrame c j i s.hal.beatCount f := by
  rw [State.judgeFrame_of_mid h, if_neg (Round.not_held hready), if_neg (not_not.mpr hlate)]

theorem State.judgeFrame_holds (h : s.PassesMid c j im r f) (hkind : Frame.kind f ≠ 6)
    (hstored : ((r.session? (Frame.role f) (Frame.slot f)).map RoundSession.stored) = some false) :
    s.judgeFrame c i f = s.updRound c j fun r =>
      { r with intake := { r.intake with waiting := r.intake.waiting ++ [⟨i, s.hal.beatCount, f, true⟩] } } := by
  rw [State.judgeFrame_of_mid h, if_pos ⟨hkind, by rw [hstored]; rfl⟩]

/-- The first check of R120 that a frame fails, with its code. -/
inductive State.FailsWith (s : State) (c : Nat) (f : Bytes) : Nat → Prop
  | shape (h : frameShape f = false) : FailsWith s c f 0x01100004
  | cohort (h : frameShape f = true) (hj : s.cohortOf c (Frame.cohort f) = none) : FailsWith s c f 0x01100001
  | round {j : Nat} {im : PlanImage} (h : frameShape f = true) (him : s.image c = some im)
      (hj : s.cohortOf c (Frame.cohort f) = some j) (hr : ∀ r, s.round? c j = some r → r.number ≠ Frame.round f) :
      FailsWith s c f 0x01100002
  | mid {j : Nat} {im : PlanImage} {r : Round} (h : frameShape f = true) (him : s.image c = some im)
      (hj : s.cohortOf c (Frame.cohort f) = some j) (hr : s.round? c j = some r) (hn : r.number = Frame.round f)
      (hmid : midChecks im j r f ≠ 0) : FailsWith s c f (midChecks im j r f)
  | late {j : Nat} {im : PlanImage} {r : Round} (h : s.PassesMid c j im r f) (hready : r.sessionReady f)
      (hlate : lateChecks (im.template j).setTiles r f ≠ 0) : FailsWith s c f (lateChecks (im.template j).setTiles r f)

/-- A frame that fails a check is discarded with the code of the first (R120, R122). -/
theorem State.judgeFrame_rejects {code : Nat} (h : s.FailsWith c f code) :
    s.judgeFrame c i f = s.reject c i code f := by
  cases h with
  | shape h => simp [State.judgeFrame, h]
  | cohort h hj =>
    unfold State.judgeFrame
    simp only [h, hj]
    cases s.image c <;> rfl
  | @round j im h him hj hr =>
    unfold State.judgeFrame
    cases hround : s.round? c j with
    | none => simp [h, him, hj, hround]
    | some r => simp [h, him, hj, hround, hr r hround]
  | mid h him hj hr hn hmid => simp [State.judgeFrame, h, him, hj, hr, hn, hmid]
  | late h hready hlate => rw [State.judgeFrame_of_mid h, if_neg (Round.not_held hready), if_pos hlate]

end

/-! Notices of a root (R122, R156; log entry 22). -/

/-- Frames that entries of a notice ask a leaf's round to send again. -/
def PlanImage.asked (im : PlanImage) (r : Round) (m : Bytes) : List PeerSend :=
  (List.range (beAt m 6 2)).filterMap fun k =>
    if beAt m (32 + 32 * k + 4) 1 = kPeer ∧ beAt m (32 + 32 * k + 7) 1 = 1 ∧ beAt m (32 + 32 * k + 8) 4 = r.cohortId ∧
        beAt m (32 + 32 * k + 12) 4 = r.number ∧ beAt m (32 + 32 * k + 20) 4 < (im.template r.template).tiles then
      (im.forwarder r.template (beAt m (32 + 32 * k + 20) 4 / max 1 (im.template r.template).setTiles)).map fun q =>
        PeerSend.mk q.1 q.2 (beAt m (32 + 32 * k + 20) 4 / max 1 (im.template r.template).setTiles *
          max 1 (im.template r.template).setTiles)
    else none

/-- Items joined to a list, each once. -/
def joinSends (l m : List PeerSend) : List PeerSend := m.foldl (fun l x => if l.contains x then l else l ++ [x]) l

theorem mem_joinSends {x : PeerSend} {l m : List PeerSend} : x ∈ joinSends l m ↔ x ∈ l ∨ x ∈ m := by
  induction m generalizing l with
  | nil => simp [joinSends]
  | cons y m ih =>
    have hy : joinSends l (y :: m) = joinSends (if l.contains y then l else l ++ [y]) m := rfl
    rw [hy, ih, List.mem_cons]
    split
    next hmem =>
      have hmem : y ∈ l := by simpa using hmem
      constructor
      · exact fun h => h.imp_right .inr
      · rintro (h | rfl | h)
        · exact .inl h
        · exact .inl hmem
        · exact .inr h
    next => rw [List.mem_append, List.mem_singleton, or_assoc]

section
variable {s : State} {m : Bytes} {r : Round} {im : PlanImage}

theorem State.peerNotices_eq (him : s.image r.ctx = some im) : s.peerNotices m r =
    s.updRound r.ctx r.template fun u => { u with peerAgain := joinSends u.peerAgain (im.asked r m) } := by
  unfold State.peerNotices
  simp only [him]
  rfl

theorem PlanImage.mem_asked {k : Nat} {y : Nat × Nat} (hk : k < beAt m 6 2) (hkind : beAt m (32 + 32 * k + 4) 1 = 5)
    (haction : beAt m (32 + 32 * k + 7) 1 = 1) (hcohort : beAt m (32 + 32 * k + 8) 4 = r.cohortId)
    (hround : beAt m (32 + 32 * k + 12) 4 = r.number)
    (htile : beAt m (32 + 32 * k + 20) 4 < (im.template r.template).tiles)
    (hy : im.forwarder r.template (beAt m (32 + 32 * k + 20) 4 / max 1 (im.template r.template).setTiles) = some y) :
    ⟨y.1, y.2, beAt m (32 + 32 * k + 20) 4 / max 1 (im.template r.template).setTiles *
      max 1 (im.template r.template).setTiles⟩ ∈ im.asked r m := by
  refine List.mem_filterMap.mpr ⟨k, List.mem_range.mpr hk, ?_⟩
  rw [if_pos ⟨hkind, haction, hcohort, hround, htile⟩, hy]
  rfl

end

/-! The command. -/

/-- Taking a message over does not change what the checks of a frame read. -/
theorem State.PassesMid.handsOver {s : State} {i id ctx j : Nat} {im : PlanImage} {r : Round} {f : Bytes}
    (h : s.PassesMid ctx j im r f) : (s.handsOver i id).PassesMid ctx j im r f := by
  obtain ⟨hshape, him, hj, hr, hnumber, hmid⟩ := h
  exact ⟨hshape, him, hj, hr, hnumber, hmid⟩

theorem State.FailsWith.handsOver {s : State} {i id ctx code : Nat} {f : Bytes} (h : s.FailsWith ctx f code) :
    (s.handsOver i id).FailsWith ctx f code := by
  cases h with
  | shape h => exact .shape h
  | cohort h hj => exact .cohort h hj
  | round h him hj hr => exact .round h him hj hr
  | mid h him hj hr hn hmid => exact .mid h him hj hr hn hmid
  | late h hready hlate => exact .late h.handsOver hready hlate

section
variable {s : State} {i id j : Nat} {c : Conn} {m : RxMsg} {im : PlanImage} {r : Round}

variable (hc : s.conn? i = some c) (hkind : c.kind = 1) (hm : c.arrived? id = some m)
include hc hkind hm

/-- A frame that passes every check is accepted (R118, R120, R124, R125). -/
theorem frameArrival_accepts
    (hno : ∀ x ∈ s.rounds, x.ctx = c.ctx → x.root.isSome = true → x.rootConn = i → noticeShape m.bytes = false)
    (hmid : s.PassesMid c.ctx j im r m.bytes) (hready : r.sessionReady m.bytes)
    (hlate : lateChecks (im.template j).setTiles r m.bytes = 0) :
    ∃ t q, exec (.frameArrival i id) s = .next t ∧ t.round? c.ctx j = some q ∧
      Round.Accepts i s.hal.beatCount m.bytes r q ∧
      t = { s with ctxs := t.ctxs, rounds := t.rounds
                   grixo := { s.grixo with
                     conns := t.grixo.conns, arrived := s.grixo.arrived.filter fun x => x != (i, id) } } := by
  obtain ⟨g, h, heq, hacc⟩ := (s.handsOver i id).acceptFrame_eq c.ctx j i s.hal.beatCount m.bytes
  have htake : s.takeFrame i id = ((s.handsOver i id).count c.ctx g).updRound c.ctx j h := by
    rw [State.takeFrame_judges hc hkind hm hno, State.judgeFrame_accepts hmid.handsOver hready hlate]
    exact heq
  have hround : (s.takeFrame i id).round? c.ctx j = some (h r) := by
    rw [htake]
    exact State.round?_updRound_of_some (s := (s.handsOver i id).count c.ctx g) (fun u => (hacc u).same) hmid.round
  refine ⟨_, h r, exec_frameArrival s i id, hround, hacc r, ?_⟩
  rw [htake]
  rfl

/-- A frame whose session is still being processed is held (R120 check 10). -/
theorem frameArrival_holds
    (hno : ∀ x ∈ s.rounds, x.ctx = c.ctx → x.root.isSome = true → x.rootConn = i → noticeShape m.bytes = false)
    (hmid : s.PassesMid c.ctx j im r m.bytes) (hframe : Frame.kind m.bytes ≠ 6)
    (hstored : ((r.session? (Frame.role m.bytes) (Frame.slot m.bytes)).map RoundSession.stored) = some false) :
    ∃ t, exec (.frameArrival i id) s = .next t ∧ t.round? c.ctx j = some { r with intake := { r.intake with
        waiting := r.intake.waiting ++ [⟨i, s.hal.beatCount, m.bytes, true⟩] } } ∧
      t = { s with rounds := t.rounds
                   grixo := { s.grixo with
                     conns := t.grixo.conns, arrived := s.grixo.arrived.filter fun x => x != (i, id) } } := by
  have htake : s.takeFrame i id = (s.handsOver i id).updRound c.ctx j fun r => { r with intake := { r.intake with
      waiting := r.intake.waiting ++ [⟨i, s.hal.beatCount, m.bytes, true⟩] } } := by
    rw [State.takeFrame_judges hc hkind hm hno, State.judgeFrame_holds hmid.handsOver hframe hstored]
    rfl
  refine ⟨_, exec_frameArrival s i id, ?_, ?_⟩
  · rw [htake]
    exact State.round?_updRound_of_some (s := s.handsOver i id) (fun _ => ⟨rfl, rfl, rfl⟩) hmid.round
  · rw [htake]
    rfl

/-- The notices of a leaf's root name frames to send again (R122, R156). -/
theorem frameArrival_reads (hshape : noticeShape m.bytes = true) (him : s.image c.ctx = some im)
    (hr : s.round? c.ctx j = some r) (hroot : r.root.isSome = true) (hconn : r.rootConn = i)
    (honly : ∀ x ∈ s.rounds, x.ctx = c.ctx → x.root.isSome = true → x.rootConn = i → x = r) :
    ∃ t, exec (.frameArrival i id) s = .next t ∧ t.round? c.ctx j =
        some { r with peerAgain := joinSends r.peerAgain (im.asked r m.bytes) } ∧ r.template = j ∧
      t = { s with rounds := t.rounds
                   grixo := { s.grixo with
                     conns := t.grixo.conns, arrived := s.grixo.arrived.filter fun x => x != (i, id) } } := by
  have hcur := State.isCurrent_of_round? hr
  simp only [Round.isCurrent, Bool.and_eq_true, beq_iff_eq] at hcur
  obtain ⟨⟨hctx, htemplate⟩, -⟩ := hcur
  have him' : (s.handsOver i id).image r.ctx = some im := hctx ▸ him
  have htake : s.takeFrame i id = (s.handsOver i id).updRound c.ctx j fun u =>
      { u with peerAgain := joinSends u.peerAgain (im.asked r m.bytes) } := by
    rw [State.takeFrame_reads hc hkind hm hshape hr hroot hconn honly, State.peerNotices_eq him', hctx, htemplate]
  refine ⟨_, exec_frameArrival s i id, ?_, htemplate, ?_⟩
  · rw [htake]
    exact State.round?_updRound_of_some (s := s.handsOver i id) (fun _ => ⟨rfl, rfl, rfl⟩) hr
  · rw [htake]
    rfl

/-- A frame that fails a check is counted, and its connection notified (R120, R122). -/
theorem frameArrival_rejects {code : Nat}
    (hno : ∀ x ∈ s.rounds, x.ctx = c.ctx → x.root.isSome = true → x.rootConn = i → noticeShape m.bytes = false)
    (hopen : c.state = .open) (hroom : c.notices.length < 65536) (hfail : s.FailsWith c.ctx m.bytes code) :
    ∃ t, exec (.frameArrival i id) s = .next t ∧ t.stats.intakeRejects = s.stats.intakeRejects + 1 ∧
      (t.conn? i).map Conn.notices = some (c.notices ++ [noticeEntry code m.bytes 2]) ∧ t.rounds = s.rounds ∧
      t = { s with ctxs := t.ctxs, stats := { s.stats with intakeRejects := t.stats.intakeRejects }
                   grixo := { s.grixo with
                     conns := t.grixo.conns, arrived := s.grixo.arrived.filter fun x => x != (i, id) } } := by
  have hconn : (s.handsOver i id).conn? i = some (c.handsOver id) := State.conn?_updConn_of_some (fun _ => rfl) hc
  obtain ⟨g, heq⟩ := (s.handsOver i id).reject_of_open (ctx := c.ctx) (code := code) (m := m.bytes) hconn hopen hroom
  have htake' : s.takeFrame i id = (s.handsOver i id).reject c.ctx i code m.bytes :=
    (State.takeFrame_judges hc hkind hm hno).trans (State.judgeFrame_rejects hfail.handsOver)
  have htake := htake'.trans heq
  refine ⟨_, exec_frameArrival s i id, ?_, ?_, ?_, ?_⟩
  · rw [htake]
    rfl
  · exact congrArg (Option.map Conn.notices)
      ((congrArg (State.conn? · i) htake').trans (State.conn?_reject_of_open hconn hopen hroom))
  · rw [htake]
    rfl
  · rw [htake]
    rfl

end

end Sys2Proof.Machine
end

section
/-!
SESSION_ESTABLISH (R118, R120, R122, R226): a session whose tag verifies is stored, and the frames held for it are
checked again; another is dropped with them.
-/
namespace Sys2Proof.Machine

/-- A state that agrees with another outside of what intake touches, written as an update of it. -/
theorem State.eq_of_offIntake {s t : State} (h : t.offIntake = s.offIntake) :
    t = { s with ctxs := t.ctxs, rounds := t.rounds, grixo := t.grixo, stats := t.stats } :=
  congrArg (fun x : State => { x with ctxs := t.ctxs, rounds := t.rounds, grixo := t.grixo, stats := t.stats }) h

/-- A state that agrees with another outside of what taking secrets touches, written as an update of it. -/
theorem State.eq_of_offSecrets_eq {s t : State} (h : t.offSecrets = s.offSecrets) :
    t = { s with set := t.set, setA := t.setA, setB := t.setB, slotB := t.slotB, recorder := t.recorder,
                 mgmt := t.mgmt, ctxs := t.ctxs, rounds := t.rounds, grixo := t.grixo, stats := t.stats } :=
  congrArg (fun x : State =>
    { x with set := t.set, setA := t.setA, setB := t.setB, slotB := t.slotB, recorder := t.recorder,
             mgmt := t.mgmt, ctxs := t.ctxs, rounds := t.rounds, grixo := t.grixo, stats := t.stats }) h

/-- A session found by its role and slot has them. -/
theorem Round.role_slot_of_session? {r : Round} {role slot : Nat} {x : RoundSession}
    (h : r.session? role slot = some x) : x.role = role ∧ x.slot = slot := by
  have hx := List.find?_some h
  rw [Bool.and_eq_true, beq_iff_eq, beq_iff_eq] at hx
  exact hx

/-! Frames held for a session are checked again (R120). -/

/-- From `r` on, a round has changed in its intake alone, and has a session `y`. -/
structure Round.HasSession (r : Round) (role slot : Nat) (y : RoundSession) (q : Round) : Prop where
  frame : q = { r with intake := q.intake }
  session : q.session? role slot = some y

section
variable {s : State} {c j role slot : Nat} {r q : Round} {y : RoundSession}

theorem Round.HasSession.accepts {i arrival : Nat} {f : Bytes} {u : Round} (h : r.HasSession role slot y q)
    (hacc : Round.Accepts i arrival f q u) : r.HasSession role slot y u := by
  obtain ⟨l, hl⟩ := hacc.sessions
  refine ⟨?_, ?_⟩
  · rw [hacc.frame, h.frame]
  · have hfind := h.session
    unfold Round.session? at hfind ⊢
    rw [hl, List.find?_append, hfind]
    rfl

/-- Frames checked again leave the sessions that are stored. -/
theorem State.recheckHeld_keeps (hr : s.round? c j = some r) (hy : r.session? role slot = some y) :
    (s.recheckHeld c j role slot).offIntake = s.offIntake ∧
      ∃ q, (s.recheckHeld c j role slot).round? c j = some q ∧ r.HasSession role slot y q := by
  unfold State.recheckHeld
  split
  next im u him hu =>
    obtain rfl : r = u := Option.some.inj (hr.symm.trans hu)
    dsimp only
    generalize r.intake.waiting.filter _ = held
    refine List.foldlRecOn (motive := fun t : State => t.offIntake = s.offIntake ∧
      ∃ q, t.round? c j = some q ∧ r.HasSession role slot y q) held _ ?_ fun t ⟨ht, q, hq, hs⟩ w _ => ?_
    · exact ⟨rfl, _, State.round?_updRound_of_some (fun _ => ⟨rfl, rfl, rfl⟩) hr, rfl, hy⟩
    · simp only [hq]
      split
      · exact ⟨(t.offIntake_reject ..).trans ht, q, (State.round?_congr (t.reject_frame ..).1).trans hq, hs⟩
      · obtain ⟨g, f, heq, hacc⟩ := t.acceptFrame_eq c j w.conn w.arrival w.bytes
        rw [heq]
        exact ⟨ht, f q, State.round?_updRound_of_some (s := t.count c g) (fun u => (hacc u).same) hq,
          hs.accepts (hacc q)⟩
  next => exact ⟨rfl, r, hr, rfl, hy⟩

end

/-! A member's KEYX and C1 messages are queued (R226). -/

section
variable {s : State} {c j : Nat} {x : RoundSession} {r : Round}

theorem State.queueMsgs_map {α : Type} (g : α → Bytes) (s : State) (i : Nat) (l : List α) :
    l.foldl (fun s e => s.queueModuleMsg i (g e)) s = s.queueMsgs i (l.map g) := List.foldl_map.symm

/-- KEYX leaves the rounds alone, whether or not the export key may be read. -/
theorem State.sendKeyx_rounds (s : State) (c j : Nat) (x : RoundSession) :
    (s.sendKeyx c j x).rounds = s.rounds ∧ (s.sendKeyx c j x).offSecrets = s.offSecrets := by
  have hqueue (u : State) (i : Nat) (l : List Bytes) :
      (u.queueMsgs i l).rounds = u.rounds ∧ (u.queueMsgs i l).offSecrets = u.offSecrets := by
    obtain ⟨xs, heq⟩ := u.queueMsgs_frame i l
    rw [heq]
    exact ⟨rfl, rfl⟩
  unfold State.sendKeyx
  split
  next im r _ _ =>
    simp only [State.queueMsgs_map]
    obtain ⟨hrounds, hoff⟩ := hqueue (s.withRoundKey r 1 none id fun key =>
      s.queueModuleMsg x.conn (r.keyx (im.template j) (im.exportLevel j) x.slot x.key key)) x.conn
      (r.ring.exports.map Prod.snd)
    rw [hrounds, hoff]
    cases hkey : s.roundKey? r 1 none with
    | some key =>
      rw [State.withRoundKey_of_some hkey]
      exact ⟨rfl, rfl⟩
    | none =>
      obtain ⟨slot, heq⟩ := State.withRoundKey_of_none hkey id fun key =>
        s.queueModuleMsg x.conn (r.keyx (im.template j) (im.exportLevel j) x.slot x.key key)
      rw [heq, id_eq, State.refuseUse]
      exact ⟨State.record_rounds .., congrArg (fun u : State => { u with stats := .reset }) (State.offRounds_record ..)⟩
  next => exact ⟨rfl, rfl⟩

/-- Where the export key may be read, KEYX leaves all but connections alone. -/
theorem State.offIntake_sendKeyx (hr : s.round? c j = some r) (hkey : (s.roundKey? r 1 none).isSome = true) :
    (s.sendKeyx c j x).offIntake = s.offIntake := by
  obtain ⟨key, hkey⟩ := Option.isSome_iff_exists.mp hkey
  unfold State.sendKeyx
  split
  next im u him hu =>
    obtain rfl : r = u := Option.some.inj (hr.symm.trans hu)
    simp only [State.queueMsgs_map, State.withRoundKey_of_some hkey]
    obtain ⟨xs, heq⟩ := State.queueMsgs_frame
      (s.queueModuleMsg x.conn (r.keyx (im.template j) (im.exportLevel j) x.slot x.key key)) x.conn
      (r.ring.exports.map Prod.snd)
    rw [heq]
    rfl
  next => rfl

end

/-! SESSION_ESTABLISH. -/

/-- The frame key that the decapsulation of a session gives, where its tag verifies (R118). -/
def Round.sessionKey? (r : Round) (x : RoundSession) : Option Bytes :=
  ((hpkeReceive r.roundKey x.enc (sessionInfo r.cohortId r.number x.role x.slot)).map fun h =>
    hpkeExport h (ascii "TA32 frame key") 32).filter fun key =>
      (gcmOpen key (Frame.nonce (Frame.header x.frame)) (Frame.header x.frame ++ x.enc) (Frame.tag x.frame)).isSome

/-- A session is stored under its key. -/
def Round.storesSession (y : RoundSession) (r : Round) : Round :=
  { r with intake := { r.intake with
      sessions := updIf r.intake.sessions (fun z => z.role == y.role && z.slot == y.slot) fun _ => y } }

/-- A session is dropped, with the frames held for it. -/
def Round.dropsSession (x : RoundSession) (held : List WaitFrame) (r : Round) : Round :=
  { r with intake := { r.intake with
      sessions := r.intake.sessions.filter fun z => !(z.role == x.role && z.slot == x.slot)
      waiting := r.intake.waiting.filter fun w => !held.contains w } }

/-- The frames held for a session. -/
def Round.heldFor (r : Round) (x : RoundSession) : List WaitFrame :=
  r.intake.waiting.filter fun w => w.held && Frame.role w.bytes == x.role && Frame.slot w.bytes == x.slot

section
variable {s : State} {c j role slot : Nat} {im : PlanImage} {r : Round} {x y : RoundSession} {key : Bytes}

theorem Round.session?_storesSession (hx : r.session? y.role y.slot = some x) :
    (r.storesSession y).session? y.role y.slot = some y :=
  (find?_updIf (p := fun z : RoundSession => z.role == y.role && z.slot == y.slot) (f := fun _ => y)
    (fun _ _ => by simp) r.intake.sessions).trans (congrArg (Option.map fun _ => y) hx)

theorem Round.session?_dropsSession (held : List WaitFrame) :
    (r.dropsSession x held).session? x.role x.slot = none := by
  refine List.find?_eq_none.mpr fun z hz => ?_
  exact ne_true_of_eq_false ((Bool.not_eq_true' _).mp (List.mem_filter.mp hz).2)

/-- The state once a session is stored and counted, before its KEYX. -/
def State.storesSession (s : State) (c j : Nat) (y : RoundSession) : State :=
  (s.updRound c j (Round.storesSession y)).count c fun k => { k with sessions := k.sessions + 1 }

theorem exec_sessionEstablish_stores (him : s.image c = some im) (hr : s.round? c j = some r)
    (hx : r.session? role slot = some x) (hnew : x.stored = false) (hkey : r.sessionKey? x = some key)
    (hy : y = { x with key := key, stored := true, frame := [] }) :
    exec (.sessionEstablish c j role slot) s = .next (State.recheckHeld
      (if role = 1 ∧ (im.template j).isRing = true then (s.storesSession c j y).sendKeyx c j y
        else s.storesSession c j y) c j role slot) := by
  obtain ⟨rfl, rfl⟩ := Round.role_slot_of_session? hx
  subst hy
  have hexec : exec (.sessionEstablish c j x.role x.slot) s = execSessionEstablish c j x.role x.slot s := rfl
  unfold Round.sessionKey? at hkey
  rw [hexec]
  unfold execSessionEstablish
  simp only [him, hr, hx, hnew, hkey, Bool.false_eq_true, if_false]
  rfl

theorem exec_sessionEstablish_drops (him : s.image c = some im) (hr : s.round? c j = some r)
    (hx : r.session? role slot = some x) (hnew : x.stored = false) (hkey : r.sessionKey? x = none) :
    exec (.sessionEstablish c j role slot) s = .next ((r.heldFor x).foldl
      (fun s w => s.reject c w.conn 0x0110000A w.bytes)
      (((s.updRound c j (Round.dropsSession x (r.heldFor x))).count c fun k =>
        { k with framesTagFailed := k.framesTagFailed + 1 }).notice x.conn 0x01100010 x.frame 2)) := by
  obtain ⟨rfl, rfl⟩ := Round.role_slot_of_session? hx
  have hexec : exec (.sessionEstablish c j x.role x.slot) s = execSessionEstablish c j x.role x.slot s := rfl
  unfold Round.sessionKey? at hkey
  rw [hexec]
  unfold execSessionEstablish
  simp only [him, hr, hx, hnew, hkey, Bool.false_eq_true, if_false]
  rfl

/-- A session whose tag verifies is stored (R118). -/
theorem sessionEstablish_stores (him : s.image c = some im) (hr : s.round? c j = some r)
    (hx : r.session? role slot = some x) (hnew : x.stored = false) (hkey : r.sessionKey? x = some key) :
    ∃ t q, exec (.sessionEstablish c j role slot) s = .next t ∧ t.round? c j = some q ∧
      r.HasSession role slot { x with key := key, stored := true, frame := [] } q ∧
      ((role = 1 → (im.template j).isRing = true → (s.roundKey? r 1 none).isSome = true) →
        t.offIntake = s.offIntake) ∧ t.offSecrets = s.offSecrets := by
  have hexec := exec_sessionEstablish_stores him hr hx hnew hkey rfl
  obtain ⟨rfl, rfl⟩ := Round.role_slot_of_session? hx
  generalize hy : ({ x with key := key, stored := true, frame := [] } : RoundSession) = y at hexec ⊢
  have hround : (s.storesSession c j y).round? c j = some (r.storesSession y) :=
    State.round?_updRound_of_some (s := s) (fun _ => ⟨rfl, rfl, rfl⟩) hr
  have hsession : (r.storesSession y).session? x.role x.slot = some y := by
    subst hy
    exact Round.session?_storesSession (y := { x with key := key, stored := true, frame := [] }) hx
  generalize hu : (if x.role = 1 ∧ (im.template j).isRing = true then (s.storesSession c j y).sendKeyx c j y
        else s.storesSession c j y) = u at hexec
  obtain ⟨hrounds, hoff⟩ : u.rounds = (s.storesSession c j y).rounds ∧
      u.offSecrets = (s.storesSession c j y).offSecrets := by
    subst hu
    split
    · exact State.sendKeyx_rounds ..
    · exact ⟨rfl, rfl⟩
  obtain ⟨hkeep, q, hq, hs⟩ := State.recheckHeld_keeps ((State.round?_congr hrounds).trans hround) hsession
  refine ⟨_, q, hexec, hq, ⟨?_, hs.session⟩, fun hread => ?_, ?_⟩
  · rw [hs.frame]
    rfl
  · refine hkeep.trans ?_
    subst hu
    split
    next h => exact State.offIntake_sendKeyx hround (hread h.1 h.2)
    next => rfl
  · exact (congrArg State.offSecrets hkeep :).trans hoff

/-- A session whose tag does not verify is dropped, and the frames held for it with it (R118). -/
theorem sessionEstablish_drops (him : s.image c = some im) (hr : s.round? c j = some r)
    (hx : r.session? role slot = some x) (hnew : x.stored = false) (hkey : r.sessionKey? x = none) :
    ∃ t q, exec (.sessionEstablish c j role slot) s = .next t ∧ t.round? c j = some q ∧
      q.session? role slot = none ∧ q = { r with intake := q.intake } ∧ t.offIntake = s.offIntake := by
  have hexec := exec_sessionEstablish_drops him hr hx hnew hkey
  obtain ⟨rfl, rfl⟩ := Round.role_slot_of_session? hx
  refine ⟨_, r.dropsSession x (r.heldFor x), hexec, ?_, Round.session?_dropsSession _, rfl, ?_⟩
  · refine (State.round?_congr ((foldl_keeps State.rounds (fun u (w : WaitFrame) => (u.reject_frame ..).1) _ _).trans
      (State.notice_rounds ..))).trans ?_
    exact State.round?_updRound_of_some (s := s) (fun _ => ⟨rfl, rfl, rfl⟩) hr
  · exact (foldl_keeps State.offIntake (fun u (w : WaitFrame) => u.offIntake_reject ..) _ _).trans
      (State.offIntake_notice ..)

end

end Sys2Proof.Machine
end

section
/-!
BIN_COPY (R125, R126, R140): the frames of a waiting group enter their bin, and their pending bits are set.
-/
namespace Sys2Proof.Machine

/-- The records of a group enter a bin. -/
def OwnerSet.takesIn (l : List WaitFrame) (o : OwnerSet) : OwnerSet :=
  { o with bin := o.bin ++ groupRecords l, write := o.write + (groupRecords l).length }

/-- The frames of a group enter the bin of a position's tile set. -/
def Round.entersBin (r : Round) (p k slot : Nat) (l : List WaitFrame) : Round :=
  { r.updOwner p k (OwnerSet.takesIn l) with
    intake := { r.intake with
      waiting := r.intake.waiting.filter fun x => !l.contains x
      pending := l.foldl (fun m x => putPair (slot, Frame.tile x.bytes) m) r.intake.pending } }

section
variable {r : Round} {p k slot : Nat} {l : List WaitFrame}

theorem Round.owner?_entersBin {o : OwnerSet} (ho : r.owner? p k = some o) :
    (r.entersBin p k slot l).owner? p k = some (o.takesIn l) :=
  (Round.owner?_updOwner (f := OwnerSet.takesIn l) fun _ => rfl).trans (congrArg (Option.map (OwnerSet.takesIn l)) ho)

theorem Round.pending_entersBin {x : WaitFrame} (hx : x ∈ l) :
    (slot, Frame.tile x.bytes) ∈ (r.entersBin p k slot l).intake.pending :=
  (mem_foldl_putPair (fun x : WaitFrame => (slot, Frame.tile x.bytes)) l r.intake.pending).mpr (.inl ⟨x, hx, rfl⟩)

end

section
variable {s : State} {c j n k p i : Nat} {im : PlanImage} {r : Round} {w : WaitFrame} {l : List WaitFrame}
  {d : CursorDef} {o : OwnerSet}

/-- The seed of a standalone sum-seed template's slot is held where one is needed (R126). -/
theorem Round.seed_held (h : (im.template j).isSum = true → (im.template j).role = 0 →
      ∃ x ∈ r.mask.seeds, x.1 = Frame.slot w.bytes) :
    ((im.template j).isSum && (im.template j).role == 0 && !(r.mask.seeds.any fun x => x.1 == Frame.slot w.bytes)) =
      false := by
  by_cases hneeds : (im.template j).isSum = true ∧ (im.template j).role = 0
  · obtain ⟨x, hx, hslot⟩ := h hneeds.1 hneeds.2
    have hany : (r.mask.seeds.any fun x => x.1 == Frame.slot w.bytes) = true :=
      List.any_eq_true.mpr ⟨x, hx, beq_iff_eq.mpr hslot⟩
    rw [hany, Bool.not_true, Bool.and_false]
  · rw [Bool.and_eq_false_iff]
    left
    simpa using hneeds

/-- A waiting group with room in its bin is copied there. -/
theorem exec_binCopy (him : s.image c = some im) (hr : s.round? c j = some r) (hw : r.intake.waiting[n]? = some w)
    (hheld : w.held = false) (hkind : Frame.kind w.bytes = 1 ∨ Frame.kind w.bytes = 5) (hopen : r.state = .open)
    (hseed : (im.template j).isSum = true → (im.template j).role = 0 →
      ∃ x ∈ r.mask.seeds, x.1 = Frame.slot w.bytes)
    (hset : k = Frame.tile w.bytes / max 1 (im.template j).setTiles)
    (howner : im.ownerOf j k (Frame.slot w.bytes) = some (p, i)) (hgroup : r.binGroup (im.template j) w = some l)
    (ho : r.owner? p k = some o) (hcursor : im.cursor p i = some d)
    (hcurrent : (k - d.first) / max 1 (im.residency j p).1 = (r.cursorAt p i).group)
    (hroom : o.write - o.release + (groupRecords l).length ≤ o.capacity) (hup : s.copyCut im w p = false) :
    exec (.binCopy c j n) s = .next (s.updRound c j fun r => r.entersBin p k (Frame.slot w.bytes) l) := by
  have hexec : exec (.binCopy c j n) s = execBinCopy c j n s := rfl
  have hbin : (Frame.kind w.bytes == 1 || Frame.kind w.bytes == 5) = true := by simpa using hkind
  subst hset
  rw [hexec]
  unfold execBinCopy
  simp only [him, hr, hw, hheld, hbin, hopen, Round.seed_held hseed, howner, hgroup, ho, hcursor, hcurrent, hup,
    not_lt.mpr hroom, Option.map_some, Option.getD_some, bne_self_eq_false, beq_self_eq_true, decide_false,
    Bool.not_true, Bool.or_false, Bool.false_eq_true, if_false]
  rfl

end

end Sys2Proof.Machine
end

section
/-!
A message that waits to be sent (R264, R270, R275, R285 to R288, R302): it keeps its identifier, type and bytes while
its connection sends.
-/
namespace Sys2Proof.Machine

/-! What sending leaves alone. -/

/-- What a connection with a resident record leaves alone when it sends. -/
def State.offSending (s : State) : State := { s with ctxs := [], grixo := .reset, out := [] }

section
variable {s t u : State}

theorem State.eq_of_offSending (h : t.offSending = s.offSending) :
    t = { s with ctxs := t.ctxs, grixo := t.grixo, out := t.out } :=
  congrArg (fun x : State => { x with ctxs := t.ctxs, grixo := t.grixo, out := t.out }) h

/-- Sending after a record has been made resident. -/
theorem State.eq_of_offSending_offWire (h : t.offSending = u.offSending) (hu : u.offWire = s.offWire) :
    t = { s with set := t.set, setA := t.setA, setB := t.setB, slotB := t.slotB, recorder := t.recorder,
                 mgmt := t.mgmt, ctxs := t.ctxs, grixo := t.grixo, out := t.out } :=
  (congrArg (fun x : State =>
    { x with set := t.set, setA := t.setA, setB := t.setB, slotB := t.slotB, recorder := t.recorder,
             mgmt := t.mgmt, ctxs := t.ctxs, grixo := t.grixo, out := t.out }) h).trans
  (congrArg (fun x : State =>
    { x with set := t.set, setA := t.setA, setB := t.setB, slotB := t.slotB, recorder := t.recorder,
             mgmt := t.mgmt, ctxs := t.ctxs, grixo := t.grixo, out := t.out }) hu)

end

/-! The message in its connection's record. -/

/-- Below `n` identifiers are in use, and a request under `k` is a SEND of the bytes `m`. -/
structure TxMsg.Fits (n k : Nat) (m : Bytes) (y : TxMsg) : Prop where
  fresh : y.type = 4 ∨ y.id < n
  data : y.type ≠ 4 → y.id = k → y.type = 1 ∧ y.data = m

/-- A resident record, with `n` its next identifier and `l` its notices, has a SEND message `m` under `k`. -/
structure Conn.Holds (n k : Nat) (m : Bytes) (l : List Notice) (c : Conn) : Prop where
  resident : c.resident = true
  notices : c.notices = l
  next : c.txNext = n
  fits : ∀ y ∈ c.tx ++ c.waiting, y.Fits n k m
  found : ∃ y ∈ c.tx, y.type ≠ 4 ∧ y.id = k

/-- From `s` to `t` connections have sent at most, and connection `i` has the message `m`. -/
structure State.HasSent (s : State) (i n k : Nat) (m : Bytes) (l : List Notice) (t : State) : Prop where
  frame : t.offSending = s.offSending
  conn : ∃ c, t.conn? i = some c ∧ c.Holds n k m l

/-- A packet of message `m` has been sent with the bytes `b`. -/
def TxMsg.sentPacket (k : Nat) (b : Bytes) (f : TxPacket → TxPacket) (x : TxMsg) : TxMsg :=
  { x with data := x.data.take (8192 * k) ++ b ++ x.data.drop (8192 * k + b.length), packets := updAt x.packets k f }

theorem take_slice_drop (m : Bytes) (a n : Nat) :
    m.take a ++ slice m a n ++ m.drop (a + (slice m a n).length) = m := by
  have hdrop : m.drop (a + (slice m a n).length) = (m.drop a).drop n := by
    rw [slice, List.length_take, List.length_drop, List.drop_drop]
    rcases Nat.le_total n (m.length - a) with h | h
    · rw [Nat.min_eq_left h]
    · rw [Nat.min_eq_right h, List.drop_of_length_le (by omega), List.drop_of_length_le (by omega)]
  rw [hdrop, List.append_assoc, slice, List.take_append_drop, List.take_append_drop]

section
variable {n k a : Nat} {m : Bytes} {l : List Notice} {c : Conn} {x y : TxMsg}

theorem Conn.Holds.sentOn (h : c.Holds n k m l) (path : Nat) : (c.sentOn path).Holds n k m l :=
  ⟨h.resident, h.notices, h.next, h.fits, h.found⟩

/-- A SEND message keeps its bytes when one of its packets is sent. -/
theorem TxMsg.Fits.sentPacket {b : Bytes} {f : TxPacket → TxPacket} (hx : x.Fits n k m)
    (hb : x.type ≠ 4 → x.id = k → b = slice m (8192 * a) 8192) : (x.sentPacket a b f).Fits n k m := by
  refine ⟨hx.fresh, fun htype hid => ?_⟩
  obtain ⟨hone, hdata⟩ := hx.data htype hid
  refine ⟨hone, ?_⟩
  rw [TxMsg.sentPacket, hdata, hb htype hid]
  exact take_slice_drop ..

/-- The record once a packet of a message has been sent. -/
def Conn.packetSent (y : TxMsg) (a : Nat) (b : Bytes) (f : TxPacket → TxPacket) (bucket : List Nat) (last us : Nat)
    (c : Conn) : Conn :=
  { c with inBucket := bucket, lastPath := last, lastUse := us
           tx := updIf c.tx (fun x => x.id == y.id && (x.type == 4) == (y.type == 4)) (TxMsg.sentPacket a b f) }

theorem Conn.Holds.packetSent {b : Bytes} {f : TxPacket → TxPacket} {bucket : List Nat} {last us : Nat}
    (h : c.Holds n k m l) (hy : y.Fits n k m) (hb : y.type ≠ 4 → b = slice y.data (8192 * a) 8192) :
    (c.packetSent y a b f bucket last us).Holds n k m l := by
  obtain ⟨hres, hnotices, hnext, hfits, z, hz, htype, hid⟩ := h
  refine ⟨hres, hnotices, hnext, fun w hw => ?_, ?_⟩
  · rcases List.mem_append.mp hw with hw | hw
    · obtain ⟨x, hx, rfl⟩ := List.mem_map.mp hw
      have hxfits := hfits x (List.mem_append_left _ hx)
      split
      next heq =>
        rw [Bool.and_eq_true, beq_iff_eq, beq_iff_eq] at heq
        obtain ⟨hids, htypes⟩ := heq
        refine hxfits.sentPacket fun hxtype hxid => ?_
        have hytype : y.type ≠ 4 := by simpa [hxtype] using htypes
        rw [hb hytype, (hy.data hytype (hids ▸ hxid)).2]
      next => exact hxfits
    · exact hfits w (List.mem_append_right _ hw)
  · refine ⟨_, List.mem_map_of_mem hz, ?_⟩
    split
    · exact ⟨htype, hid⟩
    · exact ⟨htype, hid⟩

end

/-! Sending. -/

section
variable {s t u : State} {i n k : Nat} {m : Bytes} {l : List Notice}

theorem State.HasSent.updConn {f : Conn → Conn} (h : s.HasSent i n k m l t) (hindex : ∀ c : Conn, (f c).index = c.index)
    (hf : ∀ c : Conn, c.Holds n k m l → (f c).Holds n k m l) : s.HasSent i n k m l (t.updConn i f) := by
  obtain ⟨c, hc, hholds⟩ := h.conn
  exact ⟨h.frame, f c, State.conn?_updConn_of_some hindex hc, hf c hholds⟩

theorem State.HasSent.count (h : s.HasSent i n k m l t) (c : Nat) (f : Counters → Counters) :
    s.HasSent i n k m l (t.count c f) := ⟨h.frame, h.conn⟩

theorem State.HasSent.putPacket {c : Conn} {path type flags kos off lane : Nat} {id6 body : Bytes}
    (h : s.HasSent i n k m l t) (hi : c.index = i)
    (hu : t.putPacket c path type flags id6 kos off body = some (u, lane)) : s.HasSent i n k m l u := by
  unfold State.putPacket State.emitPacket at hu
  obtain ⟨⟨v, l'⟩, hv, heq⟩ := Option.map_eq_some_iff.mp hu
  cases heq
  dsimp only at hv
  split at hv
  · cases hv
  · obtain ⟨⟨l'', frame⟩, -, heq⟩ := Option.map_eq_some_iff.mp hv
    cases heq
    exact hi ▸ State.HasSent.updConn (t := State.emit _ _) ⟨h.frame, hi ▸ h.conn⟩ (fun _ => rfl)
      fun c hc => hc.sentOn path

/-- Responses take trackers (R285). -/
theorem State.HasSent.takeTrackers (h : s.HasSent i n k m l t) {ys : List TxMsg} (hys : ∀ y ∈ ys, y.Fits n k m) :
    s.HasSent i n k m l (takeTrackers i ys t) := by
  induction ys generalizing t with
  | nil => exact h
  | cons y ys ih =>
    obtain ⟨hy, hys⟩ := List.forall_mem_cons.mp hys
    obtain ⟨c, hc, -⟩ := h.conn
    unfold Machine.takeTrackers
    simp only [hc]
    split
    · refine ih (h.updConn (fun _ => rfl) fun c hholds => ⟨hholds.resident, hholds.notices, hholds.next, ?_, ?_⟩) hys
      · intro z hz
        simp only [List.mem_append, List.mem_singleton] at hz
        rcases hz with (hz | rfl) | hz
        · exact hholds.fits z (List.mem_append_left _ hz)
        · exact hy
        · exact hys z hz
      · obtain ⟨z, hz, hfound⟩ := hholds.found
        exact ⟨z, List.mem_append_left _ hz, hfound⟩
    · exact h

theorem State.HasSent.sendCtrls (h : s.HasSent i n k m l t) (ys : List (Nat × Bytes × Option Nat)) :
    s.HasSent i n k m l (sendCtrls i ys t) := by
  induction ys generalizing t with
  | nil => exact h
  | cons y ys ih =>
    obtain ⟨c, hc, -⟩ := h.conn
    unfold Machine.sendCtrls
    simp only [hc]
    split
    · exact h
    next u lane hu =>
      exact ih ((h.putPacket (State.conn?_some hc).2 hu).updConn (fun _ => rfl)
        fun c hh => ⟨hh.resident, hh.notices, hh.next, hh.fits, hh.found⟩)

/-- A data packet of a message of the connection is sent (R270, R275, R302). -/
theorem State.HasSent.sendData {y : TxMsg} {a path : Nat} {again : Bool} (h : s.HasSent i n k m l t)
    (hy : y.Fits n k m) (hu : t.sendData i y a path again = some u) : s.HasSent i n k m l u := by
  obtain ⟨c, hc, -⟩ := h.conn
  unfold State.sendData at hu
  simp only [hc] at hu
  split at hu
  · cases hu
  · split at hu
    · cases hu
    · obtain ⟨⟨v, lane⟩, hv, heq⟩ := Option.map_eq_some_iff.mp hu
      have hbytes : y.type ≠ 4 → t.packetBytes c.ctx y a again = slice y.data (8192 * a) 8192 := fun htype => by
        unfold State.packetBytes
        rw [if_neg fun hand => htype hand.1]
      have hput := h.putPacket (State.conn?_some hc).2 hv
      dsimp only at heq
      rw [← heq]
      split
      · refine State.HasSent.count (hput.updConn ?index fun d hd => ?holds) _ _
        case index => exact fun _ => rfl
        case holds => exact hd.packetSent hy hbytes
      · refine hput.updConn ?_ fun d hd => ?_
        · exact fun _ => rfl
        · exact hd.packetSent hy hbytes

end

theorem Conn.mem_duePackets {c : Conn} {x : TxMsg × Nat × Bool} (h : x ∈ c.duePackets) : x.1 ∈ c.tx := by
  unfold Conn.duePackets at h
  simp only [List.mem_append, List.mem_filter] at h
  have hdue : x ∈ c.tx.flatMap fun m => (m.packets.zipIdx.filter fun (p, _) => !p.acked && (!p.sent || p.lost)).map
      fun (p, i) => (m, i, p.sent) := by
    rcases h with (h | h) | h
    · exact h.1
    · exact h.1
    · exact h.1
  obtain ⟨m, hm, hx⟩ := List.mem_flatMap.mp hdue
  obtain ⟨p, -, rfl⟩ := List.mem_map.mp hx
  exact hm

theorem State.makeResident_of_resident {s : State} {i : Nat} {c : Conn} (hc : s.conn? i = some c)
    (hres : c.resident = true) : s.makeResident i = some s := by
  unfold State.makeResident
  simp only [hc, hres, if_true]

section
variable {s t : State} {i n k : Nat} {m : Bytes} {l : List Notice}

theorem State.HasSent.pumpList (h : s.HasSent i n k m l t) {xs : List (TxMsg × Nat × Bool)}
    (hxs : ∀ x ∈ xs, x.1.Fits n k m) : s.HasSent i n k m l (pumpList i xs t) := by
  induction xs generalizing t with
  | nil => exact h
  | cons x xs ih =>
    obtain ⟨hx, hxs⟩ := List.forall_mem_cons.mp hxs
    obtain ⟨c, hc, -⟩ := h.conn
    unfold Machine.pumpList
    simp only [hc]
    split
    · exact h
    next u hu => exact ih (h.sendData hx hu) hxs

/-- A connection that sends what it may keeps the message. -/
theorem State.HasSent.pump (h : s.HasSent i n k m l t) : s.HasSent i n k m l (t.pump i) := by
  obtain ⟨c, hc, hholds⟩ := h.conn
  have hctrls := (h.takeTrackers fun y hy => hholds.fits y (List.mem_append_right _ hy)).sendCtrls c.ctrlQueue
  obtain ⟨d, hd, dholds⟩ := hctrls.conn
  unfold State.pump
  simp only [hc, State.makeResident_of_resident hc hholds.resident, hd]
  split
  · exact h
  · split
    · exact hctrls.pumpList fun x hx => dholds.fits x.1 (List.mem_append_left _ (Conn.mem_duePackets hx))
    · exact hctrls

end

end Sys2Proof.Machine
end

section
/-!
NOTICE_BATCH_SEND (R122): at a window boundary the notices of a connection go out, as many as the live credit admits.
-/
namespace Sys2Proof.Machine

/-! A record that is resident (R286 to R288). -/

section
variable {s t u : State} {i : Nat} {c x y : Conn}

/-- A record fetched for an open connection has not changed but for its residence. -/
theorem State.conn?_fetchRecord (hc : s.conn? i = some x) (hi : c.index = i) (hx : (s.fetchRecord c).conn? i = some y)
    (hopen : y.state = .open) : y = { x with resident := true } := by
  subst hi
  have hfetched : (s.updConn c.index fun x => { x with resident := true }).conn? c.index =
      some { x with resident := true } := State.conn?_updConn_of_some (fun _ => rfl) hc
  generalize hv : ((s.updConn c.index fun x => { x with resident := true }).count c.ctx fun k =>
    { k with recordFetches := k.recordFetches + 1 }) = v
  have hvc : v.conn? c.index = some { x with resident := true } := hv ▸ hfetched
  have hfetch : s.fetchRecord c = if c.intact then v.deriveConnKey c else v.endConn c.index .failed 0x05200006 := by
    rw [← hv]
    rfl
  rw [hfetch] at hx
  split at hx
  · have hsame : (v.deriveConnKey c).conn? c.index = v.conn? c.index :=
      congrArg (fun g : Grixo => g.conns.find? fun z : Conn => z.index == c.index) (v.deriveConnKey_grixo c)
    exact Option.some.inj (hx.symm.trans (hsame.trans hvc))
  · obtain ⟨-, hnone⟩ | hconns := v.endConn_conns c.index .failed 0x05200006
    · cases hvc.symm.trans hnone
    · have hended : (v.endConn c.index .failed 0x05200006).conn? c.index =
          (v.updConn c.index fun z => z.ended .failed).conn? c.index :=
        congrArg (List.find? fun z : Conn => z.index == c.index) hconns
      have hfailed : y = Conn.ended { x with resident := true } .failed :=
        Option.some.inj (hx.symm.trans (hended.trans (State.conn?_updConn_of_some (fun _ => rfl) hvc)))
      rw [hfailed] at hopen
      cases hopen

/-- An open connection whose record is made resident has not changed but for its residence. -/
theorem State.conn?_makeResident (hc : s.conn? i = some c) (hu : s.makeResident i = some u) (hx : u.conn? i = some x)
    (hopen : x.state = .open) : ∃ a b, x = { c with resident := a, intact := b } := by
  have hi : c.index = i := (State.conn?_some hc).2
  unfold State.makeResident at hu
  simp only [hc] at hu
  split at hu
  · cases hu
    exact ⟨c.resident, c.intact, Option.some.inj (hx.symm.trans hc)⟩
  · split at hu
    · cases hu
      exact ⟨true, c.intact, State.conn?_fetchRecord hc hi hx hopen⟩
    · obtain ⟨v, -, rfl⟩ := Option.map_eq_some_iff.mp hu
      by_cases hv : v.index = i
      · have hback := State.conn?_updConn_of_some (f := fun x => { x with resident := false, intact := true })
          (fun _ => rfl) hc
        rw [hv] at hx
        exact ⟨true, true, State.conn?_fetchRecord hback hi hx hopen⟩
      · have hback : (s.updConn v.index fun x => { x with resident := false, intact := true }).conn? i = some c :=
          (find?_updIf_of_disjoint (fun x hx => by simp_all) (fun x hx => by simp_all) s.grixo.conns).trans hc
        exact ⟨true, c.intact, State.conn?_fetchRecord hback hi hx hopen⟩

/-- To ask whether a connection with a resident record is ready changes nothing. -/
theorem State.readyToSend_of_resident {ready : Bool} (hc : s.conn? i = some c) (hres : c.resident = true)
    (hu : s.readyToSend i = (ready, u)) : u = s := by
  unfold State.readyToSend at hu
  rw [State.makeResident_of_resident hc hres, Option.getD_some] at hu
  exact (Prod.mk.inj hu).2.symm

/-- A connection that is ready to send has its record resident, unchanged but for that. -/
theorem State.conn?_readyToSend (hc : s.conn? i = some c) (hu : s.readyToSend i = (true, u)) :
    (∃ b, u.conn? i = some { c with resident := true, intact := b }) ∧ u.offWire = s.offWire := by
  unfold State.readyToSend at hu
  obtain ⟨hready, heq⟩ := Prod.mk.inj hu
  rw [heq] at hready
  obtain ⟨x, hx, hall⟩ := (Option.any_eq_true _ _).mp hready
  simp only [Bool.and_eq_true, beq_iff_eq] at hall
  obtain ⟨⟨⟨hres, hopen⟩, -⟩, -⟩ := hall
  cases hmake : s.makeResident i with
  | none =>
    rw [hmake, Option.getD_none] at heq
    subst heq
    obtain rfl : c = x := Option.some.inj (hc.symm.trans hx)
    exact ⟨⟨c.intact, hc.trans (by rw [← hres])⟩, rfl⟩
  | some v =>
    rw [hmake, Option.getD_some] at heq
    subst heq
    obtain ⟨a, b, rfl⟩ := State.conn?_makeResident hc hmake hx hopen
    obtain rfl : a = true := hres
    exact ⟨⟨b, hx⟩, State.offWire_makeResident hmake⟩

end

/-! A batch of notices. -/

/-- The notice message of the oldest notices of a connection. -/
def State.batch (s : State) (c : Conn) : Bytes :=
  noticeMessage s.hal.beatCount ((c.notices.take 255).map (s.noticeNow c.ctx))

/-- The state once the oldest notices of connection `i` have left, and their message is queued and may go. -/
def State.sendsBatch (s : State) (i : Nat) (c : Conn) (m : Bytes) : State :=
  ((s.updConn i fun c => { c with notices := c.notices.drop 255 }).count c.ctx fun k =>
    { k with noticesSent := k.noticesSent + (c.notices.take 255).length }).newMsg i 1 m 0 0 none

section
variable {s t u : State} {i n : Nat} {c : Conn}

/-- Without credit for a message more, or with a message of the module before it, nothing is sent (R293). -/
theorem sendNotices_of_waits (hc : s.conn? i = some c) (hwait : c.notices = [] ∨ c.sendArea ≠ [] ∨
    (c.inLive s.us).sum < c.owedCredits + creditsFor (s.batch c).length) : sendNotices i n s = s := by
  cases n with
  | zero => rfl
  | succ n =>
    have hstop : ((c.notices.take 255).isEmpty || !c.sendArea.isEmpty ||
        decide ((c.inLive s.us).sum < c.owedCredits + creditsFor (s.batch c).length)) = true := by
      rcases hwait with h | h | h
      · simp [h]
      · simp [h]
      · simp [h]
    unfold State.batch at hstop
    unfold sendNotices
    simp only [hc, hstop, if_true]

/-- A connection that is not ready to send sends no more notices. -/
theorem sendNotices_of_not_ready (hc : s.conn? i = some c) (hnotices : c.notices ≠ []) (harea : c.sendArea = [])
    (hcredit : c.owedCredits + creditsFor (s.batch c).length ≤ (c.inLive s.us).sum)
    (hready : s.readyToSend i = (false, u)) : sendNotices i (n + 1) s = u := by
  have hgo : ((c.notices.take 255).isEmpty || !c.sendArea.isEmpty ||
      decide ((c.inLive s.us).sum < c.owedCredits + creditsFor (s.batch c).length)) = false := by
    simp [hnotices, harea, hcredit]
  unfold State.batch at hgo
  unfold sendNotices
  simp only [hc, hgo, hready, Bool.false_eq_true, if_false]

theorem sendNotices_of_ready (hc : s.conn? i = some c) (hnotices : c.notices ≠ []) (harea : c.sendArea = [])
    (hcredit : c.owedCredits + creditsFor (s.batch c).length ≤ (c.inLive s.us).sum)
    (hready : s.readyToSend i = (true, u)) :
    sendNotices i (n + 1) s = sendNotices i n (u.sendsBatch i c (s.batch c)) := by
  have hgo : ((c.notices.take 255).isEmpty || !c.sendArea.isEmpty ||
      decide ((c.inLive s.us).sum < c.owedCredits + creditsFor (s.batch c).length)) = false := by
    simp [hnotices, harea, hcredit]
  unfold State.batch at hgo
  conv_lhs => unfold sendNotices
  simp only [hc, hgo, hready, Bool.false_eq_true, if_false]
  rfl

end

section
variable {s t u : State} {i n k : Nat} {m m' : Bytes} {l : List Notice} {c : Conn}

theorem TxMsg.Fits.succ {y : TxMsg} (h : y.Fits n k m) : y.Fits (n + 1) k m :=
  ⟨h.fresh.imp_right Nat.lt_succ_of_lt, h.data⟩

/-- A SEND message is queued on a connection whose record is resident. -/
theorem State.HasSent.newMsg (hframe : t.offSending = s.offSending) (hc : t.conn? i = some c) (hres : c.resident = true)
    (hfits : ∀ y ∈ c.tx ++ c.waiting, y.Fits c.txNext k m) (hnew : c.txNext = k → m' = m)
    (hfound : c.txNext = k ∨ ∃ y ∈ c.tx, y.type ≠ 4 ∧ y.id = k) :
    s.HasSent i (c.txNext + 1) k m c.notices (t.newMsg i 1 m' 0 0 none) := by
  unfold State.newMsg
  simp only [hc]
  refine State.HasSent.pump ⟨hframe, _, State.conn?_updConn_of_some (fun _ => rfl) hc, hres, rfl, rfl, ?_, ?_⟩
  · intro y hy
    simp only [List.mem_append, List.mem_singleton] at hy
    rcases hy with (hy | rfl) | hy
    · exact (hfits y (List.mem_append_left _ hy)).succ
    · exact ⟨.inr (Nat.lt_succ_self _), fun _ hid => ⟨rfl, hnew hid⟩⟩
    · exact (hfits y (List.mem_append_right _ hy)).succ
  · rcases hfound with hk | ⟨y, hy, hyk⟩
    · exact ⟨_, List.mem_append_right _ (List.mem_singleton_self _), Nat.succ_ne_succ_iff.mpr (by decide), hk⟩
    · exact ⟨y, List.mem_append_left _ hy, hyk⟩

/-- A batch goes out on a connection that is ready to send. -/
theorem State.HasSent.sendsBatch {b : Bool} (hframe : t.offSending = s.offSending)
    (hc : t.conn? i = some { c with resident := true, intact := b })
    (hfits : ∀ y ∈ c.tx ++ c.waiting, y.Fits c.txNext k m) (hnew : c.txNext = k → m' = m)
    (hfound : c.txNext = k ∨ ∃ y ∈ c.tx, y.type ≠ 4 ∧ y.id = k) :
    s.HasSent i (c.txNext + 1) k m (c.notices.drop 255) (t.sendsBatch i c m') := by
  refine State.HasSent.newMsg (t := (t.updConn i fun c => { c with notices := c.notices.drop 255 }).count c.ctx _)
    (c := { c with resident := true, intact := b, notices := c.notices.drop 255 }) hframe ?_ rfl hfits hnew hfound
  exact State.conn?_updConn_of_some (f := fun c => { c with notices := c.notices.drop 255 }) (fun _ => rfl) hc

/-- Notices that go on go out as further messages. -/
theorem State.HasSent.sendNotices (h : s.HasSent i n k m l t) (a : Nat) :
    ∃ j, s.HasSent i (n + j) k m (l.drop (255 * j)) (sendNotices i a t) ∧ (l = [] → j = 0) := by
  induction a generalizing n l t with
  | zero => exact ⟨0, h, fun _ => rfl⟩
  | succ a ih =>
    obtain ⟨c, hc, hholds⟩ := h.conn
    obtain ⟨hres, hnotices, hnext, hfits, hfound⟩ := hholds
    by_cases hwait : c.notices = [] ∨ c.sendArea ≠ [] ∨
        (c.inLive t.us).sum < c.owedCredits + creditsFor (t.batch c).length
    · rw [sendNotices_of_waits hc hwait]
      exact ⟨0, h, fun _ => rfl⟩
    · simp only [not_or, not_not, not_lt] at hwait
      obtain ⟨hsome, harea, hcredit⟩ := hwait
      obtain ⟨ready, hready⟩ : ∃ ready, t.readyToSend i = (ready, t) :=
        ⟨_, Prod.ext rfl (State.readyToSend_of_resident hc hres rfl)⟩
      cases ready with
      | false =>
        rw [sendNotices_of_not_ready hc hsome harea hcredit hready]
        exact ⟨0, h, fun _ => rfl⟩
      | true =>
        rw [sendNotices_of_ready hc hsome harea hcredit hready]
        obtain ⟨⟨b, hconn⟩, -⟩ := State.conn?_readyToSend hc hready
        have hlt : k < c.txNext := by
          obtain ⟨y, hy, htype, rfl⟩ := hfound
          exact hnext ▸ (hfits y (List.mem_append_left _ hy)).fresh.resolve_left htype
        obtain ⟨j, hj, -⟩ := ih (State.HasSent.sendsBatch (m' := t.batch c) h.frame hconn (hnext ▸ hfits)
          (fun heq => absurd heq (Nat.ne_of_gt hlt)) (.inr hfound))
        rw [hnotices, hnext, List.drop_drop] at hj
        refine ⟨j + 1, ?_, fun hl => absurd (hnotices.trans hl) hsome⟩
        rwa [Nat.add_comm j 1, ← Nat.add_assoc, Nat.mul_add, Nat.mul_one]

end

/-! NOTICE_BATCH_SEND. -/

section
variable {s t u : State} {i : Nat} {c : Conn}

theorem exec_noticeBatchSend (hc : s.conn? i = some c) (hopen : c.state = .open) (hwindow : s.hal.beatCount % 256 = 0) :
    exec (.noticeBatchSend i) s = .next (sendNotices i (ceilDiv c.notices.length 255) s) := by
  have hexec : exec (.noticeBatchSend i) s = execNoticeBatchSend i s := rfl
  have hat : s.atWindow = true := beq_iff_eq.mpr hwindow
  rw [hexec]
  unfold execNoticeBatchSend
  simp only [hc, hopen, hat, ne_eq, not_true_eq_false, Bool.not_true, Bool.false_eq_true, or_self, if_false]

/-- There are batches while there are notices. -/
theorem ceilDiv_pos_of_notices (h : c.notices ≠ []) : ∃ a, ceilDiv c.notices.length 255 = a + 1 := by
  have hlen := List.length_pos_iff.mpr h
  exact ⟨_, (Nat.succ_pred (Nat.ne_of_gt (by unfold ceilDiv; omega))).symm⟩

variable (hc : s.conn? i = some c) (hopen : c.state = .open) (hwindow : s.hal.beatCount % 256 = 0)
include hc hopen hwindow

theorem noticeBatchSend_waits (hwait : c.notices = [] ∨ c.sendArea ≠ [] ∨
    (c.inLive s.us).sum < c.owedCredits + creditsFor (s.batch c).length) :
    exec (.noticeBatchSend i) s = .next s := by
  rw [exec_noticeBatchSend hc hopen hwindow, sendNotices_of_waits hc hwait]

variable (hnotices : c.notices ≠ []) (harea : c.sendArea = [])
  (hcredit : c.owedCredits + creditsFor (s.batch c).length ≤ (c.inLive s.us).sum)
include hnotices harea hcredit

theorem noticeBatchSend_not_ready (hready : s.readyToSend i = (false, u)) :
    exec (.noticeBatchSend i) s = .next u := by
  obtain ⟨a, ha⟩ := ceilDiv_pos_of_notices hnotices
  rw [exec_noticeBatchSend hc hopen hwindow, ha, sendNotices_of_not_ready hc hnotices harea hcredit hready]

/-- The oldest notices go out as a SEND message, further ones after it (R122). -/
theorem noticeBatchSend_sends (hready : s.readyToSend i = (true, u))
    (hids : ∀ y ∈ c.tx ++ c.waiting, y.type = 4 ∨ y.id < c.txNext) :
    ∃ t k, exec (.noticeBatchSend i) s = .next t ∧ 1 ≤ k ∧ (c.notices.length ≤ 255 → k = 1) ∧
      u.HasSent i (c.txNext + k) c.txNext (s.batch c) (c.notices.drop (255 * k)) t := by
  obtain ⟨a, ha⟩ := ceilDiv_pos_of_notices hnotices
  obtain ⟨⟨b, hconn⟩, -⟩ := State.conn?_readyToSend hc hready
  have hfits : ∀ y ∈ c.tx ++ c.waiting, y.Fits c.txNext c.txNext (s.batch c) := fun y hy =>
    ⟨hids y hy, fun htype hid => absurd hid (Nat.ne_of_lt ((hids y hy).resolve_left htype))⟩
  have hfirst := State.HasSent.sendsBatch (s := u) rfl hconn hfits (fun _ => rfl) (.inl rfl)
  obtain ⟨j, hj, hnone⟩ := hfirst.sendNotices a
  refine ⟨_, 1 + j, exec_noticeBatchSend hc hopen hwindow, Nat.le_add_right 1 j, fun hlen => ?_, ?_⟩
  · rw [hnone (List.drop_of_length_le hlen)]
  · rw [ha, sendNotices_of_ready hc hnotices harea hcredit hready, Nat.mul_add, Nat.mul_one]
    rwa [List.drop_drop, Nat.add_assoc] at hj

end

end Sys2Proof.Machine
end

section
/-!
The obligation on FRAME_ARRIVAL, SESSION_ESTABLISH, BIN_COPY and NOTICE_BATCH_SEND.
-/
namespace Sys2Proof.Machine

/-- The frame key of a session whose tag does not verify. -/
theorem Round.sessionKey?_of_unverified {r : Round} {x : RoundSession} (h : ∀ d,
    hpkeReceive r.roundKey x.enc (sessionInfo r.cohortId r.number x.role x.slot) = some d →
      gcmOpen (hpkeExport d (ascii "TA32 frame key") 32) (Frame.nonce (Frame.header x.frame))
        (Frame.header x.frame ++ x.enc) (Frame.tag x.frame) = none) : r.sessionKey? x = none := by
  unfold Round.sessionKey?
  cases hd : hpkeReceive r.roundKey x.enc (sessionInfo r.cohortId r.number x.role x.slot) with
  | none => rfl
  | some d => rw [Option.map_some, Option.filter_some, h d hd, Option.isSome_none, if_neg Bool.false_ne_true]

theorem Round.sessionKey?_of_verified {r : Round} {x : RoundSession} {d : HpkeCtx} {key : Bytes}
    (hd : hpkeReceive r.roundKey x.enc (sessionInfo r.cohortId r.number x.role x.slot) = some d)
    (hkey : key = hpkeExport d (ascii "TA32 frame key") 32)
    (hopen : (gcmOpen key (Frame.nonce (Frame.header x.frame)) (Frame.header x.frame ++ x.enc)
      (Frame.tag x.frame)).isSome = true) : r.sessionKey? x = some key := by
  unfold Round.sessionKey?
  rw [hd, Option.map_some, ← hkey, Option.filter_some, if_pos hopen]

/-- Settles O55: a frame that arrives is judged by the checks in order, and is accepted, held or discarded by the first
that it fails; what is held for a session follows it when the session is stored or dropped; a waiting group enters its
bin; and a notice message keeps its bytes while its connection sends. -/
theorem framesAreTakenIn : Obligations.FramesAreTakenIn := by
  unfold Obligations.FramesAreTakenIn
  refine ⟨?accept, ?notices, ?reject, ?session, ?bin, ?batch⟩
  case accept =>
    rintro s i id j c m _ im r hc hkind hm rfl hno hshape him hj hr hnumber hmid
    have hpasses : s.PassesMid c.ctx j im r m.bytes := ⟨hshape, him, hj, hr, hnumber, hmid⟩
    refine ⟨fun hready hlate => ?_, fun hframe hstored => ?_⟩
    · obtain ⟨t, q, hexec, hq, hacc, hframe⟩ := frameArrival_accepts hc hkind hm hno hpasses hready hlate
      exact ⟨t, q, hexec, hq, hacc.frame, hacc.chunk, hacc.session, hacc.secret, hframe⟩
    · exact frameArrival_holds hc hkind hm hno hpasses hframe hstored
  case notices =>
    rintro s i id j _ c m _ im r hc hkind hm rfl hshape him hr hroot hconn honly rfl
    obtain ⟨t, hexec, hq, rfl, hframe⟩ := frameArrival_reads hc hkind hm hshape him hr hroot hconn honly
    refine ⟨t, _, hexec, hq, rfl, fun x hx => mem_joinSends.mpr (.inl hx), ?_, hframe⟩
    rintro k _ hk rfl hpeer haction hcohort hround htile y hy
    exact mem_joinSends.mpr (.inr (PlanImage.mem_asked hk hpeer haction hcohort hround htile hy))
  case reject =>
    rintro s i id j code c m _ im r hc hkind hm rfl hno hopen hroom hfail
    refine frameArrival_rejects hc hkind hm hno hopen hroom ?_
    rcases hfail with ⟨h, rfl⟩ | ⟨h, hj, rfl⟩ | ⟨h, him, hj, hr, rfl⟩ | ⟨h, him, hj, hr, hn, rfl, hmid⟩ |
      ⟨h, him, hj, hr, hn, hmid, hready, rfl, hlate⟩
    · exact .shape h
    · exact .cohort h hj
    · refine .round h him hj fun q hq => ?_
      rcases hr with hnone | ⟨hsome, hne⟩
      · cases hnone.symm.trans hq
      · exact Option.some.inj (hsome.symm.trans hq) ▸ hne
    · exact .mid h him hj hr hn hmid
    · exact .late ⟨h, him, hj, hr, hn, hmid⟩ hready hlate
  case session =>
    intro s c j role slot im r x him hr hx hnew
    obtain ⟨hrole, hslot⟩ := Round.role_slot_of_session? hx
    refine ⟨fun d key hd hkey hopen => ?_, fun hnone => ?_⟩
    · have hverified : r.sessionKey? x = some key :=
        Round.sessionKey?_of_verified (by rw [hrole, hslot]; exact hd) hkey hopen
      obtain ⟨t, q, hexec, hq, hs, hkeyx, hoff⟩ := sessionEstablish_stores him hr hx hnew hverified
      exact ⟨t, q, hexec, hq, hs.session, hs.frame, fun hread => State.eq_of_offIntake (hkeyx hread),
        State.eq_of_offSecrets_eq hoff⟩
    · have hunverified : r.sessionKey? x = none := Round.sessionKey?_of_unverified (by rw [hrole, hslot]; exact hnone)
      obtain ⟨t, q, hexec, hq, hgone, hframe, hoff⟩ := sessionEstablish_drops him hr hx hnew hunverified
      exact ⟨t, q, hexec, hq, hgone, hframe, State.eq_of_offIntake hoff⟩
  case bin =>
    intro s c j n k p i im r w l d o him hr hw hheld hkind hopen hseed hset howner hgroup ho hcursor hcurrent hroom hup
    exact ⟨_, r.entersBin p k (Frame.slot w.bytes) l,
      exec_binCopy him hr hw hheld hkind hopen hseed hset howner hgroup ho hcursor hcurrent hroom hup,
      State.round?_updRound_of_some (f := fun r => r.entersBin p k (Frame.slot w.bytes) l)
        (fun _ => ⟨rfl, rfl, rfl⟩) hr,
      Round.owner?_entersBin ho, rfl, fun x hx => Round.pending_entersBin hx, rfl, rfl⟩
  case batch =>
    intro s i c hc hopen hwindow
    refine ⟨fun hnone => noticeBatchSend_waits hc hopen hwindow (.inl hnone), ?_⟩
    rintro _ rfl hsome
    refine ⟨fun harea hcredit => ⟨fun hready hids => ?_, fun u hready => ?_⟩, fun hwait => ?_⟩
    · have hready' : s.readyToSend i = (true, (s.readyToSend i).2) := Prod.ext hready rfl
      obtain ⟨-, hwire⟩ := State.conn?_readyToSend hc hready'
      obtain ⟨t, k, hexec, hk, hone, hsent⟩ :=
        noticeBatchSend_sends hc hopen hwindow hsome harea hcredit hready' hids
      obtain ⟨x, hx, hholds⟩ := hsent.conn
      obtain ⟨y, hy, htype, hid⟩ := hholds.found
      refine ⟨t, x, k, hexec, hx, hk, hholds.notices, hholds.next, hone, ⟨y, hy, hid, ?_⟩, fun hres => ?_, ?_⟩
      · exact (hholds.fits y (List.mem_append_left _ hy)).data htype hid
      · rw [State.readyToSend_of_resident hc hres hready'] at hsent
        exact State.eq_of_offSending hsent.frame
      · exact State.eq_of_offSending_offWire hsent.frame hwire
    · exact noticeBatchSend_not_ready hc hopen hwindow hsome harea hcredit hready
    · exact noticeBatchSend_waits hc hopen hwindow (.inr hwait)

end Sys2Proof.Machine
end

section
/-!
Ring descriptors (R200, R201, R211 to R219): what is found of working copies and ring tiles after an update, and what one
descriptor of a sequence makes of the working copy that it runs on.
-/
namespace Sys2Proof.Machine

/-! Working copies and ring tiles. -/

section
variable {r : Round} {p i n : Nat}

theorem Round.working?_updWorking {f : WorkingCopy → WorkingCopy} {w : WorkingCopy}
    (hf : ∀ w : WorkingCopy, (f w).position = w.position ∧ (f w).cursor = w.cursor) (hw : r.working? p i = some w) :
    (r.updWorking p i f).working? p i = some (f w) := by
  have hfind : (r.updWorking p i f).working? p i = (r.working? p i).map f := by
    refine find?_updIf (p := fun w : WorkingCopy => w.position == p && w.cursor == i) (fun v hv => ?_) r.ring.working
    rwa [(hf v).1, (hf v).2]
  rw [hfind, hw, Option.map_some]

theorem Round.ringTile_updTile {x : RingTile} (hx : r.ringTile n = some x) (f : RingTile → RingTile) :
    (r.updTile n f).ringTile n = some (f x) := by
  have hget : (r.updTile n f).ringTile n = (r.ringTile n).map f := List.getElem?_modify_eq f n r.ring.tiles
  rw [hget, hx, Option.map_some]

/-- From `r` to `q` at most a report has been noted on a ring tile (R219). -/
structure Round.Reports (r : Round) (n : Nat) (q : Round) : Prop where
  frame : q = { r with ring := { r.ring with tiles := q.ring.tiles } }
  tile : ∀ x, r.ringTile n = some x → ∃ l, q.ringTile n = some { x with reported := l }

theorem Round.Reports.refl (r : Round) (n : Nat) : r.Reports n r := ⟨rfl, fun x hx => ⟨x.reported, hx⟩⟩

/-- The working copy after one descriptor of its repetition (R200, R211). -/
def WorkingCopy.worked (w : WorkingCopy) (hd : CtHeader) (limbs : List (List (List Nat))) : WorkingCopy :=
  { w with header := hd, limbs := limbs, step := w.step + 1 }

/-- A round after one descriptor of a cursor's repetition. -/
def Round.worked (r : Round) (p i : Nat) (hd : CtHeader) (limbs : List (List (List Nat))) : Round :=
  r.updWorking p i fun w => w.worked hd limbs

theorem Round.working?_worked {w : WorkingCopy} (hw : r.working? p i = some w) (hd : CtHeader)
    (limbs : List (List (List Nat))) : (r.worked p i hd limbs).working? p i = some (w.worked hd limbs) :=
  Round.working?_updWorking (fun _ => ⟨rfl, rfl⟩) hw

end

section
variable {s : State} {c h : Nat} {r : Round}

/-- The current round has been updated. -/
theorem State.became_updRound (f : Round → Round) (hf : ∀ r : Round, r.Same (f r)) (hr : s.round? c h = some r) :
    s.Became c h (· = f r) (s.updRound c h f) := ⟨rfl, f r, State.round?_updRound_of_some hf hr, rfl⟩

theorem State.reportRing_zero (s : State) (k c h n entry : Nat) (tm : Template) :
    s.reportRing k c h n entry 0 tm = s := by
  unfold State.reportRing
  split
  · rfl
  · exact if_pos (.inl rfl)

theorem State.became_reportRing (hr : s.round? c h = some r) (k n entry code : Nat) (tm : Template) :
    s.Became c h (r.Reports n) (s.reportRing k c h n entry code tm) := by
  unfold State.reportRing
  split
  · exact .refl hr (.refl r n)
  · split
    · exact .refl hr (.refl r n)
    · dsimp only
      refine ((State.became_updRound _ (fun r => by exact ⟨rfl, rfl, rfl⟩) hr).imp ?_).record ..
      rintro q rfl
      exact ⟨rfl, fun x hx => ⟨_, Round.ringTile_updTile hx _⟩⟩

end

/-! One descriptor (R219). -/

/-- The header that an opcode leaves: its output values with the verdict of the check, or of the key's digest, and the
key ID (R212, R218, R219). -/
def CtHeader.judged (out : CtHeader) (op status cause code key : Nat) : CtHeader :=
  { out with status := status, cause := cause, causeOpcode := if code = 0 then out.causeOpcode else op, keyId := key }

/-- The operation of a ring opcode on a working copy; none where the digest of its key fails (R218). -/
abbrev RingRun : Type :=
  State → Nat → PlanImage → Template → Descriptor → KeyHeader → WorkingCopy → Option (List (List (List Nat)))

/-- Cluster `k` carries a ring opcode whose cursor has staged in the working copy `w` of ring tile `y` (R200, R201). -/
structure State.CarriesRing (s : State) (k op p : Nat) (sp : RunningSpan) (im : PlanImage) (r : Round) (w : WorkingCopy)
    (y : RingTile) : Prop where
  carries : s.Carries k op p sp
  round : s.OnRound sp im r
  copy : r.working? p sp.desc.cursor = some w
  tile : r.ringTile w.tile = some y

/-- The check of R219 on a working copy. -/
def RunningSpan.verdict (sp : RunningSpan) (im : PlanImage) (y : RingTile) (w : WorkingCopy) (keyOk : Bool) :
    Nat × Nat × Nat :=
  slotStart im (im.template sp.desc.cohort) sp.desc y.agg w.header keyOk

/-- The header that a descriptor's opcode would give a working copy. -/
def RunningSpan.output (sp : RunningSpan) (im : PlanImage) (y : RingTile) (w : WorkingCopy) (op : Nat) : CtHeader :=
  outHeader im (im.template sp.desc.cohort) op y.agg w.header

/-- The evaluation key that was read with a descriptor belongs to the operation, if the opcode uses one (R216). -/
def RunningSpan.keyFits (sp : RunningSpan) (im : PlanImage) (w : WorkingCopy) (usesKey : Bool) : Bool :=
  !usesKey || sp.keyHeader.belongs im (im.template sp.desc.cohort) sp.desc w.header (im.evalRegion sp.desc)

/-- The key ID that a descriptor's operation leaves (R207). -/
def RunningSpan.keyAfter (sp : RunningSpan) (w : WorkingCopy) (op : Nat) : Nat :=
  if op = 0x15 then sp.keyHeader.target else w.header.keyId

/-- The state once a descriptor has settled its working copy. -/
def State.settlesRing (s : State) (k op p : Nat) (sp : RunningSpan) (im : PlanImage) (y : RingTile) (w : WorkingCopy)
    (status cause code key : Nat) (limbs : List (List (List Nat))) : State :=
  ((s.spanDone k sp).updRound sp.ctx sp.desc.cohort fun r =>
    r.worked p sp.desc.cursor ((sp.output im y w op).judged op status cause code key) limbs).reportRing k sp.ctx
      sp.desc.cohort w.tile sp.lead code (im.template sp.desc.cohort)

section
variable {s : State} {k op p : Nat} {sp : RunningSpan} {im : PlanImage} {r : Round} {w : WorkingCopy} {y : RingTile}
  {usesKey : Bool} {run : RingRun} {l : List (List (List Nat))}

/-- What a descriptor does, by its check and by what its operation gives. -/
theorem State.ringStep_eq (hc : s.CarriesRing k op p sp im r w y) :
    s.ringStep k op usesKey run =
      if (sp.verdict im y w (sp.keyFits im w usesKey)).1 ≠ 0 then
        s.settlesRing k op p sp im y w (sp.verdict im y w (sp.keyFits im w usesKey)).1
          (sp.verdict im y w (sp.keyFits im w usesKey)).2.1 (sp.verdict im y w (sp.keyFits im w usesKey)).2.2
          w.header.keyId w.limbs
      else match run (s.spanDone k sp) sp.ctx im (im.template sp.desc.cohort) sp.desc sp.keyHeader w with
        | some l => s.settlesRing k op p sp im y w 0 0 0 (sp.keyAfter w op) l
        | none => s.settlesRing k op p sp im y w 2 3 0x04130023 (sp.keyAfter w op)
            (Config.spoiledCopy s.hal.beatCount w.limbs) := by
  obtain ⟨hcarries, ⟨him, hr⟩, hw, hy⟩ := hc
  have him' : (s.spanDone k sp).image sp.ctx = some im := him
  have hr' : (s.spanDone k sp).round? sp.ctx sp.desc.cohort = some r := hr
  unfold State.ringStep
  rw [State.runSpan_of_carries hcarries]
  simp only [him', hr', hw, hy]
  rfl

theorem State.settlesRing_zero (status cause key : Nat) (limbs : List (List (List Nat))) :
    s.settlesRing k op p sp im y w status cause 0 key limbs =
      (s.spanDone k sp).updRound sp.ctx sp.desc.cohort fun r =>
        r.worked p sp.desc.cursor ((sp.output im y w op).judged op status cause 0 key) limbs :=
  State.reportRing_zero ..

/-- From `r` to `q` the working copy of a cursor has been settled, and besides it at most a report has been noted. -/
structure Round.Settles (r : Round) (p i : Nat) (v : WorkingCopy) (q : Round) : Prop where
  copy : q.working? p i = some v
  frame : q = { r with ring := { r.ring with working := q.ring.working, tiles := q.ring.tiles } }

theorem State.became_settlesRing (hc : s.CarriesRing k op p sp im r w y) (status cause code key : Nat)
    (limbs : List (List (List Nat))) :
    (s.spanDone k sp).Became sp.ctx sp.desc.cohort
      (r.Settles p sp.desc.cursor (w.worked ((sp.output im y w op).judged op status cause code key) limbs))
      (s.settlesRing k op p sp im y w status cause code key limbs) := by
  have hr : (s.spanDone k sp).round? sp.ctx sp.desc.cohort = some r := hc.round.2
  have hcopy := Round.working?_worked hc.copy ((sp.output im y w op).judged op status cause code key) limbs
  refine (State.became_updRound (fun r => r.worked p sp.desc.cursor ((sp.output im y w op).judged op status cause code key)
    limbs) (fun _ => ⟨rfl, rfl, rfl⟩) hr).andThen ?_
  rintro u hu rfl
  refine (State.became_reportRing hu ..).imp fun q hq => ⟨?_, ?_⟩
  · rw [hq.frame]
    exact hcopy
  · rw [hq.frame]
    rfl

end

/-! What a ring opcode does. -/

section
variable {s : State} {i : Instr} {k op p : Nat} {sp : RunningSpan} {im : PlanImage} {r : Round} {w : WorkingCopy}
  {y : RingTile} {usesKey : Bool} {run : RingRun} {l : List (List (List Nat))}

/-- A descriptor whose check passes and whose operation gives limbs (R197 to R210, R219). -/
theorem exec_ring_runs (hexec : exec i s = .next (s.ringStep k op usesKey run)) (hc : s.CarriesRing k op p sp im r w y)
    (hv : sp.verdict im y w (sp.keyFits im w usesKey) = (0, 0, 0))
    (hrun : run (s.spanDone k sp) sp.ctx im (im.template sp.desc.cohort) sp.desc sp.keyHeader w = some l) :
    exec i s = .next ((s.spanDone k sp).updRound sp.ctx sp.desc.cohort fun r => r.worked p sp.desc.cursor
      { sp.output im y w op with status := 0, cause := 0, keyId := sp.keyAfter w op } l) := by
  rw [hexec, State.ringStep_eq hc, hv, if_neg (not_not_intro rfl), hrun]
  exact congrArg _ (State.settlesRing_zero ..)

/-- A descriptor whose key fails its digest check leaves contents without meaning, and a VOID tile (R218). -/
theorem exec_ring_spoils (hexec : exec i s = .next (s.ringStep k op usesKey run))
    (hc : s.CarriesRing k op p sp im r w y) (hv : sp.verdict im y w (sp.keyFits im w usesKey) = (0, 0, 0))
    (hrun : run (s.spanDone k sp) sp.ctx im (im.template sp.desc.cohort) sp.desc sp.keyHeader w = none) :
    exec i s = .next (s.settlesRing k op p sp im y w 2 3 0x04130023 (sp.keyAfter w op)
      (Config.spoiledCopy s.hal.beatCount w.limbs)) := by
  rw [hexec, State.ringStep_eq hc, hv, if_neg (not_not_intro rfl), hrun]

/-- A descriptor whose check fails leaves the limbs (R219). -/
theorem exec_ring_fails (hexec : exec i s = .next (s.ringStep k op usesKey run)) (hc : s.CarriesRing k op p sp im r w y)
    (hv : (sp.verdict im y w (sp.keyFits im w usesKey)).1 ≠ 0) :
    exec i s = .next (s.settlesRing k op p sp im y w (sp.verdict im y w (sp.keyFits im w usesKey)).1
      (sp.verdict im y w (sp.keyFits im w usesKey)).2.1 (sp.verdict im y w (sp.keyFits im w usesKey)).2.2
      w.header.keyId w.limbs) := by
  rw [hexec, State.ringStep_eq hc, if_pos hv]

/-- The new limbs, form, level, noise and key of a working copy whose descriptor has run, and what else has changed. -/
theorem ring_runs (hexec : exec i s = .next (s.ringStep k op usesKey run)) (hc : s.CarriesRing k op p sp im r w y)
    (hv : sp.verdict im y w (sp.keyFits im w usesKey) = (0, 0, 0))
    (hrun : run (s.spanDone k sp) sp.ctx im (im.template sp.desc.cohort) sp.desc sp.keyHeader w = some l) :
    ∃ t q, exec i s = .next t ∧ t.round? sp.ctx sp.desc.cohort = some q ∧
      q.working? p sp.desc.cursor = some (w.worked
        { sp.output im y w op with status := 0, cause := 0, keyId := sp.keyAfter w op } l) ∧
      q = { r with ring := { r.ring with working := q.ring.working } } ∧
      (t.cluster k).span = some { sp with done := true } ∧ (∀ i, i ≠ k → t.cluster i = s.cluster i) ∧
      t = { s with clusters := t.clusters, rounds := t.rounds } := by
  have hr : (s.spanDone k sp).round? sp.ctx sp.desc.cohort = some r := hc.round.2
  obtain ⟨hspan, hothers⟩ := State.cluster_spanDone hc.carries
  exact ⟨_, _, exec_ring_runs hexec hc hv hrun, State.round?_updRound_of_some (fun r => by exact ⟨rfl, rfl, rfl⟩) hr,
    Round.working?_worked hc.copy .., rfl, hspan, hothers, rfl⟩

theorem ring_spoils (hexec : exec i s = .next (s.ringStep k op usesKey run)) (hc : s.CarriesRing k op p sp im r w y)
    (hv : sp.verdict im y w (sp.keyFits im w usesKey) = (0, 0, 0))
    (hrun : run (s.spanDone k sp) sp.ctx im (im.template sp.desc.cohort) sp.desc sp.keyHeader w = none) :
    ∃ t q v, exec i s = .next t ∧ t.round? sp.ctx sp.desc.cohort = some q ∧
      q.working? p sp.desc.cursor = some v ∧ v.limbs = Config.spoiledCopy s.hal.beatCount w.limbs ∧
      v.step = w.step + 1 ∧ v.header.status = 2 ∧ v.header.cause = 3 ∧ v.header.causeOpcode = op ∧
      t = { s with set := t.set, setA := t.setA, setB := t.setB, slotB := t.slotB, recorder := t.recorder,
                   mgmt := t.mgmt, clusters := t.clusters, rounds := t.rounds } := by
  obtain ⟨hframe, q, hq, hcopy, -⟩ := State.became_settlesRing hc 2 3 0x04130023 (sp.keyAfter w op)
    (Config.spoiledCopy s.hal.beatCount w.limbs)
  exact ⟨_, q, _, exec_ring_spoils hexec hc hv hrun, hq, hcopy, rfl, rfl, rfl, rfl, rfl,
    State.eq_of_offRecords_clusters hframe⟩

/-- An opcode that switches a polynomial under its key, by what the switch gives (R205, R218). -/
theorem ring_switches {a : List (List Nat)} {ks : List (List Nat) × List (List Nat)}
    (hexec : exec i s = .next (s.ringStep k op true run)) (hc : s.CarriesRing k op p sp im r w y)
    (hfits : sp.keyHeader.belongs im (im.template sp.desc.cohort) sp.desc w.header (im.evalRegion sp.desc) = true)
    (hv : sp.verdict im y w true = (0, 0, 0))
    (hsome : s.switchPoly sp.ctx im (im.template sp.desc.cohort) sp.desc sp.keyHeader w.header.level a = some ks →
      run (s.spanDone k sp) sp.ctx im (im.template sp.desc.cohort) sp.desc sp.keyHeader w = some l)
    (hnone : s.switchPoly sp.ctx im (im.template sp.desc.cohort) sp.desc sp.keyHeader w.header.level a = none →
      run (s.spanDone k sp) sp.ctx im (im.template sp.desc.cohort) sp.desc sp.keyHeader w = none) :
    (s.switchPoly sp.ctx im (im.template sp.desc.cohort) sp.desc sp.keyHeader w.header.level a = some ks →
      ∃ t q, exec i s = .next t ∧ t.round? sp.ctx sp.desc.cohort = some q ∧
        q.working? p sp.desc.cursor = some (w.worked
          { sp.output im y w op with status := 0, cause := 0, keyId := sp.keyAfter w op } l) ∧
        q = { r with ring := { r.ring with working := q.ring.working } } ∧
        t = { s with clusters := t.clusters, rounds := t.rounds }) ∧
    (s.switchPoly sp.ctx im (im.template sp.desc.cohort) sp.desc sp.keyHeader w.header.level a = none →
      ∃ t q v, exec i s = .next t ∧ t.round? sp.ctx sp.desc.cohort = some q ∧
        q.working? p sp.desc.cursor = some v ∧ v.limbs = Config.spoiledCopy s.hal.beatCount w.limbs ∧
        v.step = w.step + 1 ∧ v.header.status = 2 ∧ v.header.cause = 3 ∧ v.header.causeOpcode = op ∧
        t = { s with set := t.set, setA := t.setA, setB := t.setB, slotB := t.slotB, recorder := t.recorder,
                     mgmt := t.mgmt, clusters := t.clusters, rounds := t.rounds }) := by
  have hkey : sp.keyFits im w true = true := hfits
  rw [← hkey] at hv
  refine ⟨fun hks => ?_, fun hno => ring_spoils hexec hc hv (hnone hno)⟩
  obtain ⟨t, q, hexec, hq, hcopy, hround, -, -, hframe⟩ := ring_runs hexec hc hv (hsome hks)
  exact ⟨t, q, hexec, hq, hcopy, hround, hframe⟩

theorem ring_fails (hexec : exec i s = .next (s.ringStep k op usesKey run)) (hc : s.CarriesRing k op p sp im r w y)
    (hv : (sp.verdict im y w (sp.keyFits im w usesKey)).1 ≠ 0) :
    ∃ t q v, exec i s = .next t ∧ t.round? sp.ctx sp.desc.cohort = some q ∧
      q.working? p sp.desc.cursor = some v ∧ v.limbs = w.limbs ∧ v.step = w.step + 1 ∧ v.sealed = w.sealed ∧
      v.header.status = (sp.verdict im y w (sp.keyFits im w usesKey)).1 ∧
      v.header.cause = (sp.verdict im y w (sp.keyFits im w usesKey)).2.1 ∧
      q = { r with ring := { r.ring with working := q.ring.working, tiles := q.ring.tiles } } ∧
      t = { s with set := t.set, setA := t.setA, setB := t.setB, slotB := t.slotB, recorder := t.recorder,
                   mgmt := t.mgmt, clusters := t.clusters, rounds := t.rounds } := by
  obtain ⟨hframe, q, hq, hcopy, hring⟩ := State.became_settlesRing hc
    (sp.verdict im y w (sp.keyFits im w usesKey)).1 (sp.verdict im y w (sp.keyFits im w usesKey)).2.1
    (sp.verdict im y w (sp.keyFits im w usesKey)).2.2 w.header.keyId w.limbs
  exact ⟨_, q, _, exec_ring_fails hexec hc hv, hq, hcopy, rfl, rfl, rfl, rfl, rfl, hring,
    State.eq_of_offRecords_clusters hframe⟩

end

end Sys2Proof.Machine
end

section
/-!
C1OUT (R227 to R229): c1 of a working copy is sealed into C1 messages, which are kept and sent to the members.
-/
namespace Sys2Proof.Machine

/-! Messages to every member. -/

/-- Messages queued for every session of a list (R229). -/
def State.sendsAll (s : State) (l : List RoundSession) (ms : List Bytes) : State :=
  l.foldl (fun s x => s.queueMsgs x.conn ms) s

section
variable {s : State} {i j : Nat} {c : Conn} {l : List RoundSession} {ms : List Bytes}

theorem State.sendsAll_frame (s : State) (l : List RoundSession) (ms : List Bytes) :
    ∃ xs, s.sendsAll l ms = { s with grixo := { s.grixo with conns := xs } } := by
  refine List.foldlRecOn (motive := fun u : State => ∃ xs, u = { s with grixo := { s.grixo with conns := xs } }) l _
    ⟨s.grixo.conns, rfl⟩ fun u ⟨xs, hu⟩ x _ => ?_
  obtain ⟨ys, hy⟩ := u.queueMsgs_frame x.conn ms
  rw [hy, hu]
  exact ⟨ys, rfl⟩

theorem State.conn?_queueModuleMsg_ne (h : j ≠ i) (m : Bytes) : (s.queueModuleMsg j m).conn? i = s.conn? i := by
  refine find?_updIf_of_disjoint (q := fun c : Conn => c.index == i) (fun c hc => ?_) (fun c hc => ?_) s.grixo.conns
  · simpa [beq_iff_eq.mp hc] using h
  · split <;> simpa [beq_iff_eq.mp hc] using h

theorem State.conn?_queueMsgs_ne (h : j ≠ i) (ms : List Bytes) : (s.queueMsgs j ms).conn? i = s.conn? i :=
  List.foldlRecOn (motive := fun u : State => u.conn? i = s.conn? i) ms _ rfl fun _ hu m _ =>
    (State.conn?_queueModuleMsg_ne h m).trans hu

theorem State.conn?_sendsAll_of_none (h : ∀ x ∈ l, x.conn ≠ i) : (s.sendsAll l ms).conn? i = s.conn? i :=
  List.foldlRecOn (motive := fun u : State => u.conn? i = s.conn? i) l _ rfl fun _ hu x hx =>
    (State.conn?_queueMsgs_ne (h x hx) ms).trans hu

/-- The connection of one session of the list gets the messages once. -/
theorem State.conn?_sendsAll {x : RoundSession} (hone : l.filter (fun x => x.conn == i) = [x]) (hc : s.conn? i = some c)
    (hopen : c.state = .open) : (s.sendsAll l ms).conn? i = some { c with sendArea := c.sendArea ++ ms } := by
  induction l generalizing s with
  | nil => cases hone
  | cons y l ih =>
    by_cases hy : y.conn = i
    · rw [List.filter_cons_of_pos (by simpa using hy), List.cons.injEq] at hone
      have hrest : ∀ z ∈ l, z.conn ≠ i := fun z hz => by simpa using List.filter_eq_nil_iff.mp hone.2 z hz
      have hfirst := State.conn?_queueMsgs hc hopen ms
      rw [← hy] at hfirst hrest ⊢
      exact (State.conn?_sendsAll_of_none hrest).trans hfirst
    · rw [List.filter_cons_of_neg (by simpa using hy)] at hone
      exact ih hone ((State.conn?_queueMsgs_ne hy ms).trans hc)

end

/-! The sealing. -/

/-- C1OUT leaves the limbs as they are. -/
def c1outRun : RingRun := fun _ _ _ _ _ _ w => some w.limbs

/-- Members whose session is stored (R229). -/
def Round.members (r : Round) : List RoundSession := r.intake.sessions.filter fun x => x.role == 1 && x.stored

/-- A working copy has been sealed, and its messages are kept where none of their tile was (R228). -/
def Round.exportsC1 (r : Round) (p i : Nat) (fresh : List (Nat × Bytes)) : Round :=
  let q := r.updWorking p i fun w => { w with sealed := true }
  { q with ring := { q.ring with exports := q.ring.exports ++ fresh } }

/-- Messages whose tile index has none in the round yet (R228). -/
def Round.freshExports (r : Round) (msgs : List (Nat × Bytes)) : List (Nat × Bytes) :=
  msgs.filter fun m => !(r.ring.exports.any fun e => e.1 == m.1)

/-- C1 messages are kept in the round and sent to the members (R229). -/
def State.exportsC1 (s : State) (c h p i : Nat) (r : Round) (msgs : List (Nat × Bytes)) : State :=
  (s.updRound c h fun q => q.exportsC1 p i (r.freshExports msgs)).sendsAll r.members (msgs.map Prod.snd)

section
variable {s u : State} {k p : Nat} {sp : RunningSpan} {im : PlanImage} {r q : Round} {w v : WorkingCopy} {y : RingTile}
  {key : Bytes}

/-- What C1OUT does once its descriptor has settled the working copy. -/
theorem exec_c1out_eq (hc : s.Carries k 0x19 p sp) (hstep : s.ringStep k 0x19 false c1outRun = u)
    (hclusters : (u.cluster k).span = some { sp with done := true }) (him : u.image sp.ctx = some im)
    (hq : u.round? sp.ctx sp.desc.cohort = some q) (hv : q.working? p sp.desc.cursor = some v) :
    exec (.c1out k) s = if v.header.status ≠ 0 ∨ q.state ≠ .closed ∨ q.ring.exportBlock then .next u
      else if s.routeDown (im.route sp.desc.dstRoute) then
        .next (s.replayTile sp.ctx sp.desc.cohort v.tile k 0x19
          (leBytes 4 q.cohortId ++ leBytes 4 (v.tile * max 1 (im.template sp.desc.cohort).setTiles)))
      else .next (u.withRoundKey q 1 (some masterAu) (fun s => s.ringFault sp.ctx sp.desc.cohort v.tile) fun key =>
        u.exportsC1 sp.ctx sp.desc.cohort p sp.desc.cursor q
          (q.c1Messages (im.template sp.desc.cohort) v.tile v.header.level (component v.limbs 1) key)) := by
  obtain ⟨-, -, hpos, hspan, hop, hdone, hdummy, -⟩ := hc
  have hstep' : s.ringStep k 0x19 false (fun _ _ _ _ _ _ w => some w.limbs) = u := hstep
  change execC1out k s = _
  unfold execC1out
  simp only [hstep', hspan, hpos, Option.getD_some, him, hq, hv, hclusters, hop, hdone, hdummy, Option.any_some,
    Bool.not_false, Bool.not_true, Bool.and_true, Bool.false_eq_true, ne_eq, not_true_eq_false, false_or, State.exportsC1,
    State.sendsAll, State.queueMsgs, List.foldl_map]
  rfl

/-- A working copy whose check fails is not sealed (R228). -/
theorem exec_c1out_of_refused (hc : s.CarriesRing k 0x19 p sp im r w y)
    (hv : (sp.verdict im y w (sp.keyFits im w false)).1 ≠ 0) :
    exec (.c1out k) s = .next (s.ringStep k 0x19 false c1outRun) := by
  have hstep : s.ringStep k 0x19 false c1outRun = _ := (State.ringStep_eq hc).trans (if_pos hv)
  obtain ⟨hframe, q, hq, hset⟩ := State.became_settlesRing hc (sp.verdict im y w (sp.keyFits im w false)).1
    (sp.verdict im y w (sp.keyFits im w false)).2.1 (sp.verdict im y w (sp.keyFits im w false)).2.2 w.header.keyId w.limbs
  obtain ⟨hspan, -⟩ := State.cluster_spanDone hc.carries
  have hclusters := (congrArg Cluster.span (State.cluster_of_offRecords hframe k)).trans hspan
  have him := (congrArg (fun t : State => t.image sp.ctx) hframe :).trans hc.round.1
  rw [exec_c1out_eq hc.carries hstep hclusters him hq hset.copy, if_pos (.inl hv), hstep]

/-- The round once C1OUT's descriptor has settled a working copy whose check passes. -/
def Round.c1Settled (r : Round) (p : Nat) (sp : RunningSpan) (im : PlanImage) (y : RingTile) (w : WorkingCopy) : Round :=
  r.worked p sp.desc.cursor ((sp.output im y w 0x19).judged 0x19 0 0 0 w.header.keyId) w.limbs

/-- The state once C1OUT's descriptor has settled a working copy whose check passes. -/
def State.c1Settled (s : State) (k p : Nat) (sp : RunningSpan) (im : PlanImage) (y : RingTile) (w : WorkingCopy) : State :=
  (s.spanDone k sp).updRound sp.ctx sp.desc.cohort fun r => r.c1Settled p sp im y w

theorem State.ringStep_c1out (hc : s.CarriesRing k 0x19 p sp im r w y)
    (hv : sp.verdict im y w (sp.keyFits im w false) = (0, 0, 0)) :
    s.ringStep k 0x19 false c1outRun = s.c1Settled k p sp im y w := by
  rw [State.ringStep_eq hc, hv]
  exact State.settlesRing_zero ..

theorem State.round?_c1Settled (hc : s.CarriesRing k 0x19 p sp im r w y) :
    (s.c1Settled k p sp im y w).round? sp.ctx sp.desc.cohort = some (r.c1Settled p sp im y w) := by
  have hr : (s.spanDone k sp).round? sp.ctx sp.desc.cohort = some r := hc.round.2
  exact State.round?_updRound_of_some (fun _ => ⟨rfl, rfl, rfl⟩) hr

/-- A working copy whose check passes while its round is CLOSED is exported, or staged in again where the route to the
C1 area is down (R228, R446). -/
theorem exec_c1out_of_runs (hc : s.CarriesRing k 0x19 p sp im r w y)
    (hv : sp.verdict im y w (sp.keyFits im w false) = (0, 0, 0)) (hclosed : r.state = .closed)
    (hblock : r.ring.exportBlock = false) :
    exec (.c1out k) s = if s.routeDown (im.route sp.desc.dstRoute) then
        .next (s.replayTile sp.ctx sp.desc.cohort w.tile k 0x19
          (leBytes 4 r.cohortId ++ leBytes 4 (w.tile * max 1 (im.template sp.desc.cohort).setTiles)))
      else .next ((s.c1Settled k p sp im y w).withRoundKey (r.c1Settled p sp im y w) 1 (some masterAu)
        (fun s => s.ringFault sp.ctx sp.desc.cohort w.tile) fun key =>
          (s.c1Settled k p sp im y w).exportsC1 sp.ctx sp.desc.cohort p sp.desc.cursor (r.c1Settled p sp im y w)
            (r.c1Messages (im.template sp.desc.cohort) w.tile w.header.level (component w.limbs 1) key)) := by
  obtain ⟨hspan, -⟩ := State.cluster_spanDone hc.carries
  have hspan' : ((s.c1Settled k p sp im y w).cluster k).span = some { sp with done := true } := hspan
  rw [exec_c1out_eq hc.carries (State.ringStep_c1out hc hv) hspan' hc.round.1 (State.round?_c1Settled hc)
    (Round.working?_worked hc.copy ..), if_neg]
  · rfl
  · rintro (h | h | h)
    · exact h rfl
    · exact h hclosed
    · exact absurd (hblock.symm.trans h) Bool.false_ne_true

/-- The round, the cluster and the network once the item of a ring tile is replayed (R210). -/
theorem State.replayTile_spec {c h : Nat} (hr : s.round? c h = some r) (hk : k < s.clusters.length) (n : Nat)
    {op : Nat} (hop : op ≠ 0) (payload : Bytes) :
    (s.replayTile c h n k op payload).round? c h = some { r with ring := { r.ring with
      working := r.ring.working.filter fun w => w.tile != n } } ∧
      ((s.replayTile c h n k op payload).cluster k).span = none ∧ (s.replayTile c h n k op payload).grixo = s.grixo := by
  have hround := State.round?_updRound_of_some (f := fun r => { r with ring := { r.ring with
    working := r.ring.working.filter fun w => w.tile != n } }) (fun _ => ⟨rfl, rfl, rfl⟩) hr
  have hspan := State.cluster_updCluster_same (s := s.updRound c h fun r => { r with ring := { r.ring with
    working := r.ring.working.filter fun w => w.tile != n } }) hk fun c => { c with span := none }
  unfold State.replayTile
  simp only [if_neg hop]
  refine ⟨(State.round?_congr (State.record_rounds ..)).trans hround, ?_, State.record_grixo ..⟩
  rw [State.cluster_of_offRecords (State.offRecords_record ..), hspan]

theorem c1out_replays (hc : s.CarriesRing k 0x19 p sp im r w y)
    (hv : sp.verdict im y w (sp.keyFits im w false) = (0, 0, 0)) (hclosed : r.state = .closed)
    (hblock : r.ring.exportBlock = false) (hdown : s.routeDown (im.route sp.desc.dstRoute) = true) :
    ∃ t q, exec (.c1out k) s = .next t ∧ t.round? sp.ctx sp.desc.cohort = some q ∧
      (∀ v ∈ q.ring.working, v.tile ≠ w.tile) ∧ q.ring.exports = r.ring.exports ∧ (t.cluster k).span = none ∧
      t.grixo = s.grixo := by
  obtain ⟨hk, hlen, -⟩ := hc.carries
  obtain ⟨hq, hspan, hgrixo⟩ := State.replayTile_spec hc.round.2 (hlen ▸ hk) w.tile (op := 0x19) (by decide)
    (leBytes 4 r.cohortId ++ leBytes 4 (w.tile * max 1 (im.template sp.desc.cohort).setTiles))
  refine ⟨_, _, (exec_c1out_of_runs hc hv hclosed hblock).trans (if_pos hdown), hq, fun v hv => ?_, rfl, hspan, hgrixo⟩
  simpa using (List.mem_filter.mp hv).2

theorem State.exportsC1_frame (s : State) (c h p i : Nat) (q : Round) (msgs : List (Nat × Bytes)) :
    ∃ xs, s.exportsC1 c h p i q msgs =
      { s.updRound c h fun r => r.exportsC1 p i (q.freshExports msgs) with grixo := { s.grixo with conns := xs } } :=
  State.sendsAll_frame ..

/-- Every message whose tile had none is kept. -/
theorem Round.mem_exports_exportsC1 {i : Nat} {msgs : List (Nat × Bytes)} {m : Nat × Bytes} (hm : m ∈ msgs)
    (hnew : ∀ e ∈ r.ring.exports, e.1 ≠ m.1) : m ∈ (r.exportsC1 p i (r.freshExports msgs)).ring.exports := by
  refine List.mem_append_right _ (List.mem_filter.mpr ⟨hm, ?_⟩)
  simpa using hnew

theorem c1out_exports (hc : s.CarriesRing k 0x19 p sp im r w y)
    (hv : sp.verdict im y w (sp.keyFits im w false) = (0, 0, 0)) (hclosed : r.state = .closed)
    (hblock : r.ring.exportBlock = false) (hup : s.routeDown (im.route sp.desc.dstRoute) = false)
    (hkey : s.roundKey? r 1 (some masterAu) = some key) :
    ∃ t q v, exec (.c1out k) s = .next t ∧ t.round? sp.ctx sp.desc.cohort = some q ∧
      q.working? p sp.desc.cursor = some v ∧ v.sealed = true ∧ v.limbs = w.limbs ∧ v.step = w.step + 1 ∧
      (∀ m ∈ r.c1Messages (im.template sp.desc.cohort) w.tile w.header.level (component w.limbs 1) key,
        (∀ e ∈ r.ring.exports, e.1 ≠ m.1) → m ∈ q.ring.exports) ∧
      (∀ e ∈ r.ring.exports, e ∈ q.ring.exports) ∧
      (∀ i x c, r.members.filter (fun x => x.conn == i) = [x] → s.conn? i = some c → c.state = .open →
        t.conn? i = some { c with sendArea := c.sendArea ++
          (r.c1Messages (im.template sp.desc.cohort) w.tile w.header.level (component w.limbs 1) key).map Prod.snd }) ∧
      q = { r with ring := { r.ring with working := q.ring.working, exports := q.ring.exports } } ∧
      t = { s with clusters := t.clusters, rounds := t.rounds, grixo := { s.grixo with conns := t.grixo.conns } } := by
  have hkey' : (s.c1Settled k p sp im y w).roundKey? (r.c1Settled p sp im y w) 1 (some masterAu) = some key := hkey
  have hexec := (exec_c1out_of_runs hc hv hclosed hblock).trans (if_neg (by rw [hup]; exact Bool.false_ne_true))
  rw [State.withRoundKey_of_some hkey'] at hexec
  generalize r.c1Messages (im.template sp.desc.cohort) w.tile w.header.level (component w.limbs 1) key = msgs at hexec ⊢
  obtain ⟨xs, hstate⟩ := (s.c1Settled k p sp im y w).exportsC1_frame sp.ctx sp.desc.cohort p sp.desc.cursor
    (r.c1Settled p sp im y w) msgs
  have hround := State.round?_updRound_of_some (f := fun q => q.exportsC1 p sp.desc.cursor
    ((r.c1Settled p sp im y w).freshExports msgs)) (fun _ => ⟨rfl, rfl, rfl⟩) (State.round?_c1Settled hc)
  have hcopy := Round.working?_updWorking (f := fun w => { w with sealed := true }) (fun _ => ⟨rfl, rfl⟩)
    (Round.working?_worked hc.copy ((sp.output im y w 0x19).judged 0x19 0 0 0 w.header.keyId) w.limbs)
  refine ⟨_, (r.c1Settled p sp im y w).exportsC1 p sp.desc.cursor ((r.c1Settled p sp im y w).freshExports msgs), _, hexec,
    ?_, hcopy, rfl, rfl, rfl, fun m hm hnew => Round.mem_exports_exportsC1 (r := r.c1Settled p sp im y w) hm hnew,
    fun e he => List.mem_append_left _ he, fun i x c hone hx hopen => ?_, rfl, ?_⟩
  · rw [hstate]
    exact hround
  · have hx' : ((s.c1Settled k p sp im y w).updRound sp.ctx sp.desc.cohort fun q => q.exportsC1 p sp.desc.cursor
      ((r.c1Settled p sp im y w).freshExports msgs)).conn? i = some c := hx
    exact State.conn?_sendsAll hone hx' hopen
  · rw [hstate]
    rfl

end
end Sys2Proof.Machine
end

section
/-!
RING_STAGE_IN_OUT (R200, R201, R213): in the gap after a repetition a ring tile is staged out, and the next one in.
-/
namespace Sys2Proof.Machine

/-! The two halves of a staging. -/

/-- From `r` to `q` only cursors, working copies and ring tiles have changed. -/
def Round.Stages (r q : Round) : Prop :=
  q = { r with cursors := q.cursors, ring := { r.ring with working := q.ring.working, tiles := q.ring.tiles } }

/-- A ring tile goes to its store, its cursor advances, and its working copy is gone (R201, R213). -/
def Round.stagedOut (r : Round) (p i : Nat) (w : WorkingCopy) : Round :=
  let q := (r.updTile w.tile fun x => x.stagedOut w (r.state == .closed)).updCursor p i fun z => { z with pos := z.pos + 1 }
  { q with ring := { q.ring with working := q.ring.working.filter fun v => !(v.position == p && v.cursor == i) } }

/-- The stage-out of a cursor whose repetition takes `m` descriptors: a copy that waits for its first may take part from
now on (R201). -/
def Round.stagesOut (r : Round) (p i m : Nat) (whole : Bool) : Round :=
  match r.working? p i with
  | some w =>
    if m ≤ w.step then r.stagedOut p i w
    else if w.step = 0 ∧ whole then r.updWorking p i fun w => { w with real := true }
    else r
  | none => r

/-- The working copy of a ring tile that is staged in (R201). -/
def Round.freshCopy (r : Round) (tm : Template) (p i n : Nat) (x : RingTile) (whole : Bool) : WorkingCopy :=
  { position := p, cursor := i, tile := n, header := x.agg, limbs := limbsOf tm (r.set n).copy, step := 0,
    sealed := false, real := whole }

/-- The stage-in of the ring tile at which a cursor stands (R201). -/
def Round.stagesIn (r : Round) (tm : Template) (p i first : Nat) (whole : Bool) : Round :=
  match r.ringTile (first + (r.cursorAt p i).pos) with
  | none => r
  | some x => { r with ring := { r.ring with
      working := r.ring.working ++ [r.freshCopy tm p i (first + (r.cursorAt p i).pos) x whole] } }

section
variable {r q u : Round} {im : PlanImage} {tm : Template} {h p i n m : Nat} {b : Block} {c : CursorDef} {whole : Bool}
  {w : WorkingCopy} {x : RingTile}

theorem Round.Stages.trans (hq : r.Stages q) (hu : q.Stages u) : r.Stages u := by
  unfold Round.Stages at *
  rw [hu, hq]

theorem Round.Stages.same (hq : r.Stages q) : r.Same q := by
  rw [hq]
  exact ⟨rfl, rfl, rfl⟩

theorem Round.stages_stagedOut (r : Round) (p i : Nat) (w : WorkingCopy) : r.Stages (r.stagedOut p i w) := rfl

theorem Round.stages_stagesOut (r : Round) (p i m : Nat) (whole : Bool) : r.Stages (r.stagesOut p i m whole) := by
  unfold Round.stagesOut
  split
  · split
    · exact r.stages_stagedOut ..
    · split
      · rfl
      · rfl
  · rfl

theorem Round.stages_stagesIn (r : Round) (tm : Template) (p i first : Nat) (whole : Bool) :
    r.Stages (r.stagesIn tm p i first whole) := by
  unfold Round.stagesIn
  split
  · rfl
  · rfl

theorem Round.stageCursor_eq (r : Round) (im : PlanImage) (h p i : Nat) (b : Block) (c : CursorDef) (whole : Bool) :
    r.stageCursor im h p i b c whole =
      if (((r.working? p i).map fun w => decide (b.baseLength i ≤ w.step)) = some false) ||
          decide (c.count ≤ ((r.stagesOut p i (b.baseLength i) whole).cursorAt p i).pos) then
        r.stagesOut p i (b.baseLength i) whole
      else (r.stagesOut p i (b.baseLength i) whole).stagesIn (im.template h) p i c.first whole := rfl

theorem Round.stages_stageCursor (r : Round) (im : PlanImage) (h p i : Nat) (b : Block) (c : CursorDef) (whole : Bool) :
    r.Stages (r.stageCursor im h p i b c whole) := by
  rw [Round.stageCursor_eq]
  have hout := r.stages_stagesOut p i (b.baseLength i) whole
  split
  · exact hout
  · exact hout.trans (Round.stages_stagesIn ..)

theorem Round.working?_stagesIn (hw : r.working? p i = none) {first : Nat} (hpos : n = first + (r.cursorAt p i).pos)
    (hx : r.ringTile n = some x) :
    (r.stagesIn tm p i first whole).working? p i = some (r.freshCopy tm p i n x whole) := by
  subst hpos
  have hfind : r.ring.working.find? (fun w => w.position == p && w.cursor == i) = none := hw
  unfold Round.stagesIn Round.working?
  simp only [hx, List.find?_append, hfind, Option.none_or]
  exact List.find?_cons_of_pos (by simp [Round.freshCopy])

/-- A cursor without a working copy stages its ring tile in. -/
theorem Round.stageCursor_of_empty (hw : r.working? p i = none) (hpos : (r.cursorAt p i).pos < c.count) :
    r.stageCursor im h p i b c whole = r.stagesIn (im.template h) p i c.first whole := by
  have hout : r.stagesOut p i (b.baseLength i) whole = r := by
    unfold Round.stagesOut
    rw [hw]
  rw [Round.stageCursor_eq, hout, hw, if_neg (by simpa using hpos)]

/-- A cursor whose repetition has ended stages its ring tile out, and the next one in, if there is one. -/
theorem Round.stageCursor_of_ended (hw : r.working? p i = some w) (hm : b.baseLength i ≤ w.step) :
    r.stageCursor im h p i b c whole = if c.count ≤ ((r.stagedOut p i w).cursorAt p i).pos then r.stagedOut p i w
      else (r.stagedOut p i w).stagesIn (im.template h) p i c.first whole := by
  have hout : r.stagesOut p i (b.baseLength i) whole = r.stagedOut p i w := by
    unfold Round.stagesOut
    simp only [hw, if_pos hm]
  rw [Round.stageCursor_eq, hout, hw]
  simp [hm]

theorem Round.ringTile_stagesIn (r : Round) (tm : Template) (p i first : Nat) (whole : Bool) (n : Nat) :
    (r.stagesIn tm p i first whole).ringTile n = r.ringTile n := by
  unfold Round.stagesIn
  split
  · rfl
  · rfl

theorem Round.cursorAt_stagesIn (r : Round) (tm : Template) (p i first : Nat) (whole : Bool) (j l : Nat) :
    (r.stagesIn tm p i first whole).cursorAt j l = r.cursorAt j l := by
  unfold Round.stagesIn
  split
  · rfl
  · rfl

theorem Round.working?_stagedOut (r : Round) (p i : Nat) (w : WorkingCopy) : (r.stagedOut p i w).working? p i = none := by
  refine List.find?_eq_none.mpr fun v hv => ?_
  simpa [imp_iff_not_or] using (List.mem_filter.mp hv).2

theorem Round.ringTile_stagedOut (hx : r.ringTile w.tile = some x) :
    (r.stagedOut p i w).ringTile w.tile = some (x.stagedOut w (r.state == .closed)) :=
  Round.ringTile_updTile hx _

theorem Round.cursorAt_stagedOut (r : Round) (p i : Nat) (w : WorkingCopy) :
    ((r.stagedOut p i w).cursorAt p i).pos = (r.cursorAt p i).pos + 1 :=
  congrArg CursorPos.pos (r.cursorAt_updCursor_same (f := fun z => { z with pos := z.pos + 1 }) fun _ => ⟨rfl, rfl⟩)

end

/-! The cursors of a cohort. -/

/-- A ring-tile cursor of a cohort that has descriptors (R200). -/
def Block.stages (b : Block) (h : Nat) (x : CursorDef × Nat) : Bool :=
  x.1.kind == 3 && x.1.cohort == h && !(b.ringDescs x.2).isEmpty

/-- What a gap does to one cursor: once the round has left CLOSED nothing is staged in (R201). -/
def Round.stagesAt (r : Round) (im : PlanImage) (h p entry beat : Nat) (b : Block) (x : CursorDef × Nat) : Round :=
  match b.gapSince x.2 entry with
  | none => r
  | some since =>
    if b.stages h x && (r.state == .closed || (r.working? p x.2).isSome) then
      let q := r.stageCursor im h p x.2 b x.1 (decide (r.frozenBeat + since ≤ beat))
      if r.state == .closed then q
      else { q with ring := { q.ring with
        working := q.ring.working.filter fun w => !(w.position == p && w.cursor == x.2 && w.step == 0) } }
    else r

section
variable {s : State} {r : Round} {im : PlanImage} {k c h p i g entry beat : Nat} {b : Block} {d : CursorDef}
  {x : CursorDef × Nat}

theorem Round.stages_stagesAt (r : Round) (im : PlanImage) (h p entry beat : Nat) (b : Block) (x : CursorDef × Nat) :
    r.Stages (r.stagesAt im h p entry beat b x) := by
  unfold Round.stagesAt
  split
  · rfl
  · dsimp only
    split
    · split
      · exact r.stages_stageCursor ..
      · exact (r.stages_stageCursor ..).trans rfl
    · rfl

theorem Round.stagesAt_of_no_gap (hg : b.gapSince x.2 entry = none) : r.stagesAt im h p entry beat b x = r := by
  unfold Round.stagesAt
  rw [hg]

theorem Round.stagesAt_of_other (hx : b.stages h x = false) : r.stagesAt im h p entry beat b x = r := by
  unfold Round.stagesAt
  split
  · rfl
  · rw [hx, Bool.false_and, if_neg Bool.false_ne_true]

theorem Round.stagesAt_of_gap (hg : b.gapSince x.2 entry = some g) (hx : b.stages h x = true) (hst : r.state = .closed) :
    r.stagesAt im h p entry beat b x = r.stageCursor im h p x.2 b x.1 (decide (r.frozenBeat + g ≤ beat)) := by
  have hclosed : (r.state == .closed) = true := beq_iff_eq.mpr hst
  unfold Round.stagesAt
  simp only [hg, hx, hclosed, Bool.true_or, Bool.and_true, if_true]

/-- A cohort with one ring-tile cursor in a block: the others are left. -/
theorem Round.foldl_stagesAt (hone : b.cursors.zipIdx.filter (b.stages h) = [x]) :
    b.cursors.zipIdx.foldl (fun r x => r.stagesAt im h p entry beat b x) r = r.stagesAt im h p entry beat b x := by
  have hskip (q : Round) (z : CursorDef × Nat) :
      q.stagesAt im h p entry beat b z = if b.stages h z then q.stagesAt im h p entry beat b z else q := by
    split
    · rfl
    next hz => exact Round.stagesAt_of_other (by simpa using hz)
  calc b.cursors.zipIdx.foldl (fun r x => r.stagesAt im h p entry beat b x) r
    _ = b.cursors.zipIdx.foldl (fun q z => if b.stages h z then q.stagesAt im h p entry beat b z else q) r :=
        List.foldl_ext _ _ _ fun q z _ => hskip q z
    _ = (b.cursors.zipIdx.filter (b.stages h)).foldl (fun r x => r.stagesAt im h p entry beat b x) r :=
        List.foldl_filter.symm
    _ = r.stagesAt im h p entry beat b x := by rw [hone]; rfl

theorem exec_ringStageInOut (hpos : (s.cluster k).position = some p) (him : s.image c = some im)
    (hr : s.round? c h = some r) (hb : im.block p = some b) :
    exec (.ringStageInOut k c h) s =
      if !r.frozen ∨ !(r.state == .closed || r.state == .unmasking) ∨ !(im.template h).isRing then .next s
      else .next (s.updRound c h fun r =>
        b.cursors.zipIdx.foldl (fun r x => r.stagesAt im h p s.entry s.hal.beatCount b x) r) := by
  change execRingStageInOut k c h s = _
  unfold execRingStageInOut
  simp only [hpos, him, hr, hb]
  rfl

theorem Round.same_foldl_stagesAt (r : Round) (im : PlanImage) (h p entry beat : Nat) (b : Block)
    (l : List (CursorDef × Nat)) : r.Same (l.foldl (fun r x => r.stagesAt im h p entry beat b x) r) :=
  Round.Stages.same (List.foldlRecOn l _ rfl fun _ hq _ _ => hq.trans (Round.stages_stagesAt ..))

/-- A gap of the one ring-tile cursor of a frozen, CLOSED round (R201). -/
theorem ringStageInOut_stages (hpos : (s.cluster k).position = some p) (him : s.image c = some im)
    (hr : s.round? c h = some r) (hb : im.block p = some b) (hg : b.gapSince i s.entry = some g)
    (hfrozen : r.frozen = true) (hst : r.state = .closed) (hring : (im.template h).isRing = true)
    (hone : b.cursors.zipIdx.filter (b.stages h) = [(d, i)]) :
    ∃ t, exec (.ringStageInOut k c h) s = .next t ∧
      t.round? c h = some (r.stageCursor im h p i b d (decide (r.frozenBeat + g ≤ s.hal.beatCount))) ∧
      t = { s with rounds := t.rounds } := by
  have hmem : (d, i) ∈ b.cursors.zipIdx.filter (b.stages h) := hone ▸ List.mem_singleton_self _
  have hat := Round.stagesAt_of_gap (im := im) (p := p) (beat := s.hal.beatCount) hg (List.mem_filter.mp hmem).2 hst
  refine ⟨_, (exec_ringStageInOut hpos him hr hb).trans (if_neg (by simp [hfrozen, hst, hring])), ?_, rfl⟩
  rw [State.round?_updRound_of_some (fun r => r.same_foldl_stagesAt ..) hr, Round.foldl_stagesAt hone, hat]

/-- Outside the gaps of its one ring-tile cursor a round is left. -/
theorem ringStageInOut_waits (hpos : (s.cluster k).position = some p) (him : s.image c = some im)
    (hr : s.round? c h = some r) (hb : im.block p = some b) (hg : b.gapSince i s.entry = none)
    (hone : b.cursors.zipIdx.filter (b.stages h) = [(d, i)]) :
    ∃ t, exec (.ringStageInOut k c h) s = .next t ∧ t.round? c h = some r := by
  rw [exec_ringStageInOut hpos him hr hb]
  split
  · exact ⟨s, rfl, hr⟩
  · refine ⟨_, rfl, ?_⟩
    rw [State.round?_updRound_of_some (fun r => r.same_foldl_stagesAt ..) hr, Round.foldl_stagesAt hone,
      Round.stagesAt_of_no_gap hg]

/-- A cursor that stands on a ring tile, without a working copy, stages the tile in (R201). -/
theorem ringStageInOut_stages_in {y : RingTile} (hpos : (s.cluster k).position = some p) (him : s.image c = some im)
    (hr : s.round? c h = some r) (hb : im.block p = some b) (hg : b.gapSince i s.entry = some g)
    (hfrozen : r.frozen = true) (hst : r.state = .closed) (hring : (im.template h).isRing = true)
    (hone : b.cursors.zipIdx.filter (b.stages h) = [(d, i)]) (hleft : (r.cursorAt p i).pos < d.count)
    (hw : r.working? p i = none) (hy : r.ringTile (d.first + (r.cursorAt p i).pos) = some y) :
    ∃ t q, exec (.ringStageInOut k c h) s = .next t ∧ t.round? c h = some q ∧
      q.working? p i = some (r.freshCopy (im.template h) p i (d.first + (r.cursorAt p i).pos) y
        (decide (r.frozenBeat + g ≤ s.hal.beatCount))) ∧
      q = { r with ring := { r.ring with working := q.ring.working } } ∧ t = { s with rounds := t.rounds } := by
  obtain ⟨t, hexec, hq, hframe⟩ := ringStageInOut_stages (k := k) hpos him hr hb hg hfrozen hst hring hone
  rw [Round.stageCursor_of_empty hw hleft] at hq
  refine ⟨t, _, hexec, hq, Round.working?_stagesIn hw rfl hy, ?_, hframe⟩
  unfold Round.stagesIn
  rw [hy]

/-- What a stage-out leaves, with the stage-in that follows it: the tile's store and OUT, and the next tile's copy. -/
structure Round.StagesNext (r : Round) (p i : Nat) (d : CursorDef) (w : WorkingCopy) (y : RingTile) (q : Round) :
    Prop where
  stages : r.Stages q
  tile : q.ringTile w.tile = some y
  pos : (q.cursorAt p i).pos = (r.cursorAt p i).pos + 1
  next : ∀ v, q.working? p i = some v → v.tile = d.first + (r.cursorAt p i).pos + 1 ∧ v.step = 0
  last : d.count ≤ (r.cursorAt p i).pos + 1 → q.working? p i = none

theorem Round.stagesNext_stageCursor {whole : Bool} {w : WorkingCopy} {y : RingTile} (hw : r.working? p i = some w)
    (hm : b.baseLength i ≤ w.step) (hy : r.ringTile w.tile = some y) :
    r.StagesNext p i d w (y.stagedOut w (r.state == .closed)) (r.stageCursor im h p i b d whole) := by
  have hempty := r.working?_stagedOut p i w
  have hpos := r.cursorAt_stagedOut p i w
  have hstages := r.stages_stageCursor im h p i b d whole
  rw [Round.stageCursor_of_ended hw hm, hpos] at hstages ⊢
  by_cases hlast : d.count ≤ (r.cursorAt p i).pos + 1
  · rw [if_pos hlast] at hstages ⊢
    exact ⟨hstages, Round.ringTile_stagedOut hy, hpos, by simp [hempty], fun _ => hempty⟩
  · rw [if_neg hlast] at hstages ⊢
    refine ⟨hstages, ?_, ?_, fun v hv => ?_, fun h => absurd h hlast⟩
    · rw [Round.ringTile_stagesIn, Round.ringTile_stagedOut hy]
    · rw [Round.cursorAt_stagesIn, hpos]
    · cases hnext : (r.stagedOut p i w).ringTile (d.first + ((r.stagedOut p i w).cursorAt p i).pos) with
      | none =>
        unfold Round.stagesIn at hv
        simp [hnext, hempty] at hv
      | some z =>
        rw [Round.working?_stagesIn hempty rfl hnext, Option.some.injEq] at hv
        rw [← hv, hpos]
        exact ⟨rfl, rfl⟩

/-- A cursor whose repetition has ended stages its tile out and the next one in (R201, R213). -/
theorem ringStageInOut_stages_out {y : RingTile} {w : WorkingCopy} (hpos : (s.cluster k).position = some p)
    (him : s.image c = some im) (hr : s.round? c h = some r) (hb : im.block p = some b)
    (hg : b.gapSince i s.entry = some g) (hfrozen : r.frozen = true) (hst : r.state = .closed)
    (hring : (im.template h).isRing = true) (hone : b.cursors.zipIdx.filter (b.stages h) = [(d, i)])
    (hw : r.working? p i = some w) (hm : b.baseLength i ≤ w.step) (hy : r.ringTile w.tile = some y) :
    ∃ t q, exec (.ringStageInOut k c h) s = .next t ∧ t.round? c h = some q ∧
      r.StagesNext p i d w (y.stagedOut w true) q ∧ t = { s with rounds := t.rounds } := by
  obtain ⟨t, hexec, hq, hframe⟩ := ringStageInOut_stages (k := k) hpos him hr hb hg hfrozen hst hring hone
  have hnext := Round.stagesNext_stageCursor (im := im) (h := h) (d := d)
    (whole := decide (r.frozenBeat + g ≤ s.hal.beatCount)) hw hm hy
  rw [hst] at hnext
  exact ⟨t, _, hexec, hq, hnext, hframe⟩

end

end Sys2Proof.Machine
end

section
/-!
DSCOMB (R180, R219, R231 to R234): one DECRYPT item is combined and decoded, makes its tile VOID or SPENT, or is refused.
-/
namespace Sys2Proof.Machine

/-- Ring tile of a DECRYPT item. -/
def Item.ringTile (x : Item) (tm : Template) : Nat := x.tile / max 1 tm.setTiles

/-- The state once an item that is not NULL has been taken and noted (R180). -/
def State.notesItem (s : State) (k p : Nat) (sp : RunningSpan) (r : Round) (x : Item) : State :=
  (s.takesItems k p 1 .dsComb sp r).updRound sp.ctx sp.desc.cohort fun r => r.noteItem p .dsComb x

/-- The round once a DECRYPT item has been taken and noted. -/
def Round.notes (r : Round) (p : Nat) (x : Item) : Round := (r.takeItems p .dsComb 1).2.noteItem p .dsComb x

/-- A ring tile's output is decoded. -/
def Round.isDecoded (r : Round) (n : Nat) : Bool := ((r.ringTile n).bind RingTile.out).any CtHeader.decoded

section
variable {s : State} {k p : Nat} {sp : RunningSpan} {im : PlanImage} {r : Round} {x : Item} {y : RingTile} {o : CtHeader}

theorem exec_dscomb_of_null (hc : s.Carries k 0x1A p sp) (hon : s.OnRound sp im r)
    (hitem : (r.takeItems p .dsComb 1).1 = [x]) (hx : x.kind = 0) :
    exec (.dscomb k) s = .next (s.takesItems k p 1 .dsComb sp r) := by
  have him : (s.spanDone k sp).image sp.ctx = some im := hon.1
  have hr : (s.spanDone k sp).round? sp.ctx sp.desc.cohort = some r := hon.2
  have hexec : exec (.dscomb k) s = .next (s.runSpan k 0x1A _) := rfl
  have hnone : [x].filter (fun x => x.kind != 0) = [] := by simp [hx]
  rw [hexec, State.runSpan_of_carries hc]
  simp only [him, hr, hitem, hnone]
  rfl

theorem exec_dscomb (hc : s.Carries k 0x1A p sp) (hon : s.OnRound sp im r)
    (hitem : (r.takeItems p .dsComb 1).1 = [x]) (hx : x.kind ≠ 0) :
    exec (.dscomb k) s = .next
      (if (r.takeItems p .dsComb 1).2.decryptRefusal im sp.desc.cohort p x = 0 then
        (s.notesItem k p sp r x).withRoundKey (r.takeItems p .dsComb 1).2 0 (some masterRg)
          (fun s => s.ringFault sp.ctx sp.desc.cohort (x.ringTile (im.template sp.desc.cohort)))
          fun _ => (s.notesItem k p sp r x).decryptItem k im sp (r.takeItems p .dsComb 1).2 x
      else (if (r.takeItems p .dsComb 1).2.isDecoded (x.ringTile (im.template sp.desc.cohort)) then s.notesItem k p sp r x
          else (s.notesItem k p sp r x).updRound sp.ctx sp.desc.cohort fun r =>
            r.voidSet (x.ringTile (im.template sp.desc.cohort)) 2).record
        ((r.takeItems p .dsComb 1).2.decryptRefusal im sp.desc.cohort p x) (srcCluster k) (some sp.ctx)
        (leBytes 4 (r.takeItems p .dsComb 1).2.cohortId ++ leBytes 4 x.tile)) := by
  have him : (s.spanDone k sp).image sp.ctx = some im := hon.1
  have hr : (s.spanDone k sp).round? sp.ctx sp.desc.cohort = some r := hon.2
  have hexec : exec (.dscomb k) s = .next (s.runSpan k 0x1A _) := rfl
  have hone : [x].filter (fun x => x.kind != 0) = [x] := by simp [hx]
  rw [hexec, State.runSpan_of_carries hc]
  simp only [him, hr, hitem, hone]
  rfl

/-- The round once a DECRYPT item has been noted. -/
theorem State.became_notesItem (hon : s.OnRound sp im r) (k p : Nat) (x : Item) :
    (s.spanDone k sp).Became sp.ctx sp.desc.cohort (· = r.notes p x) (s.notesItem k p sp r x) := by
  refine (State.became_takesItems hon k p 1 .dsComb).andThen ?_
  rintro q hq rfl
  exact State.became_updRound (fun r => r.noteItem p .dsComb x) (Round.same_noteItem _ _ _) hq

/-- Taking and noting an item touches the mask side only. -/
theorem Round.notes_frame (r : Round) (p : Nat) (x : Item) : ∃ m, r.notes p x = { r with mask := m } := by
  obtain ⟨ls, heq⟩ := r.takeItems_frame p .dsComb 1
  refine ⟨(r.notes p x).mask, ?_⟩
  unfold Round.notes
  rw [heq]
  rfl

/-- Only a DECRYPT item passes the tests of R180. -/
theorem Round.kind_of_decryptRefusal {h : Nat} (hrefusal : r.decryptRefusal im h p x = 0) : x.kind = 7 := by
  by_contra hkind
  simp [Round.decryptRefusal, hkind] at hrefusal

/-- Decoding does not read what items are noted. -/
theorem Round.decodeTile_notes (r : Round) (p : Nat) (x : Item) (im : PlanImage) (tm : Template) (n level : Nat)
    (y : RingTile) (z : Item) :
    (r.notes p x).decodeTile im tm n level y z = (r.takeItems p .dsComb 1).2.decodeTile im tm n level y z := rfl

theorem Round.isDecoded_of_out {n : Nat} (hy : r.ringTile n = some y) (ho : y.out = some o) :
    r.isDecoded n = o.decoded := by
  unfold Round.isDecoded
  rw [hy, Option.bind_some, ho, Option.any_some]

/-- The output of a ring tile whose DECRYPT item fails its check (R219). -/
def CtHeader.refusedOut (o out : CtHeader) (v : Nat × Nat × Nat) : CtHeader :=
  { out with status := v.1, cause := v.2.1, causeOpcode := if v.2.2 = 0 then o.causeOpcode else 0x1A }

theorem State.decryptItem_of_passes (hy : r.ringTile (x.ringTile (im.template sp.desc.cohort)) = some y)
    (ho : y.out = some o) (hv : slotStart im (im.template sp.desc.cohort) sp.desc y.agg o true = (0, 0, 0)) :
    s.decryptItem k im sp r x = s.updRound sp.ctx sp.desc.cohort fun q =>
      q.storeDecoded (im.template sp.desc.cohort) (x.ringTile (im.template sp.desc.cohort))
        (outHeader im (im.template sp.desc.cohort) 0x1A y.agg o)
        (q.decodeTile im (im.template sp.desc.cohort) (x.ringTile (im.template sp.desc.cohort)) o.level y x) := by
  unfold Item.ringTile at hy ⊢
  unfold State.decryptItem
  simp only [hy, ho, Option.bind_some, Option.map_some, hv, ne_eq, not_true_eq_false, if_false]

theorem State.decryptItem_of_fails (hy : r.ringTile (x.ringTile (im.template sp.desc.cohort)) = some y)
    (ho : y.out = some o) (hv : (slotStart im (im.template sp.desc.cohort) sp.desc y.agg o true).1 ≠ 0) :
    s.decryptItem k im sp r x = (s.updRound sp.ctx sp.desc.cohort fun q =>
      q.updTile (x.ringTile (im.template sp.desc.cohort)) fun z => { z with
        out := some (o.refusedOut (outHeader im (im.template sp.desc.cohort) 0x1A y.agg o)
          (slotStart im (im.template sp.desc.cohort) sp.desc y.agg o true)) }).reportRing k sp.ctx sp.desc.cohort
      (x.ringTile (im.template sp.desc.cohort)) sp.lead
      (slotStart im (im.template sp.desc.cohort) sp.desc y.agg o true).2.2 (im.template sp.desc.cohort) := by
  unfold Item.ringTile at hy ⊢
  unfold State.decryptItem
  simp only [hy, ho, Option.bind_some, Option.map_some, if_pos hv]
  rfl

theorem Round.ringTile_storeDecoded {n : Nat} (hy : r.ringTile n = some y) (tm : Template) (out : CtHeader)
    (coeffs : List Nat) :
    (r.storeDecoded tm n out coeffs).ringTile n = some { y with out := some { out with decoded := true } } := by
  have hy' (v : Round) (hv : v.ring = r.ring) : v.ringTile n = some y := by
    rw [← hy, Round.ringTile, hv, Round.ringTile]
  unfold Round.storeDecoded
  exact Round.ringTile_updTile (hy' _ (by rfl)) _

/-- The item of an execution that is not refused, where its key is held. -/
theorem exec_dscomb_of_admitted (hc : s.Carries k 0x1A p sp) (hon : s.OnRound sp im r)
    (hitem : (r.takeItems p .dsComb 1).1 = [x]) (hkey : (s.roundKey? r 0 (some masterRg)).isSome = true)
    (hrefusal : (r.takeItems p .dsComb 1).2.decryptRefusal im sp.desc.cohort p x = 0) :
    exec (.dscomb k) s =
      .next ((s.notesItem k p sp r x).decryptItem k im sp (r.takeItems p .dsComb 1).2 x) := by
  have hx : x.kind ≠ 0 := by rw [Round.kind_of_decryptRefusal hrefusal]; decide
  obtain ⟨key, hkey⟩ := Option.isSome_iff_exists.mp hkey
  rw [← State.roundKey?_takesItems (p := p) (n := 1) (kind := .dsComb) (k := k) (sp := sp)] at hkey
  have hkey' : (s.notesItem k p sp r x).roundKey? (r.takeItems p .dsComb 1).2 0 (some masterRg) = some key := hkey
  rw [exec_dscomb hc hon hitem hx, if_pos hrefusal, State.withRoundKey_of_some hkey']

section
variable {n : Nat} (hc : s.Carries k 0x1A p sp) (hon : s.OnRound sp im r)
  (hitem : (r.takeItems p .dsComb 1).1 = [x]) (hn : x.ringTile (im.template sp.desc.cohort) = n)
  (hy : r.ringTile n = some y) (ho : y.out = some o)
include hc hon hitem hn hy ho

/-- A DECRYPT item whose check passes decodes its tile (R232 to R234). -/
theorem dscomb_decodes (hkey : (s.roundKey? r 0 (some masterRg)).isSome = true)
    (hrefusal : (r.takeItems p .dsComb 1).2.decryptRefusal im sp.desc.cohort p x = 0)
    (hv : slotStart im (im.template sp.desc.cohort) sp.desc y.agg o true = (0, 0, 0)) :
    ∃ t q, exec (.dscomb k) s = .next t ∧ t.round? sp.ctx sp.desc.cohort = some q ∧
      q = (r.notes p x).storeDecoded (im.template sp.desc.cohort) n
        (outHeader im (im.template sp.desc.cohort) 0x1A y.agg o)
        ((r.takeItems p .dsComb 1).2.decodeTile im (im.template sp.desc.cohort) n o.level y x) ∧
      (q.ringTile n).map RingTile.out =
        some (some { outHeader im (im.template sp.desc.cohort) 0x1A y.agg o with decoded := true }) ∧
      t = { s with clusters := t.clusters, rounds := t.rounds } := by
  subst hn
  obtain ⟨-, u, hu, rfl⟩ := State.became_notesItem hon k p x
  obtain ⟨ls, htakes⟩ := r.takeItems_frame p .dsComb 1
  obtain ⟨m, hnotes⟩ := r.notes_frame p x
  have hround := State.round?_updRound_of_some (f := fun q => q.storeDecoded (im.template sp.desc.cohort)
    (x.ringTile (im.template sp.desc.cohort)) (outHeader im (im.template sp.desc.cohort) 0x1A y.agg o)
    (q.decodeTile im (im.template sp.desc.cohort) (x.ringTile (im.template sp.desc.cohort)) o.level y x))
    (fun _ => ⟨rfl, rfl, rfl⟩) hu
  rw [Round.decodeTile_notes] at hround
  refine ⟨_, _, (exec_dscomb_of_admitted hc hon hitem hkey hrefusal).trans (congrArg _ (State.decryptItem_of_passes
    (by rw [htakes]; exact hy) ho hv)), hround, rfl, ?_, rfl⟩
  rw [Round.ringTile_storeDecoded (y := y) (by rw [hnotes]; exact hy), Option.map_some]

/-- A DECRYPT item whose check fails makes its tile VOID or SPENT, and decodes nothing (R219). -/
theorem dscomb_fails (hkey : (s.roundKey? r 0 (some masterRg)).isSome = true)
    (hrefusal : (r.takeItems p .dsComb 1).2.decryptRefusal im sp.desc.cohort p x = 0)
    (hv : (slotStart im (im.template sp.desc.cohort) sp.desc y.agg o true).1 ≠ 0) :
    ∃ t q z, exec (.dscomb k) s = .next t ∧ t.round? sp.ctx sp.desc.cohort = some q ∧
      (q.ringTile n).map RingTile.out = some (some z) ∧ z.decoded = o.decoded ∧ q.sets = r.sets ∧
      z.status = (slotStart im (im.template sp.desc.cohort) sp.desc y.agg o true).1 ∧
      z.cause = (slotStart im (im.template sp.desc.cohort) sp.desc y.agg o true).2.1 := by
  subst hn
  obtain ⟨-, u, hu, rfl⟩ := State.became_notesItem hon k p x
  obtain ⟨ls, htakes⟩ := r.takeItems_frame p .dsComb 1
  obtain ⟨m, hnotes⟩ := r.notes_frame p x
  have hround := State.round?_updRound_of_some (f := fun q => q.updTile (x.ringTile (im.template sp.desc.cohort)) fun z =>
    { z with out := some (o.refusedOut (outHeader im (im.template sp.desc.cohort) 0x1A y.agg o)
      (slotStart im (im.template sp.desc.cohort) sp.desc y.agg o true)) }) (fun _ => ⟨rfl, rfl, rfl⟩) hu
  obtain ⟨-, q, hq, hreports⟩ := State.became_reportRing hround k (x.ringTile (im.template sp.desc.cohort)) sp.lead
    (slotStart im (im.template sp.desc.cohort) sp.desc y.agg o true).2.2 (im.template sp.desc.cohort)
  have hy' : (r.notes p x).ringTile (x.ringTile (im.template sp.desc.cohort)) = some y := by rw [hnotes]; exact hy
  obtain ⟨l, hl⟩ := hreports.tile _ (Round.ringTile_updTile hy' _)
  refine ⟨_, q, o.refusedOut (outHeader im (im.template sp.desc.cohort) 0x1A y.agg o)
    (slotStart im (im.template sp.desc.cohort) sp.desc y.agg o true), (exec_dscomb_of_admitted hc hon hitem hkey
      hrefusal).trans (congrArg _ (State.decryptItem_of_fails (by rw [htakes]; exact hy) ho hv)), hq, ?_, rfl, ?_, rfl,
    rfl⟩
  · rw [hl, Option.map_some]
  · rw [hreports.frame, hnotes]
    rfl

/-- A refused DECRYPT item makes its tile set VOID in the unmask record, unless the tile is decoded (R180). -/
theorem dscomb_refuses (hx : x.kind ≠ 0)
    (hrefusal : (r.takeItems p .dsComb 1).2.decryptRefusal im sp.desc.cohort p x ≠ 0) (hlen : n < r.sets.length) :
    ∃ t q, exec (.dscomb k) s = .next t ∧ t.round? sp.ctx sp.desc.cohort = some q ∧ q.ring = r.ring ∧
      (o.decoded = true → q.sets = r.sets) ∧
      (o.decoded = false → (r.set n).unmask ≠ 1 → (q.set n).unmask = 2 ∧ (q.set n).cause = 2) := by
  subst hn
  obtain ⟨hframe, u, hu, rfl⟩ := State.became_notesItem hon k p x
  obtain ⟨ls, htakes⟩ := r.takeItems_frame p .dsComb 1
  obtain ⟨m, hnotes⟩ := r.notes_frame p x
  have hdecoded : (r.takeItems p .dsComb 1).2.isDecoded (x.ringTile (im.template sp.desc.cohort)) = o.decoded :=
    Round.isDecoded_of_out (by rw [htakes]; exact hy) ho
  have hexec := exec_dscomb hc hon hitem hx
  rw [if_neg hrefusal, hdecoded] at hexec
  cases hout : o.decoded with
  | true =>
    rw [hout, if_pos rfl] at hexec
    refine ⟨_, _, hexec, (State.round?_congr (State.record_rounds ..)).trans hu, ?_, fun _ => ?_, nofun⟩
    · rw [hnotes]
    · rw [hnotes]
  | false =>
    rw [hout, if_neg Bool.false_ne_true] at hexec
    have hround := State.round?_updRound_of_some (f := fun q => q.voidSet (x.ringTile (im.template sp.desc.cohort)) 2)
      (fun q => (q.voids_voidSet _ 2).same) hu
    refine ⟨_, _, hexec, (State.round?_congr (State.record_rounds ..)).trans hround, ?_, nofun, fun _ hset => ?_⟩
    · rw [hnotes]
      rfl
    · have hvoid := Round.set_voidSet (r := r.notes p x) (k := x.ringTile (im.template sp.desc.cohort))
        (by rw [hnotes]; exact hlen) 2 (by rw [hnotes]; exact hset)
      rw [hvoid]
      exact ⟨rfl, rfl⟩

end

end

end Sys2Proof.Machine
end

section
/-!
The obligation on the ring opcodes, RING_STAGE_IN_OUT and DSCOMB.
-/
namespace Sys2Proof.Machine

/-- Settles O51: a ring opcode by its operation and the three ends of a descriptor, C1OUT by what follows its descriptor,
a staging by its two halves, and DSCOMB by the fate of its item. -/
theorem ringTilesAreWorkedOn : Obligations.RingTilesAreWorkedOn := by
  unfold Obligations.RingTilesAreWorkedOn
  refine ⟨?plain, ?keyed, ?refused, ?exports, ?stageIn, ?noGap, ?stageOut, ?decrypt⟩
  case plain =>
    intro s k p sp im r w y x hx hc hon hw hy hv
    have hring : s.CarriesRing k x.2.1 p sp im r w y := ⟨hc, hon, hw, hy⟩
    simp only [List.mem_cons, List.not_mem_nil, or_false] at hx
    rcases hx with rfl | rfl | rfl | rfl | rfl | rfl
    all_goals exact ring_runs rfl hring hv rfl
  case keyed =>
    intro s k p sp im r w y a b tm h x hx hc hon hw hy hfits hv
    have hring : s.CarriesRing k x.2.1 p sp im r w y := ⟨hc, hon, hw, hy⟩
    simp only [List.mem_cons, List.not_mem_nil, or_false] at hx
    rcases hx with rfl | rfl | rfl
    all_goals exact ring_switches rfl hring hfits hv (congrArg (Option.map _)) (congrArg (Option.map _))
  case refused =>
    intro s k p sp im r w y tm fits x hx hc hon hw hy hv
    have hring : s.CarriesRing k x.2.1 p sp im r w y := ⟨hc, hon, hw, hy⟩
    simp only [List.mem_cons, List.not_mem_nil, or_false] at hx
    rcases hx with rfl | rfl | rfl | rfl | rfl | rfl | rfl | rfl | rfl | rfl
    iterate 5 exact ring_fails (usesKey := false) rfl hring hv
    iterate 3 exact ring_fails (usesKey := true) rfl hring hv
    · exact ring_fails (usesKey := false) rfl hring hv
    · exact ring_fails (exec_c1out_of_refused hring hv) hring hv
  case exports =>
    intro s k p sp im r w y key tm hc hon hw hy hv hclosed hblock
    have hring : s.CarriesRing k 0x19 p sp im r w y := ⟨hc, hon, hw, hy⟩
    refine ⟨fun hdown => c1out_replays hring hv hclosed hblock hdown, fun hup hkey => ?_⟩
    obtain ⟨t, q, v, hexec, hq, hcopy, hsealed, hlimbs, hstep, hnew, hkept, hsent, hround, hframe⟩ :=
      c1out_exports hring hv hclosed hblock hup hkey
    refine ⟨t, q, v, hexec, hq, hcopy, hsealed, hlimbs, hstep, hnew, hkept, fun i x c hone => hsent i x c ?_, hround,
      hframe⟩
    rw [Round.members, List.filter_filter, ← hone]
    exact List.filter_congr fun x _ => Bool.and_comm ..
  case stageIn =>
    intro s k p ctx j i g im r b c y hpos him hr hb hg hfrozen hst hring hone hleft hw hy
    exact ringStageInOut_stages_in hpos him hr hb hg hfrozen hst hring hone hleft hw hy
  case noGap =>
    intro s k p ctx j i im r b c hpos him hr hb hone hg
    exact ringStageInOut_waits hpos him hr hb hg hone
  case stageOut =>
    intro s k p ctx j i g im r b c y w hpos him hr hb hg hfrozen hst hring hone hw hm hy
    obtain ⟨t, q, hexec, hq, hnext, hframe⟩ :=
      ringStageInOut_stages_out (k := k) hpos him hr hb hg hfrozen hst hring hone hw hm hy
    exact ⟨t, q, hexec, hq, hnext.tile, hnext.pos, hnext.next, hnext.last, hnext.stages, hframe⟩
  case decrypt =>
    intro s k p sp im r x y o tm n r' hc hon hitem hy ho hkey
    exact ⟨fun hrefusal hv => dscomb_decodes hc hon hitem rfl hy ho hkey hrefusal hv,
      fun hrefusal hv => dscomb_fails hc hon hitem rfl hy ho hkey hrefusal hv,
      fun hx hrefusal hlen => dscomb_refuses hc hon hitem rfl hy ho hx hrefusal hlen,
      fun hx => exec_dscomb_of_null hc hon hitem hx⟩

end Sys2Proof.Machine
end

section
/-!
Items of FINISH (R240 to R248, R252): the heads of an item's term FIFO, what the generators of the cores change, and what
the run of one item does to its round.
-/
namespace Sys2Proof.Machine

/-! The heads of the term FIFO (R248). -/

/-- An item after its attempts, with its noise record and its finish record. -/
def FinishItem.ends (x : FinishItem) (repeats : Nat) (noise : List Int) (f : FinishRec) : FinishItem :=
  { x.run repeats with noise := noise, result := some f }

/-- From `x` to `y` an item has run: MARK and READ have moved past its records, and nothing else of what was filled has
changed. -/
structure FinishItem.Ran (x y : FinishItem) : Prop where
  frame : y = { x with noise := y.noise, result := y.result, mark := y.mark, read := y.read }
  result : y.result.isSome = true
  mark : y.mark = y.read
  read : x.read + x.terms.length ≤ y.read

/-- Every repeat reads the records of the first attempt again: the heads end where one attempt leaves them. -/
theorem FinishItem.walk_of_mark_eq {x : FinishItem} (h : x.mark = x.read) (n : Nat) :
    x.walk n = { x with mark := x.read + x.terms.length, read := x.read + x.terms.length } := by
  induction n with
  | zero => rfl
  | succ n ih =>
    have hagain : x.passes.again = x := congrArg (fun n => { x with read := n }) h
    exact (congrArg (FinishItem.walk · n) hagain).trans ih

theorem FinishItem.run_eq (x : FinishItem) (n : Nat) :
    x.run n = { x with mark := x.read + x.terms.length, read := x.read + x.terms.length } :=
  FinishItem.walk_of_mark_eq (x := { x with mark := x.read }) rfl n

theorem FinishItem.ran_ends (x : FinishItem) (n : Nat) (noise : List Int) (f : FinishRec) :
    x.Ran (x.ends n noise f) := by
  unfold FinishItem.ends
  rw [x.run_eq n]
  exact ⟨rfl, rfl, rfl, le_rfl⟩

theorem FinishItem.Ran.trans {x y z : FinishItem} (h : x.Ran y) (g : y.Ran z) : x.Ran z := by
  refine ⟨?_, g.result, g.mark, ?_⟩
  · rw [g.frame, h.frame]
  · exact h.read.trans ((Nat.le_add_right ..).trans g.read)

/-! Items of a round. -/

/-- The items of an output tile end. -/
def Round.endsItems (r : Round) (tile n : Nat) (noise : List Int) (f : FinishRec) : Round :=
  { r with finishItems := updIf r.finishItems (fun y => y.tile == tile) fun y => y.ends n noise f }

/-- From `r` to `q` items have run, among them all those of the output tiles `l`. -/
structure Round.Finishes (r : Round) (l : List Nat) (q : Round) : Prop where
  frame : q = { r with finishItems := q.finishItems }
  items : ∀ x ∈ r.finishItems, ∃ y ∈ q.finishItems, (y = x ∨ x.Ran y) ∧ (x.tile ∈ l → x.Ran y)

section
variable {r q u : Round} {l m : List Nat}

theorem Round.Finishes.refl (r : Round) : r.Finishes [] r :=
  ⟨rfl, fun x hx => ⟨x, hx, .inl rfl, fun h => absurd h List.not_mem_nil⟩⟩

theorem Round.Finishes.trans (h : r.Finishes l q) (g : q.Finishes m u) : r.Finishes (l ++ m) u := by
  refine ⟨by rw [g.frame, h.frame], fun x hx => ?_⟩
  obtain ⟨y, hy, hxy, hl⟩ := h.items x hx
  obtain ⟨z, hz, hyz, hm⟩ := g.items y hy
  refine ⟨z, hz, ?_, fun hmem => ?_⟩
  · rcases hxy with rfl | hxy
    · exact hyz
    · rcases hyz with rfl | hyz
      · exact .inr hxy
      · exact .inr (hxy.trans hyz)
  · rcases List.mem_append.mp hmem with hin | hin
    · rcases hyz with rfl | hyz
      · exact hl hin
      · exact (hl hin).trans hyz
    · rcases hxy with rfl | hxy
      · exact hm hin
      · exact hxy.trans (hm (by rw [hxy.frame]; exact hin))

theorem Round.finishes_endsItems (r : Round) (tile n : Nat) (noise : List Int) (f : FinishRec) :
    r.Finishes [tile] (r.endsItems tile n noise f) := by
  refine ⟨rfl, fun x hx => ⟨_, List.mem_map_of_mem hx, ?_⟩⟩
  have hran := x.ran_ends n noise f
  by_cases htile : x.tile = tile
  · simp [htile, hran]
  · simp [htile]

theorem Round.same_endsItems (tile n : Nat) (noise : List Int) (f : FinishRec) (r : Round) :
    r.Same (r.endsItems tile n noise f) := ⟨rfl, rfl, rfl⟩

/-- A round's only item ends. -/
theorem Round.finishItems_endsItems {x : FinishItem} (hone : r.finishItems = [x]) (n : Nat) (noise : List Int)
    (f : FinishRec) : (r.endsItems x.tile n noise f).finishItems = [x.ends n noise f] := by
  simp [Round.endsItems, updIf, hone]

end

/-! What generators and counters change. -/

/-- What a generator leaves alone: the state without generators and draws. -/
def State.offDrbgs (s : State) : State := { s with drbgs := [], draws := 0 }

/-- What an item's attempts leave alone: contexts, and what records touch, are left out as well. -/
def State.offNoise (s : State) : State := { s.offDrbgs.unrecorded with ctxs := [] }

/-- What FINISH leaves alone outside of its cluster: rounds are left out as well. -/
def State.offFinish (s : State) : State := { s.offNoise with rounds := [] }

/-- From `s` to `u` generators have drawn at most. -/
structure State.Samples (s u : State) : Prop where
  frame : u.offDrbgs = s.offDrbgs
  length : u.drbgs.length = s.drbgs.length

section
variable {s t u : State}

theorem State.Samples.refl (s : State) : s.Samples s := ⟨rfl, rfl⟩

theorem State.Samples.trans (h : s.Samples t) (g : t.Samples u) : s.Samples u :=
  ⟨g.frame.trans h.frame, g.length.trans h.length⟩

theorem State.samples_updDrbg (s : State) (k n : Nat) (f : Drbg → Drbg) : s.Samples (s.updDrbg k n f) :=
  ⟨rfl, List.length_modify ..⟩

theorem State.samples_reseedDue (s : State) (k n : Nat) : s.Samples (s.reseedDue k n) := by
  unfold State.reseedDue
  dsimp only
  split
  · exact State.Samples.trans (t := (s.draw 48).2) ⟨rfl, rfl⟩ (State.samples_updDrbg ..)
  · exact .refl s

theorem State.samples_generate (k n reqs : Nat) (s : State) : s.Samples (State.generate k n reqs s).2 := by
  induction reqs generalizing s with
  | zero => exact .refl s
  | succ m ih => exact ((s.samples_reseedDue k n).trans (State.samples_updDrbg ..)).trans (ih _)

theorem State.Samples.offNoise (h : s.Samples u) : u.offNoise = s.offNoise :=
  (congrArg (fun v : State => { v.unrecorded with ctxs := [] }) h.frame :)

theorem State.offNoise_record (s : State) (code source : Nat) (ctx : Option Nat) (p : Bytes) :
    (s.record code source ctx p).offNoise = s.offNoise :=
  (congrArg State.offNoise (s.record_unrecorded (code := code) (source := source) (ctx := ctx) (p := p)) :)

/-- Repeats are recorded and counted (R246). -/
theorem State.offNoise_foldl_repeats (s : State) (c m code source : Nat) (p : Bytes) (f : Counters → Counters) :
    ((List.range m).foldl (fun (s : State) _ => (s.record code source (some c) p).count c f) s).offNoise = s.offNoise :=
  foldl_keeps State.offNoise (g := fun s _ => (s.record code source (some c) p).count c f)
    (fun s _ => s.offNoise_record code source (some c) p) ..

theorem State.offNoise_record_ite (s : State) (b : Prop) [Decidable b] (code source : Nat) (ctx : Option Nat)
    (p : Bytes) :
    (if b then s.record code source ctx p else s).offNoise = s.offNoise := by
  split
  · exact s.offNoise_record ..
  · rfl

theorem State.rounds_of_offNoise (h : t.offNoise = s.offNoise) : t.rounds = s.rounds := (congrArg State.rounds h :)

theorem State.offFinish_of_offNoise (h : t.offNoise = s.offNoise) : t.offFinish = s.offFinish :=
  (congrArg (fun v : State => { v with rounds := [] }) h :)

/-- A state that agrees with another in what FINISH leaves alone, written as an update of it. -/
theorem State.eq_of_offFinish {cs : List Cluster} (h : t.offFinish = { s with clusters := cs }.offFinish) :
    t = { s with set := t.set, setA := t.setA, setB := t.setB, slotB := t.slotB, recorder := t.recorder, mgmt := t.mgmt,
                 ctxs := t.ctxs, clusters := t.clusters, rounds := t.rounds, drbgs := t.drbgs, draws := t.draws } :=
  congrArg (fun v : State =>
    { v with set := t.set, setA := t.setA, setB := t.setB, slotB := t.slotB, recorder := t.recorder, mgmt := t.mgmt,
             ctxs := t.ctxs, clusters := t.clusters, rounds := t.rounds, drbgs := t.drbgs, draws := t.draws }) h

/-- A state that agrees with another outside of generators, rounds and what records touch, written as an update of
it. -/
theorem State.eq_of_offRecords_drbgs {ds : List Drbg} {m : Nat}
    (h : t.offRecords = { s with drbgs := ds, draws := m }.offRecords) :
    t = { s with set := t.set, setA := t.setA, setB := t.setB, slotB := t.slotB, recorder := t.recorder, mgmt := t.mgmt,
                 rounds := t.rounds, drbgs := t.drbgs, draws := t.draws } :=
  congrArg (fun v : State =>
    { v with set := t.set, setA := t.setA, setB := t.setB, slotB := t.slotB, recorder := t.recorder, mgmt := t.mgmt,
             rounds := t.rounds, drbgs := t.drbgs, draws := t.draws }) h

theorem State.cluster_of_offFinish (h : t.offFinish = s.offFinish) (i : Nat) : t.cluster i = s.cluster i :=
  (congrArg (fun v : State => v.cluster i) h :)

end

/-! The run of one item (R240 to R246, R252). -/

/-- Faults that an output tile's finish record counts. -/
def Round.faultsAt (r : Round) (tile : Nat) : Nat := ((r.finishRecs[tile]?).map FinishRec.faults).getD 0

/-- Why input tiles stop an item, in term order (R252). -/
def Round.stops (r : Round) (tm : Template) (spec : FinishSpec) (tile : Nat) : List Nat :=
  (spec.inputs tile).map fun i => r.inputState tm i

theorem Round.contains_stops {r : Round} {tm : Template} {spec : FinishSpec} {tile m : Nat} :
    (r.stops tm spec tile).contains m = true ↔ ∃ i ∈ spec.inputs tile, r.inputState tm i = m := by
  rw [List.contains_iff_mem, Round.stops, List.mem_map]

theorem Round.contains_stops_eq_false {r : Round} {tm : Template} {spec : FinishSpec} {tile m : Nat} :
    (r.stops tm spec tile).contains m = false ↔ ∀ i ∈ spec.inputs tile, r.inputState tm i ≠ m := by
  rw [← Bool.not_eq_true, Round.contains_stops]
  simp

/-- An item's core adds noise (R243, R244). -/
def State.addsNoise (s : State) (k core : Nat) (spec : FinishSpec) : Bool :=
  spec.sigma != 0 && (s.drbg k core).instantiated && !(s.drbg k core).error

/-- The noise record of an item (R242, R243). -/
def State.itemNoise (s : State) (k core : Nat) (tm : Template) (spec : FinishSpec) (x : FinishItem) : List Int :=
  if s.addsNoise k core spec then noiseSamples spec.sigma (State.generate k core (fmtElems tm.format / 4096) s).1
  else x.noise

/-- The attempts of an item: those from its cut on add no noise (R246, R256). -/
def State.itemAttempts (s : State) (k core : Nat) (tm : Template) (spec : FinishSpec) (x : FinishItem) :
    FinishRec × Nat :=
  attempts tm spec x.terms (fun n => if n < x.cut.getD 4 then s.itemNoise k core tm spec x else [])
    (s.addsNoise k core spec) 4 0

section
variable {s : State} {k c h core : Nat} {r : Round} {tm : Template} {spec : FinishSpec} {x : FinishItem}

theorem State.finishItem_of_void (hr : s.round? c h = some r) (hvoid : (r.stops tm spec x.tile).contains 3 = true) :
    s.finishItem k c h core tm spec x =
      s.updRound c h fun q => q.endsItems x.tile 0 [] ⟨3, 0, 0, false, [], r.faultsAt x.tile⟩ := by
  unfold State.finishItem
  simp only [hr]
  exact if_pos hvoid

theorem State.finishItem_of_spent (hr : s.round? c h = some r) (hvoid : (r.stops tm spec x.tile).contains 3 = false)
    (hspent : (r.stops tm spec x.tile).contains 4 = true) :
    s.finishItem k c h core tm spec x =
      s.updRound c h fun q => q.endsItems x.tile 0 [] ⟨4, 0, 0, false, [], r.faultsAt x.tile⟩ := by
  unfold State.finishItem
  simp only [hr]
  exact (if_neg (ne_true_of_eq_false hvoid)).trans (if_pos hspent)

/-- An item none of whose inputs stops it: its attempts draw noise and count repeats, and nothing else is touched before
the item ends. -/
theorem State.finishItem_of_runs (hr : s.round? c h = some r) (hvoid : (r.stops tm spec x.tile).contains 3 = false)
    (hspent : (r.stops tm spec x.tile).contains 4 = false) :
    ∃ u : State, u.offNoise = s.offNoise ∧ s.finishItem k c h core tm spec x = u.updRound c h fun q =>
      q.endsItems x.tile (min 3 (s.itemAttempts k core tm spec x).2) (s.itemNoise k core tm spec x)
        { (s.itemAttempts k core tm spec x).1 with faults := r.faultsAt x.tile } := by
  have hwhy (m : Nat) (hm : (r.stops tm spec x.tile).contains m = false) :
      ¬((spec.inputs x.tile).map fun i => r.inputState tm i).contains m = true := ne_true_of_eq_false hm
  have hnoise : (spec.sigma != 0 && (s.drbg k core).instantiated && !(s.drbg k core).error) =
      s.addsNoise k core spec := rfl
  unfold State.finishItem State.itemAttempts State.itemNoise
  simp only [hr, if_neg (hwhy 3 hvoid), if_neg (hwhy 4 hspent), hnoise]
  cases happ : s.addsNoise k core spec with
  | false =>
    simp only [Bool.false_eq_true, if_false]
    exact ⟨_, (State.offNoise_record_ite ..).trans (State.offNoise_foldl_repeats ..), rfl⟩
  | true =>
    simp only [if_true]
    refine ⟨_, (State.offNoise_record_ite ..).trans ((State.offNoise_foldl_repeats ..).trans ?_), rfl⟩
    exact ((State.samples_generate ..).trans (State.samples_generate ..)).offNoise

/-- Whatever becomes of an item, the items of its output tile end in its round, and besides that generators, contexts and
records change at most. -/
theorem State.finishItem_ends (hr : s.round? c h = some r) (k core : Nat) (tm : Template) (spec : FinishSpec)
    (x : FinishItem) : ∃ (u : State) (n : Nat) (noise : List Int) (f : FinishRec), u.offNoise = s.offNoise ∧
      s.finishItem k c h core tm spec x = u.updRound c h fun q => q.endsItems x.tile n noise f := by
  cases hvoid : (r.stops tm spec x.tile).contains 3 with
  | true => exact ⟨s, _, _, _, rfl, State.finishItem_of_void hr hvoid⟩
  | false =>
    cases hspent : (r.stops tm spec x.tile).contains 4 with
    | true => exact ⟨s, _, _, _, rfl, State.finishItem_of_spent hr hvoid hspent⟩
    | false =>
      obtain ⟨u, hu, hrun⟩ := State.finishItem_of_runs (k := k) (core := core) hr hvoid hspent
      exact ⟨u, _, _, _, hu, hrun⟩

/-- Items one after another. -/
theorem State.foldl_finishItem (hr : s.round? c h = some r) (k : Nat) (tm : Template) (spec : FinishSpec)
    (l : List FinishItem) :
    let t := l.foldl (fun s x => s.finishItem k c h x.core tm spec x) s
    t.offFinish = s.offFinish ∧ ∃ q, t.round? c h = some q ∧ r.Finishes (l.map FinishItem.tile) q := by
  induction l generalizing s r with
  | nil => exact ⟨rfl, r, hr, .refl r⟩
  | cons x l ih =>
    obtain ⟨u, n, noise, f, hu, hrun⟩ := State.finishItem_ends hr k x.core tm spec x
    have hround := State.round?_updRound_of_some (Round.same_endsItems x.tile n noise f)
      ((State.round?_congr (State.rounds_of_offNoise hu)).trans hr)
    obtain ⟨hframe, q, hq, hfin⟩ := ih hround
    rw [List.foldl_cons, hrun]
    exact ⟨hframe.trans (State.offFinish_of_offNoise (t := u) hu :), q, hq, (r.finishes_endsItems ..).trans hfin⟩

end

/-! The command. -/

/-- The finish specification of a round's cohort. -/
def Round.finishSpec (r : Round) : FinishSpec := (policySpec r.policyObject r.cohortId).getD emptySpec

/-- A cursor of a round moves on by `n` output tiles. -/
def Round.finishMoves (r : Round) (p j n : Nat) : Round := r.updCursor p j fun q => { q with pos := q.pos + n }

theorem Round.cursorAt_finishMoves (r : Round) (p j n : Nat) :
    ((r.finishMoves p j n).cursorAt p j).pos = (r.cursorAt p j).pos + n := by
  rw [Round.finishMoves, Round.cursorAt_updCursor_same]
  exact fun _ => ⟨rfl, rfl⟩

section
variable {s : State} {k p : Nat} {sp : RunningSpan} {im : PlanImage} {r : Round} {x : FinishItem}

theorem exec_finish (hc : s.Carries k 0x20 p sp) (hon : s.OnRound sp im r) :
    exec (.finish k) s = .next (((r.nextItems p sp.desc.cursor).foldl
      (fun s x => s.finishItem k sp.ctx sp.desc.cohort x.core (im.template sp.desc.cohort) r.finishSpec x)
      (s.spanDone k sp)).updRound sp.ctx sp.desc.cohort fun q =>
        q.finishMoves p sp.desc.cursor (r.nextItems p sp.desc.cursor).length) := by
  have him : (s.spanDone k sp).image sp.ctx = some im := hon.1
  have hr : (s.spanDone k sp).round? sp.ctx sp.desc.cohort = some r := hon.2
  have hexec : exec (.finish k) s = .next (s.runSpan k 0x20 _) := rfl
  rw [hexec, State.runSpan_of_carries hc]
  simp only [him, hr]
  rfl

/-- What every execution does: the items taken have run, and its cursor moves on past them (R247, R248). -/
theorem finish_runs (hc : s.Carries k 0x20 p sp) (hon : s.OnRound sp im r) :
    ∃ t q, exec (.finish k) s = .next t ∧ t.round? sp.ctx sp.desc.cohort = some q ∧
      (q.cursorAt p sp.desc.cursor).pos = (r.cursorAt p sp.desc.cursor).pos + (r.nextItems p sp.desc.cursor).length ∧
      (∀ x ∈ r.nextItems p sp.desc.cursor, ∃ y ∈ q.finishItems, x.Ran y) ∧
      q = { r with finishItems := q.finishItems, cursors := q.cursors } ∧
      (t.cluster k).span = some { sp with done := true } ∧ (∀ i, i ≠ k → t.cluster i = s.cluster i) ∧
      t.offFinish = (s.spanDone k sp).offFinish := by
  have hr : (s.spanDone k sp).round? sp.ctx sp.desc.cohort = some r := hon.2
  obtain ⟨hframe, q, hq, hfin⟩ := State.foldl_finishItem hr k (im.template sp.desc.cohort) r.finishSpec
    (r.nextItems p sp.desc.cursor)
  obtain ⟨hspan, hother⟩ := State.cluster_spanDone hc
  have hcl (i : Nat) := State.cluster_of_offFinish hframe i
  refine ⟨_, q.finishMoves p sp.desc.cursor _, exec_finish hc hon,
    State.round?_updRound_of_some (fun _ => ⟨rfl, rfl, rfl⟩) hq, ?_, fun x hx => ?_, ?_,
    (congrArg Cluster.span (hcl k)).trans hspan, fun i hi => (hcl i).trans (hother i hi), hframe⟩
  · rw [Round.cursorAt_finishMoves, hfin.frame]
    rfl
  · have hmem : x ∈ r.finishItems := (List.mem_filter.mp (List.mem_of_mem_take hx)).1
    obtain ⟨y, hy, -, hran⟩ := hfin.items x hmem
    exact ⟨y, hy, hran (List.mem_map_of_mem hx)⟩
  · rw [hfin.frame]
    rfl

/-- The only item of a round waits at the cursor of a span. -/
structure Round.OneItem (r : Round) (p j : Nat) (x : FinishItem) : Prop where
  items : r.finishItems = [x]
  position : x.position = p
  cursor : x.cursor = j
  waits : x.result = none

theorem Round.OneItem.nextItems {j : Nat} (h : r.OneItem p j x) : r.nextItems p j = [x] := by
  simp [Round.nextItems, h.items, h.position, h.cursor, h.waits]

/-- The execution that takes a round's only item, from what becomes of the item. -/
theorem finish_ends_one {u : State} {n : Nat} {noise : List Int} {f : FinishRec} (hc : s.Carries k 0x20 p sp)
    (hon : s.OnRound sp im r) (hone : r.OneItem p sp.desc.cursor x) (hu : u.offNoise = (s.spanDone k sp).offNoise)
    (hrun : (s.spanDone k sp).finishItem k sp.ctx sp.desc.cohort x.core (im.template sp.desc.cohort) r.finishSpec x =
      u.updRound sp.ctx sp.desc.cohort fun q => q.endsItems x.tile n noise f) :
    ∃ t q, exec (.finish k) s = .next t ∧ t.round? sp.ctx sp.desc.cohort = some q ∧
      q.finishItems = [x.ends n noise f] ∧ t.drbgs = u.drbgs := by
  have hround := State.round?_updRound_of_some (Round.same_endsItems x.tile n noise f)
    ((State.round?_congr (State.rounds_of_offNoise hu)).trans hon.2)
  have hexec := exec_finish hc hon
  rw [hone.nextItems, List.foldl_cons, List.foldl_nil, hrun] at hexec
  exact ⟨_, _, hexec, State.round?_updRound_of_some (fun _ => ⟨rfl, rfl, rfl⟩) hround,
    Round.finishItems_endsItems hone.items .., rfl⟩

end

end Sys2Proof.Machine
end

section
/-!
Fills and write-backs of finish items (R249, R250), and the errors of the noise generators (R241, R244, R256).
-/
namespace Sys2Proof.Machine

/-! Write-backs (R250). -/

/-- The finish record at a place once items have been written back one after another: all those of the place's tile leave
the same record, and one of them has, or will. -/
theorem getElem?_foldl_finishRecs {l : List FinishItem} {recs : List FinishRec} {n : Nat} {f : FinishRec}
    (hn : n < recs.length) (hall : ∀ x ∈ l, x.tile = n → x.result = some f)
    (hsome : recs[n]? = some f ∨ ∃ x ∈ l, x.tile = n) :
    (l.foldl (fun recs x => updAt recs x.tile fun g => x.result.getD g) recs)[n]? = some f := by
  induction l generalizing recs with
  | nil => exact hsome.resolve_right fun ⟨x, hx, _⟩ => List.not_mem_nil hx
  | cons x l ih =>
    refine ih (hn.trans_eq (List.length_modify ..).symm) (fun y hy => hall y (List.mem_cons_of_mem x hy)) ?_
    by_cases hx : x.tile = n
    · left
      simp [updAt, hx, hn, hall x List.mem_cons_self hx]
    · have hsame : (updAt recs x.tile fun g => x.result.getD g)[n]? = recs[n]? := List.getElem?_modify_ne _ _ hx
      refine hsome.imp hsame.trans fun ⟨y, hy, htile⟩ => ⟨y, (List.mem_cons.mp hy).resolve_left ?_, htile⟩
      rintro rfl
      exact hx htile

/-- An output with a result, the only one of its tile, has its finish record written. -/
theorem Round.finishRecs_writeBack {r : Round} {x : FinishItem} {f : FinishRec} (hx : x ∈ r.finishItems)
    (hf : x.result = some f) (hlen : x.tile < r.finishRecs.length)
    (honly : ∀ y ∈ r.finishItems, y.tile = x.tile → y = x) :
    (r.writeBack x.position).finishRecs[x.tile]? = some f := by
  refine getElem?_foldl_finishRecs hlen (fun y hy htile => ?_) (.inr ⟨x, ?_, rfl⟩)
  · rw [honly y (List.mem_filter.mp hy).1 htile, hf]
  · simp [hx, hf]

/-! Fills (R249). -/

/-- From `r` to `q` at most items that have not run have been filled. -/
structure Round.Fills (r q : Round) : Prop where
  frame : q = { r with finishItems := q.finishItems }
  kept : ∀ x ∈ r.finishItems, x ∈ q.finishItems
  fresh : ∀ x ∈ q.finishItems, x ∈ r.finishItems ∨ x.result = none

/-- The output tiles that a cursor's next fill takes: the first eight without a finish record and without an item. -/
def Round.tilesToFill (r : Round) (c : CursorDef) : List Nat :=
  (((List.range c.count).map (· + c.first)).filter fun o =>
    ((r.finishRecs[o]?).map fun f => f.state == 0).getD false && !(r.finishItems.any fun x => x.tile == o)).take 8

/-- Output tiles filled, one per core. -/
def Round.filledItems (r : Round) (tm : Template) (spec : FinishSpec) (p j : Nat) (tiles : List Nat) : List FinishItem :=
  tiles.zipIdx.map fun (o, n) => ⟨p, j, n, o, (spec.inputs o).map (r.inputElements tm), [], 0, 0, none, none⟩

/-- FINISH cursors of a cohort at a position. -/
def PlanImage.finishCursors (im : PlanImage) (p h : Nat) : List (CursorDef × Nat) :=
  ((im.block p).map fun b => b.cursors.zipIdx.filter fun x => x.1.cohort == h && b.uses 0x20 x.2).getD []

section
variable {r q u : Round}

theorem Round.Fills.trans (h : r.Fills q) (g : q.Fills u) : r.Fills u :=
  ⟨by rw [g.frame, h.frame], fun x hx => g.kept x (h.kept x hx), fun x hx => (g.fresh x hx).elim (h.fresh x) .inr⟩

theorem Round.fillCursor_eq (r : Round) (tm : Template) (spec : FinishSpec) (p j : Nat) (c : CursorDef) :
    r.fillCursor tm spec p j c =
      if r.finishItems.any fun x => x.position == p && x.cursor == j && x.result.isNone then r
      else { r with finishItems := r.finishItems ++ r.filledItems tm spec p j (r.tilesToFill c) } := rfl

theorem Round.fills_fillCursor (r : Round) (tm : Template) (spec : FinishSpec) (p j : Nat) (c : CursorDef) :
    r.Fills (r.fillCursor tm spec p j c) := by
  rw [Round.fillCursor_eq]
  split
  · exact ⟨rfl, fun _ hx => hx, fun _ hx => .inl hx⟩
  · refine ⟨rfl, fun x hx => List.mem_append_left _ hx, fun x hx => (List.mem_append.mp hx).imp_right fun hx => ?_⟩
    obtain ⟨y, -, rfl⟩ := List.mem_map.mp hx
    rfl

/-- The gap of a drain: what has run is written back, then each cursor is filled. -/
def Round.turnsOver (r : Round) (tm : Template) (spec : FinishSpec) (p : Nat) (cursors : List (CursorDef × Nat)) :
    Round :=
  cursors.foldl (fun r x => r.fillCursor tm spec p x.2 x.1) (r.writeBack p)

theorem Round.fills_turnsOver (r : Round) (tm : Template) (spec : FinishSpec) (p : Nat)
    (cursors : List (CursorDef × Nat)) : (r.writeBack p).Fills (r.turnsOver tm spec p cursors) :=
  List.foldlRecOn cursors _ ⟨rfl, fun _ hx => hx, fun _ hx => .inl hx⟩ fun _ hq _ _ =>
    hq.trans (Round.fills_fillCursor ..)

theorem Round.turnsOver_frame (r : Round) (tm : Template) (spec : FinishSpec) (p : Nat)
    (cursors : List (CursorDef × Nat)) : r.turnsOver tm spec p cursors =
      { r with finishRecs := (r.turnsOver tm spec p cursors).finishRecs
               finishItems := (r.turnsOver tm spec p cursors).finishItems } := by
  rw [(r.fills_turnsOver tm spec p cursors).frame]
  rfl

theorem Round.same_turnsOver (tm : Template) (spec : FinishSpec) (p : Nat) (cursors : List (CursorDef × Nat))
    (r : Round) : r.Same (r.turnsOver tm spec p cursors) := by
  rw [Round.turnsOver_frame]
  exact ⟨rfl, rfl, rfl⟩

/-- A round without items, whose one cursor at the position is filled. -/
theorem Round.finishItems_turnsOver {c : CursorDef} {i : Nat} (hnone : r.finishItems = []) (tm : Template)
    (spec : FinishSpec) (p : Nat) : (r.turnsOver tm spec p [(c, i)]).finishItems =
      r.filledItems tm spec p i ((((List.range c.count).map (· + c.first)).filter fun o =>
        ((r.finishRecs[o]?).map fun f => f.state == 0).getD false).take 8) := by
  have hback : r.writeBack p = r := by
    have hdone : r.finishItems.filter (fun x => x.position == p && x.result.isSome) = [] := by simp [hnone]
    have hleft : r.finishItems.filter (fun x => !(x.position == p && x.result.isSome)) = r.finishItems := by
      simp [hnone]
    unfold Round.writeBack
    rw [hdone, hleft]
    rfl
  simp [Round.turnsOver, Round.fillCursor_eq, hback, hnone, Round.tilesToFill]

end

section
variable {s : State} {k p c h : Nat} {im : PlanImage} {r : Round}

theorem exec_finishFillWriteback (hpos : (s.cluster k).position = some p) (him : s.image c = some im)
    (hr : s.round? c h = some r) (hst : r.state = .unmasking ∨ r.state = .finished) (hphase : r.finishPhase = true) :
    exec (.finishFillWriteback k c h) s = .next (s.updRound c h fun q =>
      q.turnsOver (im.template h) r.finishSpec p (im.finishCursors p h)) := by
  change execFinishFillWriteback k c h s = _
  unfold execFinishFillWriteback
  simp only [hpos, him, hr]
  exact if_neg (by rcases hst with hst | hst <;> simp [hst, hphase])

/-- What a write-back and fill comes to: the round turns over, and nothing else changes. -/
theorem finishFillWriteback_turnsOver (hpos : (s.cluster k).position = some p) (him : s.image c = some im)
    (hr : s.round? c h = some r) (hst : r.state = .unmasking ∨ r.state = .finished) (hphase : r.finishPhase = true) :
    ∃ t, exec (.finishFillWriteback k c h) s = .next t ∧
      t.round? c h = some (r.turnsOver (im.template h) r.finishSpec p (im.finishCursors p h)) ∧
      t = { s with rounds := t.rounds } :=
  ⟨_, exec_finishFillWriteback hpos him hr hst hphase,
    State.round?_updRound_of_some (Round.same_turnsOver _ _ _ _) hr, rfl⟩

end

/-! Generators (R241, R244). -/

section
variable {s : State} {k n : Nat}

theorem exec_drbgReseed (hready : (s.drbg k n).instantiated = true) (herror : (s.drbg k n).error = false) :
    exec (.drbgReseed k n) s = .next (if 2 ^ 20 ≤ (s.drbg k n).requests then
      { s with drbgs := updAt s.drbgs (8 * k + n) fun d => d.reseed (s.draw 48).1, draws := s.draws + 1 } else s) := by
  change Host.Outcome.next (s.reseedDue k n) = _
  unfold State.reseedDue
  simp only [hready, herror, Bool.true_and, Bool.not_false, decide_eq_true_eq]
  rfl

/-- A generator enters its error state (R244). -/
def State.silences (s : State) (k n : Nat) : State := s.updDrbg k n fun d => { d with error := true }

theorem exec_drbgError (hready : (s.drbg k n).instantiated = true) (herror : (s.drbg k n).error = false) :
    exec (.drbgError k n) s =
      .next (((s.cutItem k n).silences k n).record 0x04140033 (srcCore k n + 7) none []) := by
  change execDrbgError k n s = _
  unfold execDrbgError
  exact if_neg (by simp [hready, herror])

/-! The item that runs when its generator fails (R256). -/

/-- Items of an output tile are cut at an attempt. -/
def Round.cutsItems (r : Round) (tile : Nat) (noise : List Int) (attempt : Nat) : Round :=
  { r with finishItems := updIf r.finishItems (fun y => y.tile == tile) fun y =>
      { y with noise := noise, cut := some attempt } }

theorem Round.same_cutsItems (tile : Nat) (noise : List Int) (attempt : Nat) (r : Round) :
    r.Same (r.cutsItems tile noise attempt) := ⟨rfl, rfl, rfl⟩

theorem Round.mem_cutsItems {r : Round} {x : FinishItem} (hx : x ∈ r.finishItems) (noise : List Int) (attempt : Nat) :
    { x with noise := noise, cut := some attempt } ∈ (r.cutsItems x.tile noise attempt).finishItems :=
  List.mem_map.mpr ⟨x, hx, if_pos (beq_self_eq_true x.tile)⟩

/-- The attempt that a span of FINISH runs (R100, R246). -/
def State.attemptOf (s : State) (sp : RunningSpan) : Nat := min 3 (4 * (sp.beats - 1) / max 1 (s.spanCost sp))

/-- A core runs an item on real operands, with noise and not yet cut. -/
structure State.RunsNoisy (s : State) (k n p : Nat) (sp : RunningSpan) (im : PlanImage) (r : Round) (x : FinishItem) :
    Prop where
  span : (s.cluster k).span = some sp
  position : (s.cluster k).position = some p
  round : s.OnRound sp im r
  item : (r.nextItems p sp.desc.cursor).find? (fun x => x.core == n) = some x
  noisy : ¬(sp.desc.opcode ≠ 0x20 ∨ sp.done ∨ sp.dummy ∨ r.finishSpec.sigma = 0 ∨ x.cut.isSome)

/-- A noisy item that runs is cut at its attempt; one that has passed its first attempt has drawn its noise. -/
theorem State.cutItem_of_noisy {p : Nat} {sp : RunningSpan} {im : PlanImage} {r : Round} {x : FinishItem}
    (h : s.RunsNoisy k n p sp im r x) : ∃ (u : State) (noise : List Int), s.Samples u ∧
      s.cutItem k n = u.updRound sp.ctx sp.desc.cohort fun r => r.cutsItems x.tile noise (s.attemptOf sp) := by
  obtain ⟨him, hr⟩ := h.round
  unfold State.cutItem
  have hspec : (policySpec r.policyObject r.cohortId).getD emptySpec = r.finishSpec := rfl
  have hattempt : min 3 (4 * (sp.beats - 1) / max 1 (s.spanCost sp)) = s.attemptOf sp := rfl
  simp only [h.span, h.position, him, hr, h.item, hspec, if_neg h.noisy, hattempt]
  by_cases hfirst : s.attemptOf sp = 0
  · simp only [hfirst, if_true]
    exact ⟨s, [], .refl s, rfl⟩
  · simp only [if_neg hfirst]
    exact ⟨_, _, State.samples_generate .., rfl⟩

/-- An entropy failure cuts the noisy item that runs, if there is one. -/
theorem State.cutItem_cases (s : State) (k n : Nat) :
    s.cutItem k n = s ∨ ∃ p sp im r x, s.RunsNoisy k n p sp im r x := by
  unfold State.cutItem
  split
  next sp p hspan hpos =>
    dsimp only
    split
    next im r him hr =>
      split
      next => exact .inl rfl
      next x hx =>
        by_cases hnoisy : sp.desc.opcode ≠ 0x20 ∨ sp.done ∨ sp.dummy ∨ r.finishSpec.sigma = 0 ∨ x.cut.isSome
        · exact .inl (if_pos hnoisy)
        · exact .inr ⟨p, sp, im, r, x, hspan, hpos, ⟨him, hr⟩, hx, hnoisy⟩
    next => exact .inl rfl
  next => exact .inl rfl

/-- An entropy failure changes generators and rounds at most. -/
theorem State.cutItem_frame (s : State) (k n : Nat) : (s.cutItem k n).drbgs.length = s.drbgs.length ∧
    (s.cutItem k n).offRecords =
      { s with drbgs := (s.cutItem k n).drbgs, draws := (s.cutItem k n).draws }.offRecords := by
  obtain heq | ⟨p, sp, im, r, x, h⟩ := s.cutItem_cases k n
  · rw [heq]
    exact ⟨rfl, rfl⟩
  · obtain ⟨u, noise, hu, hcut⟩ := State.cutItem_of_noisy h
    rw [hcut]
    exact ⟨hu.length, congrArg (fun v : State => { v with drbgs := u.drbgs, draws := u.draws }.offRecords) hu.frame⟩

theorem State.cutItem_of_no_span (h : (s.cluster k).span = none) : s.cutItem k n = s := by
  refine (s.cutItem_cases k n).resolve_right ?_
  rintro ⟨p, sp, im, r, x, hrun⟩
  simp [hrun.span] at h

/-- A generator that fails is silenced, with one record; generators, rounds and records change at most (R244). -/
theorem drbgError_silences (hlen : 8 * k + n < s.drbgs.length) (hready : (s.drbg k n).instantiated = true)
    (herror : (s.drbg k n).error = false) :
    ∃ t, exec (.drbgError k n) s = .next t ∧ (t.drbg k n).error = true ∧
      ((s.cluster k).span = none →
        Recorded { s with drbgs := updAt s.drbgs (8 * k + n) fun d => { d with error := true } } t) ∧
      t = { s with set := t.set, setA := t.setA, setB := t.setB, slotB := t.slotB, recorder := t.recorder, mgmt := t.mgmt,
                   rounds := t.rounds, drbgs := t.drbgs, draws := t.draws } := by
  obtain ⟨hlength, hframe⟩ := s.cutItem_frame k n
  refine ⟨_, exec_drbgError hready herror, ?_, fun hspan => ?_, ?_⟩
  · rw [State.drbg, State.record_drbgs]
    exact congrArg Drbg.error (getD_updAt_same (hlength.symm ▸ hlen) _ _)
  · rw [State.cutItem_of_no_span hspan]
    exact Recorded.one ..
  · generalize hu : s.cutItem k n = u at hframe
    have hsilenced : ((u.silences k n).record 0x04140033 (srcCore k n + 7) none []).offRecords =
        { s with drbgs := (u.silences k n).drbgs, draws := u.draws }.offRecords :=
      (State.offRecords_record ..).trans
        (congrArg (fun v : State => { v with drbgs := (u.silences k n).drbgs }) hframe :)
    exact State.eq_of_offRecords_drbgs hsilenced

/-- The noisy item that the failing generator's core runs is cut at its attempt (R256). -/
theorem drbgError_cuts {p : Nat} {sp : RunningSpan} {im : PlanImage} {r : Round} {x : FinishItem}
    (h : s.RunsNoisy k n p sp im r x) (hready : (s.drbg k n).instantiated = true)
    (herror : (s.drbg k n).error = false) :
    ∃ t q y, exec (.drbgError k n) s = .next t ∧ t.round? sp.ctx sp.desc.cohort = some q ∧ y ∈ q.finishItems ∧
      y = { x with noise := y.noise, cut := some (s.attemptOf sp) } := by
  obtain ⟨u, noise, hu, hcut⟩ := State.cutItem_of_noisy h
  have hround : (u.updRound sp.ctx sp.desc.cohort fun r => r.cutsItems x.tile noise (s.attemptOf sp)).round? sp.ctx
      sp.desc.cohort = some (r.cutsItems x.tile noise (s.attemptOf sp)) :=
    State.round?_updRound_of_some (Round.same_cutsItems _ _ _)
      ((State.round?_congr (State.rounds_of_offNoise hu.offNoise)).trans h.round.2)
  have hmem : x ∈ r.finishItems :=
    (List.mem_filter.mp (List.mem_of_mem_take (List.mem_of_find?_eq_some h.item))).1
  refine ⟨_, _, _, exec_drbgError hready herror, ?_, Round.mem_cutsItems hmem noise (s.attemptOf sp), rfl⟩
  rw [State.round?_congr (State.record_rounds ..), hcut]
  exact hround

end

end Sys2Proof.Machine
end

section
/-!
The obligation on FINISH, FINISH_FILL_WRITEBACK, DRBG_RESEED and DRBG_ERROR.
-/
namespace Sys2Proof.Machine

/-- Settles O52: an execution by what the items it takes come to, a gap by its write-back and its fill, a generator by its
reseed, its error and the item that the error cuts. -/
theorem outputsAreFinished : Obligations.OutputsAreFinished := by
  unfold Obligations.OutputsAreFinished
  refine ⟨?runs, ?oneItem, ?writeBack, ?fill, ?generators, ?cut⟩
  case runs =>
    intro s k p sp im r hc hon
    obtain ⟨t, q, hexec, hq, hpos, hitems, hround, hspan, hother, hframe⟩ := finish_runs hc hon
    refine ⟨t, q, hexec, hq, ⟨hpos, fun x hx => ?_⟩, hround, hspan, hother, State.eq_of_offFinish hframe⟩
    obtain ⟨y, hy, hran⟩ := hitems x hx
    exact ⟨y, hy, hran.frame, hran.result, hran.mark, hran.read⟩
  case oneItem =>
    intro s k p sp im r x spec tm applied noise ran faults hc hon hitems hpos hcur hwaits hspec
    have hone : r.OneItem p sp.desc.cursor x := ⟨hitems, hpos, hcur, hwaits⟩
    have hr : (s.spanDone k sp).round? sp.ctx sp.desc.cohort = some r := hon.2
    have hfin : r.finishSpec = spec := congrArg (Option.getD · emptySpec) hspec
    subst hfin
    refine ⟨fun hin => ?_, fun hin => ?_, fun hno hin => ?_⟩
    · have hno (m : Nat) (hm : m ≠ 0) : (r.stops tm r.finishSpec x.tile).contains m = false :=
        Round.contains_stops_eq_false.mpr fun i hi => (hin i hi).trans_ne hm.symm
      obtain ⟨u, hu, hrun⟩ :=
        State.finishItem_of_runs (k := k) (core := x.core) hr (hno 3 (by decide)) (hno 4 (by decide))
      obtain ⟨t, q, hexec, hq, hitem, -⟩ := finish_ends_one hc hon hone hu hrun
      exact ⟨t, q, hexec, hq, hitem⟩
    · exact finish_ends_one (u := s.spanDone k sp) hc hon hone rfl
        (State.finishItem_of_void hr (Round.contains_stops.mpr hin))
    · exact finish_ends_one (u := s.spanDone k sp) hc hon hone rfl
        (State.finishItem_of_spent hr (Round.contains_stops_eq_false.mpr hno) (Round.contains_stops.mpr hin))
  case writeBack =>
    intro s k p c h im r hpos him hr hst hphase
    obtain ⟨t, hexec, hq, hframe⟩ := finishFillWriteback_turnsOver hpos him hr hst hphase
    have hfills := r.fills_turnsOver (im.template h) r.finishSpec p (im.finishCursors p h)
    refine ⟨t, _, hexec, hq, fun x hx f hxp hf hlen honly => ?_, fun x hx hxp => ?_, fun x hx hno => ?_,
      Round.turnsOver_frame .., hframe⟩
    · rw [hfills.frame]
      exact hxp ▸ Round.finishRecs_writeBack hx hf hlen honly
    · refine (hfills.fresh x hx).elim (fun hkept => ?_) id
      simpa [hxp] using (List.mem_filter.mp hkept).2
    · refine hfills.kept x (List.mem_filter.mpr ⟨hx, ?_⟩)
      rcases hno with hno | hno <;> simp [hno]
  case fill =>
    intro s k p c h i im r b d spec hpos him hr hst hphase hb hnone hspec hone
    obtain ⟨t, hexec, hq, -⟩ := finishFillWriteback_turnsOver hpos him hr hst hphase
    have hfin : r.finishSpec = spec := congrArg (Option.getD · emptySpec) hspec
    have hcursors : im.finishCursors p h = [(d, i)] := by
      rw [PlanImage.finishCursors, hb]
      exact hone
    refine ⟨t, _, hexec, hq, ?_⟩
    rw [hcursors, hfin]
    exact Round.finishItems_turnsOver hnone ..
  case generators =>
    intro s k n hlen hready herror
    have hreseed := exec_drbgReseed hready herror
    exact ⟨fun hdue => hreseed.trans (by rw [if_pos hdue]),
      fun hnot => hreseed.trans (by rw [if_neg (Nat.not_le.mpr hnot)]), drbgError_silences hlen hready herror⟩
  case cut =>
    intro s k n p sp im r x spec hspan hpos hop hdone hdummy hon hspec hsigma hitem hcut hready herror
    have hfin : r.finishSpec = spec := congrArg (Option.getD · emptySpec) hspec
    have hnoisy : ¬(sp.desc.opcode ≠ 0x20 ∨ sp.done ∨ sp.dummy ∨ r.finishSpec.sigma = 0 ∨ x.cut.isSome) := by
      simp [hop, hdone, hdummy, hfin, hsigma, hcut]
    exact drbgError_cuts ⟨hspan, hpos, hon, hitem, hnoisy⟩ hready herror

end Sys2Proof.Machine
end
